-- ==== Sys2Proof/Word.lean ====
section
/-!
DEFINITION. The word types of the block and its plainest containers: bytes, the sparse table `Tab` that holds every
numbered set of like things (sessions, lanes, drivers, engines, registers), and nothing that a rule of the spec
could change.
-/

namespace Sys2Proof

/-- One byte, as R5 orders them in memory, records and messages. -/
abbrev Byte := BitVec 8

/-- One 32-bit word: a scalar register of a kernel engine. -/
abbrev Word := BitVec 32

/-- One 16-bit lane of an engine's vector register, and one drive code. -/
abbrev Half := BitVec 16

/-- A sparse table: numbered entries in rising order of their number. An entry that is not listed holds what its
reader says it holds. Plain data, so that states compare. -/
abbrev Tab (α : Type) := List (Nat × α)

/-- The entry numbered `k`, if it is listed. -/
def tabFind {α : Type} : Tab α → Nat → Option α
  | [], _ => none
  | (a, x) :: t, k => if k = a then some x else tabFind t k

/-- The table with entry `k` holding `x`. -/
def tabPut {α : Type} : Tab α → Nat → α → Tab α
  | [], k, x => [(k, x)]
  | (a, y) :: t, k, x =>
      if k = a then (k, x) :: t
      else if k < a then (k, x) :: (a, y) :: t
      else (a, y) :: tabPut t k x

/-- The table without entry `k`. -/
def tabDrop {α : Type} (t : Tab α) (k : Nat) : Tab α := t.filter (fun p => p.1 != k)

/-- The numbers listed in a table. -/
def tabKeys {α : Type} (t : Tab α) : List Nat := t.map Prod.fst

/-- Bit `n` of a natural number. -/
abbrev bitOf (x n : Nat) : Bool := x.testBit n

end Sys2Proof
end

