-- ==== Sys2Proof/Syntax.lean ====
section
/-!
DEFINITION. The commands of the block: one constructor for each row of the table of operations and events, with the row's operands. The operands of an engine
instruction begin with the engine that issues it.
-/

namespace Sys2Proof

/-- A string of bytes: a value, a frame, a burst. -/
abbrev Bytes := List Byte

/-- A dictionary reference: index, then sub-index (R75, Table 5-3). -/
structure Ref where
  index : Half
  sub : Byte
deriving DecidableEq, Repr

/-- One item of a WRITE_MULTI (Table 5-3). -/
structure Item where
  ref : Ref
  value : Bytes
deriving DecidableEq, Repr

/-- Who asks: the session, the transaction identifier and the RETRY flag (Table 5-1). Session numbers are the model's:
0 host port, 1 console, 0x100 + k engine k's mailbox, 0x1000 + h partner h, 0x2000 + 64 b + n node n of floor bus b,
0x10000 and above Ethernet. `origin` is the role (Table 4-3) of the session at the manager for which a manager's link forwards the request (R83): the spec
does not say how the link conveys it (log entry 62). -/
structure Req where
  sid : Nat
  tid : Half
  retry : Bool
  origin : Option (Fin 5) := none
deriving DecidableEq, Repr

/-- The transports of MDP (chapter 05), and an engine's mailbox (R180). -/
inductive Transport where
  | host | console | engine | air | floor | ethernet
deriving DecidableEq, Repr

/-- The argument of BLOCK_DATA (Table 5-3): bytes for a write transfer, a length for a read transfer. -/
inductive BlockArg where
  | write (v : Bytes)
  | read (len : Half)
deriving DecidableEq, Repr

/-- The MDP operations but PROXY (Table 5-2). `other` is any other operation code with its body, `malformed` a body that does not match
its layout (R472). -/
inductive MdpOp where
  | read (ref : Ref)
  | write (ref : Ref) (v : Bytes)
  | readMulti (refs : List Ref)
  | writeMulti (items : List Item)
  | blockBegin (ref : Ref) (dir : Bool) (size crc : Word)
  | blockData (handle : Byte) (offset : Word) (arg : BlockArg)
  | blockEnd (handle : Byte)
  | subscribe (ref : Ref) (mode : Byte) (interval : Word)
  | command (ref : Ref) (v : Bytes)
  | authBegin (shell : Byte)
  | authProve (tag : Bytes)
  | close
  | other (code : Byte) (body : Bytes)
  | malformed (code : Byte) (body : Bytes)
deriving DecidableEq, Repr

/-- A PROXY body (Table 5-3) with its enclosed message already taken apart. -/
structure ProxyReq where
  target : Half
  side : Byte
  timeout : Half
  tid : Half
  retry : Bool
  inner : MdpOp
deriving DecidableEq, Repr

/-- A host transaction: the bytes on HMOSI, and whether the clock-domain queue was full (R56). -/
structure HostTransfer where
  mosi : Bytes
  queueFull : Bool
deriving DecidableEq, Repr

/-- What a DTLS handshake offers (R116, R117): the client's session number, the PSK identity, whether every row of
Table 5-7 is offered, and the proof that the client holds the PSK. -/
structure Handshake where
  sid : Nat
  identity : Bytes
  offers : Bool
  proof : Bytes
deriving DecidableEq, Repr

/-- What a datagram on MDP's UDP port brings (R116, R117): a handshake, or a record of a session, whose plaintext is given unless the record protection
fails; or it is lost at the full clock-domain queue (R56). -/
inductive Datagram where
  | lost
  | handshake (hs : Handshake)
  | record (sid : Nat) (plain : Option Bytes)
deriving DecidableEq, Repr

/-- What the blocks report of one start step (Table 3-4): whether the normal way succeeds, whether its alternative does,
the result code of a failure, and the level of BOOT_ALT that step 0 samples. -/
structure StepReport where
  ok : Bool
  altOk : Bool
  code : BitVec 20
  bootAlt : Bool
deriving DecidableEq, Repr

/-- The second operand of a vector instruction (R195): a vector, or a scalar in every lane (majors 0x19, 0x1E). -/
inductive VB where
  | vec (r : Fin 16)
  | scal (r : Fin 16)
deriving DecidableEq, Repr

/-- A governing predicate and PZ, zeroing or merging (R189). -/
structure Pred where
  pg : Fin 8
  pz : Bool
deriving DecidableEq, Repr

/-- The count of a `loop` (format L): an immediate, or a scalar register. -/
inductive LoopCount where
  | imm (c : BitVec 12)
  | reg (a : Fin 16)
deriving DecidableEq, Repr

/-- The start of a field of a lane, and whether the clock-domain queue of field marks was full (R56). -/
structure FieldStart where
  lane : Fin 8
  queueFull : Bool
deriving DecidableEq, Repr

/-- A burst on a lane's return pair (R226 to R230): its slot, the arrival of its first bit in ns after the slot's start, its bytes from TYPE to the
CRC-16, whether every code group was valid, and whether the clock-domain queue was full (R56). -/
structure Burst where
  slot : Fin 16
  at_ : Int
  bytes : Bytes
  coded : Bool
  queueFull : Bool
deriving DecidableEq, Repr

/-- A failed access of the DMA (R282): the destination bytes written before it, its side as `DETAIL` names it (0 source, 1 destination, 2 index
table), and whether it is an uncorrectable ECC error. -/
structure BusError where
  after : Nat
  side : Fin 3
  ecc : Bool
deriving DecidableEq, Repr

/-- How the fabric serves the fetch of a chained descriptor (R274, R282): it serves it, it refuses it, or it meets an uncorrectable ECC error. -/
inductive Fetch where
  | served
  | refused
  | ecc
deriving DecidableEq, Repr

/-- The data of a qualified Announce message that the choice of master uses (the grandmaster's, its stepsRemoved, the port that sent it), with its UTC
fields (R316, R320). -/
structure Announce where
  prio1 : Byte
  cls : Byte
  accuracy : Byte
  variance : Half
  prio2 : Byte
  gm : BitVec 64
  steps : Half
  sender : BitVec 64
  senderPort : Half
  utcOffset : BitVec 16
  utcValid : Bool
  leap61 : Bool
  leap59 : Bool
deriving DecidableEq, Repr

/-- A measured rate of the calendar clock over 24 h (R332): the difference against PTP in ppb, positive when the clock is fast, or the end of a day of
mains counting. -/
inductive TrimReport where
  | ptp (ppb : Int)
  | mains
deriving DecidableEq, Repr

/-- A radio frame as received (R364, R382): its header (frame control, sequence number, destination PAN ID and address, source, security header), counter,
security level, sealed payload, δ in µs (its SHR start less the nominal start of the slot it came in), RSSI, the contention slot it came in (none at an event and on
the mesh channel), whether it uses only Table 15-1's features, and whether the clock-domain queue was full (R56). -/
structure AirRx where
  header : Bytes
  counter : Word
  level : Byte
  sealed_ : Bytes
  delta : Int
  rssi : BitVec 8
  slot : Option (Fin 3)
  known : Bool
  queueFull : Bool
deriving DecidableEq, Repr

/-- What a peer's CYCLE_MARK tells (R428), with how far its field start lies after this module's own, in ns, the link delay taken off (R429). -/
structure CycleMark where
  role : Byte
  beat : Byte
  format : Half
  serial : BitVec 64
  field : Word
  tick : Word
  alarm : Byte
  emg : Byte
  skew : Int
deriving DecidableEq, Repr

/-- How a frame arrives on the stitch link: whole, with a CRC or code group that fails, or lost at the full clock-domain queue (R56). -/
inductive Arrival where
  | whole | damaged | lost
deriving DecidableEq, Repr

/-- One journal item of the state copy (Table 17-5, block 8): a write, or a chunk of a DOMAIN's content, the last of which completes it. -/
inductive JournalItem where
  | write (ref : Ref) (v : Bytes)
  | chunk (ref : Ref) (offset : Nat) (v : Bytes) (last : Bool)
deriving DecidableEq, Repr

/-- What a STATE frame carries (Table 17-5): safety (block 1), one lane (2), bytes of zone, area or luminaire state or of burn accumulators (3 to 6, as 0 to 3),
a partner's state or counter reservation (7), a journal item with its tick (8), a sensor event (9). -/
inductive CopyItem where
  | safety (zones : Half) (alarm : Byte) (cancels : Half) (trip clearing : BitVec 64) (test : Byte)
  | lane (n : Fin 8) (state : Byte) (present : Half) (advance : List Half) (stream : Word) (tag : Byte)
  | cells (block : Fin 4) (offset : Nat) (data : Bytes)
  | partner (h : Fin 1024) (state : Bytes)
  | reservation (id : Nat) (shell gen top : Nat)
  | journal (tick : Word) (item : JournalItem)
  | event (data : Bytes)
deriving DecidableEq, Repr

/-- The commands (spec/opcode_table.json), in the order of the table. -/
inductive Instr where
  /-- POWER_ON_RESET (R58). -/
  | powerOnReset
  /-- BROWN_OUT_RESET (R58). -/
  | brownOutReset
  /-- EXTERNAL_RESET (R51). -/
  | externalReset (lowNs : Nat)
  /-- BACKUP_DOMAIN_LOSS (R58). -/
  | backupDomainLoss
  /-- RESET_RELEASE (R49). -/
  | resetRelease (vio33 : Bool)
  /-- POWER_FAIL_WARNING (R50). -/
  | powerFailWarning
  /-- WARNING_CLEARED (R91). -/
  | warningCleared
  /-- VAFE_OUT_OF_RANGE (R49). -/
  | vafeOutOfRange
  /-- MODULE_OVER_TEMPERATURE (R57). -/
  | moduleOverTemperature
  /-- FAULT_N_MISMATCH (R42). -/
  | faultNMismatch
  /-- GPIO_MODE (R45). -/
  | gpioMode (q : Req) (pin : Fin 8) (v : Bytes)
  /-- GPIO_LEVEL_CHANGE (R45). -/
  | gpioLevelChange (pin : Fin 8) (level : Bool)
  /-- RELAY_SAMPLE (R46). -/
  | relaySample (pin : Fin 8) (level : Bool)
  /-- NTC_CONVERSION (R47). -/
  | ntcConversion (uV1 uV2 : Nat)
  /-- HOST_SPI_TRANSACTION (R113). -/
  | hostSpiTransaction (xfer : HostTransfer)
  /-- CONSOLE_LINE (R121). -/
  | consoleLine (line : Bytes)
  /-- START_STEP (R69). -/
  | startStep (rep : StepReport)
  /-- START_STEP_TIMEOUT (R62). -/
  | startStepTimeout (rep : StepReport)
  /-- RESTART (R60). -/
  | restart (q : Req)
  /-- RESTART_SAFE (R60). -/
  | restartSafe (q : Req)
  /-- MODULE_RESET (R58). -/
  | moduleReset
  /-- BOOKMARK_CLEAR (R70). -/
  | bookmarkClear (q : Req)
  /-- READ (R85). -/
  | read (q : Req) (ref : Ref)
  /-- WRITE (R86). -/
  | write (q : Req) (ref : Ref) (v : Bytes)
  /-- READ_MULTI (R88). -/
  | readMulti (q : Req) (refs : List Ref)
  /-- WRITE_MULTI (R87). -/
  | writeMulti (q : Req) (items : List Item)
  /-- BLOCK_BEGIN_READ (R96). -/
  | blockBeginRead (q : Req) (ref : Ref)
  /-- BLOCK_BEGIN_WRITE (R95). -/
  | blockBeginWrite (q : Req) (ref : Ref) (size crc : Word)
  /-- BLOCK_DATA (R107). -/
  | blockData (q : Req) (handle : Byte) (offset : Word) (arg : BlockArg)
  /-- BLOCK_END (R94). -/
  | blockEnd (q : Req) (handle : Byte)
  /-- TRANSFER_TIMEOUT (R97). -/
  | transferTimeout (sid : Nat) (handle : Byte)
  /-- ZONE_MAP (R159). -/
  | zoneMap (q : Req) (handle : Byte)
  /-- CALIBRATION (R158). -/
  | calibration (q : Req) (handle : Byte)
  /-- IMAGE_LOAD (R102). -/
  | imageLoad (q : Req) (handle : Byte)
  /-- STORE_RESET (R93). -/
  | storeReset (q : Req)
  /-- SUBSCRIBE_ON_CHANGE (R98). -/
  | subscribeOnChange (q : Req) (ref : Ref) (interval : Word)
  /-- SUBSCRIBE_PERIODIC (R98). -/
  | subscribePeriodic (q : Req) (ref : Ref) (period : Word)
  /-- SUBSCRIBE_CANCEL (R98). -/
  | subscribeCancel (q : Req) (ref : Ref)
  /-- NOTIFY_ON_CHANGE (R99). -/
  | notifyOnChange (sub : Half)
  /-- NOTIFY_PERIODIC (R98). -/
  | notifyPeriodic (sub : Half)
  /-- AUTH_BEGIN (R110). -/
  | authBegin (q : Req) (shell : Byte)
  /-- AUTH_PROVE (R110). -/
  | authProve (q : Req) (tag : Bytes)
  /-- AUTH_LOCKOUT_END (R110). -/
  | authLockoutEnd (t : Transport)
  /-- CLOSE (R111). -/
  | close (q : Req)
  /-- DTLS_HANDSHAKE (R117). -/
  | dtlsHandshake (d : Datagram)
  /-- SESSION_TIMEOUT (R117). -/
  | sessionTimeout (sid : Nat)
  /-- MDP_ETH_ENABLE (R117). -/
  | mdpEthEnable (q : Req) (v : Bytes)
  /-- PROXY (R122). -/
  | proxy (q : Req) (p : ProxyReq)
  /-- PROXY_RETRY (R123). -/
  | proxyRetry (n : Nat)
  /-- PROXY_RESPONSE (R123). -/
  | proxyResponse (n : Nat) (body : Bytes)
  /-- PROXY_TIMEOUT (R123). -/
  | proxyTimeout (n : Nat)
  /-- ZONE_TARGET (R128). -/
  | zoneTarget (q : Req) (zone : Fin 16384) (v : Bytes)
  /-- SCENE_RECALL (R131). -/
  | sceneRecall (q : Req) (v : Bytes)
  /-- GROUP_TARGET (R130). -/
  | groupTarget (q : Req) (v : Bytes)
  /-- GROUP_RELEASE (R130). -/
  | groupRelease (q : Req) (v : Bytes)
  /-- TARGET_SKIPS_CLEAR (R127). -/
  | targetSkipsClear (q : Req)
  /-- BURN_RESET (R148). -/
  | burnReset (q : Req) (lum : Byte)
  /-- AREA_VACANT (R135). -/
  | areaVacant (area : Fin 1024)
  /-- LEAD_HOLD_END (R135). -/
  | leadHoldEnd (area : Fin 1024)
  /-- TICK_START (R173). -/
  | tickStart
  /-- ENGINE_OVERRUN (R175). -/
  | engineOverrun (k : Fin 16)
  /-- INPUT_CHANGE_APPLIED (R177). -/
  | inputChangeApplied
  /-- PROGRAM_SET (R169). -/
  | programSet (q : Req) (handle : Byte)
  /-- ENGINE_LOADED (R170). -/
  | engineLoaded (k : Fin 16)
  /-- ENGINE_STOP (R183). -/
  | engineStop (q : Req) (k : Fin 16)
  /-- ENGINE_START (R183). -/
  | engineStart (q : Req) (k : Fin 16)
  /-- ENGINE_RESTART (R183). -/
  | engineRestart (q : Req) (k : Fin 16)
  /-- ENGINE_STOP_COMPLETE (R183). -/
  | engineStopComplete (k : Fin 16)
  /-- ENGINE_STATS_CLEAR (R183). -/
  | engineStatsClear (q : Req) (k : Fin 16)
  /-- REPARTITION (R171). -/
  | repartition (q : Req)
  /-- MAILBOX_RESPONSE (R180). -/
  | mailboxResponse (k : Fin 16)
  /-- ADD (R191). -/
  | add (k d a b : Fin 16)
  /-- SUB (R191). -/
  | sub (k d a b : Fin 16)
  /-- AND (R191). -/
  | and (k d a b : Fin 16)
  /-- OR (R191). -/
  | or (k d a b : Fin 16)
  /-- XOR (R191). -/
  | xor (k d a b : Fin 16)
  /-- SLL (R191). -/
  | sll (k d a b : Fin 16)
  /-- SRL (R191). -/
  | srl (k d a b : Fin 16)
  /-- SRA (R191). -/
  | sra (k d a b : Fin 16)
  /-- MUL (R191). -/
  | mul (k d a b : Fin 16)
  /-- MULH (R191). -/
  | mulh (k d a b : Fin 16)
  /-- MULHU (R191). -/
  | mulhu (k d a b : Fin 16)
  /-- SLT (R191). -/
  | slt (k d a b : Fin 16)
  /-- SLTU (R191). -/
  | sltu (k d a b : Fin 16)
  /-- MIN (R191). -/
  | min (k d a b : Fin 16)
  /-- MAX (R191). -/
  | max (k d a b : Fin 16)
  /-- MINU (R191). -/
  | minu (k d a b : Fin 16)
  /-- MAXU (R191). -/
  | maxu (k d a b : Fin 16)
  /-- ADDS (R191). -/
  | adds (k d a b : Fin 16)
  /-- SUBS (R191). -/
  | subs (k d a b : Fin 16)
  /-- CLZ (R191). -/
  | clz (k d a : Fin 16)
  /-- ADDI (R192). -/
  | addi (k d a : Fin 16) (imm : BitVec 18)
  /-- ANDI (R192). -/
  | andi (k d a : Fin 16) (imm : BitVec 18)
  /-- ORI (R192). -/
  | ori (k d a : Fin 16) (imm : BitVec 18)
  /-- XORI (R192). -/
  | xori (k d a : Fin 16) (imm : BitVec 18)
  /-- SLLI (R192). -/
  | slli (k d a : Fin 16) (sh : Fin 32)
  /-- SRLI (R192). -/
  | srli (k d a : Fin 16) (sh : Fin 32)
  /-- SRAI (R192). -/
  | srai (k d a : Fin 16) (sh : Fin 32)
  /-- SLTI (R192). -/
  | slti (k d a : Fin 16) (imm : BitVec 18)
  /-- SLTIU (R192). -/
  | sltiu (k d a : Fin 16) (imm : BitVec 18)
  /-- LUI (R192). -/
  | lui (k d : Fin 16) (imm : BitVec 22)
  /-- BEQ (R193). -/
  | beq (k a b : Fin 16) (off : BitVec 18)
  /-- BNE (R193). -/
  | bne (k a b : Fin 16) (off : BitVec 18)
  /-- BLT (R193). -/
  | blt (k a b : Fin 16) (off : BitVec 18)
  /-- BGE (R193). -/
  | bge (k a b : Fin 16) (off : BitVec 18)
  /-- BLTU (R193). -/
  | bltu (k a b : Fin 16) (off : BitVec 18)
  /-- BGEU (R193). -/
  | bgeu (k a b : Fin 16) (off : BitVec 18)
  /-- JMP (R193). -/
  | jmp (k : Fin 16) (off : BitVec 26)
  /-- JAL (R193). -/
  | jal (k d : Fin 16) (off : BitVec 22)
  /-- JR (R193). -/
  | jr (k a : Fin 16)
  /-- LOOP (R194). -/
  | loop (k : Fin 16) (unit : Bool) (count : LoopCount) (len : BitVec 12)
  /-- LOOP_END (R194). -/
  | loopEnd (k : Fin 16) (unit : Bool)
  /-- VADD (R195). -/
  | vadd (k d a : Fin 16) (b : VB) (g : Pred)
  /-- VADDS (R195). -/
  | vadds (k d a : Fin 16) (b : VB) (g : Pred)
  /-- VADDUS (R195). -/
  | vaddus (k d a : Fin 16) (b : VB) (g : Pred)
  /-- VSUB (R195). -/
  | vsub (k d a : Fin 16) (b : VB) (g : Pred)
  /-- VSUBS (R195). -/
  | vsubs (k d a : Fin 16) (b : VB) (g : Pred)
  /-- VSUBUS (R195). -/
  | vsubus (k d a : Fin 16) (b : VB) (g : Pred)
  /-- VAND (R195). -/
  | vand (k d a : Fin 16) (b : VB) (g : Pred)
  /-- VOR (R195). -/
  | vor (k d a : Fin 16) (b : VB) (g : Pred)
  /-- VXOR (R195). -/
  | vxor (k d a : Fin 16) (b : VB) (g : Pred)
  /-- VANDN (R195). -/
  | vandn (k d a : Fin 16) (b : VB) (g : Pred)
  /-- VSLL (R195). -/
  | vsll (k d a : Fin 16) (b : VB) (g : Pred)
  /-- VSRL (R195). -/
  | vsrl (k d a : Fin 16) (b : VB) (g : Pred)
  /-- VSRA (R195). -/
  | vsra (k d a : Fin 16) (b : VB) (g : Pred)
  /-- VSLLI (R195). -/
  | vslli (k d a : Fin 16) (sh : Fin 16) (g : Pred)
  /-- VSRLI (R195). -/
  | vsrli (k d a : Fin 16) (sh : Fin 16) (g : Pred)
  /-- VSRAI (R195). -/
  | vsrai (k d a : Fin 16) (sh : Fin 16) (g : Pred)
  /-- VRSRAI (R195). -/
  | vrsrai (k d a : Fin 16) (sh : Fin 16) (g : Pred)
  /-- VMUL (R195). -/
  | vmul (k d a : Fin 16) (b : VB) (g : Pred)
  /-- VMULQ (R195). -/
  | vmulq (k d a : Fin 16) (b : VB) (sh : Fin 32) (g : Pred)
  /-- VMULQU (R195). -/
  | vmulqu (k d a : Fin 16) (b : VB) (sh : Fin 32) (g : Pred)
  /-- VMULQSU (R195). -/
  | vmulqsu (k d a : Fin 16) (b : VB) (sh : Fin 32) (g : Pred)
  /-- VMULHU (R195). -/
  | vmulhu (k d a : Fin 16) (b : VB) (g : Pred)
  /-- VMIN (R195). -/
  | vmin (k d a : Fin 16) (b : VB) (g : Pred)
  /-- VMAX (R195). -/
  | vmax (k d a : Fin 16) (b : VB) (g : Pred)
  /-- VMINU (R195). -/
  | vminu (k d a : Fin 16) (b : VB) (g : Pred)
  /-- VMAXU (R195). -/
  | vmaxu (k d a : Fin 16) (b : VB) (g : Pred)
  /-- VABS (R195). -/
  | vabs (k d a : Fin 16) (g : Pred)
  /-- VCLZ (R195). -/
  | vclz (k d a : Fin 16) (g : Pred)
  /-- VMOV (R195). -/
  | vmov (k d a : Fin 16) (g : Pred)
  /-- VAVGU (R195). -/
  | vavgu (k d a : Fin 16) (b : VB) (g : Pred)
  /-- VSEL (R195). -/
  | vsel (k d a : Fin 16) (b : VB) (pg : Fin 8)
  /-- VMOVI (R196). -/
  | vmovi (k d : Fin 16) (imm : Half) (g : Pred)
  /-- VADDI (R196). -/
  | vaddi (k d : Fin 16) (imm : Half) (g : Pred)
  /-- VANDI (R196). -/
  | vandi (k d : Fin 16) (imm : Half) (g : Pred)
  /-- VORI (R196). -/
  | vori (k d : Fin 16) (imm : Half) (g : Pred)
  /-- VINS (R196). -/
  | vins (k d a : Fin 16) (lane : Fin 8)
  /-- VEXT (R196). -/
  | vext (k d a : Fin 16) (lane : Fin 8)
  /-- VEXTU (R196). -/
  | vextu (k d a : Fin 16) (lane : Fin 8)
  /-- VSPLAT (R196). -/
  | vsplat (k d a : Fin 16) (g : Pred)
  /-- VPERM (R196). -/
  | vperm (k d a b : Fin 16) (g : Pred)
  /-- VSUM (R196). -/
  | vsum (k d a : Fin 16) (pg : Fin 8)
  /-- VSUMU (R196). -/
  | vsumu (k d a : Fin 16) (pg : Fin 8)
  /-- VMUL_A (R197). -/
  | vmulA (k : Fin 16) (d : Fin 4) (a b : Fin 16) (g : Pred)
  /-- VMULU_A (R197). -/
  | vmuluA (k : Fin 16) (d : Fin 4) (a b : Fin 16) (g : Pred)
  /-- VMULSU_A (R197). -/
  | vmulsuA (k : Fin 16) (d : Fin 4) (a b : Fin 16) (g : Pred)
  /-- VMAC (R197). -/
  | vmac (k : Fin 16) (d : Fin 4) (a b : Fin 16) (g : Pred)
  /-- VMACU (R197). -/
  | vmacu (k : Fin 16) (d : Fin 4) (a b : Fin 16) (g : Pred)
  /-- VMACSU (R197). -/
  | vmacsu (k : Fin 16) (d : Fin 4) (a b : Fin 16) (g : Pred)
  /-- VMSB (R197). -/
  | vmsb (k : Fin 16) (d : Fin 4) (a b : Fin 16) (g : Pred)
  /-- VACC_SET (R197). -/
  | vaccSet (k : Fin 16) (d : Fin 4) (a : Fin 16) (sh : Fin 24) (g : Pred)
  /-- VACCU_SET (R197). -/
  | vaccuSet (k : Fin 16) (d : Fin 4) (a : Fin 16) (sh : Fin 24) (g : Pred)
  /-- VRD_S (R197). -/
  | vrdS (k d : Fin 16) (a : Fin 4) (sh : Fin 32) (g : Pred)
  /-- VRD_U (R197). -/
  | vrdU (k d : Fin 16) (a : Fin 4) (sh : Fin 32) (g : Pred)
  /-- VRD_W (R197). -/
  | vrdW (k d : Fin 16) (a : Fin 4) (sh : Fin 32) (g : Pred)
  /-- VCEQ (R198). -/
  | vceq (k : Fin 16) (d : Fin 8) (a : Fin 16) (b : VB) (g : Pred)
  /-- VCNE (R198). -/
  | vcne (k : Fin 16) (d : Fin 8) (a : Fin 16) (b : VB) (g : Pred)
  /-- VCLT (R198). -/
  | vclt (k : Fin 16) (d : Fin 8) (a : Fin 16) (b : VB) (g : Pred)
  /-- VCLE (R198). -/
  | vcle (k : Fin 16) (d : Fin 8) (a : Fin 16) (b : VB) (g : Pred)
  /-- VCLTU (R198). -/
  | vcltu (k : Fin 16) (d : Fin 8) (a : Fin 16) (b : VB) (g : Pred)
  /-- VCLEU (R198). -/
  | vcleu (k : Fin 16) (d : Fin 8) (a : Fin 16) (b : VB) (g : Pred)
  /-- PAND (R198). -/
  | pand (k : Fin 16) (d a b : Fin 8)
  /-- POR (R198). -/
  | por (k : Fin 16) (d a b : Fin 8)
  /-- PXOR (R198). -/
  | pxor (k : Fin 16) (d a b : Fin 8)
  /-- PANDN (R198). -/
  | pandn (k : Fin 16) (d a b : Fin 8)
  /-- PNOT (R198). -/
  | pnot (k : Fin 16) (d a : Fin 8)
  /-- PCNT (R198). -/
  | pcnt (k d : Fin 16) (a : Fin 8)
  /-- PGET (R198). -/
  | pget (k d : Fin 16) (a : Fin 8)
  /-- PSET (R198). -/
  | pset (k : Fin 16) (d : Fin 8) (a : Fin 16)
  /-- VRCP (R199). -/
  | vrcp (k d a : Fin 16) (g : Pred)
  /-- VRSQRT (R199). -/
  | vrsqrt (k d a : Fin 16) (g : Pred)
  /-- VEXP2 (R199). -/
  | vexp2 (k d a : Fin 16) (g : Pred)
  /-- VLOG2 (R199). -/
  | vlog2 (k d a : Fin 16) (g : Pred)
  /-- VLUT (R200). -/
  | vlut (k d a b : Fin 16) (sh : Fin 16) (g : Pred)
  /-- VLUTL (R200). -/
  | vlutl (k d a b : Fin 16) (sh : Fin 16) (g : Pred)
  /-- LD (R201). -/
  | ld (k d a : Fin 16) (sz : Fin 3) (off : BitVec 16)
  /-- LDU (R201). -/
  | ldu (k d a : Fin 16) (sz : Fin 3) (off : BitVec 16)
  /-- ST (R201). -/
  | st (k d a : Fin 16) (sz : Fin 3) (off : BitVec 16)
  /-- VLD (R201). -/
  | vld (k d a : Fin 16) (pg : Fin 8) (off : BitVec 15)
  /-- VST (R201). -/
  | vst (k d a : Fin 16) (pg : Fin 8) (off : BitVec 15)
  /-- VGATH (R202). -/
  | vgath (k d a b : Fin 16) (sh : Fin 6) (g : Pred)
  /-- VSCAT (R202). -/
  | vscat (k d a b : Fin 16) (sh : Fin 6) (pg : Fin 8)
  /-- EWAIT (R205). -/
  | ewait (k d a : Fin 16)
  /-- EWAIT_BLOCKING (R205). -/
  | ewaitBlocking (k d a : Fin 16)
  /-- EWAIT_WAKE (R205). -/
  | ewaitWake (k : Fin 16)
  /-- DPOST (R206). -/
  | dpost (k a ch : Fin 16)
  /-- DPOST_UNSTALL (R179). -/
  | dpostUnstall (k : Fin 16)
  /-- FENCE (R174). -/
  | fence (k : Fin 16)
  /-- MBOX (R180). -/
  | mbox (k a : Fin 16)
  /-- MBOX_UNSTALL (R180). -/
  | mboxUnstall (k : Fin 16)
  /-- MPOST_MESSAGE (R181). -/
  | mpostMessage (k a : Fin 16)
  /-- MPOST_FAULT (R181). -/
  | mpostFault (k a : Fin 16)
  /-- STAT (R208). -/
  | stat (k d : Fin 16)
  /-- STATCLR (R208). -/
  | statclr (k : Fin 16)
  /-- CYC (R208). -/
  | cyc (k d : Fin 16)
  /-- TBNS (R208). -/
  | tbns (k d : Fin 16)
  /-- TBEP (R208). -/
  | tbep (k d : Fin 16)
  /-- ENG (R208). -/
  | eng (k d : Fin 16)
  /-- NOP (R208). -/
  | nop (k : Fin 16)
  /-- FIELD_MARK (R212). -/
  | fieldMark (field : FieldStart)
  /-- RECORD_TRANSMIT (R220). -/
  | recordTransmit (n : Fin 8) (eccFail : Bool)
  /-- STATUS (R219). -/
  | status (n : Fin 8) (b : Burst)
  /-- CONFIG_DATA (R230). -/
  | configData (n : Fin 8) (b : Burst)
  /-- FAULT_MAP (R259). -/
  | faultMap (n : Fin 8) (b : Burst)
  /-- DISCOVER_REPLY (R255). -/
  | discoverReply (n : Fin 8) (b : Burst)
  /-- FIRMWARE_ACK (R267). -/
  | firmwareAck (n : Fin 8) (b : Burst)
  /-- CONTROL_RESEND (R219). -/
  | controlResend (n : Fin 8) (p : Fin 16)
  /-- REQUEST_RESEND (R219). -/
  | requestResend (n : Fin 8) (p : Fin 16)
  /-- DRIVER_MISSING (R242). -/
  | driverMissing (n : Fin 8) (p : Fin 16)
  /-- RETURN_SILENT (R242). -/
  | returnSilent (n : Fin 8)
  /-- LANE_FAULT_CHECK (R242). -/
  | laneFaultCheck (n : Fin 8)
  /-- LANE_START (R238). -/
  | laneStart (q : Req) (n : Fin 8)
  /-- LANE_START_COMPLETE (R238). -/
  | laneStartComplete (n : Fin 8)
  /-- LANE_STOP (R239). -/
  | laneStop (q : Req) (n : Fin 8)
  /-- LANE_RESTART (R240). -/
  | laneRestart (q : Req) (n : Fin 8)
  /-- LANE_STOP_COMPLETE (R239). -/
  | laneStopComplete (n : Fin 8)
  /-- LANE_STATS_CLEAR (R237). -/
  | laneStatsClear (q : Req) (n : Fin 8)
  /-- LANE_PLL_UNLOCK (R241). -/
  | lanePllUnlock
  /-- LANE_PLL_LOCK (R241). -/
  | lanePllLock
  /-- DISCOVER_LANE (R255). -/
  | discoverLane (q : Req) (v : Bytes)
  /-- SEARCH_WATCH_END (R255). -/
  | searchWatchEnd (n : Fin 8)
  /-- DRIVER_CONFIG_UPDATE (R253). -/
  | driverConfigUpdate (n : Fin 8) (p : Fin 16)
  /-- STORED_SCENE_UPDATE (R262). -/
  | storedSceneUpdate (n : Fin 8) (p : Fin 16)
  /-- FAULT_CELL_CLEAR (R259). -/
  | faultCellClear (q : Req) (v : Bytes)
  /-- DESCRIPTOR_START (R273). -/
  | descriptorStart (c : Fin 16) (fetch : Fetch)
  /-- DESCRIPTOR_DONE (R280). -/
  | descriptorDone (c : Fin 16) (err : Option BusError)
  /-- DMA_CHANNEL_STOP (R284). -/
  | dmaChannelStop (q : Req) (c : Fin 16)
  /-- DMA_CHANNEL_START (R284). -/
  | dmaChannelStart (q : Req) (c : Fin 16)
  /-- DMA_CHANNEL_RESTART (R284). -/
  | dmaChannelRestart (q : Req) (c : Fin 16)
  /-- DMA_STOP_COMPLETE (R284). -/
  | dmaStopComplete (c : Fin 16)
  /-- DMA_STATS_CLEAR (R284). -/
  | dmaStatsClear (q : Req) (c : Fin 16)
  /-- SAMPLE_SET (R285). -/
  | sampleSet (codes : List Int) (queueFull : Bool)
  /-- PULSE_START (R308). -/
  | pulseStart (o : Fin 2)
  /-- PULSE_END (R308). -/
  | pulseEnd (o : Fin 2)
  /-- WINDOW_END (R294). -/
  | windowEnd
  /-- METER_START (R288). -/
  | meterStart (q : Req)
  /-- METER_STOP (R311). -/
  | meterStop (q : Req)
  /-- METER_RESTART (R311). -/
  | meterRestart (q : Req)
  /-- OFFSET_CHECK_DONE (R288). -/
  | offsetCheckDone
  /-- CALIBRATE (R292). -/
  | calibrate (q : Req) (v : Bytes)
  /-- CALIBRATION_DONE (R292). -/
  | calibrationDone
  /-- ENERGY_RESET (R302). -/
  | energyReset (q : Req)
  /-- DEMAND_INTERVAL_END (R306). -/
  | demandIntervalEnd
  /-- MAX_CLEAR (R306). -/
  | maxClear (q : Req)
  /-- LUM_ENERGY_RESET (R310). -/
  | lumEnergyReset (q : Req) (lum : Byte)
  /-- PTP_SYNC (R317). -/
  | ptpSync (nif : Fin 2) (t1 corr : Int)
  /-- PTP_ANNOUNCE (R320). -/
  | ptpAnnounce (nif port : Fin 2) (a : Announce)
  /-- DELAY_RESP (R320). -/
  | delayResp (nif : Fin 2) (seq : Half) (t4 corr : Int)
  /-- PTP_INPUT_LOST (R321). -/
  | ptpInputLost (nif : Fin 2)
  /-- HOLDOVER_EXPIRY (R318). -/
  | holdoverExpiry (n : Fin 3)
  /-- FIELD_BASE_RETURN (R322). -/
  | fieldBaseReturn
  /-- TB_SET (R319). -/
  | tbSet (q : Req) (n : Fin 4) (v : Bytes)
  /-- TO_MODE (R326). -/
  | toMode (q : Req) (c : Fin 16) (v : Bytes)
  /-- COMPARATOR_FIRE (R326). -/
  | comparatorFire (c : Fin 16)
  /-- PPS_IN_CAPTURE (R329). -/
  | ppsInCapture
  /-- RTC_TIME (R331). -/
  | rtcTime (q : Req) (v : Bytes)
  /-- RTC_STEP (R331). -/
  | rtcStep (q : Req) (v : Bytes)
  /-- RTC_SECOND (R336). -/
  | rtcSecond
  /-- OFFSET_CHANGE (R334). -/
  | offsetChange
  /-- LEAP_SECOND (R316). -/
  | leapSecond
  /-- CALENDAR_SYNC (R332). -/
  | calendarSync
  /-- TRIM_MEASUREMENT (R332). -/
  | trimMeasurement (r : TrimReport)
  /-- OSCILLATOR_STOPPED (R333). -/
  | oscillatorStopped
  /-- ALARM_ARM (R336). -/
  | alarmArm (q : Req) (a : Fin 2)
  /-- ALARM_DISARM (R336). -/
  | alarmDisarm (q : Req) (a : Fin 2)
  /-- SEGMENT_CYCLE_START (R27). -/
  | segmentCycleStart (beat0 beat1 : Bool)
  /-- WINDOW_START (R346). -/
  | windowStart (k : Fin 2) (w : Fin 4) (free : Nat)
  /-- REFERENCE (R352). -/
  | reference (k : Fin 2) (r : Fin 8) (data : Bytes)
  /-- MISSING_REFERENCE (R353). -/
  | missingReference (k : Fin 2) (won : Bool)
  /-- REFERENCE_LOST (R354). -/
  | referenceLost (k : Fin 2)
  /-- JOIN_TIMEOUT (R360). -/
  | joinTimeout (k : Fin 2)
  /-- ALARM_FRAME (R356). -/
  | alarmFrame (k : Fin 2) (z : Fin 16) (data : Bytes)
  /-- STATUS_FRAME (R357). -/
  | statusFrame (k : Fin 2) (node : Fin 32) (data : Bytes)
  /-- DICT_FRAME (R362). -/
  | dictFrame (k : Fin 2) (toNode : Bool) (node : Fin 32) (data : Bytes)
  /-- FLOOR_SEGMENT_TIMEOUT (R118). -/
  | floorSegmentTimeout (k : Fin 2) (node : Fin 32) (tag : Byte)
  /-- ERROR_PASSIVE (R361). -/
  | errorPassive (k : Fin 2) (tec rec_ : Byte)
  /-- BUS_OFF (R361). -/
  | busOff (k : Fin 2)
  /-- BUS_OFF_RECOVERY (R361). -/
  | busOffRecovery (k : Fin 2)
  /-- MATRIX (R349). -/
  | matrix (q : Req) (k : Fin 2) (handle : Byte)
  /-- BUS_STATS_CLEAR (R362). -/
  | busStatsClear (q : Req) (k : Fin 2)
  /-- SUPERFRAME_START (R366). -/
  | superframeStart
  /-- SLOT_START (R367). -/
  | slotStart (slot : Fin 50)
  /-- JOIN_REQUEST (R372). -/
  | joinRequest (ext : BitVec 64) (rx : AirRx)
  /-- REPORT (R381). -/
  | report (h : Fin 1024) (rx : AirRx)
  /-- AIR_MDP (R120). -/
  | airMdp (h : Fin 1024) (rx : AirRx)
  /-- KEEPALIVE (R379). -/
  | keepalive (h : Fin 1024) (rx : AirRx)
  /-- LEAVE (R372). -/
  | leave (h : Fin 1024) (rx : AirRx)
  /-- ENH_ACK (R379). -/
  | enhAck (h : Fin 1024) (rx : AirRx)
  /-- EVENT_MISSED (R374). -/
  | eventMissed (h : Fin 1024)
  /-- SUPERVISION_LOSS (R378). -/
  | supervisionLoss (h : Fin 1024)
  /-- MESH_BEACON (R384). -/
  | meshBeacon (ext : BitVec 64) (rx : AirRx)
  /-- FLOOD (R385). -/
  | flood (ext : BitVec 64) (rx : AirRx)
  /-- NEIGHBOUR_EXPIRY (R384). -/
  | neighbourExpiry (a : Half)
  /-- FLOOD_EXPIRY (R385). -/
  | floodExpiry
  /-- CHANNEL_MAP (R371). -/
  | channelMap (q : Req) (v : Bytes)
  /-- MAP_PHASE (R371). -/
  | mapPhase (q : Req) (v : Bytes)
  /-- PARTNER_TABLE (R372). -/
  | partnerTable (q : Req) (handle : Byte)
  /-- RADIO_START (R387). -/
  | radioStart (q : Req)
  /-- RADIO_STOP (R387). -/
  | radioStop (q : Req)
  /-- RADIO_RESTART (R387). -/
  | radioRestart (q : Req)
  /-- RADIO_STOP_COMPLETE (R387). -/
  | radioStopComplete
  /-- RADIO_STATS_CLEAR (R387). -/
  | radioStatsClear (q : Req)
  /-- EMG_CHANNEL_OPEN (R394). -/
  | emgChannelOpen (ch : Fin 2)
  /-- EMG_CHANNEL_CLOSED (R394). -/
  | emgChannelClosed (ch : Fin 2)
  /-- EMG_DISCREPANCY (R395). -/
  | emgDiscrepancy
  /-- EMG_TEST_START (R396). -/
  | emgTestStart (q : Req)
  /-- EMG_TEST_END (R396). -/
  | emgTestEnd (q : Req)
  /-- EMG_TEST_EXPIRY (R396). -/
  | emgTestExpiry
  /-- EMG_CANCEL (R399). -/
  | emgCancel (q : Req) (v : Bytes)
  /-- EMG_ACKNOWLEDGE (R400). -/
  | emgAcknowledge (q : Req)
  /-- SAFETY_COPY (R391). -/
  | safetyCopy (w : Fin 4) (crcOk : Bool)
  /-- COPY_CHECK (R391). -/
  | copyCheck (ok : Bool)
  /-- HEARTBEAT_LOSS (R392). -/
  | heartbeatLoss (core : Fin 2)
  /-- SAFETY_WATCHDOG_EXPIRY (R392). -/
  | safetyWatchdogExpiry
  /-- LOCKSTEP_MISMATCH (R413). -/
  | lockstepMismatch
  /-- REF_LOSS (R413). -/
  | refLoss
  /-- SYSTEM_PLL_UNLOCK (R413). -/
  | systemPllUnlock
  /-- GROUP_CLEAR (R405). -/
  | groupClear (q : Req) (v : Bytes)
  /-- GROUP_CLEAR_COMPLETE (R405). -/
  | groupClearComplete (g : Fin 64)
  /-- GUARD_HOLD_END (R408). -/
  | guardHoldEnd (z : Fin 16384)
  /-- FUNCTION_TEST (R409). -/
  | functionTest (q : Req)
  /-- DURATION_TEST (R410). -/
  | durationTest (q : Req)
  /-- TEST_ABORT (R411). -/
  | testAbort (q : Req)
  /-- TEST_SCHEDULE (R409). -/
  | testSchedule
  /-- TEST_END (R409). -/
  | testEnd
  /-- FAULT_CONDITION_END (R412). -/
  | faultConditionEnd (src : Fin 64)
  /-- QUIET_PERIOD_EXPIRY (R416). -/
  | quietPeriodExpiry (src : Fin 64)
  /-- ESCALATION_EXPIRY (R415). -/
  | escalationExpiry (src : Fin 64)
  /-- FAULT_CLEAR (R416). -/
  | faultClear (q : Req) (src : Fin 64)
  /-- ARB_GRANT_RISE (R425). -/
  | arbGrantRise
  /-- ARB_GRANT_FALL (R425). -/
  | arbGrantFall
  /-- CYCLE_MARK (R428). -/
  | cycleMark (cycle : Word) (valid queueFull : Bool) (m : CycleMark)
  /-- STATE_FRAME (R430). -/
  | stateFrame (cycle : Word) (arrival : Arrival) (size : Fin 4097) (item : CopyItem)
  /-- COPY_END (R430). -/
  | copyEnd (cycle : Word) (arrival : Arrival) (total : Word)
  /-- COPY_APPLY (R431). -/
  | copyApply
  /-- MIRROR (R436). -/
  | mirror (arrival : Arrival) (n : Fin 8) (rec : Bytes)
  /-- STITCH_LINK_DOWN (R428). -/
  | stitchLinkDown
  /-- SWAP (R435). -/
  | swap (q : Req)
  /-- SHELL_IMPORT (R443). -/
  | shellImport (q : Req) (v : Bytes)
  /-- SHELL_DERIVE (R442). -/
  | shellDerive (q : Req) (v : Bytes)
  /-- SHELL_DESTROY (R444). -/
  | shellDestroy (q : Req) (shell : Byte)
  /-- SHELL_CHECK (R440). -/
  | shellCheck
  /-- ATTEST_CHALLENGE (R447). -/
  | attestChallenge (q : Req) (v : Bytes)
  /-- DBG_CHALLENGE (R448). -/
  | dbgChallenge
  /-- DBG_RESPONSE (R448). -/
  | dbgResponse (shell : Byte) (tag : Bytes)
  /-- PACKAGE (R450). -/
  | package (q : Req) (handle : Byte)
  /-- INSTALL_AT_START (R452). -/
  | installAtStart (q : Req)
  /-- INSTALL_AND_RESET (R452). -/
  | installAndReset (q : Req)
  /-- EMPTY_QUIRE (R452). -/
  | emptyQuire (q : Req)
  /-- HEALTH_CONFIRM (R455). -/
  | healthConfirm (q : Req)
  /-- AUTO_CONFIRM (R455). -/
  | autoConfirm
  /-- TRIAL_EXPIRY (R454). -/
  | trialExpiry
  /-- WAVE_START (R459). -/
  | waveStart (q : Req)
  /-- WAVE_PAUSE (R460). -/
  | wavePause (q : Req)
  /-- WAVE_RESUME (R460). -/
  | waveResume (q : Req)
  /-- WAVE_ABORT (R460). -/
  | waveAbort (q : Req)
  /-- WAVE_SETTLE (R459). -/
  | waveSettle
  /-- WAVE_TIMEOUT (R460). -/
  | waveTimeout
  /-- PERIOD_END (R465). -/
  | periodEnd
  /-- CLOSE_NOW (R464). -/
  | closeNow (q : Req)
  /-- HEADER_WRITE (R470). -/
  | headerWrite
  /-- HEADER_REBUILD_DONE (R470). -/
  | headerRebuildDone
  /-- ETHERNET_LINK_LOSS (R418). -/
  | ethernetLinkLoss (port : Fin 2)
  /-- RADIO_FAULT (R383). -/
  | radioFault (kind : Fin 3)
  /-- VAFE_RETURN (R49). -/
  | vafeReturn
  /-- DELAY_REQ_SEND (R320). -/
  | delayReqSend (nif : Fin 2)
  /-- SWAP_OVERDUE (R435). -/
  | swapOverdue
deriving DecidableEq, Repr

end Sys2Proof
end

