-- ==== Sys2Proof/Decode.lean ====
section
/-!
DEFINITION. The decoder of the table's words. The table of operations and events gives no row any bits: the block takes its commands as they are, and no
word spells one.
-/

namespace Sys2Proof

/-- The command that a word of `nbits` bits spells by the table: none, for the table gives bits to no row. -/
def decodeTableWord (_nbits _w : Nat) : Option Instr := none

end Sys2Proof
end

