-- ==== Sys2Proof/Config.lean ====
section
/-!
DEFINITION. What the spec leaves open: the constants an implementation fixes, none of which has a value here. Each is named in an entry of the assumption log.
-/

namespace Sys2Proof

/-- The cycles a pipeline engine's library program takes for its n-th tick (log entry 22). -/
opaque Config.libraryCycles : Nat → BitVec 32
/-- How many zones a library engine beside another program processes before the fence deadline (R175, R184; log entry 22). -/
opaque Config.libraryReach : Nat → BitVec 16
/-- Where the runtime keeps the n-th data record's two descriptors, header and index table in SRAM (log entry 86). -/
opaque Config.feedAddress : Nat → Nat → BitVec 32
/-- How far a function unit's result lies from the exact one, by function and operand (R199; log entry 21). -/
opaque Config.approxDeviation : Nat → Nat → Int
/-- The n-th byte of the module's random generator (log entry 31). -/
opaque Config.drbgByte : Nat → Byte
/-- Byte `n` of the 64 bytes of the release shell's public key (log entry 31). -/
opaque Config.releaseKey : Nat → Byte
/-- Byte `n` of the 32 bytes of the vendor shell's key (log entry 31). -/
opaque Config.vendorKey : Nat → Byte
/-- A voltage's value between samples, from past samples and a shift in samples (log entry 32). -/
opaque Config.timeShift : List Rat → Rat → Rat
/-- The voltage-to-current angle of the neutral in 0.01°, for which the spec names no voltage (R292, R295; log entry 87). -/
opaque Config.neutralAngle : Nat → BitVec 16
/-- The angle in 0.01° between phasors one of which is 0, by window and register (R295; log entry 87). -/
opaque Config.openAngle : Nat → Nat → BitVec 16
/-- The THD in 0.01 % of a channel without a fundamental, by window and register (R295; log entry 87). -/
opaque Config.openThd : Nat → Nat → BitVec 16
/-- A voltage turned by a quarter of a cycle, from past samples (log entry 32). -/
opaque Config.quadrature : List Rat → Rat
/-- The n-th reading of the internal temperature sensor, Q8.8 °C (log entry 34). -/
opaque Config.moduleTemp : Nat → BitVec 16

/-- Where the runtime puts the colophon queue in SRAM, in units of 16 bytes (Table 11-10; log entry 35). -/
opaque Config.queueBase : BitVec 19
/-- The change count of the n-th notification of a register that hardware counts by itself (R99; log entry 36). -/
opaque Config.liveChanges : Nat → Half
/-- Whether the n-th low pulse on RST_N between 1 µs and 10 µs is recognised (R51; log entry 50). -/
opaque Config.shortReset : Nat → Bool
/-- Whether a NET_ONLY worker has ADDRESS_CONFLICT set when its manager is asked for it, by worker number and time (R36; log entry 48). -/
opaque Config.netConflict : Nat → Nat → Bool
/-- The version of the factory folio, which R1 only bounds from below (log entry 15). -/
opaque Config.factoryVersion : BitVec 16

end Sys2Proof
end

