-- ==== Sys2Proof/Machine/Bytes.lean ====
section
/-!
DEFINITION. Bytes and numbers: the byte order (R5, R6), the rounding and saturation (R8), and the CRCs.
-/

namespace Sys2Proof.Machine

/-! ### Bytes and numbers -/

/-- `n` bytes of a natural number, least significant first (R5). -/
def leBytes : Nat → Nat → Bytes
  | 0, _ => []
  | n + 1, x => BitVec.ofNat 8 x :: leBytes n (x / 256)

/-- The natural number of bytes in R5's order. -/
def leNat : Bytes → Nat
  | [] => 0
  | b :: t => b.toNat + 256 * leNat t

/-- A natural number of `8 n` bits read as two's complement. -/
def signed (n x : Nat) : Int := if x < 2 ^ (8 * n - 1) then (x : Int) else (x : Int) - 2 ^ (8 * n)

/-- `n` bytes of a content at an offset. -/
def slice (b : Bytes) (off n : Nat) : Bytes := (b.drop off).take n

/-- The number in `n` bytes of a content at an offset. -/
def fieldAt (b : Bytes) (off n : Nat) : Nat := leNat (slice b off n)

/-- One byte of a content, 0 beyond its end. -/
def byteAt (b : Bytes) (off : Nat) : Nat := (b.getD off 0).toNat

/-- The least of `lo` and `hi` bounds kept: `x` limited to `lo` to `hi`. -/
def clampInt (lo hi x : Int) : Int := if x < lo then lo else if hi < x then hi else x

/-- Division rounded to nearest, ties away from zero (R8); the divisor is positive. -/
def roundDiv (x : Int) (d : Nat) : Int :=
  if 0 ≤ x then ((x.toNat * 2 + d) / (2 * d) : Nat) else -((((-x).toNat * 2 + d) / (2 * d) : Nat) : Int)

/-- A rational rounded to nearest, ties away from zero (R8). -/
def roundRat (q : Rat) : Int := roundDiv q.num q.den

/-- R8: a rational in units of 1/`one`, rounded, then saturated to `lo` to `hi`. -/
def quantize (lo hi : Int) (one : Nat) (q : Rat) : Int := clampInt lo hi (roundRat (q * (one : Int)))

/-- The integer square root, by Newton's steps from above. -/
def isqrtGo : Nat → Nat → Nat → Nat
  | 0, _, g => g
  | f + 1, n, g =>
      let h := (g + n / g) / 2
      if g ≤ h then g else isqrtGo f n h

/-- The integer square root of `n`. -/
def isqrt (n : Nat) : Nat := if n = 0 then 0 else isqrtGo (2 * n.log2 + 8) n (2 ^ (n.log2 / 2 + 1))

/-- One bit of a CRC computed low bit first with reflected polynomial `poly`. -/
def crcReflStep (poly x : Nat) : Nat := if x % 2 = 1 then (x / 2) ^^^ poly else x / 2

/-- `f` applied `n` times. -/
def iter {α : Type} (f : α → α) : Nat → α → α
  | 0, x => x
  | n + 1, x => iter f n (f x)

/-- The CRC-32 of the lane records: IEEE 802.3, reflected polynomial 0xEDB88320, initial value and final XOR
0xFFFFFFFF. -/
def crc32 (b : Bytes) : Nat :=
  (b.foldl (fun c x => iter (crcReflStep 0xEDB88320) 8 (c ^^^ x.toNat)) 0xFFFFFFFF) ^^^ 0xFFFFFFFF

/-- One bit of the CRC-16 with polynomial 0x1021, high bit first. -/
def crc16Step (c : Nat) : Nat := if c ≥ 0x8000 then ((c * 2) % 0x10000) ^^^ 0x1021 else c * 2

/-- The CRC-16 with polynomial 0x1021 and initial value 0xFFFF. -/
def crc16 (b : Bytes) : Nat := b.foldl (fun c x => iter crc16Step 8 (c ^^^ (x.toNat * 256))) 0xFFFF

end Sys2Proof.Machine
end

