-- ==== Sys2Proof/Machine/State.lean ====
section
/-!
DEFINITION. The state of the block as plain data: every register by its dictionary number, the memories, and what each block of the module keeps beside them; what
leaves the block; how a step can stop; the state after reset.
-/

namespace Sys2Proof.Machine

/-- Why a step stops with a fault. Nothing does: an access to an address that does not exist is reported by the spec's own means (an engine
exception, R204; a bus error of the DMA, R282; an error code, Table 5-4), and the machine goes on. -/
inductive Fault where
deriving DecidableEq

/-- Why a step has no meaning. -/
inductive Refusal where
  /-- A command that has no meaning yet: raised by the dispatcher only, for an arm still rejected by name; safe. -/
  | notModelled (mnemonic : String)
  /-- An engine instruction whose fields are no legal encoding (R187): its meaning raises it. Program loading rejects such a word (R169), so that
  no engine ever issues it; safe. -/
  | illegalEncoding
deriving DecidableEq, Repr

/-- A register's number: index × 256 + sub-index (R75). -/
abbrev Key := Nat

/-- The value of a sub-index (R76): a number of any of the numeric types, or the bytes of an STR, OCTETS or DOMAIN. -/
inductive Val where
  | num (n : Int)
  | bytes (b : Bytes)
deriving DecidableEq, Repr

/-- Roles (Table 4-3). -/
inductive Role where
  | observer | operator | integrator | safety | vendor
deriving DecidableEq, Repr

/-- A start-sequence bookmark (Table 3-5) but for its format byte and CRC, which a valid copy has by being valid. -/
structure Bookmark where
  current : Byte := 0xFF
  safeRequest : Bool := false
  safeLatch : Bool := false
  bootAlt : Bool := false
  lastFailStep : Byte := 0xFF
  failCounts : Word := 0
  altNext : Half := 0
  altUsed : Half := 0
  lastFailCode : Half := 0
deriving DecidableEq, Repr

/-- The state of a journal slot (Table 4-7). -/
inductive SlotState where
  | empty | written | committed | retired
deriving DecidableEq, Repr

/-- One journal slot (Table 4-7): TXN_SEQ, BODY_LEN, ITEM_COUNT, SLOT_STATE, SLOT_CRC, and the items of the body. -/
structure Slot where
  seq : Nat := 0
  bodyLen : Nat := 0
  count : Nat := 0
  st : SlotState := .empty
  crc : Nat := 0
  items : List (Key × Bytes) := []
deriving DecidableEq, Repr

/-- One home record (Table 4-8) but for the index and sub-index that number it: TYPE, the value's bytes, whose count is LEN, and REC_CRC. -/
structure HomeRec where
  ty : Nat
  value : Bytes
  crc : Nat
deriving DecidableEq, Repr

/-- The persistent dictionary region (R89): the header with its format, bank selector, staged flag and CRC-32 (that of the bytes 1, 0, 0 as the factory
leaves it), two banks of home records, the journal; the active content of each DOMAIN entry and the number of its active buffer (R94). `stagedKeys` are the
sub-indices a staged image contains (R103). -/
structure Store where
  format : Nat := 1
  bank : Bool := false
  staged : Bool := false
  headerCrc : Nat := 4270043941
  bank0 : Tab HomeRec := []
  bank1 : Tab HomeRec := []
  stagedKeys : List Key := []
  stagedId : Nat := 0
  slots : Tab Slot := []
  nextSlot : Nat := 0
  nextSeq : Nat := 1
  resetAsked : Bool := false
  domains : Tab Bytes := []
  buffers : Tab Nat := []
deriving DecidableEq, Repr

/-- The reset, start and bookmark state outside the MRAM (chapter 03): whether the module is held in reset, whether a start runs and the step in progress
(16 once a start is complete), whether it is a SAFE_MODE start, where it stopped, whether step 6 is done, whether the MRAM copy is to be used, the
bookmark in hand, as it stood when a BOOKMARK_CLEAR came during this start (R70), and as used at this start, when step 15 completed, the steps abandoned or skipped, a reset that is ordered (cause and detail), the
bookmark of a start found to have ended in a step, and start records that wait for the end of a power-fail warning. -/
structure Start where
  held : Bool := true
  running : Bool := false
  next : Nat := 0
  safe : Bool := false
  stoppedAt : Option Nat := none
  loaded : Bool := false
  useMram : Bool := false
  bookmark : Bookmark := {}
  plan : Option Bookmark := none
  used : Bookmark := {}
  doneAt : Nat := 0
  disabled : Half := 0
  ordered : Option (Nat × Nat) := none
  lastEnd : Option Bookmark := none
  historyDue : List Bytes := []
deriving DecidableEq, Repr

/-- Supplies (R49, R50): the power-fail warning, VAFE out of range, the VIO level latched at reset release. -/
structure Power where
  warning : Bool := false
  vafeBad : Bool := false
  vio33 : Bool := true
deriving DecidableEq, Repr

/-- What the module does at a pad (Tables 2-3, 2-5): drives it low or high, leaves it at high impedance, pulls it up or down, terminates it, or drives it with what
its transmitter sends. -/
inductive Drive where
  | low | high | z | pullUp | pullDown | terminated | signal
deriving DecidableEq, Repr

/-- One general-purpose pad (R45, R46): raw level, samples in a row that differ, and the time of the last write to its
output. -/
structure Gpio where
  raw : Bool := false
  differ : Nat := 0
  wroteAt : Option Nat := none
deriving DecidableEq, Repr

/-- A kept response (R108): its identifier, the response, when it was given. -/
structure Kept where
  tid : Half
  op : Byte
  status : Byte
  body : Bytes
  at_ : Nat
deriving DecidableEq, Repr

/-- One session (R79 to R83, R108 to R111). `closed` marks one that the end of its shell has closed (R82), `limit` the role to which the request in hand is
limited (R83). -/
structure Session where
  role : Option Role := none
  closed : Bool := false
  limit : Option Role := none
  shell : Option (Nat × Nat) := none
  kept : List Kept := []
  busy : List Half := []
  nonce : Option (Bytes × Nat × Nat) := none
  usedAt : Nat := 0
  txQueue : List Bytes := []
deriving DecidableEq, Repr

/-- One subscription (R98, R99): the minimum interval or period in ms, when it last sent, and the values of registers that hardware counts as last sent. -/
structure Sub where
  num : Nat
  sid : Nat
  index : Nat
  sub : Nat
  periodic : Bool
  interval : Nat
  sentAt : Option Nat := none
  last : Tab Val := []
deriving DecidableEq, Repr

/-- One queued notification (R100); `msg` numbers the message of the ring that it carries (R181). -/
structure Notice where
  num : Nat
  sid : Nat
  key : Key
  count : Nat
  msg : Option Nat := none
deriving DecidableEq, Repr

/-- One open transfer (R94 to R97, R107). -/
structure Transfer where
  handle : Nat
  sid : Nat
  key : Key
  write : Bool
  size : Nat
  crc : Nat
  content : Bytes
  buffer : Nat
  usedAt : Nat
deriving DecidableEq, Repr

/-- What the module itself does in an input window (R176): a switch's scene recall with its stamp, a switch's release (R381), the close of a recording
period with its PERIOD payload, its other records and its end (R465). -/
inductive Task where
  | recall (group scene stamp : Nat)
  | release (group : Nat)
  | close (period : Bytes) (recs : List (Nat × Bytes)) (stop op : Nat)
deriving DecidableEq, Repr

/-- A durable change to an engine input that waits for an input window (R177): who is to be answered and what is applied: sub-indices, a DOMAIN
with its content before, or a task of the module's own, which nobody is answered for. `inner` names the enclosed request of a PROXY served here. -/
structure Waiting where
  sid : Nat
  tid : Half
  op : Byte
  items : List (Key × Val)
  domain : Option (Key × Bytes)
  inner : Option (Byte × Half) := none
  task : Option Task := none
deriving DecidableEq, Repr

/-- One proxied request in flight at the manager, with the identifiers of the PROXY and of the message it encloses (R122, R123), and the content that a
request of the manager's own goes on to write (R35). -/
structure Flight where
  sid : Nat
  tid : Half
  itid : Half
  target : Nat
  side : Nat
  inner : MdpOp
  role : Role
  timeout : Nat
  sends : Nat
  content : Bytes := []
deriving DecidableEq, Repr

/-- What a request asks: an operation, or a PROXY. -/
inductive Ask where
  | op (o : MdpOp)
  | proxy (p : ProxyReq)
deriving DecidableEq, Repr

/-- A request held back until earlier ones of its session are applied (R109), or the state copy has caught up (R431). -/
structure Held where
  q : Req
  ask : Ask
deriving DecidableEq, Repr

/-- Authentication failures of one transport (R110): their times, and whether it is locked out. -/
structure Lockout where
  fails : List Nat := []
  locked : Bool := false
deriving DecidableEq, Repr

/-- A floor-bus message in reassembly (R118); `bad` marks one already discarded, whose remaining segments are dropped. -/
structure Reassembly where
  nextSeg : Nat
  len : Nat
  got : Bytes
  bad : Bool := false
deriving DecidableEq, Repr

/-- The dictionary server (chapters 04 and 05). -/
structure Server where
  sessions : Tab Session := []
  subs : List Sub := []
  notices : List Notice := []
  transfers : List Transfer := []
  waiting : List Waiting := []
  held : List Held := []
  flights : Tab Flight := []
  nextFlight : Nat := 0
  nextSub : Nat := 0
  lockouts : Tab Lockout := []
  hostQueue : List Bytes := []
  hostErrs : List Nat := []
  reassembly : Tab Reassembly := []
  discards : Nat := 0
deriving DecidableEq, Repr

/-- What the model keeps of one fault source beside its sub-indices (R412 to R416): whether its condition stands, whether an
escalation timer runs. -/
structure FaultSrc where
  standing : Bool := false
  timer : Bool := false
  blk : Nat := 0
deriving DecidableEq, Repr

/-- What the MRAM keeps of one fault source (R416): recovery times, LATCHED, and that its reaction reset the module. -/
structure FaultKept where
  history : List Nat := []
  latched : Bool := false
  reset : Bool := false
deriving DecidableEq, Repr

/-- The point a zone shows and the fade it is in (R141, R142): what the engine library keeps of a zone in the private part of
its zone state. `shown` is 0 before any colour, 1 for a colour solve, 2 for DIRECT. -/
structure ZonePt where
  l : Int := 0
  u : Int := 0
  v : Int := 0
  y : Int := 0
  dl : List Int := [0, 0, 0, 0, 0]
  dy : List Int := [0, 0, 0, 0, 0]
  target : Bytes := []
  layer : Nat := 0
  shown : Nat := 0
  k : Nat := 0
  n : Nat := 0
  l0 : Int := 0
  u0 : Int := 0
  v0 : Int := 0
  l1 : Int := 0
  u1 : Int := 0
  v1 : Int := 0
  y1 : Int := 0
  dl0 : List Int := [0, 0, 0, 0, 0]
  dy1 : List Int := [0, 0, 0, 0, 0]
deriving DecidableEq, Repr

/-- What the library's sensor function keeps of an area (R135, R137): whether `VACANT_DELAY` and `LEAD_HOLD` still run, and g and its goal. -/
structure Area where
  occupied : Bool := false
  led : Bool := false
  g : Nat := 0x8000
  goal : Nat := 0x8000
deriving DecidableEq, Repr

/-- The zones outside cell memory: the points the library keeps, the local-time stamps of layer 3 (R134), the layers written that the zone's
engine has not yet used (zone × 8 + layer), the present zones of the active map, areas, the partners under supervision loss as the sensor function knows
them (R135), the governing occurrence of each group as record and day (R132), whether a tick has run since the start, the luminaires' h below 0x8000
(R143), and the cells whose D was raised to its floor (R147). -/
structure Zones where
  points : Tab ZonePt := []
  stamps : Tab Nat := []
  written : List Nat := []
  present : List Nat := []
  areas : Tab Area := []
  lost : List Nat := []
  governing : Tab (Bytes × Nat) := []
  ticked : Bool := false
  derated : List Nat := []
  floored : List Nat := []
deriving DecidableEq, Repr

/-- A hardware loop unit (R194). -/
structure LoopUnit where
  active : Bool := false
  start : Nat := 0
  last : Nat := 0
  count : Nat := 0
deriving DecidableEq, Repr

/-- Why a running engine is stalled (R179, R180, R205): it waits for an event, for a place on a DMA channel, or for the mailbox. -/
inductive Stall where
  | event (d : Nat) (addr : Nat)
  | post (chan addr : Nat)
  | mailbox (addr : Nat)
deriving DecidableEq, Repr

/-- One kernel engine (Table 7-1) but for its sub-indices of 0x8000 + k. Vector lane i of V[r] is entry 8 r + i of `v`,
accumulator lane i of A[r] entry 8 r + i of `a`. `select` is the code half its BACK window maps to (R166): half 1 before the first fence, so that half 0 is
FRONT, as `CODE_HALF` has it at reset (Table 7-11). `held` is set while a STOP keeps the engine out of the pipeline (R171), `ran` once it has fenced a tick
since its load (R61). -/
structure Engine where
  s : Tab Word := []
  v : Tab Half := []
  p : Tab Byte := []
  a : Tab Int := []
  pc : Nat := 0
  estat : Word := 0
  lu0 : LoopUnit := {}
  lu1 : LoopUnit := {}
  select : Bool := true
  fenced : Bool := false
  ran : Bool := false
  held : Bool := false
  active : Bool := false
  first : Bool := false
  overran : Bool := false
  inputsChanged : Bool := false
  tickAt : Nat := 0
  stall : Option Stall := none
  startAsked : Bool := false
  queue : List Bytes := []
  mailbox : Option Nat := none
  program : Nat := 0xFF
  code : Bytes := []
  entry : Nat := 0
  role : Nat := 0
  faultMask : Nat := 0
  dmaMask : Nat := 0
  mbxFirst : Nat := 0
  mbxLast : Nat := 0
deriving DecidableEq, Repr

/-- The engines' common state (chapter 07): the engines, the current area half, the tick number, the input window, a partition that waits
for a tick start, the message ring (number and message) with the number of the next message, whether the engines take part in ticks, and the engines whose
program failed its verification at step 13 (R170). -/
structure Engines where
  list : Tab Engine := []
  areaHalf : Bool := false
  tick : Nat := 0
  window : Bool := false
  newPartition : Option (Tab Bytes) := none
  ring : List (Nat × Bytes) := []
  nextMsg : Nat := 0
  enabled : Bool := false
  unverified : List Nat := []
deriving DecidableEq, Repr

/-- A character of a lane's forward pair (Table 9-1): a data byte, K28.5, K28.1 (IDLE), K27.7 (SOR), K29.7 (EOR), K30.7 (ABORT). -/
inductive LaneChar where
  | d (b : Byte)
  | k285 | k281 | k277 | k297 | k307
deriving DecidableEq, Repr

/-- A forward record in a lane's transmit buffer (Table 9-3). `seq` is given at entry but for the state class, whose SEQ is the field's number;
`feed` marks the data records of the lane feed, `again` a resend, `stream` the number a mirrored record came with (R436). -/
structure TxRec where
  type : Nat
  dest : Nat
  seq : Option Nat := none
  payload : Bytes
  feed : Bool := false
  again : Bool := false
  stream : Option Nat := none
deriving DecidableEq, Repr

/-- A unicast control record that is undelivered, or a request that awaits its reply (R219), with the resends made. -/
structure Ctrl where
  txr : TxRec
  resends : Nat := 0
  delivered : Bool := false
deriving DecidableEq, Repr

/-- What the module is doing for a driver at a lane start (Table 10-13). -/
inductive Work where
  | idle | config | scenes | ready | firmware | done
deriving DecidableEq, Repr

/-- One position of a lane: control numbering and delivery (R217 to R219), return timing (R227, R228), what STATUS tells (R239, R242), the
start work (Table 10-13), the FAULT_QUERY offsets still to send (R259), and the firmware still to send (R267). -/
structure Pos where
  seq : Nat := 0
  dseq : Nat := 0
  sent : List Ctrl := []
  request : Option Ctrl := none
  arrived : Bool := false
  advSet : Bool := false
  advance : Nat := 0
  errSum : Int := 0
  errN : Nat := 0
  late : Nat := 0
  incomplete : Nat := 0
  lastTag : Option Nat := none
  rxErrs : List (Nat × Nat) := []
  stopOk : Bool := false
  overTemp : Bool := false
  statusAt : Option Nat := none
  trip : Nat := 0
  work : Work := .idle
  query : List Nat := []
  fwVersion : Nat := 0
  advSent : Bool := false
  cfgDue : Nat := 0
  scenesDue : Nat := 0
deriving DecidableEq, Repr

/-- A discovery run on a lane (R255): whether PRESENT is still awaited and for how many fields, the positions that answered, the SEARCHes
still to send, the one being watched, what its slot gave, and the serials found with their geometry and firmware. -/
structure Disc where
  wait : Nat := 0
  slot : Nat := 0
  answered : List Nat := []
  search : Option (Nat × Nat) := none
  stack : List (Nat × Nat) := []
  reply : Option Bytes := none
  collided : Bool := false
  found : List Bytes := []
deriving DecidableEq, Repr

/-- One drive lane (chapter 09): the transmit buffer and the bytes of a record still arriving at its port (R271), the priority-injection
queue (Table 2-16), whether the transmitter is enabled, the cycle from which FIELD_MARKs may be sent (R238, R241) and whether one has been, the number of the
next field, when the current field began, its characters used (R220) and the running disparity (R210), what is in force since the last START (R237), the
stop in progress and the fields since its first STOP (R239), whether the lane is fed, and whether its current field is the last of its
tick, after which the data of the next tick enter (R232, R233), the conditions met as kind × 256 + address with whether they were met since the last
check (R242), the cycles of the last second's discarded bursts, whether its return is silent, the fields since START, discovery, the fields left of an
egress end (R401), and the fields from which EGRESS and the trip mask are in force (R222, R223). -/
structure Lane where
  buffer : List TxRec := []
  port : Bytes := []
  prio : List TxRec := []
  marks : Bool := false
  marksFrom : Nat := 0
  begun : Bool := false
  next : Nat := 0
  markAt : Nat := 0
  used : Nat := 0
  rd : Bool := false
  lock : Nat := 0xFF
  phase : Nat := 0
  stopMode : Nat := 0
  dual : Bool := false
  version : Nat := 2
  sceneOnly : Bool := false
  bseq : Nat := 0
  stream : Nat := 0
  startAsked : Bool := false
  stops : Nat := 0
  stopping : Bool := false
  stopFields : Nat := 0
  feeding : Bool := false
  inLast : Bool := false
  due : List TxRec := []
  pos : Tab Pos := []
  disc : Option Disc := none
  met : List (Nat × Bool) := []
  fields : Nat := 0
  discards : List Nat := []
  silent : Bool := false
  endScene : Nat := 0
  egressFrom : Option Nat := none
  tripFrom : Option Nat := none
deriving DecidableEq, Repr

/-- The lanes' common state: the lanes, lane-PLL lock, the stored scenes (bits 0 SAFE, 1 EGRESS) that each driver is known not to hold (Table 10-12), and the
cells with an open or short fault (R259). -/
structure Lanes where
  list : Tab Lane := []
  pll : Bool := false
  scenes : Tab Nat := []
  opens : List Nat := []
  shorts : List Nat := []
deriving DecidableEq, Repr

/-- What a descriptor of the lane feed carries (Table 11-8): the lane, whether it is the header descriptor, and the bytes it moves into the lane's port, the
codes among them as the safety core's audit and guard leave them (R406 to R408). -/
structure FeedPart where
  lane : Nat
  head : Bool
  bytes : Bytes
deriving DecidableEq, Repr

/-- A descriptor posted to a DMA channel (R179, R272): its poster (engine 0 to 15, 16 the runtime), its address as the poster named it, its 32 bytes, the
engine's select bit when it was posted, and on C0 what it carries of the lane feed. -/
structure Posted where
  owner : Nat
  addr : Nat
  desc : Bytes
  select : Bool
  feed : Option FeedPart := none
deriving DecidableEq, Repr

/-- A descriptor in progress: the posted one, its number in its chain, and the shared-buffer blocks it holds (R270, R274). -/
structure Running where
  owner : Nat
  addr : Nat
  desc : Bytes
  select : Bool
  n : Nat
  blocks : Nat
  feed : Option FeedPart := none
deriving DecidableEq, Repr

/-- A chain that goes on: who posted it, the address of its next descriptor, the select bit of its first, the number of the next (R274). -/
structure Chain where
  owner : Nat
  next : Nat
  select : Bool
  n : Nat
deriving DecidableEq, Repr

/-- One DMA channel: at most four posted descriptors, the one in progress, the chain that goes on, and a pending START (R269, R284). -/
structure Chan where
  posted : List Posted := []
  current : Option Running := none
  chain : Option Chain := none
  startAsked : Bool := false
deriving DecidableEq, Repr

/-- The DMA engine: its channels, the channel that each level served last (R279), and the size of the colophon queue in force (Table 11-10). -/
structure Dma where
  chans : Tab Chan := []
  served : Tab Nat := []
  queueSize : Nat := 1024
deriving DecidableEq, Repr

/-- One sample set after correction (R285 to R290): its stamp in the field time base in ns and its flags (bits of WINDOW_FLAGS), the seven AC channels VA, VB, VC,
IA, IB, IC, IN, then VDC, IDC, VBT, IBT, in mV and mA, and the instantaneous powers p and q of phases A, B and C in µW. -/
structure Sample where
  stamp : Nat
  flags : Nat
  ac : List Rat
  dc : List Rat
  p : List Rat
  q : List Rat
deriving DecidableEq, Repr

/-- One pulse output (R307, R308): the source register and constant in force, the accumulator from which its quanta are counted, the quanta passed, the pulses
due and not started as due time and distance to the one before, the last due time, and the last pulse's start, width and level. -/
structure PulseOut where
  source : Nat := 3
  const : Nat := 10000
  base : Nat := 0
  passed : Nat := 0
  dues : List (Nat × Nat) := []
  lastDue : Option Nat := none
  startAt : Option Nat := none
  width : Nat := 0
  high : Bool := false
deriving DecidableEq, Repr

/-- A calibration in progress (R292): its body, the windows averaged, the sums of the calibrated quantity and of the current per channel, and whether a
window spoiled it. -/
structure CalRun where
  body : Bytes
  n : Nat := 0
  sums : List Rat := [0, 0, 0, 0]
  amps : List Rat := [0, 0, 0, 0]
  bad : Bool := false
deriving DecidableEq, Repr

/-- The demand interval in progress (R305, R306), which outlives a reset: its start as TIME64 and as an instant of TIME, the sums of the power samples and their number, the sum-apparent energy in µVAh, and
its flags. -/
structure DemandRun where
  start : Nat := 0
  at_ : Nat := 0
  p : Rat := 0
  q : Rat := 0
  n : Nat := 0
  s : Rat := 0
  flags : Nat := 0
deriving DecidableEq, Repr

/-- The run of window signs of a phase, the sum or the battery (R303): the established sign, the sign of the run and its length; 0 for none. -/
structure SignRun where
  est : Int := 0
  sign : Int := 0
  n : Nat := 0
deriving DecidableEq, Repr

/-- The metering block (chapter 12): the offset check's sums, the last sample set that arrived (R286), the high-pass filters' last inputs and outputs, the corrected voltages and uncorrected
currents the filters still need, the window's sample sets with how long it had begun before the first, in sample periods, and whether that was at a rising zero crossing of the reference channel (R293), the previous window's frequency, reference channel
and RMS currents, the last power values, the accumulators with their residues, what waits for a window end, reversals and phase loss, demand, pulses,
calibration, the mains cycles of the day with whether it is to be skipped (R332), and the energy of each luminaire in µWh. -/
structure Meter where
  offSum : List Int := []
  offN : Nat := 0
  last : List Int := []
  raw : List Int := []
  hp : List Rat := []
  past : List (List Rat) := []
  win : List Sample := []
  lead : Rat := 0
  crossed : Bool := false
  freq : Option Rat := none
  refCh : Option Nat := none
  irms : List Rat := []
  powers : List (List Rat) := []
  acc : Tab Nat := []
  res : Tab Rat := []
  resetAsked : Bool := false
  runs : Tab SignRun := []
  below : Tab Nat := []
  above : Tab Nat := []
  demand : DemandRun := {}
  out : Tab PulseOut := []
  cal : Option CalRun := none
  startAsked : Bool := false
  cycles : Nat := 0
  dayBad : Bool := false
  lum : Tab Rat := []
deriving DecidableEq, Repr

/-- One time base (R314, R317, R318): T in units of 10⁻¹² ns, the servo's integral in ppb, and what the state changes count. -/
structure Base where
  t : Nat := 0
  integ : Rat := 0
  lastAt : Option Nat := none
  good : Nat := 0
  bad : Nat := 0
  hist : List Int := []
  ever : Bool := false
deriving DecidableEq, Repr

/-- One PTP instance (R320, R321): the master heard on each port, the last Sync as master and local instants, the Delay_Req in flight as
sequence number and instant, and whether its base has been LOCKED since its last START. -/
structure Ptp where
  heard : Tab Announce := []
  sync : Option (Int × Int) := none
  seq : Nat := 0
  delayReq : Option (Nat × Int) := none
  locked : Bool := false
deriving DecidableEq, Repr

/-- The time bases and the field timing generator (chapter 13). `off` is the field base's T less the generator's own field time, in units of
2⁻¹⁶ ns (R323); `field` is the number of the field at which the tick in progress started, `nextField` and `nextTick` those of the next
tick start, all counted without wrapping; `longEnd` the end of a renumbered tick (R324); `heldOffset` the instant of an offset change that the field
base has still to reach, with the offset until then (R334); `dark` the alarms that fired without VSYS, reported since this start (R339). -/
structure Timing where
  bases : Tab Base := []
  loaded : Bool := false
  fieldRate : Nat := 4000
  tickRate : Nat := 250
  off : Int := 0
  good : Nat := 0
  aligned : Bool := false
  field : Nat := 0
  nextField : Nat := 0
  nextTick : Nat := 0
  longEnd : Option Nat := none
  heldOffset : Option (Nat × Int) := none
  dark : List Nat := []
  ptp : Tab Ptp := []
  ppsUntil : Nat := 0
  ppsEdge : Option Nat := none
  stepped : Bool := false
deriving DecidableEq, Repr

/-- The calendar clock (R330 to R334), in the backup domain: the count in 1/65,536 s, the part of a unit counted, whether the oscillator
stands still, the UTC second last entered, and the alarms that fired without VSYS and are still to be reported (R339). -/
structure Rtc where
  ticks : Nat := 0
  acc : Nat := 0
  still : Bool := false
  second : Nat := 0
  unreported : List Nat := []
deriving DecidableEq, Repr

/-- One floor-bus controller (chapter 14): whether it is enabled and its rate pair (Table 14-9, fixed at the start), the bus key derived, as shell,
generation and key (R344), whether an authentic REFERENCE has been heard since it was enabled, the ALARM zones queued (R355), the zones relayed onto this
bus (R358), the zones alarmed on it in the current window, the previous matrix (R350), the tag of the master's matrix, the capture of the last
REFERENCE as cycle number, TB2 in ns and instant (R352), the TB2 of the module's own last REFERENCE (R351), the DICT segments waiting with their
node, the tag of the next message (R118), whether another module sends under the own node number (R357), and error passive. -/
structure Bus where
  enabled : Bool := false
  rates : Nat := 0
  key : Option (Nat × Nat × Bytes) := none
  heard : Bool := false
  alarms : List Nat := []
  relayed : List Nat := []
  seen : List Nat := []
  previous : Bytes := []
  tag : Option Nat := none
  lastSof : Option (Nat × Nat × Nat) := none
  sentSof : Option Nat := none
  segments : List (Nat × Bytes) := []
  nextTag : Nat := 0
  dupNode : Bool := false
  passive : Bool := false
deriving DecidableEq, Repr

/-- What the module keeps of one partner (Table 15-9, R373, R374, R379): its state (1 NOT_JOINED, 2 ASSOCIATED, 3 DROPPED), slot, exponent, phase,
channel offset, the receive half-width in µs, |δ| of its last valid frames in µs, RSSI, missed events, when its last valid frame came, whether its next event is a
downlink event, the downlink sends without acknowledgement, the superframe in which it last acknowledged one, the report accepted in a contention slot since its last event, the superframe until which
a dropped event is kept back (R378). -/
structure Partner where
  st : Nat := 1
  slot : Nat := 0
  exp : Nat := 0
  phase : Nat := 0
  chOff : Nat := 0
  w : Nat := 500
  deltas : List Nat := []
  rssi : Int := 0
  missed : Nat := 0
  lastRx : Option Nat := none
  downlink : Bool := false
  tries : Nat := 0
  acked : Option Nat := none
  urgent : Option Bytes := none
  keepUntil : Nat := 0
deriving DecidableEq, Repr

/-- A frame counter with the key it counts under, as shell and generation (R383): for the module's own, the end of the block reserved in MRAM; for a
partner's, the last counter accepted. -/
structure AirCtr where
  shell : Nat
  gen : Nat
  value : Nat
deriving DecidableEq, Repr

/-- A FLOOD waiting for a relay slot (R385): its body (Table 15-7), whether it originates here, and when it was queued. -/
structure Relay where
  body : Bytes
  own : Bool
  at_ : Nat
deriving DecidableEq, Repr

/-- A neighbour segment (R384). -/
structure Neighbour where
  offset : Nat
  phase : Nat
  rssi : Int
  heardAt : Nat
deriving DecidableEq, Repr

/-- The radio (chapter 15): the partners by handle, the keys held (handle, 0x10000 beacon, 0x10001 mesh) as shell, generation and key, the module's next
counters, failures of each sender (2 × handle, + 1 for replays) with their times, the superframe number, whether one is open, beacon offset and order, phase in force,
the announced change as map, phase and superframe (R371), joins to be answered as handle, slot and superframe, neighbours by address, the relay queue,
the seen-cache as origin, counter and time, counters accepted from mesh senders, the current slot and the end of the exchange in progress in µs on the
superframes' time line (R375), whether a superframe is open, which a STOP lets end (R387), and a START that waits for a STOP. -/
structure Air where
  partners : Tab Partner := []
  keys : Tab (Nat × Nat × Bytes) := []
  counters : Tab Nat := []
  fails : Tab (List Nat) := []
  sf : Nat := 0
  offset : Nat := 0
  order : Nat := 0
  phase : Nat := 0
  announce : Option (Bytes × Nat × Nat) := none
  joins : List (Nat × Nat × Nat) := []
  neighbours : Tab Neighbour := []
  relay : List Relay := []
  seen : List (Nat × Nat × Nat) := []
  meshRx : Tab AirCtr := []
  slot : Nat := 0
  busyTo : Nat := 0
  isOpen : Bool := false
  startAsked : Bool := false
deriving DecidableEq, Repr

/-- What the flicker guard keeps of a zone (R407): whether it rises (s = +1), the extreme r and its tick, the tick of the last confirmed extreme, and
the extremes in a row. -/
structure Guard where
  up : Bool := true
  r : Nat := 0
  tr : Nat := 0
  te : Nat := 0
  n : Nat := 0
deriving DecidableEq, Repr

/-- A hold of a zone (R408): the code of each cell at the tick of detection, and that tick. -/
structure Hold where
  codes : Tab Nat
  start : Nat
deriving DecidableEq, Repr

/-- A running emergency-lighting test (R409, R410): its kind, when it started, the effect field of the selection on each lane, the drivers
(16 lane + position) that have yet to report SHOWING EGRESS, those that did not in time, the cells with a fault when it started, the lowest VBT in
units of 10 mV, and whether the battery has discharged. -/
structure SafetyTest where
  kind : Nat
  at_ : Nat
  startClk : Nat
  effects : Tab Nat := []
  await : List Nat := []
  failed : List Nat := []
  before : List Nat := []
  vbtLow : Nat := 0
  discharged : Bool := false
deriving DecidableEq, Repr

/-- The safety core (chapter 16): whether it acts (R389), the egress, whether the own zone's alarm stands, the groups with a MISMATCH, the groups being
cleared with the drivers that hold their members, the guard and its holds, its copies and those handed to it (0 calibration, 1 zone map, 2 group
records, 3 settings), the channels opened alone in a loop test, the manager's cancel bits with their time, the segment cycles without a heartbeat of each core,
the test that runs or waits (kind, and whether it was scheduled), and the local day of the last completed test of each kind. -/
structure Safety where
  enabled : Bool := false
  egress : Bool := false
  own : Bool := false
  mismatch : Nat := 0
  clearing : Tab (List Nat) := []
  guards : Tab Guard := []
  holds : Tab Hold := []
  copies : Tab Bytes := []
  handed : Tab Bytes := []
  opened : Nat := 0
  cancel : Nat := 0
  cancelAt : Nat := 0
  lost : Tab Nat := []
  test : Option SafetyTest := none
  deferred : Option (Nat × Bool) := none
  lastDone : Tab Nat := []
deriving DecidableEq, Repr

/-- The peer as its last CYCLE_MARK showed it (R428). -/
structure Peer where
  role : Nat
  beat : Nat
  format : Nat
  serial : Nat
  field : Nat
  alarm : Nat
  emg : Nat
deriving DecidableEq, Repr

/-- The redundant pair (chapter 17): the last CYCLE_MARK since reset release, ARB_GRANT after its filter, the cycles
in which SWAP is still to be sent and whether a swap was asked for here, consecutive cycles whose copy was applied, since when the EMG inputs differ, whether
the module yielded a conflict (R434), the cycles of persistent regions still to come after a link loss (R431), the copy being collected with its cycle and
bytes, the complete copies that wait for an input window, DOMAIN chunks collected, journal items waiting for their tick, what goes into the next copy's blocks 8
and 9, the lanes the copy shows running, how and when the module became
ACTIVE, when it last raised a lane fault of kind 1 or 2 (R435), the FIELD_MARKs each lane still has to send before its RETURN_SCHEDULE (R432), and the peer's stitch-state format. -/
structure Pair where
  peer : Option Peer := none
  grant : Bool := false
  beatUntil : Nat := 0
  swapLeft : Nat := 0
  asked : Bool := false
  applied : Nat := 0
  differAt : Option Nat := none
  yielded : Bool := false
  resync : Nat := 0
  items : List CopyItem := []
  cycle : Option Nat := none
  bytes : Nat := 0
  ready : List (Nat × List CopyItem) := []
  chunks : Tab Bytes := []
  due : List (Nat × JournalItem) := []
  journal : List (Nat × JournalItem) := []
  events : List Bytes := []
  running : List Nat := []
  becameAt : Option Nat := none
  linkFault : Option Nat := none
  bySwap : Bool := false
  marks : Tab Nat := []
  peerFormat : Nat := 0
deriving DecidableEq, Repr

/-- One shell (Table 18-4): its attributes, and the key that only the crypto block uses: a symmetric key, or a private scalar under R5. -/
structure Shell where
  type : Nat := 0
  parent : Nat := 0xFF
  usage : Nat := 0
  grant : Nat := 0
  usesLeft : Nat := 0
  expires : Bool := false
  factory : Bool := false
  orphaned : Bool := false
  generation : Nat := 0
  parentGen : Nat := 0
  context : Bytes := List.replicate 16 0
  pub : Bytes := List.replicate 64 0
  keyId : Nat := 0
  uses : Nat := 0
  key : Bytes := []
deriving DecidableEq, Repr

/-- The key area's content (Table 18-1), unmasked, with each copy's sequence and mask nonce, and whether a copy checks. -/
structure KeyArea where
  header : Bool := false
  checks : Bool := true
  seqA : Nat := 0
  seqB : Nat := 0
  maskA : Bytes := []
  maskB : Bytes := []
  seed : Bytes := []
  shells : Tab Shell := []
  importNonce : Bytes := []
  versionFloor : Nat := 0
  oemFloor : Nat := 0
  trial : Nat := 0
  maskStarts : Nat := 0
  cert : Bytes := []
deriving DecidableEq, Repr

/-- The folios and the quire (R449, R452, R453): the packages in the two slots, which slot is ACTIVE, whether the PRIOR folio is REJECTED, the quire
and its state, and the last result. -/
structure Folios where
  slot0 : Bytes := []
  slot1 : Bytes := []
  active1 : Bool := false
  rejected : Bool := false
  quire : Bytes := []
  quireState : Nat := 0
  lastResult : Nat := 0
deriving DecidableEq, Repr

/-- Where a wave stands with its segment (R459): reading COMPATIBILITY (address, side and whether it is a peer's, for each still to read),
finding the standby, writing the package, installing, settling, checking the trial, confirming, swapping, waiting for the role change. -/
inductive WavePhase where
  | idle
  | compat (left : List (Nat × Nat × Bool))
  | role
  | begin_
  | data (offset : Nat)
  | end_
  | install
  | settle
  | trial
  | confirm
  | swap
  | change
deriving DecidableEq, Repr

/-- Update and debug state that a reset clears (chapter 18): the folio started, the debug nonce and unlock, and the wave: its phase, the side in
hand, whether it is the second of a pair, a pause asked for, and the transfer handle at the segment; and the manager's duties towards
its workers (Table 1-5): what is still to be sent or read, as worker number and sub-index, the workers' neighbour tables as last read, and the offset and phase
assigned to each. -/
structure Update where
  running : Bytes := []
  prior : Bool := false
  measurement : Bytes := []
  dbgNonce : Option Bytes := none
  debug : Bool := false
  wavePhase : WavePhase := .idle
  waveSide : Nat := 0
  waveSecond : Bool := false
  pause : Bool := false
  handle : Byte := 0
  duties : List (Nat × Key) := []
  tables : Tab Bytes := []
  assigned : Tab (Nat × Nat) := []
deriving DecidableEq, Repr

/-- A luminaire's temperatures in the period in progress (Table 19-4): extremes and the 16 bins. -/
structure TempHist where
  tMin : Int
  tMax : Int
  bins : Tab Nat := []
deriving DecidableEq, Repr

/-- What the recorder has sampled of the supply in the period (Table 19-4): least and greatest of each value by its place in the payload (0 to 2 U,
3 F, 4 VDC, 5 VBT, 6 IBT; 7 P_SUM and 8 to 10 the temperatures as greatest only), and the windows. -/
structure SupplyRun where
  lo : Tab Int := []
  hi : Tab Int := []
  windows : Nat := 0
deriving DecidableEq, Repr

/-- What the recorder has taken of the demand intervals that ended in the period (Table 19-4). -/
structure DemandRec where
  count : Nat := 0
  flags : Nat := 0
  peakP : Int := 0
  peakAt : Nat := 0
  lowP : Int := 0
  lowAt : Nat := 0
  peakS : Nat := 0
deriving DecidableEq, Repr

/-- A burn slot (R468): its SEQ, OP_TIME, tick rate, the accumulators that are not 0, the luminaires' energies. -/
structure BurnSlot where
  seq : Nat
  opTime : Nat
  rate : Nat
  burn : Tab Nat
  lum : Bytes
deriving DecidableEq, Repr

/-- One copy of the recorder header (Table 19-1). -/
structure RecHeader where
  opSeconds : Nat
  powerCycles : Nat
  next : Nat
  frontStart : Nat
  frontCount : Nat
deriving DecidableEq, Repr

/-- The recorder region of the MRAM (R461): headers and burn slots (none: not valid), the ring and the front matter by slot. -/
structure RecRegion where
  headers : Tab RecHeader := []
  burns : Tab BurnSlot := []
  ring : Tab Bytes := []
  front : Tab Bytes := []
deriving DecidableEq, Repr

/-- The recorder outside the MRAM (chapter 19): the period in progress (its start in TIME64, whether it is SHORT, whether a step of the field time base
ended it, the RECORD_PERIOD in force), what it has sampled, each lane's discarded bursts of the current second and the period's bins, radio bins, the
counters at its start (bus counters, raises by source), the whole second last sampled, the records waiting in the backlog with whether a burn write
waits, the next record number, and which header copy is
written next. -/
structure Recorder where
  start : Nat := 0
  period : Nat := 3600
  short : Bool := false
  stepped : Bool := false
  temps : Tab TempHist := []
  supply : SupplyRun := {}
  demand : DemandRec := {}
  burst : Tab Nat := []
  lanes : Tab Nat := []
  radio : Tab Nat := []
  auth0 : Nat := 0
  defer0 : Nat := 0
  tec : Nat := 0
  rec_ : Nat := 0
  raises : Tab Nat := []
  second : Nat := 0
  backlog : List (Nat × Bytes) := []
  burnDue : Bool := false
  next : Nat := 0
  turn : Nat := 0
deriving DecidableEq, Repr

/-- What leaves the block, as the world outside sees it. -/
inductive Out where
  /-- An MDP message on a session's transport. -/
  | message (sid : Nat) (msg : Bytes)
  /-- Bytes on HMISO in a host transaction (R113). -/
  | host (b : Bytes)
  /-- A console line. -/
  | console (line : Bytes)
  /-- An interrupt to the runtime (Table 16-6). -/
  | irq (src : Nat)
  /-- A non-maskable interrupt (Table 16-6). -/
  | nmi (src : Nat)
  /-- A refused DTLS handshake: the client and the alert (R116, R117). -/
  | alert (sid code : Nat)
  /-- A PTP Delay_Req of an instance on a port (R320). -/
  | delayReq (i port seq : Nat)
  /-- What pad GPn is given from now on (R45). -/
  | gpio (n : Nat) (d : Drive)
  /-- The rising edge of PPS_OUT (R327). -/
  | pps
  /-- The code groups of a FIELD_MARK or of a record on a lane's forward pair, bit a of each the most significant (R210); IDLE fills the time between them. -/
  | lane (n : Nat) (groups : List (BitVec 10))
  /-- A JTAG shift (R448). -/
  | jtag (b : Bytes)
  /-- A CAN FD frame. -/
  | can (k id : Nat) (data : Bytes)
  /-- A radio frame on a channel. -/
  | air (channel : Nat) (b : Bytes)
  /-- A pulse on ARB_BEAT of the given width in µs (Table 17-3). -/
  | beat (us : Nat)
  /-- A CYCLE_MARK on the stitch link: its cycle and payload (R428). -/
  | cycleMark (cycle : Nat) (payload : Bytes)
  /-- A STATE frame: its cycle and what it carries (Table 17-5). -/
  | copyState (cycle : Nat) (item : CopyItem)
  /-- A COPY_END with the cycle's byte count. -/
  | copyEnd (cycle total : Nat)
  /-- A MIRROR frame: the lane and the record (R436). -/
  | mirror (n : Nat) (rec : Bytes)
  /-- A proxied request, sent to a worker: its number, the address, side, the role of its origin (R83) and message (R123). -/
  | forward (n target side : Nat) (role : Role) (msg : Bytes)
deriving DecidableEq, Repr

/-- One sub-index that an OEM declares in a dictionary image (R101). -/
structure OemDecl where
  ty : Nat
  access : Nat
  readRole : Role
  writeRole : Role
  dflt : Val
  lo : Int
  hi : Int
deriving DecidableEq, Repr

/-- The MRAM: the persistent dictionary, RO values the module keeps, the bookmark's copy and its ring (R66), each fault source's record, the fault messages, the
keys, the folios, the recorder region, the air frame counters, OEM declarations, the serial, and the image that the loading of a dictionary image
leaves on record. -/
structure Mram where
  store : Store := {}
  kept : Tab Val := []
  bookmark : Option Bookmark := some {}
  history : List Bytes := []
  faults : Tab FaultKept := []
  faultLog : List Bytes := []
  keys : KeyArea := {}
  folios : Folios := {}
  recorder : RecRegion := {}
  airTx : Tab AirCtr := []
  airRx : Tab AirCtr := []
  oem : Tab OemDecl := []
  stagedOem : Option (Tab OemDecl) := none
  serial : Nat := 1
deriving DecidableEq, Repr

/-- The backup domain but for its registers (R58): the backup copy of the bookmark, the calendar clock, and whether the UTC offsets it holds are valid (R333). -/
structure Backup where
  valid : Bool := true
  bookmark : Option Bookmark := some {}
  rtc : Rtc := {}
deriving DecidableEq, Repr

/-- The state of the block. `pending` is the queue of commands, `clk` the cycles of TIME passed, `fresh` the number of the next free value, `out` what has left,
newest first (these four are the model's own); `regs` the dictionary's registers that do not hold their default. `deferred`, `keptHeld`, `bookmarkDue` and
`logHeld` are the MRAM writes that wait for the end of a power-fail warning (R91); while one lasts, `durable` is what the MRAM holds of the key area and the
air counters, whose values in force are in `mram` (Table 2-8). -/
structure State where
  pending : List Instr := []
  clk : Nat := 0
  fresh : Nat := 0
  out : List Out := []
  regs : Tab Val := []
  mram : Mram := {}
  backup : Backup := {}
  power : Power := {}
  start : Start := {}
  server : Server := {}
  faults : Tab FaultSrc := []
  deferred : List (Key × Val) := []
  keptHeld : Tab FaultKept := []
  bookmarkDue : Bool := false
  logHeld : List Bytes := []
  durable : Option (KeyArea × Tab AirCtr × Tab AirCtr) := none
  mem : List Host.Cell := []
  zones : Zones := {}
  engines : Engines := {}
  lanes : Lanes := {}
  dma : Dma := {}
  meter : Meter := {}
  time : Timing := {}
  bus : Tab Bus := []
  air : Air := {}
  safety : Safety := {}
  pair : Pair := {}
  update : Update := {}
  recorder : Recorder := {}
  pads : Tab Gpio := []
deriving DecidableEq, Repr

/-- The machine right after its first power-on reset: held in reset until RESET_RELEASE, every register at its default, the MRAM as it leaves the
factory, nothing listed in memory. -/
def State.reset : State := {}

end Sys2Proof.Machine
end

