-- ==== Sys2Proof/Machine/Entries.lean ====
section
/-!
DEFINITION. The object dictionary's entries: the types, access kinds, ranges and roles of chapter 04, and every entry table of the spec as rows.
-/

namespace Sys2Proof.Machine

/-- Type codes (Table 4-1). -/
inductive Ty where
  | bool | u8 | u16 | u32 | u64 | i16 | i32 | i64 | q15 | q16 | time64 | str | octets | domain
deriving DecidableEq, Repr

/-- Access kinds (Table 4-2). -/
inductive Access where
  | ro | rw | wo | rwp | cmd
deriving DecidableEq, Repr

/-- What an entry table allows beyond the type: a range, a set of values, lengths, or the bits that may be set. -/
inductive Rng where
  | all
  | range (lo hi : Int)
  | vals (l : List Nat)
  | len (max : Nat)
  | lens (min max : Nat)
  | exact (n : Nat)
  | bits (mask : Nat)
deriving DecidableEq, Repr

/-- A row of an entry table: the indices and sub-indices it stands for, type, access, default, range, and the roles where the table states its own. -/
structure Entry where
  lo : Nat
  hi : Nat
  subLo : Nat
  subHi : Nat
  ty : Ty
  acc : Access
  dflt : Val
  rng : Rng := .all
  wr : Option Role := none
deriving DecidableEq, Repr

/-- A numeric sub-index of the entries `lo` to `hi`. -/
def ent (lo hi sub : Nat) (ty : Ty) (acc : Access) (dflt : Int) (rng : Rng := .all) (wr : Option Role := none) : Entry :=
  { lo := lo, hi := hi, subLo := sub, subHi := sub, ty := ty, acc := acc, dflt := .num dflt, rng := rng, wr := wr }
/-- Several numeric sub-indices alike. -/
def entR (lo hi subLo subHi : Nat) (ty : Ty) (acc : Access) (dflt : Int) (rng : Rng := .all) (wr : Option Role := none) : Entry :=
  { lo := lo, hi := hi, subLo := subLo, subHi := subHi, ty := ty, acc := acc, dflt := .num dflt, rng := rng, wr := wr }
/-- A sub-index of bytes with a default of its own. -/
def entD (lo hi sub : Nat) (dflt : Bytes) (ty : Ty) (acc : Access) (rng : Rng := .all) (wr : Option Role := none) : Entry :=
  { lo := lo, hi := hi, subLo := sub, subHi := sub, ty := ty, acc := acc, dflt := .bytes dflt, rng := rng, wr := wr }
/-- A sub-index of bytes, empty by default. -/
def entB (lo hi sub : Nat) (ty : Ty) (acc : Access) (rng : Rng := .all) (wr : Option Role := none) : Entry := entD lo hi sub [] ty acc rng wr
/-- Several sub-indices of bytes alike. -/
def entS (lo hi subLo subHi : Nat) (ty : Ty) (acc : Access) (rng : Rng := .all) (wr : Option Role := none) : Entry :=
  { lo := lo, hi := hi, subLo := subLo, subHi := subHi, ty := ty, acc := acc, dflt := .bytes [], rng := rng, wr := wr }
/-- A sub-index of bytes whose default is `n` bytes of 0. -/
def entZ (lo hi sub n : Nat) (ty : Ty) (acc : Access) (rng : Rng := .all) (wr : Option Role := none) : Entry :=
  entD lo hi sub (List.replicate n 0) ty acc rng wr
/-- Several such sub-indices alike. -/
def entZS (lo hi subLo subHi n : Nat) (ty : Ty) (acc : Access) (rng : Rng := .all) (wr : Option Role := none) : Entry :=
  { lo := lo, hi := hi, subLo := subLo, subHi := subHi, ty := ty, acc := acc, dflt := .bytes (List.replicate n 0), rng := rng, wr := wr }

/-- Chapters 01 to 05: identity, pads, start, dictionary control, transports (Tables 1-4, 2-4, 2-6, 3-2, 3-6, 3-7, 4-10, 5-6, 5-8; R60). -/
def entriesBase : List Entry :=
  [ ent 0x1010 0x1010 1 .u16 .rwp 0xFFFF (.range 0 0xFFFE)
  , ent 0x1010 0x1010 2 .u8 .ro 0
  , ent 0x1010 0x1010 3 .u16 .ro 0xFFFF
  , ent 0x1010 0x1010 4 .u8 .ro 0xFF
  , ent 0x1018 0x1018 1 .u8 .ro 0
  , ent 0x1018 0x1018 2 .u8 .ro 0
  , ent 0x1018 0x1018 3 .u16 .ro 0
  , ent 0x1018 0x1018 4 .u32 .ro 0
  , ent 0x1018 0x1018 5 .u16 .ro 0
  , entB 0x1020 0x1020 1 .octets .ro
  , ent 0x1020 0x1020 2 .u32 .ro 0
  , ent 0x1020 0x1020 3 .u16 .ro 0
  , ent 0x1020 0x1020 4 .u16 .ro 0
  , ent 0x1020 0x1020 5 .u8 .cmd 0 (.vals [1])
  , entB 0x1020 0x1020 6 .domain .ro (.len 256)
  , ent 0x1030 0x1030 1 .u8 .ro 0
  , ent 0x1030 0x1030 2 .u32 .ro 0
  , ent 0x1030 0x1030 3 .u32 .ro 0
  , ent 0x1040 0x1040 1 .u8 .cmd 0 (.vals [1, 2])
  , entB 0x1050 0x1050 1 .domain .wo (.len 1032192)
  , ent 0x1050 0x1050 2 .u8 .ro 0
  , ent 0x1050 0x1050 3 .u32 .ro 0
  , ent 0x1050 0x1050 4 .u8 .cmd 0 (.vals [1])
  , ent 0x1050 0x1050 5 .u64 .ro 0
  , ent 0x1050 0x1050 6 .u32 .ro 0
  , ent 0x1050 0x1050 7 .u8 .ro 0
  , ent 0x1050 0x1050 8 .u8 .rwp 1 (.range 0 2)
  , ent 0x1050 0x1050 9 .u32 .ro 0
  , ent 0x1100 0x1107 1 .u8 .rwp 0 (.range 0 6)
  , ent 0x1100 0x1107 2 .bool .ro 0
  , ent 0x1100 0x1107 3 .bool .rw 0
  , ent 0x1100 0x1107 4 .u16 .rwp 20 (.range 0 1000)
  , ent 0x1100 0x1107 5 .u32 .ro 0
  , ent 0x1108 0x1108 1 .i16 .ro (-32768)
  , ent 0x1108 0x1108 2 .i16 .ro (-32768)
  , ent 0x1108 0x1108 3 .u16 .rwp 3435 (.range 2000 5000)
  , ent 0x1108 0x1108 4 .u8 .ro 0
  , ent 0x2100 0x2100 1 .bool .rwp 1
  , ent 0x2100 0x2100 2 .u16 .rwp 300 (.range 10 3600)
  , ent 0x2100 0x2100 3 .u8 .ro 0
  , ent 0x2100 0x2100 4 .u32 .ro 0
  , ent 0x2100 0x2100 5 .u32 .ro 0
  , ent 0x2100 0x2100 6 .u16 .rwp 1000 (.range 50 10000)
  , ent 0x2100 0x2100 7 .u32 .ro 0
  , ent 0x2200 0x2200 1 .bool .rwp 1
  , ent 0x2200 0x2200 2 .u32 .ro 0
  , ent 0x2200 0x2200 3 .u8 .rwp 8 (.range 1 255) ]

/-- Chapter 06: targets, zones, scenes, groups, schedules, models, calibration, settings (Tables 6-5, 6-15, 6-16; R128, R158 to R160).
`ZONE_TARGET` is OCTETS of exactly 16 bytes at 0x4100 + z / 64. -/
def entriesColour : List Entry :=
  [ entB 0x4000 0x4000 1 .domain .rwp (.len 524288)
  , entS 0x4100 0x41FF 1 64 .octets .rw (.exact 16)
  , entB 0x4200 0x42FF 1 .domain .rwp (.len 81920) (wr := some .integrator)
  , entB 0x4300 0x4300 1 .domain .rwp (.len 262144)
  , entB 0x4300 0x4300 2 .octets .cmd (.exact 6) (wr := some .operator)
  , entB 0x4300 0x4300 3 .octets .cmd (.exact 20) (wr := some .operator)
  , entB 0x4300 0x4300 4 .octets .cmd (.exact 4) (wr := some .operator)
  , entB 0x4400 0x4400 1 .domain .rwp (.len 2097152)
  , entB 0x4500 0x450F 1 .octets .rwp (.exact 64)
  , entB 0x4700 0x4700 1 .domain .rwp (.len 65536)
  , ent 0x4800 0x4800 1 .u8 .cmd 0 (.vals [1])
  , ent 0x4800 0x4800 2 .u16 .rwp 655
  , ent 0x4800 0x4800 3 .i16 .rwp 0x4600
  , ent 0x4800 0x4800 4 .i16 .rwp 0x5500
  , ent 0x4800 0x4800 5 .u16 .rwp 0x4000 (.range 0 0x8000)
  , ent 0x4800 0x4800 6 .i16 .rwp 0x2D00
  , ent 0x4800 0x4800 7 .u16 .rwp 0x599A
  , entB 0x4800 0x4800 8 .domain .ro (.len 2048)
  , entB 0x4800 0x4800 9 .domain .ro (.len 512)
  , ent 0x4800 0x4800 0xA .u8 .cmd 0 (.range 0 127)
  , entB 0x4800 0x4800 0xB .domain .ro (.len 16384)
  , ent 0x4800 0x4800 0xC .u32 .ro 0
  , entB 0x4810 0x4810 1 .domain .rwp (.len 16384)
  , ent 0x4810 0x4810 2 .u16 .rwp 900 (.range 10 65535)
  , ent 0x4810 0x4810 3 .u16 .rwp 0x199A (.range 0 0x8000)
  , ent 0x4810 0x4810 4 .u16 .rwp 60 (.range 1 3600)
  , ent 0x4810 0x4810 5 .u16 .rwp 1000
  , ent 0x4810 0x4810 6 .u16 .rwp 50
  , ent 0x4810 0x4810 7 .u16 .rwp 3277
  , ent 0x4810 0x4810 8 .u16 .rwp 0x0CCD ]

/-- Chapter 07: engines and engine programs (Tables 7-11, 7-12). -/
def entriesEngines : List Entry :=
  [ ent 0x8000 0x800F 1 .u8 .cmd 0 (.range 1 3)
  , ent 0x8000 0x800F 2 .u8 .ro 0
  , ent 0x8000 0x800F 3 .u8 .ro 0xFF
  , ent 0x8000 0x800F 4 .u8 .ro 0
  , ent 0x8000 0x800F 5 .u32 .ro 0
  , ent 0x8000 0x800F 6 .u32 .ro 0
  , ent 0x8000 0x800F 7 .u32 .ro 0
  , ent 0x8000 0x800F 8 .u32 .ro 0
  , ent 0x8000 0x800F 9 .u32 .ro 0
  , ent 0x8000 0x800F 0xA .u32 .ro 0
  , entB 0x8000 0x800F 0xB .octets .ro
  , entZ 0x8000 0x800F 0xC 16 .octets .ro
  , ent 0x8000 0x800F 0xD .u32 .ro 0
  , ent 0x8000 0x800F 0xE .u8 .cmd 0 (.vals [1])
  , entB 0x8100 0x8100 1 .domain .rwp (.len 524288)
  , ent 0x8100 0x8100 2 .u8 .ro 0
  , ent 0x8100 0x8100 3 .u8 .rwp 0 (.range 0 15)
  , ent 0x8100 0x8100 4 .u32 .ro 0
  , ent 0x8100 0x8100 5 .u8 .cmd 0 (.vals [1]) ]

/-- Chapters 09 and 10: lanes, drivers, scan timing, cell faults, stored scenes (Tables 9-13, 10-1, 10-3, 10-10, 10-12). -/
def entriesLanes : List Entry :=
  [ ent 0x3000 0x3007 1 .u8 .cmd 0 (.range 1 3)
  , ent 0x3000 0x3007 2 .u8 .ro 0
  , ent 0x3000 0x3007 3 .bool .rwp 1
  , ent 0x3000 0x3007 4 .u8 .rwp 0xFF (.vals [0, 1, 2, 3, 0xFF])
  , ent 0x3000 0x3007 5 .u8 .rwp 0
  , ent 0x3000 0x3007 6 .u8 .rwp 0 (.range 0 1)
  , ent 0x3000 0x3007 7 .bool .rwp 0
  , ent 0x3000 0x3007 8 .u8 .rwp 2 (.range 1 2)
  , ent 0x3000 0x3007 9 .u16 .ro 0
  , ent 0x3000 0x3007 0xA .u16 .ro 0
  , ent 0x3000 0x3007 0xB .u32 .ro 0
  , ent 0x3000 0x3007 0xC .u32 .ro 0
  , ent 0x3000 0x3007 0xD .u32 .ro 0
  , ent 0x3000 0x3007 0xE .u32 .ro 0
  , ent 0x3000 0x3007 0xF .u32 .ro 0
  , ent 0x3000 0x3007 0x10 .u8 .rwp 8 (.range 2 255)
  , ent 0x3000 0x3007 0x11 .u8 .cmd 0 (.vals [1])
  , ent 0x3100 0x317F 1 .u64 .rwp 0
  , ent 0x3100 0x317F 2 .u8 .rwp 0xFF (.vals (List.range 128 ++ [0xFF]))
  , ent 0x3100 0x317F 3 .u16 .rwp 0
  , ent 0x3100 0x317F 4 .u16 .rwp 0 (.range 0 1024)
  , ent 0x3100 0x317F 5 .u16 .rwp 0x4010
  , ent 0x3100 0x317F 6 .u8 .rwp 1 (.range 0 1)
  , ent 0x3100 0x317F 7 .u32 .rwp 0x00140505 (.bits 0x013F1F1F)
  , ent 0x3100 0x317F 8 .u8 .rwp 20 (.range 1 255)
  , ent 0x3100 0x317F 9 .u16 .rwp 0
  , ent 0x3100 0x317F 0xA .u8 .ro 0
  , entZ 0x3100 0x317F 0xB 24 .octets .ro
  , ent 0x3100 0x317F 0xC .u16 .ro 0xFFFF
  , ent 0x3100 0x317F 0xD .u8 .ro 0
  , ent 0x3100 0x317F 0xE .u16 .rwp 0x5028
  , ent 0x3200 0x3200 1 .u16 .rwp 4000 (.vals [2000, 4000, 8000])
  , ent 0x3200 0x3200 2 .u16 .rwp 250 (.vals [125, 250, 500])
  , ent 0x3200 0x3200 3 .u16 .rwp 20 (.range 5 300)
  , ent 0x3200 0x3200 4 .i16 .rwp 0x5F00 (.range 0x3200 0x7800)
  , ent 0x3200 0x3200 5 .u16 .rwp 44000
  , entB 0x3200 0x3200 6 .octets .ro
  , ent 0x3200 0x3200 7 .u8 .cmd 0 (.range 0 7)
  , entB 0x3300 0x3300 1 .domain .ro (.len 16384)
  , ent 0x3300 0x3300 2 .u16 .cmd 0
  , ent 0x3300 0x3300 3 .u16 .ro 0
  , entB 0x3400 0x3400 1 .domain .rwp (.len 262144)
  , entB 0x3400 0x3400 2 .domain .rwp (.len 262144) (wr := some .safety)
  , ent 0x3400 0x3400 3 .u8 .ro 0 ]

/-- Chapter 11: DMA channels and the colophon queue (Tables 11-9, 11-10). -/
def entriesDma : List Entry :=
  [ ent 0x8200 0x820F 1 .u8 .cmd 0 (.range 1 3)
  , ent 0x8200 0x820F 2 .u8 .ro 0
  , ent 0x8200 0x8200 3 .u8 .rwp 3 (.vals [])
  , ent 0x8201 0x820F 3 .u8 .rwp 1 (.range 0 2)
  , ent 0x8200 0x820F 4 .u8 .ro 0xFF
  , ent 0x8200 0x820F 5 .u32 .ro 0
  , ent 0x8200 0x820F 6 .u64 .ro 0
  , ent 0x8200 0x820F 7 .u32 .ro 0
  , entZ 0x8200 0x820F 8 16 .octets .ro
  , ent 0x8200 0x820F 9 .u8 .ro 0
  , ent 0x8200 0x820F 0xA .u8 .ro 0
  , ent 0x8200 0x820F 0xB .u8 .cmd 0 (.vals [1])
  , ent 0x8210 0x8210 1 .u16 .rwp 1024 (.vals [256, 512, 1024, 2048, 4096])
  , ent 0x8210 0x8210 2 .u32 .ro 0
  , ent 0x8210 0x8210 3 .u32 .ro 0
  , ent 0x8210 0x8210 4 .u32 .ro 0
  , ent 0x8210 0x8210 5 .u32 .ro 0 ]

/-- The default correction table of a current channel of full scale `fs` mA (Table 12-2). -/
def correctionDefault (fs : Nat) : Bytes :=
  [1, 3, 10, 30, 100, 200, 350, 500, 700].flatMap fun k => leBytes 4 (Nat.sqrt (k * k * fs * fs / 2000000)) ++ leBytes 2 0x8000 ++ leBytes 2 0

/-- Chapter 12: metering (Tables 12-2, 12-3, 12-5, 12-7 to 12-10). -/
def entriesMeter : List Entry :=
  [ ent 0x5000 0x5000 1 .u8 .cmd 0 (.range 1 3)
  , ent 0x5000 0x5000 2 .u8 .ro 0
  , ent 0x5000 0x5000 3 .bool .rwp 1
  , ent 0x5000 0x5000 4 .u8 .rwp 0 (.range 0 1)
  , ent 0x5000 0x5000 5 .u8 .rwp 50 (.vals [50, 60])
  , ent 0x5000 0x5000 6 .u32 .rwp 230000 (.range 50000 400000)
  , ent 0x5000 0x5000 7 .u32 .rwp 600000 (.range 1000 2000000000)
  , ent 0x5000 0x5000 8 .u32 .rwp 28284 (.range 1 2000000000)
  , ent 0x5000 0x5000 9 .u32 .rwp 28284 (.range 1 2000000000)
  , entD 0x5000 0x5000 0xA [0, 0x80, 0, 0x80, 0, 0x80] .octets .rwp (.exact 6)
  , ent 0x5000 0x5000 0xB .u32 .rwp 11 (.range 1 1000000)
  , entB 0x5000 0x5000 0xC .octets .cmd (.exact 12)
  , ent 0x5000 0x5000 0xD .u8 .ro 0
  , entZ 0x5000 0x5000 0xE 44 .octets .ro
  , ent 0x5000 0x5000 0xF .u16 .ro 0
  , ent 0x5100 0x5100 1 .u32 .ro 0
  , ent 0x5100 0x5100 2 .time64 .ro 0
  , ent 0x5100 0x5100 3 .u16 .ro 0
  , entR 0x5100 0x5100 4 0xB .u32 .ro 0
  , entR 0x5100 0x5100 0xC 0x13 .i32 .ro 0
  , entR 0x5100 0x5100 0x14 0x17 .u32 .ro 0
  , entR 0x5100 0x5100 0x18 0x1B .q15 .ro 0
  , entR 0x5100 0x5100 0x1C 0x20 .i16 .ro 0
  , entR 0x5100 0x5100 0x21 0x27 .u16 .ro 0
  , entR 0x5200 0x5200 1 0x18 .u32 .ro 0
  , entR 0x5200 0x5200 0x21 0x38 .u8 .ro 0
  , entR 0x5200 0x5200 0x41 0x58 .u64 .ro 0
  , entR 0x5200 0x5200 0x61 0x6A .i32 .ro 0
  , entZ 0x5200 0x5200 0x70 20 .octets .ro
  , ent 0x5200 0x5200 0x80 .u8 .cmd 0 (.vals [1])
  , ent 0x5200 0x5200 0x81 .u32 .ro 0
  , entD 0x5300 0x5303 1 (correctionDefault 28284) .octets .rwp (.exact 72)
  , ent 0x5400 0x5401 1 .bool .rwp 1
  , ent 0x5400 0x5400 2 .u8 .rwp 3 (.vals [0, 1, 2, 3, 4, 5, 6, 7, 20, 21, 22, 23])
  , ent 0x5401 0x5401 2 .u8 .rwp 11 (.range 8 19)
  , ent 0x5400 0x5401 3 .u32 .rwp 10000 (.range 1 100000)
  , ent 0x5400 0x5401 4 .u16 .rwp 300 (.range 5 10000)
  , ent 0x5400 0x5401 5 .u16 .ro 0
  , ent 0x5400 0x5401 6 .u32 .ro 0
  , ent 0x5400 0x5401 7 .u32 .ro 0
  , ent 0x5500 0x5500 1 .u32 .rwp 100000 (.range 1000 2000000000)
  , ent 0x5500 0x5500 2 .u32 .rwp 100000
  , ent 0x5500 0x5500 3 .u32 .rwp 100000
  , ent 0x5500 0x5500 4 .u32 .rwp 100000
  , ent 0x5500 0x5500 5 .u32 .ro 0
  , ent 0x5500 0x5500 6 .i32 .ro 0
  , ent 0x5500 0x5500 7 .i32 .ro 0
  , ent 0x5500 0x5500 8 .u32 .ro 0
  , ent 0x5500 0x5500 9 .i32 .ro 0
  , ent 0x5500 0x5500 0xA .i32 .ro 0
  , entB 0x5500 0x5500 0xB .domain .ro (.len 1024)
  , ent 0x5500 0x5500 0xC .u8 .cmd 0 (.vals (List.range 128 ++ [0xFF]))
  , ent 0x5600 0x5600 1 .u8 .rwp 15 (.vals [1, 2, 3, 4, 5, 6, 10, 12, 15, 20, 30, 60])
  , ent 0x5600 0x5600 2 .time64 .ro 0
  , ent 0x5600 0x5600 3 .i32 .ro 0
  , ent 0x5600 0x5600 4 .i32 .ro 0
  , ent 0x5600 0x5600 5 .u32 .ro 0
  , ent 0x5600 0x5600 6 .u8 .ro 0
  , ent 0x5600 0x5600 7 .i32 .ro 0
  , ent 0x5600 0x5600 8 .time64 .ro 0
  , ent 0x5600 0x5600 9 .i32 .ro 0
  , ent 0x5600 0x5600 0xA .time64 .ro 0
  , ent 0x5600 0x5600 0xB .u8 .cmd 0 (.vals [1]) ]

/-- Chapter 13: time bases, field timing, PTP, comparators, captures, the calendar clock, alarms, backup scratch (Tables 13-3, 13-6, 13-8,
13-10 to 13-12; R329, R340). -/
def entriesTime : List Entry :=
  [ ent 0x6000 0x6003 1 .u64 .ro 0
  , ent 0x6000 0x6003 2 .u8 .ro 0
  , ent 0x6000 0x6002 3 .i32 .ro 0
  , ent 0x6003 0x6003 3 .i32 .rwp 0
  , ent 0x6000 0x6003 4 .i32 .ro 0
  , ent 0x6000 0x6003 5 .q16 .rwp 0xB333 (.range 0 0x40000)
  , ent 0x6000 0x6003 6 .q16 .rwp 0x4CCD (.range 0 0x40000)
  , ent 0x6000 0x6003 7 .u32 .rwp 1000000
  , ent 0x6000 0x6003 8 .u32 .rwp 100 (.range 10 100000)
  , ent 0x6000 0x6003 9 .u32 .rwp 200000 (.range 1000 500000)
  , ent 0x6000 0x6003 0xA .u32 .rwp 3600 (.range 1 604800)
  , ent 0x6000 0x6003 0xB .u32 .ro 0
  , ent 0x6000 0x6003 0xC .u64 .cmd 0
  , ent 0x6010 0x6010 1 .u8 .rwp 0 (.range 0 3)
  , ent 0x6010 0x6010 2 .u8 .ro 3
  , ent 0x6010 0x6010 3 .i32 .ro 0
  , ent 0x6010 0x6010 4 .u8 .ro 1
  , ent 0x6010 0x6010 5 .u16 .rwp 60 (.range 0 3600)
  , ent 0x6010 0x6010 6 .u32 .ro 0
  , ent 0x6010 0x6010 7 .u32 .ro 0
  , ent 0x6010 0x6010 8 .u8 .rwp 4 (.vals [0, 1, 2, 3, 4, 0xFF])
  , ent 0x6010 0x6010 9 .u16 .rwp 1000 (.range 1 9000)
  , ent 0x6010 0x6010 0xA .i16 .rwp 37 (.range 10 100)
  , ent 0x6100 0x6100 1 .time64 .rw 0
  , ent 0x6100 0x6100 2 .i32 .cmd 0 (.range (-2147418112) 2147418112)
  , ent 0x6100 0x6100 3 .i16 .rwp 0 (.range (-5120) 5120)
  , ent 0x6100 0x6100 4 .u8 .rwp 1 (.range 0 2)
  , ent 0x6100 0x6100 5 .bool .rwp 1
  , ent 0x6100 0x6100 6 .u8 .ro 0
  , ent 0x6100 0x6100 7 .i16 .rwp 0 (.range (-1080) 1080)
  , ent 0x6100 0x6100 8 .i16 .rwp 0 (.range (-1080) 1080)
  , ent 0x6100 0x6100 9 .time64 .rwp 0
  , entZ 0x6100 0x6100 0xA 8 .octets .ro
  , entZ 0x6110 0x6111 1 8 .octets .rw (.exact 8)
  , ent 0x6110 0x6111 2 .u8 .rw 0 (.bits 0x7F)
  , ent 0x6110 0x6111 3 .u8 .cmd 0 (.vals [1, 2])
  , ent 0x6110 0x6111 4 .u8 .ro 0
  , ent 0x6110 0x6111 5 .u8 .ro 0
  , ent 0x6110 0x6111 6 .time64 .ro 0
  , entZ 0x6120 0x6120 1 16 .octets .rw (.exact 16)
  , ent 0x6200 0x6201 1 .bool .rwp 1
  , ent 0x6200 0x6200 2 .u8 .rwp 0 (.range 0 127)
  , ent 0x6201 0x6201 2 .u8 .rwp 1 (.range 0 127)
  , ent 0x6200 0x6201 3 .u8 .rwp 1 (.range 0 1)
  , ent 0x6200 0x6201 4 .u8 .rwp 3 (.bits 3)
  , ent 0x6200 0x6201 5 .u8 .rwp 3 (.range 2 10)
  , ent 0x6200 0x6201 6 .i16 .rwp 0 (.range (-4) 5)
  , ent 0x6200 0x6201 7 .i32 .rwp 0
  , ent 0x6200 0x6201 8 .u8 .ro 0
  , ent 0x6200 0x6201 9 .u64 .ro 0
  , ent 0x6200 0x6201 0xA .u8 .ro 0xFF
  , ent 0x6200 0x6201 0xB .u32 .ro 0
  , ent 0x6200 0x6201 0xC .i16 .ro (-32768)
  , ent 0x6300 0x630F 1 .u8 .rw 0 (.range 0 2)
  , ent 0x6300 0x630F 2 .u64 .rw 0
  , ent 0x6300 0x630F 3 .u32 .rw 1000000000 (.range 1000 4000000000)
  , ent 0x6300 0x630F 4 .u8 .ro 0
  , ent 0x6300 0x630F 5 .u32 .ro 0
  , ent 0x6300 0x630F 6 .u32 .ro 0
  , entZS 0x6320 0x6320 1 0xB 40 .octets .ro ]

/-- Chapter 14: FLOOR_BUS (Table 14-9) and the matrices (R349). -/
def entriesBus : List Entry :=
  [ ent 0x2400 0x2400 1 .bool .rwp 1
  , ent 0x2401 0x2401 1 .bool .rwp 0
  , ent 0x2400 0x2401 2 .u8 .rwp 0 (.range 0 3)
  , ent 0x2400 0x2401 3 .u8 .rwp 0xFF (wr := some .safety)
  , ent 0x2400 0x2401 4 .u8 .rwp 0 (.range 0 15) (wr := some .safety)
  , ent 0x2400 0x2401 5 .u16 .rwp 0xFFFF (wr := some .safety)
  , ent 0x2400 0x2401 6 .bool .rwp 0 (wr := some .safety)
  , ent 0x2400 0x2401 7 .i32 .rwp 0 (.range (-10000) 10000)
  , ent 0x2400 0x2401 8 .u16 .rwp 10 (.range 1 10000)
  , ent 0x2400 0x2401 9 .u8 .ro 0
  , ent 0x2400 0x2401 0xA .u16 .ro 0
  , ent 0x2400 0x2401 0xB .u8 .ro 0xFF
  , ent 0x2400 0x2401 0xC .u8 .ro 0xFF
  , ent 0x2400 0x2401 0xD .u16 .ro 0
  , ent 0x2400 0x2401 0xE .u16 .ro 0
  , ent 0x2400 0x2401 0xF .u32 .ro 0
  , ent 0x2400 0x2401 0x10 .u32 .ro 0
  , ent 0x2400 0x2401 0x11 .u32 .ro 0
  , ent 0x2400 0x2401 0x12 .u8 .cmd 0 (.vals [1])
  , entB 0x2480 0x2480 1 .domain .rwp (.exact 472) (wr := some .integrator)
  , entB 0x2480 0x2480 2 .domain .rwp (.exact 472) (wr := some .integrator) ]

/-- Chapter 15: AIR (Table 15-10) and the partner domains (Tables 15-8, 15-9). -/
def entriesAir : List Entry :=
  [ ent 0x2600 0x2600 1 .u8 .cmd 0 (.range 1 3)
  , ent 0x2600 0x2600 2 .u8 .ro 0
  , ent 0x2600 0x2600 3 .bool .rwp 1
  , entD 0x2600 0x2600 4 [15, 20, 26] .octets .rwp (.lens 1 16)
  , entD 0x2600 0x2600 5 [15, 20, 26] .octets .ro .all
  , ent 0x2600 0x2600 6 .u16 .rwp 0
  , ent 0x2600 0x2600 7 .u8 .rwp 0 (.range 0 49)
  , ent 0x2600 0x2600 8 .u8 .rwp 0 (.range 0 2)
  , ent 0x2600 0x2600 9 .i16 .rwp 10 (.range (-20) 10)
  , ent 0x2600 0x2600 0xA .u8 .rwp 0xFF
  , ent 0x2600 0x2600 0xB .bool .rwp 1
  , ent 0x2600 0x2600 0xC .u8 .rwp 25 (.range 11 26)
  , ent 0x2600 0x2600 0xD .u8 .rwp 4 (.range 1 15)
  , entB 0x2600 0x2600 0xE .domain .ro (.len 256)
  , ent 0x2600 0x2600 0xF .u16 .ro 0
  , entR 0x2600 0x2600 0x10 0x18 .u32 .ro 0
  , ent 0x2600 0x2600 0x19 .u16 .ro 0
  , ent 0x2600 0x2600 0x1A .u16 .ro 0
  , ent 0x2600 0x2600 0x1B .u8 .cmd 0 (.vals [1])
  , entB 0x2700 0x2700 1 .domain .rwp (.exact 32768) (wr := some .integrator)
  , entB 0x2700 0x2700 2 .domain .ro (.len 16384) ]

/-- Chapter 16: safety functions, groups, emergency inputs, fault sources, fault messages (Tables 16-2, 16-4, 16-8 to 16-10; R402, R413). -/
def entriesSafety : List Entry :=
  [ entB 0x4600 0x4600 1 .domain .rwp (.len 4096) (wr := some .safety)
  , ent 0x7000 0x7000 1 .u16 .ro 0
  , ent 0x7000 0x7000 2 .u64 .ro 0
  , ent 0x7000 0x7000 3 .u8 .cmd 0 (.range 0 63)
  , ent 0x7000 0x7000 4 .u16 .rwp 28 (.range 0 365)
  , ent 0x7000 0x7000 5 .u16 .rwp 30 (.range 5 600)
  , ent 0x7000 0x7000 6 .u16 .rwp 365 (.range 0 730)
  , ent 0x7000 0x7000 7 .u16 .rwp 180 (.range 1 480)
  , ent 0x7000 0x7000 8 .u32 .rwp 42000
  , ent 0x7000 0x7000 9 .u8 .cmd 0 (.range 1 3) (wr := some .operator)
  , ent 0x7000 0x7000 0xA .u8 .ro 0
  , entZ 0x7000 0x7000 0xB 16 .octets .ro
  , entZ 0x7000 0x7000 0xC 16 .octets .ro
  , ent 0x7000 0x7000 0xD .u32 .rwp 7200000 (.range 0 86399999)
  , ent 0x7000 0x7000 0xE .u16 .rwp 10 (.range 1 600)
  , ent 0x7000 0x7000 0xF .u8 .rwp 0xFF (.vals [0, 1, 2, 3, 4, 5, 6, 7, 0xFF])
  , ent 0x7300 0x7300 1 .u16 .rwp 10 (.range 2 100)
  , ent 0x7300 0x7300 2 .u16 .rwp 500 (.range 10 10000)
  , ent 0x7300 0x7300 3 .u16 .rwp 1000 (.range 100 10000)
  , ent 0x7300 0x7300 4 .u8 .ro 0
  , ent 0x7300 0x7300 5 .u8 .ro 0
  , ent 0x7300 0x7300 6 .u16 .ro 0
  , ent 0x7300 0x7300 7 .u16 .cmd 0
  , ent 0x7300 0x7300 8 .u8 .cmd 0 (.vals [1]) (wr := some .operator)
  , ent 0x7300 0x7300 9 .u8 .cmd 0 (.vals [1, 2])
  , ent 0x7300 0x7300 0xA .u8 .ro 0
  , ent 0x7300 0x7300 0xB .u32 .ro 0
  , entB 0x7200 0x7200 1 .domain .ro (.len 3072)
  , ent 0x7200 0x7200 2 .u32 .ro 0
  , entZ 0x7200 0x7200 3 12 .octets .ro ]

/-- Table 16-10, REACTION: the sources whose default is not IRQ (1). -/
def faultReactions : List (Nat × Nat) :=
  [(12, 3), (14, 0), (15, 2), (16, 2), (17, 4), (18, 2), (19, 4), (20, 4), (22, 4), (40, 0), (43, 2), (48, 2), (57, 0)]
/-- Table 16-10, SECOND_REACTION: the sources whose default is not NONE (0). -/
def faultSeconds : List (Nat × Nat) := [(15, 4), (16, 4), (18, 4), (35, 3), (48, 4)]
/-- Table 16-10, FAULT_PIN: the sources whose default is 1. -/
def faultPins : List (Nat × Nat) :=
  [9, 15, 16, 17, 18, 19, 20, 21, 22, 25, 31, 33, 42, 43, 48, 50, 54, 55].map fun n => (n, 1)
/-- Table 16-10, CLASS: the EVENT sources. -/
def faultEvents : List (Nat × Nat) :=
  [8, 11, 13, 14, 34, 36, 37, 40, 41, 44, 45, 46, 47, 52, 56, 57].map fun n => (n, 1)

/-- One sub-index of every fault source: the listed sources have their own default, the others `d`. -/
def faultSub (sub : Nat) (ty : Ty) (d : Int) (rng : Rng) (own : List (Nat × Nat)) : List Entry :=
  own.map (fun p => ent (0x7100 + p.1) (0x7100 + p.1) sub ty .rwp (p.2 : Nat) rng) ++ [ent 0x7100 0x713F sub ty .rwp d rng]

/-- Table 16-8 with the defaults of Table 16-10. -/
def entriesFaults : List Entry :=
  faultSub 1 .u8 1 (.range 0 4) faultReactions ++ faultSub 2 .u8 0 (.vals [0, 2, 3, 4]) faultSeconds
    ++ faultSub 3 .bool 0 .all faultPins ++ faultSub 6 .u8 0 (.range 0 1) faultEvents ++
  [ ent 0x7100 0x713F 4 .u16 .rwp 10 (.range 0 10000)
  , ent 0x7100 0x713F 5 .u16 .rwp 10 (.range 1 3600)
  , ent 0x7100 0x713F 7 .u8 .ro 0
  , ent 0x7100 0x713F 8 .u32 .ro 0
  , ent 0x7100 0x713F 9 .u8 .ro 0
  , ent 0x7100 0x713F 0xA .u32 .ro 0
  , ent 0x7100 0x713F 0xB .time64 .ro 0
  , ent 0x7100 0x713F 0xC .u8 .cmd 0 (.vals [1]) ]

/-- Chapter 17: REDUNDANCY (Table 17-8). -/
def entriesPair : List Entry :=
  [ ent 0x7400 0x7400 1 .u8 .ro 3
  , ent 0x7400 0x7400 2 .u64 .ro 0
  , ent 0x7400 0x7400 3 .u8 .ro 0
  , ent 0x7400 0x7400 4 .u16 .ro 0xFFFF
  , ent 0x7400 0x7400 5 .u8 .cmd 0 (.vals [1]) (wr := some .integrator)
  , ent 0x7400 0x7400 6 .u8 .ro 0
  , ent 0x7400 0x7400 7 .u16 .ro 0
  , ent 0x7400 0x7400 8 .u32 .ro 0
  , ent 0x7400 0x7400 9 .time64 .ro 0
  , ent 0x7400 0x7400 0xA .u32 .ro 0
  , ent 0x7400 0x7400 0xB .time64 .ro 0
  , ent 0x7400 0x7400 0xC .u16 .rwp 31 (.range 0 365) (wr := some .integrator)
  , ent 0x7400 0x7400 0xD .u16 .ro 0
  , ent 0x7400 0x7400 0xE .u16 .ro 0 ]

/-- Chapter 18: keys, shells, attestation, update, waves (Tables 18-4, 18-7, 18-9, 18-13, 18-14, 18-16), and the roster (R33), whose sub-index
numbers are the model's (log entry 12). -/
def entriesKeys : List Entry :=
  [ ent 0xA000 0xA000 1 .u8 .ro 0
  , ent 0xA000 0xA000 2 .u16 .ro 0
  , entB 0xA000 0xA000 3 .domain .ro (.len 2048)
  , entB 0xA000 0xA000 4 .octets .cmd (.exact 204)
  , entB 0xA000 0xA000 5 .octets .cmd (.exact 28)
  , entB 0xA000 0xA000 6 .octets .ro
  , ent 0xA000 0xA000 7 .u32 .ro 0
  , ent 0xA000 0xA000 8 .u32 .ro 0
  , entB 0xA010 0xA010 1 .octets .cmd (.exact 17) (wr := some .observer)
  , entZ 0xA010 0xA010 2 33 .octets .ro
  , entB 0xA010 0xA010 3 .octets .ro
  , ent 0xA010 0xA010 4 .u32 .ro 0
  , ent 0xA100 0xA1FF 1 .u8 .ro 0
  , ent 0xA100 0xA1FF 2 .u8 .ro 0xFF
  , ent 0xA100 0xA1FF 3 .u16 .ro 0
  , ent 0xA100 0xA1FF 4 .u8 .ro 0
  , ent 0xA100 0xA1FF 5 .u32 .ro 0
  , ent 0xA100 0xA1FF 6 .u8 .ro 0
  , ent 0xA100 0xA1FF 7 .u32 .ro 0
  , ent 0xA100 0xA1FF 8 .u32 .ro 0
  , entZ 0xA100 0xA1FF 9 16 .octets .ro
  , entZ 0xA100 0xA1FF 0xA 64 .octets .ro
  , ent 0xA100 0xA1FF 0xB .u64 .ro 0
  , ent 0xA100 0xA1FF 0xC .u32 .ro 0
  , ent 0xA100 0xA1FF 0xD .u8 .cmd 0 (.vals [1])
  , ent 0xB000 0xB000 1 .u16 .ro 0
  , ent 0xB000 0xB000 2 .u16 .ro 0
  , ent 0xB000 0xB000 3 .u16 .ro 0
  , ent 0xB000 0xB000 4 .u16 .ro 0
  , ent 0xB000 0xB000 5 .u16 .ro 0
  , entB 0xB000 0xB000 6 .domain .wo (.len 4194304)
  , ent 0xB000 0xB000 7 .u8 .ro 0
  , ent 0xB000 0xB000 8 .u16 .ro 0
  , ent 0xB000 0xB000 9 .u8 .cmd 0 (.range 1 3)
  , entB 0xB000 0xB000 0xA .octets .ro
  , ent 0xB000 0xB000 0xB .u8 .ro 0
  , ent 0xB000 0xB000 0xC .u16 .rwp 300 (.range 60 3600)
  , ent 0xB000 0xB000 0xD .u16 .ro 0
  , ent 0xB000 0xB000 0xE .bool .rwp 0
  , ent 0xB000 0xB000 0xF .u16 .rwp 120 (.range 10 3590)
  , ent 0xB000 0xB000 0x10 .u8 .ro 0
  , ent 0xB010 0xB010 1 .u8 .cmd 0 (.vals [1])
  , ent 0xC101 0xC1FF 1 .u64 .rwp 0
  , ent 0xC101 0xC1FF 2 .u64 .rwp 0
  , ent 0xC101 0xC1FF 3 .u8 .rwp 0 (.range 0 3)
  , ent 0xC010 0xC010 1 .u8 .cmd 0 (.range 1 4)
  , ent 0xC010 0xC010 2 .u8 .ro 0
  , ent 0xC010 0xC010 3 .u8 .ro 0
  , ent 0xC010 0xC010 4 .u8 .ro 0
  , ent 0xC010 0xC010 5 .u16 .ro 0
  , ent 0xC010 0xC010 6 .u8 .ro 0
  , ent 0xC010 0xC010 7 .u16 .rwp 60 (.range 10 3600)
  , ent 0xC010 0xC010 8 .u16 .rwp 1800 (.range 300 36000) ]

/-- Chapter 19: RECORDER (Table 19-6). -/
def entriesRec : List Entry :=
  [ ent 0x9000 0x9000 1 .u32 .rwp 3600 (.vals [60, 300, 600, 900, 1800, 3600, 7200, 10800, 14400, 21600, 28800, 43200])
  , ent 0x9000 0x9000 2 .u8 .cmd 0 (.vals [1])
  , ent 0x9000 0x9000 3 .u8 .ro 0
  , ent 0x9000 0x9000 4 .u32 .ro 2
  , ent 0x9000 0x9000 5 .u32 .ro 2
  , ent 0x9000 0x9000 6 .u16 .ro 0
  , ent 0x9000 0x9000 7 .u32 .ro 0
  , ent 0x9000 0x9000 8 .u32 .ro 0
  , ent 0x9000 0x9000 9 .u32 .ro 0
  , ent 0x9000 0x9000 0xA .time64 .ro 0
  , ent 0x9000 0x9000 0xB .u32 .ro 0
  , entB 0x9000 0x9000 0xC .domain .ro (.len 14680064)
  , entB 0x9000 0x9000 0xD .domain .ro (.len 229376)
  , entB 0x9000 0x9000 0xE .domain .ro (.len 262144) ]

/-- The entry tables that cover an index. -/
def tablesFor (idx : Nat) : List Entry :=
  if idx < 0x2400 then entriesBase
  else if idx < 0x2600 then entriesBus
  else if idx < 0x3000 then entriesAir
  else if idx < 0x4000 then entriesLanes
  else if idx < 0x4600 then entriesColour
  else if idx < 0x4700 then entriesSafety
  else if idx < 0x5000 then entriesColour
  else if idx < 0x6000 then entriesMeter
  else if idx < 0x7000 then entriesTime
  else if idx < 0x7100 then entriesSafety
  else if idx < 0x7140 then entriesFaults
  else if idx < 0x7400 then entriesSafety
  else if idx < 0x8000 then entriesPair
  else if idx < 0x8200 then entriesEngines
  else if idx < 0x9000 then entriesDma
  else if idx < 0xA000 then entriesRec
  else entriesKeys

/-- The row of the spec's tables that defines a sub-index other than 0. -/
def entryOf (idx sub : Nat) : Option Entry :=
  (tablesFor idx).find? fun e => e.lo ≤ idx && idx ≤ e.hi && e.subLo ≤ sub && sub ≤ e.subHi

/-- The highest sub-index an entry defines (R75). -/
def highestSub (idx : Nat) : Option Nat :=
  ((tablesFor idx).filter fun e => e.lo ≤ idx && idx ≤ e.hi).foldl (fun m e => some (max e.subHi (m.getD 0))) none

/-- The default of a register; 0 where no table defines it. -/
def dfltOf (k : Key) : Val := ((entryOf (k / 256) (k % 256)).map (·.dflt)).getD (.num 0)

/-- The value of a type's code (Table 4-1). -/
def Ty.code : Ty → Nat
  | .bool => 1 | .u8 => 2 | .u16 => 3 | .u32 => 4 | .u64 => 5 | .i16 => 6 | .i32 => 7 | .i64 => 8 | .q15 => 9 | .q16 => 10
  | .time64 => 11 | .str => 12 | .octets => 13 | .domain => 14

/-- The bytes of a numeric type; none for STR, OCTETS and DOMAIN. -/
def Ty.size : Ty → Option Nat
  | .bool | .u8 => some 1
  | .u16 | .i16 | .q15 => some 2
  | .u32 | .i32 | .q16 => some 4
  | .u64 | .i64 | .time64 => some 8
  | .str | .octets | .domain => none

/-- Whether a type is signed. -/
def Ty.isSigned : Ty → Bool
  | .i16 | .i32 | .i64 | .q15 | .q16 => true
  | _ => false

/-- The type with a code. -/
def tyOf (code : Nat) : Option Ty :=
  [Ty.bool, .u8, .u16, .u32, .u64, .i16, .i32, .i64, .q15, .q16, .time64, .str, .octets, .domain].find? fun t => t.code == code

/-- The role a read of an area requires (Table 4-4). -/
def areaRead (_ : Nat) : Role := .observer

/-- The role a write of an area requires (Table 4-4). -/
def areaWrite (idx : Nat) : Role :=
  if 0x4100 ≤ idx ∧ idx ≤ 0x42FF then .operator
  else if idx = 0x4600 then .safety
  else if 0x7000 ≤ idx ∧ idx ≤ 0x7FFF then .safety
  else if 0xA000 ≤ idx ∧ idx ≤ 0xAFFF then .safety
  else .integrator

end Sys2Proof.Machine
end

