-- ==== Sys2Proof/Machine/Ops.lean ====
section
/-!
DEFINITION. The named operations over the state: the one read and the one write of
a register with its notifications (R75, R98 to R100), persistent transactions (R90, R91), raising a fault and its reactions
(R412 to R417), the resets (R58), posting an event (R178), and answering a request.
-/

namespace Sys2Proof.Machine

/-! ### Durations in cycles of TIME, 8 ns each (Table 2-15) -/

/-- Microseconds in cycles. -/
def usec (n : Nat) : Nat := 125 * n
/-- Milliseconds in cycles. -/
def msec (n : Nat) : Nat := 125000 * n
/-- Seconds in cycles. -/
def secs (n : Nat) : Nat := 125000000 * n

/-! ### Registers named in several chapters -/

/-- `TXN_COUNT` (Table 4-10). -/
abbrev kTxnCount : Key := 0x105005
/-- `NOTIFY_DISCARDS` (Table 4-10). -/
abbrev kDiscards : Key := 0x105009
/-- `LOG_COUNT` (Table 16-9). -/
abbrev kLogCount : Key := 0x720002
/-- `LOG_LAST` (Table 16-9). -/
abbrev kLogLast : Key := 0x720003
/-- `MODULE_STATE` (Table 3-7). -/
abbrev kModuleState : Key := 0x101801
/-- `RECORDER_STATE` (Table 19-6): 0 HOLDING, 1 RUNNING, 2 REBUILDING, 3 BACKLOG. -/
abbrev kRecState : Key := 0x900003
/-- `RESTART_PENDING` (Table 3-7). -/
abbrev kRestartPending : Key := 0x101805
/-- `ROLE` (Table 17-8). -/
abbrev kRole : Key := 0x740001
/-- `FRAME_ERRORS` (Table 5-8). -/
abbrev kFrameErrors : Key := 0x210007
/-- `TARGET_SKIPS` (Table 6-15). -/
abbrev kTargetSkips : Key := 0x48000C
/-- `GROUP_MAP` (R129). -/
abbrev kGroupMap : Key := 0x430001
/-- The schedule (R132). -/
abbrev kSchedule : Key := 0x470001
/-- Scene `n` (R131). -/
def kScene (n : Nat) : Key := (0x4200 + n) * 256 + 1
/-- Whether an entry is a scene (R131). -/
def isScene (k : Key) : Bool := 0x4200 ≤ k / 256 && k / 256 ≤ 0x42FF
/-- The register `sub` of the engine programs (Table 7-12); sub-index 1 is the program set. -/
def kProgramCtl (sub : Nat) : Key := 0x8100 * 256 + sub
/-- The program set (R169). -/
abbrev kProgramSet : Key := 0x810001
/-- `NOMINAL_FREQ` (Table 12-2). -/
abbrev kNominalFreq : Key := 0x500005
/-- The register `sub` of time base `n` (Table 13-3). -/
def kTb (n sub : Nat) : Key := (0x6000 + n) * 256 + sub
/-- The register `sub` of FIELD_TIMING (Table 13-8). -/
def kFt (sub : Nat) : Key := 0x6010 * 256 + sub
/-- The register `sub` of PTP instance `i` (Table 13-6). -/
def kPtp (i sub : Nat) : Key := (0x6200 + i) * 256 + sub
/-- The register `sub` of engine `k` (Table 7-11). -/
def kEngine (k sub : Nat) : Key := (0x8000 + k) * 256 + sub

/-! ### Registers -/

/-- The value of a register: the one it was last given, or its default (R78). -/
def reg (s : State) (k : Key) : Val := (tabFind s.regs k).getD (dfltOf k)

/-- The number in a value; 0 for bytes. -/
def Val.toInt : Val → Int
  | .num n => n
  | .bytes _ => 0

/-- The bytes in a value; none for a number. -/
def Val.toBytes : Val → Bytes
  | .num _ => []
  | .bytes b => b

/-- A register as a number. -/
def num (s : State) (k : Key) : Int := (reg s k).toInt
/-- A register as a natural number. -/
def nat (s : State) (k : Key) : Nat := (num s k).toNat
/-- A register as a truth value. -/
def flag (s : State) (k : Key) : Bool := num s k != 0

/-- Whether a subscription covers a sub-index (R98; sub-index 0xFF stands for the whole index). -/
def Sub.covers (b : Sub) (k : Key) : Bool := b.index == k / 256 && (b.sub == 0xFF || b.sub == k % 256)

/-- R100: a new notification joins its session's queue of 32, or is discarded and counted. -/
def addNotice (sv : Server) (b : Sub) (k : Key) (msg : Option Nat) : Server :=
  if (sv.notices.filter (fun n => n.sid == b.sid)).length < 32 then
    { sv with notices := sv.notices ++ [{ num := b.num, sid := b.sid, key := k, count := 1, msg := msg }] }
  else { sv with discards := (sv.discards + 1) % 2 ^ 32 }

/-- R100: a notification replaces the one queued for its sub-index, or joins its session's queue. The spec does not say where in the queue the one that
replaces another stands, nor what two subscriptions of a session that cover one sub-index share: it keeps the place of the replaced one, and there is one for
each subscription (DESIGN CHOICE, log entry 70). -/
def queueNotice (sv : Server) (b : Sub) (k : Key) : Server :=
  if sv.notices.any (fun n => n.num == b.num && n.key == k) then
    { sv with notices := sv.notices.map (fun n => if n.num == b.num && n.key == k then { n with count := n.count + 1 } else n) }
  else addNotice sv b k none

/-- R99: a change of a sub-index reaches every ON_CHANGE subscription to it. -/
def noteChange (sv : Server) (k : Key) : Server :=
  (sv.subs.filter (fun b => !b.periodic && b.covers k)).foldl (fun v b => queueNotice v b k) sv

/-- Give a register a value; a value that differs from the one held is a change (R99). -/
def setVal (s : State) (k : Key) (v : Val) : State :=
  if reg s k = v then s
  else { s with regs := tabPut s.regs k v, server := noteChange s.server k }

/-- Give a register a number. -/
def setNum (s : State) (k : Key) (n : Int) : State := setVal s k (.num n)

/-- Give a register a value that notifies whether or not it differs (R99's exception, R181). -/
def touchVal (s : State) (k : Key) (v : Val) : State :=
  { s with regs := tabPut s.regs k v, server := noteChange s.server k }

/-- Add 1 to a counter that wraps modulo 2³². -/
def bump (s : State) (k : Key) : State := setNum s k ((num s k + 1) % 2 ^ 32)

/-- Add `n` to a counter that wraps modulo 2³². -/
def bumpBy (s : State) (k : Key) (n : Int) : State := setNum s k ((num s k + n) % 2 ^ 32)

/-- Set or clear one bit of a register. -/
def setBit (s : State) (k : Key) (bit : Nat) (v : Bool) : State :=
  let x := nat s k
  setNum s k (if v then (x ||| 2 ^ bit : Nat) else (x - (x &&& 2 ^ bit) : Nat))

/-- One bit of a register. -/
def bit (s : State) (k : Key) (n : Nat) : Bool := (nat s k).testBit n

/-- Something leaves the block. -/
def emit (s : State) (o : Out) : State := { s with out := o :: s.out }

/-- A fresh free value's number: the step reads the counter and moves it on. -/
def takeFresh (s : State) : Nat × State := (s.fresh, { s with fresh := s.fresh + 1 })

/-! ### The time bases' values (R314, R316) -/

/-- Time base `n`. -/
def base (s : State) (n : Nat) : Base := (tabFind s.time.bases n).getD {}
/-- Put time base `n`. -/
def putBase (s : State) (n : Nat) (b : Base) : State := { s with time := { s.time with bases := tabPut s.time.bases n b } }
/-- Units of T in a nanosecond. -/
abbrev tUnit : Nat := 10 ^ 12
/-- T wraps at 2⁶⁴ ns. -/
abbrev tWrap : Nat := 2 ^ 64 * tUnit
/-- T of time base `n` in ns. -/
def tbNs (s : State) (n : Nat) : Nat := (base s n).t / tUnit
/-- `TB_STATE` of time base `n`. -/
def tbState (s : State) (n : Nat) : Nat := nat s (kTb n 2)
/-- The field time base (R322). -/
def fieldBase (s : State) : Nat := nat s (kFt 2)
/-- T of the field time base. -/
def fieldNs (s : State) : Nat := tbNs s (fieldBase s)

/-- R316: L of a PTP instance, when its value is valid. -/
def ptpLeap (s : State) (i : Nat) : Option Int := if num s (kPtp i 0xC) = -32768 then none else some (num s (kPtp i 0xC))

/-- R316: the TAI − UTC offset in force: of the field base's instance, else the other's, else `TAI_UTC`. -/
def leapOffset (s : State) : Int :=
  let i := if fieldBase s = 1 then 1 else 0
  match ptpLeap s i, ptpLeap s (1 - i) with
  | some l, _ => l
  | none, some l => l
  | none, none => num s (kFt 0xA)

/-- R316: a T of the field base as TIME64, rounded down. -/
def time64At (s : State) (t : Nat) : Nat :=
  let u := ((t : Int) - leapOffset s * 1000000000).toNat
  u / 1000000000 * 65536 + u % 1000000000 * 65536 / 1000000000

/-- The time now as TIME64: the UTC of the field base (R316); before step 5 has loaded the bases, the calendar clock. -/
def now64 (s : State) : Nat := if s.time.loaded then time64At s (fieldNs s) else s.backup.rtc.ticks

/-! ### The start as the blocks see it -/

/-- R63: a step's function is there once the step has run in this start, neither abandoned nor skipped nor left out of a SAFE_MODE start (R71). -/
def stepRan (s : State) (n : Nat) : Bool :=
  !s.start.held && s.start.stoppedAt.isNone && !s.start.safe && n < s.start.next && !s.start.disabled.toNat.testBit n

/-- R62, R63, R72: whether the block of a skippable step stays off until the next start: the step was abandoned or skipped, or the start is a SAFE_MODE start,
which leaves it out. A START of the block is accepted and has no effect (DESIGN CHOICE, log entry 76: the spec names no error). -/
def heldOff (s : State) (n : Nat) : Bool := s.start.safe || s.start.disabled.toNat.testBit n

/-- Step 6 has run by its alternative in this start (R93). -/
def storeDegraded (s : State) : Bool := bit s 0x101803 6

/-! ### The persistent store -/

/-- A value in its type's encoding (R76). -/
def valBytes (ty : Ty) (v : Val) : Bytes :=
  match ty.size with
  | some n => leBytes n (v.toInt % 2 ^ (8 * n)).toNat
  | none => v.toBytes

/-- The value that bytes encode; numbers of another length than their type's encode none. -/
def decodeVal (ty : Ty) (b : Bytes) : Val :=
  match ty.size with
  | some n => .num (if ty.isSigned then signed n (leNat b) else leNat b)
  | none => .bytes b

/-- Whether an index lies in the OEM area (Table 4-4). -/
def isOem (idx : Nat) : Bool := 0xD000 ≤ idx && idx ≤ 0xEFFF

/-- The type of a sub-index: its entry's, or its OEM declaration's (R101). -/
def typeOf (s : State) (k : Key) : Ty :=
  if isOem (k / 256) then ((tabFind s.mram.oem k).bind fun d => tyOf d.ty).getD .octets
  else ((entryOf (k / 256) (k % 256)).map (·.ty)).getD .octets

/-- The bytes that a home record holds of a value: of a DOMAIN, one byte with the number of its active buffer (log entry 65). -/
def storeBytes (ty : Ty) (v : Val) : Bytes := if ty = .domain then leBytes 1 v.toInt.toNat else valBytes ty v

/-- Bytes padded with 0 bytes to a multiple of 4 (Table 4-8). -/
def padFour (b : Bytes) : Bytes := b ++ List.replicate ((b.length + 3) / 4 * 4 - b.length) 0

/-- REC_CRC of Table 4-8: over offset 0 to the end of the padding. -/
def homeCrc (k : Key) (ty : Nat) (value : Bytes) : Nat :=
  crc32 (leBytes 2 (k / 256) ++ [BitVec.ofNat 8 (k % 256), BitVec.ofNat 8 ty] ++ leBytes 2 value.length ++ [0, 0] ++ padFour value)

/-- The home record of a sub-index with a type and a value (Table 4-8). -/
def homeOf (k : Key) (ty : Ty) (v : Val) : HomeRec :=
  { ty := ty.code, value := storeBytes ty v, crc := homeCrc k ty.code (storeBytes ty v) }

/-- The value that a home record holds. -/
def HomeRec.val (r : HomeRec) : Val :=
  match tyOf r.ty with
  | some .domain => .num (leNat r.value)
  | some ty => decodeVal ty r.value
  | none => .bytes r.value

/-- The active bank's home records (R89). -/
def Store.home (t : Store) : Tab HomeRec := if t.bank then t.bank1 else t.bank0

/-- The value that the active bank stores for a sub-index. -/
def homeVal (s : State) (k : Key) : Option Val := (tabFind s.mram.store.home k).map HomeRec.val

/-- Write a home record in the active bank. -/
def Store.putHome (t : Store) (k : Key) (r : HomeRec) : Store :=
  if t.bank then { t with bank1 := tabPut t.bank1 k r } else { t with bank0 := tabPut t.bank0 k r }

/-- Write a home record in the inactive bank. -/
def Store.putOther (t : Store) (k : Key) (r : HomeRec) : Store :=
  if t.bank then { t with bank0 := tabPut t.bank0 k r } else { t with bank1 := tabPut t.bank1 k r }

/-- The CRC-32 of the region header (Table 4-6): over format, bank selector and staged flag, a byte each (log entry 65). -/
def headerCrcOf (t : Store) : Nat :=
  crc32 [BitVec.ofNat 8 t.format, if t.bank then 1 else 0, if t.staged then 1 else 0]

/-- The region header written with a bank selector and a staged flag. -/
def Store.putHeader (t : Store) (bank staged : Bool) : Store :=
  let u := { t with format := 1, bank := bank, staged := staged }
  { u with headerCrc := headerCrcOf u }

/-- The body of a journal slot (Table 4-7): index, sub-index, a reserved byte, length and value of each item. -/
def slotBody (items : List (Key × Bytes)) : Bytes :=
  items.flatMap fun i => leBytes 2 (i.1 / 256) ++ [BitVec.ofNat 8 (i.1 % 256), 0] ++ leBytes 2 i.2.length ++ i.2

/-- SLOT_CRC of Table 4-7: over offsets 0 to 10 and the body. -/
def slotCrcOf (x : Slot) : Nat := crc32 (leBytes 8 x.seq ++ leBytes 2 x.bodyLen ++ leBytes 1 x.count ++ slotBody x.items)

/-- A journal slot of a transaction, retired (R90). -/
def slotOf (seq : Nat) (items : List (Key × Bytes)) : Slot :=
  let x : Slot := { seq := seq, bodyLen := (slotBody items).length, count := items.length, items := items, st := .retired }
  { x with crc := slotCrcOf x }

/-- A home record goes into the active bank, and by R103 into a staged bank whose image does not contain its sub-index. -/
def Store.apply (t : Store) (k : Key) (r : HomeRec) : Store :=
  let v := t.putHome k r
  if v.staged && !(v.stagedKeys.contains k) then v.putOther k r else v

/-- R90, with R103's rule for a staged bank: one journalled transaction, written, committed, applied and retired. -/
def Store.transact (t : Store) (items : List (Key × Ty × Val)) : Store :=
  let t1 := { t with
    slots := tabPut t.slots t.nextSlot (slotOf t.nextSeq (items.map fun i => (i.1, storeBytes i.2.1 i.2.2)))
    nextSlot := (t.nextSlot + 1) % 16
    nextSeq := t.nextSeq + 1 }
  items.foldl (fun u i => u.apply i.1 (homeOf i.1 i.2.1 i.2.2)) t1

/-- A persistent transaction (R90), counted at TXN_COUNT; none while step 6 has loaded defaults (R93). -/
def transact (s : State) (items : List (Key × Val)) : State :=
  if storeDegraded s then s else
  let s1 := { s with mram := { s.mram with store := s.mram.store.transact (items.map fun i => (i.1, typeOf s i.1, i.2)) } }
  let n := num s1 kTxnCount + 1
  let s2 := setNum s1 kTxnCount n
  { s2 with mram := { s2.mram with kept := tabPut s2.mram.kept kTxnCount (.num n) } }

/-- A value that the module keeps in MRAM for a register of its own (START_COUNT, the energies): written at once, or once the
power-fail warning clears (R91). -/
def keepVal (s : State) (k : Key) (v : Val) : State :=
  let s1 := setVal s k v
  if s1.power.warning then { s1 with deferred := s1.deferred ++ [(k, v)] }
  else { s1 with mram := { s1.mram with kept := tabPut s1.mram.kept k v } }

/-- A kept number. -/
def keepNum (s : State) (k : Key) (n : Int) : State := keepVal s k (.num n)

/-- The value a register takes at a start (R78): its home record, or its default. -/
def storedVal (s : State) (k : Key) : Val := if storeDegraded s then dfltOf k else (homeVal s k).getD (dfltOf k)

/-- A number the MRAM holds for a register: of a RWP one its stored value, of another the one the module keeps. -/
def storedNum (s : State) (k : Key) : Int :=
  match tabFind s.mram.kept k with
  | some v => v.toInt
  | none => (storedVal s k).toInt

/-- Values that the module itself writes to RWP sub-indices, as one transaction; during a power-fail warning they take effect and their transaction
waits (R91). -/
def persist (s : State) (items : List (Key × Val)) : State :=
  let s1 := items.foldl (fun t i => setVal t i.1 i.2) s
  if s1.power.warning then { s1 with deferred := s1.deferred ++ items } else transact s1 items

/-- Replace the active content of a DOMAIN entry (R94): the other buffer becomes the active one. -/
def putDomain (s : State) (k : Key) (b : Bytes) : State :=
  { s with mram := { s.mram with store := { s.mram.store with
      domains := tabPut s.mram.store.domains k b
      buffers := tabPut s.mram.store.buffers k (1 - (tabFind s.mram.store.buffers k).getD 0) } } }

/-- The active content of a DOMAIN entry; empty if never written, and while step 6 has loaded defaults. -/
def domain (s : State) (k : Key) : Bytes := if storeDegraded s then [] else (tabFind s.mram.store.domains k).getD []

/-! ### The bookmark copies (R67, R68) -/

/-- Write the bookmark: the backup copy first, then, from the end of step 1 on, the MRAM copy. During a power-fail warning the
MRAM copy waits (R416). Where step 0 found no valid backup copy nothing is written before step 1 has completed, and such a start leaves no trace (R67). -/
def writeBookmark (s : State) (b : Bookmark) : State :=
  let early := s.start.next ≤ 1
  let s0 := { s with start := { s.start with bookmark := b } }
  if early && s.start.useMram then s0
  else
    let s1 := { s0 with backup := { s0.backup with bookmark := some b } }
    if early then s1
    else if s1.power.warning then { s1 with bookmarkDue := true }
    else { s1 with mram := { s1.mram with bookmark := some b } }

/-! ### The update area's quire (R449) -/

/-- The register `sub` of UPDATE (Table 18-13). -/
def kUpdate (sub : Nat) : Key := 0xB000 * 256 + sub
/-- Put the folios. -/
def putFolios (s : State) (f : Folios) : State := { s with mram := { s.mram with folios := f } }
/-- Set `QUIRE_STATE`, which persists. -/
def setQuire (s : State) (st : Nat) : State := setNum (putFolios s { s.mram.folios with quireState := st }) (kUpdate 7) st

/-! ### Sessions, and what ends with them (R82, R97, R111) -/

/-- A session's record. -/
def session (s : State) (sid : Nat) : Session := (tabFind s.server.sessions sid).getD {}
/-- Put a session's record. -/
def putSession (s : State) (sid : Nat) (x : Session) : State :=
  { s with server := { s.server with sessions := tabPut s.server.sessions sid x } }

/-- `PACKAGE` (Table 18-13). -/
abbrev kPackage : Key := 0xB00006

/-- A transfer ends without effect (R97); a package abandoned leaves the quire EMPTY (R449). -/
def dropTransfer (s : State) (t : Transfer) : State :=
  let s1 := { s with server := { s.server with transfers := s.server.transfers.filter fun x => !(x.sid == t.sid && x.handle == t.handle) } }
  if t.key = kPackage ∧ t.write then setQuire (putFolios s1 { s1.mram.folios with quire := [] }) 0 else s1

/-- What a session has open ends with it: its subscriptions, notifications and transfers. -/
def dropOpen (s : State) (sid : Nat) : State :=
  let s1 := (s.server.transfers.filter fun t => t.sid == sid).foldl dropTransfer s
  { s1 with server := { s1.server with
      subs := s1.server.subs.filter fun b => b.sid != sid
      notices := s1.server.notices.filter fun n => n.sid != sid } }

/-- R111: a session ends, and its record goes, with the requests held back. -/
def endSession (s : State) (sid : Nat) : State :=
  let s1 := dropOpen s sid
  { s1 with server := { s1.server with
      sessions := tabDrop s1.server.sessions sid
      held := s1.server.held.filter fun h => h.q.sid != sid } }

/-- Every session of some kind ends. -/
def endSessions (s : State) (p : Nat → Bool) : State := ((tabKeys s.server.sessions).filter p).foldl endSession s

/-! ### Faults (chapter 16) -/

/-- The register `sub` of fault source `src` (Table 16-8). -/
def kFault (src sub : Nat) : Key := (0x7100 + src) * 256 + sub

/-- The coded fault message (Table 16-7). -/
def faultCode (src kind addr : Nat) : Nat := (src % 64) * 2 ^ 26 + (kind % 64) * 2 ^ 20 + addr % 2 ^ 20

/-- The four fixed sources (R413). -/
def isFixed (src : Nat) : Bool := src == 17 || src == 19 || src == 20 || src == 22

/-- The FAULT-class sources whose conditions are one occurrence each (R473). -/
def isOnce (src : Nat) : Bool :=
  [12, 15, 16, 17, 19, 20, 22, 48, 50, 51, 55, 60, 61, 62, 63].contains src

/-- The record of a fault source. -/
def faultSrc (s : State) (src : Nat) : FaultSrc := (tabFind s.faults src).getD {}
/-- Put the record of a fault source. -/
def putFault (s : State) (src : Nat) (f : FaultSrc) : State := { s with faults := tabPut s.faults src f }
/-- What the MRAM keeps of a fault source, with what waits for it in SRAM during a power-fail warning (R416). -/
def faultKept (s : State) (src : Nat) : FaultKept :=
  ((if s.power.warning then tabFind s.keptHeld src else none).or (tabFind s.mram.faults src)).getD {}
/-- Put what the MRAM keeps of a fault source; during a power-fail warning it waits in SRAM (R416). -/
def putKept (s : State) (src : Nat) (f : FaultKept) : State :=
  if s.power.warning then { s with keptHeld := tabPut s.keptHeld src f }
  else { s with mram := { s.mram with faults := tabPut s.mram.faults src f } }

/-- A hexadecimal digit, in capitals. -/
def hexDigit (n : Nat) : Byte := BitVec.ofNat 8 (if n < 10 then 48 + n else 55 + n)
/-- `n` hexadecimal digits of a number. -/
def hexText : Nat → Nat → Bytes
  | 0, _ => []
  | n + 1, x => hexText n (x / 16) ++ [hexDigit (x % 16)]

/-- R121: the console line of a coded fault message, which begins `# F`; the eight digits after it are the model's choice (log entry 47). -/
def faultLine (code : Nat) : Bytes := [0x23, 0x20, 0x46, 0x20, 0x30, 0x78] ++ hexText 8 code

/-- R417: a coded fault message joins the log of the last 256, in MRAM or, during a power-fail warning, held in SRAM, and is echoed on
the console (R65). -/
def logMessage (s : State) (code : Nat) : State :=
  let rec12 := leBytes 4 code ++ leBytes 8 (now64 s)
  let s1 := setVal (bump s kLogCount) kLogLast (.bytes rec12)
  let s2 := if s1.power.warning then { s1 with logHeld := s1.logHeld ++ [rec12] }
    else { s1 with mram := { s1.mram with faultLog := (s1.mram.faultLog ++ [rec12]).drop (s1.mram.faultLog.length + 1 - 256) } }
  emit s2 (.console (faultLine code))

/-- Whether an emergency-lighting test or a loop test runs (R417). -/
def testRunning (s : State) : Bool := nat s 0x70000A == 1 || nat s 0x70000A == 2 || bit s 0x730004 3

/-- The RO registers of an entry return to their defaults. -/
def resetRegs (s : State) (idx : Nat) : State :=
  (s.regs.filter fun p => p.1 / 256 == idx && ((entryOf idx (p.1 % 256)).map (·.acc)) == some .ro).foldl (fun t p => setVal t p.1 (dfltOf p.1)) s

/-- R74: a reset abandons a pending enable: the bits of RESTART_PENDING show the enables that are left. -/
def showPending (s : State) : State :=
  setBit (setBit (setBit (setBit s kRestartPending 0 (s.lanes.list.any fun l => l.2.startAsked)) kRestartPending 1 s.air.startAsked)
    kRestartPending 2 s.meter.startAsked) kRestartPending 3 (s.engines.list.any fun e => e.2.startAsked)

/-- R58, Table 16-10: the named block only is reset. A lane, a DMA channel, a CAN controller, the radio and the metering block stand as before
they were first enabled; an engine that is not stopped loads again (R182), its shutdown and its pending start abandoned (R74); an Ethernet port holds
nothing of the model's. -/
def blockReset (s : State) (src blk : Nat) : State := showPending (
  if src < 8 then resetRegs { s with lanes := { s.lanes with list := tabDrop s.lanes.list src } } (0x3000 + src)
  else if src = 11 ∨ src = 12 then
    let e := (tabFind s.engines.list blk).getD {}
    if nat s (kEngine blk 2) = 0 then s
    else setNum { s with engines := { s.engines with list := tabPut s.engines.list blk { e with active := false, stall := none, startAsked := false } } }
      (kEngine blk 2) 1
  else if src = 13 ∨ src = 52 then resetRegs { s with dma := { s.dma with chans := tabDrop s.dma.chans blk } } (0x8200 + blk)
  else if src = 30 ∨ src = 31 then resetRegs { s with bus := tabDrop s.bus blk } (0x2400 + blk)
  else if src = 35 then
    resetRegs (endSessions { s with air := {} } fun sid => 0x1000 ≤ sid && sid < 0x2000) 0x2600
  else if src = 38 then
    let d : DemandRun := { s.meter.demand with flags := s.meter.demand.flags ||| 2 }
    let m : Meter := { s.meter with offSum := [], offN := 0, raw := [], hp := [], past := [], win := [], lead := 0, crossed := false, cal := none }
    resetRegs { s with meter := { m with startAsked := false, demand := d } } 0x5000
  else s)

/-- The phases of R417 in which every raise is reported as a coded message; a step failure is one throughout a start, a reset pending or not (R65). -/
def codedPhase (s : State) (src : Nat) : Bool :=
  nat s kModuleState == 0 || nat s kModuleState == 2 || (src == 57 && s.start.running) || testRunning s || nat s (kFault src 7) == 2

/-- A module reset is ordered (R58); MODULE_RESET takes it. An order that stands keeps the cause with the lowest value (R59). -/
def orderReset (s : State) (cause detail : Nat) : State :=
  match s.start.ordered with
  | some (c, _) => if cause < c then { s with start := { s.start with ordered := some (cause, detail) } } else s
  | none => { s with start := { s.start with ordered := some (cause, detail) } }

/-- R60: `MODULE_STATE` comes to RESET_PENDING, outside which alone the recorder runs (chapter 19): it holds. -/
def resetPending (s : State) : State := setNum (setNum s kModuleState 3) kRecState 0

/-- A reaction of Table 16-6 runs for a source. -/
def react (s : State) (src blk code : Nat) : State :=
  if code = 1 then emit s (.irq src)
  else if code = 2 then emit s (.nmi src)
  else if code = 3 then blockReset s src blk
  else if code = 4 then
    orderReset (putKept s src { faultKept s src with reset := true }) 3 src
  else s

/-- The raise is counted and its code and time are kept (Table 16-8). -/
def countRaise (s : State) (src code : Nat) : State :=
  setNum (setNum (bump s (kFault src 8)) (kFault src 0xA) code) (kFault src 0xB) (now64 s)

/-- R412, R415, R417: a source is raised with a kind and an address; `blk` numbers the block it concerns. A source whose conditions are one
occurrence is RECOVERING at once. -/
def raise (s : State) (src kind addr : Nat) (blk : Nat := 0) : State :=
  let code := faultCode src kind addr
  let s1 := countRaise s src code
  let s2 := if codedPhase s src then logMessage s1 code else s1
  let s2 := if (faultKept s2 src).reset then putKept s2 src { faultKept s2 src with reset := false } else s2
  let f := { faultSrc s2 src with blk := blk }
  let reaction := nat s2 (kFault src 1)
  if nat s2 (kFault src 6) = 1 then react s2 src blk reaction
  else if nat s2 (kFault src 7) = 0 ∨ nat s2 (kFault src 7) = 2 then
    let timer := (reaction == 1 || reaction == 2) && nat s2 (kFault src 4) != 0
    let s3 := setNum (putFault s2 src { f with standing := !isOnce src, timer := timer }) (kFault src 7)
      (if isOnce src then 2 else 1)
    react s3 src blk reaction
  else putFault s2 src { f with standing := f.standing || !isOnce src }

/-- R412: the raising block reports that the condition of a source has ended. -/
def endCondition (s : State) (src : Nat) : State :=
  let f := faultSrc s src
  if f.standing then
    let s1 := putFault s src { f with standing := false }
    if nat s1 (kFault src 7) = 1 then setNum s1 (kFault src 7) 2 else s1
  else s

/-! ### Text -/

/-- Whether bytes are UTF-8 without NUL: `more` continuation bytes are still due. -/
def utf8Go (more : Nat) : Bytes → Bool
  | [] => more == 0
  | b :: t =>
      let x := b.toNat
      if more = 0 then
        if x = 0 then false
        else if x < 0x80 then utf8Go 0 t
        else if 0xC2 ≤ x ∧ x ≤ 0xDF then utf8Go 1 t
        else if 0xE0 ≤ x ∧ x ≤ 0xEF then
          let y := byteAt t 0
          !(x == 0xE0 && y < 0xA0) && !(x == 0xED && 0xA0 ≤ y) && utf8Go 2 t
        else if 0xF0 ≤ x ∧ x ≤ 0xF4 then
          let y := byteAt t 0
          !(x == 0xF0 && y < 0x90) && !(x == 0xF4 && 0x90 ≤ y) && utf8Go 3 t
        else false
      else 0x80 ≤ x && x < 0xC0 && utf8Go (more - 1) t

/-! ### Answers -/

/-- The transport of a session number (the numbering of `Req`). -/
def transportOf (sid : Nat) : Transport :=
  if sid = 0 then .host else if sid = 1 then .console else if sid < 0x1000 then .engine
  else if sid < 0x2000 then .air else if sid < 0x10000 then .floor else .ethernet

/-- An MDP response message (Table 5-1). -/
def responseMsg (op : Byte) (tid : Half) (status : Byte) (body : Bytes) : Bytes :=
  [3, op ||| 0x80] ++ leBytes 2 tid.toNat ++ [status, 0] ++ leBytes 2 body.length ++ body

/-- A host-port frame (R112). -/
def hostFrame (msg : Bytes) : Bytes :=
  let b := leBytes 2 msg.length ++ msg
  0xA5 :: b ++ leBytes 4 (crc32 b)

/-- R82: a session is closed under its client: its record stays, to reject what the client still sends. -/
def closeSession (s : State) (sid : Nat) : State :=
  let s1 := dropOpen s sid
  putSession s1 sid { session s1 sid with closed := true, role := none, shell := none, nonce := none }

/-! ### The partner table (R372) -/

/-- The partner table (Table 15-8). -/
abbrev kPartners : Key := 0x270001
/-- The record of partner `h`. -/
def partnerRec (s : State) (h : Nat) : Bytes := slice (domain s kPartners) (32 * h) 32

/-! ### Messages out -/

/-- R118: the segments of a message after the first: SEG, data in pieces of 8 bytes, LAST at the end. -/
def floorRest (tag : Nat) : Nat → Nat → Bytes → List Bytes
  | 0, _, _ => []
  | f + 1, seg, b =>
      if b = [] then []
      else ([BitVec.ofNat 8 (seg + if b.length ≤ 8 then 64 else 0), BitVec.ofNat 8 tag] ++ (b ++ List.replicate 8 0).take 8)
        :: floorRest tag f (seg + 1) (b.drop 8)

/-- R118: an MDP message in segments of 10 bytes. -/
def floorSegments (tag : Nat) (msg : Bytes) : List Bytes :=
  ([BitVec.ofNat 8 (128 + if msg.length ≤ 6 then 64 else 0), BitVec.ofNat 8 tag] ++ leBytes 2 msg.length ++ (msg ++ List.replicate 6 0).take 6)
    :: floorRest tag 64 1 (msg.drop 6)

/-- A message leaves towards a session: a frame queued for the host, at most two messages queued for a partner (R120), otherwise sent
at once. -/
def sendTo (s : State) (sid : Nat) (msg : Bytes) : State :=
  match transportOf sid with
  | .host => { s with server := { s.server with hostQueue := s.server.hostQueue ++ [hostFrame msg] } }
  | .air =>
      let x := session s sid
      if x.txQueue.length < 2 then putSession s sid { x with txQueue := x.txQueue ++ [msg] }
      else bump s kFrameErrors
  | .floor =>
      let k := (sid - 0x2000) / 64
      let b := (tabFind s.bus k).getD {}
      let segs := (floorSegments b.nextTag msg).map fun g => ((sid - 0x2000) % 64, g)
      { s with bus := tabPut s.bus k { b with segments := b.segments ++ segs, nextTag := (b.nextTag + 1) % 256 } }
  | _ => emit s (.message sid msg)

/-- Answer a request and keep the response (R108); the request's limit to a role ends with it (R83). -/
def answer (s : State) (sid : Nat) (tid : Half) (op status : Byte) (body : Bytes) : State :=
  let x := session s sid
  let kept := { tid := tid, op := op, status := status, body := body, at_ := s.clk } :: x.kept
  let s1 := putSession s sid { x with kept := kept.take 16, busy := x.busy.filter (fun t => t != tid), usedAt := s.clk, limit := none }
  sendTo s1 sid (responseMsg op tid status body)

end Sys2Proof.Machine
end

