-- ==== Sys2Proof/Machine/Mem.lean ====
section
/-!
DEFINITION. Addressed memory: the DMA address map of Table 11-1 as one canonical list of bytes. System SRAM lies at 0 (8 MiB), cell memory
at 0x10000000 (4 MiB), engine k's local data memory at 0x20000000 + 0x20000 k. A byte that is not listed reads 0.
-/

namespace Sys2Proof.Machine

/-- What an unlisted address reads as: 0, the value the module's own step 4 leaves (log entry 2). -/
def unlisted : Byte := 0

/-- The byte at an address. -/
def memRead (m : List Host.Cell) (a : Nat) : Byte := (tabFind m a).getD unlisted

/-- The listed cells of a block of bytes: those that differ from what an unlisted address reads as. -/
def blockCells : Nat → Bytes → List Host.Cell
  | _, [] => []
  | a, b :: t => if b = unlisted then blockCells (a + 1) t else (a, b) :: blockCells (a + 1) t

/-- The memory with the bytes `b` stored from `a` up to, and not at, `e`. -/
def memSplice (m : List Host.Cell) (a e : Nat) (b : Bytes) : List Host.Cell :=
  m.filter (fun c => c.1 < a) ++ blockCells a b ++ m.filter (fun c => e ≤ c.1)

/-- Store a block of bytes at an address, in canonical form. -/
def memStore (m : List Host.Cell) (a : Nat) (b : Bytes) : List Host.Cell := memSplice m a (a + b.length) b

/-- `n` bytes from an address on. -/
def memBytes (m : List Host.Cell) (a : Nat) : Nat → Bytes
  | 0 => []
  | n + 1 => memRead m a :: memBytes m (a + 1) n

/-- `n` bytes from `a` on of a memory in canonical form with nothing listed below `a`, in one pass, after the bytes `acc` in reverse. -/
def dumpFrom : List Host.Cell → Nat → Nat → Bytes → Bytes
  | _, _, 0, acc => acc.reverse
  | [], a, n + 1, acc => dumpFrom [] (a + 1) n (unlisted :: acc)
  | (x, v) :: t, a, n + 1, acc =>
      if x = a then dumpFrom t (a + 1) n (v :: acc) else dumpFrom ((x, v) :: t) (a + 1) n (unlisted :: acc)

/-- `n` bytes from `a` on of a memory in canonical form. -/
def memDump (m : List Host.Cell) (a n : Nat) : Bytes := dumpFrom (m.filter fun c => a ≤ c.1) a n []

/-- The canonical form: addresses strictly rising, and no entry equal to what an unlisted address reads as. -/
def Memory.wf (m : List Host.Cell) : Bool :=
  m.all (fun c => c.2 != unlisted) && (m.zip m.tail).all (fun p => p.1.1 < p.2.1)

/-- `n` bytes of memory as a number, least significant byte first (R5). -/
def rd (s : State) (a n : Nat) : Nat := leNat (memBytes s.mem a n)

/-- The same as two's complement. -/
def rdSigned (s : State) (a n : Nat) : Int := signed n (rd s a n)

/-- Store bytes in memory. -/
def store (s : State) (a : Nat) (b : Bytes) : State := { s with mem := memStore s.mem a b }

/-- Store `n` bytes of a number. -/
def wr (s : State) (a n x : Nat) : State := store s a (leBytes n x)

/-- The first address of cell memory. -/
abbrev cellBase : Nat := 0x10000000

/-- The first address of engine `k`'s local data memory. -/
abbrev localBase (k : Nat) : Nat := 0x20000000 + 0x20000 * k

/-! ### The layout of cell memory (Table 7-3) -/

/-- The code of cell `c` in a half. -/
def aCode (half : Bool) (c : Nat) : Nat := cellBase + (if half then 0x20000 else 0) + 2 * c
/-- The cell-table record of cell `c`. -/
def aCell (c : Nat) : Nat := cellBase + 0x040000 + 16 * c
/-- The burn accumulator of cell `c`. -/
def aBurn (c : Nat) : Nat := cellBase + 0x140000 + 8 * c
/-- The record of zone `z`. -/
def aZone (z : Nat) : Nat := cellBase + 0x1C0000 + 32 * z
/-- The state of zone `z`. -/
def aZoneState (z : Nat) : Nat := cellBase + 0x240000 + 32 * z
/-- The layer targets of zone `z`: layers 0, 3 and 4 in that order. -/
def aLayer (z layer : Nat) : Nat :=
  cellBase + 0x2C0000 + 48 * z + (if layer = 0 then 0 else if layer = 3 then 16 else 32)
/-- The model of primary type `t`. -/
def aModel (t : Nat) : Nat := cellBase + 0x380000 + 64 * t
/-- The locus table. -/
def aLocus : Nat := cellBase + 0x380400
/-- `EXP2_FRAC`. -/
def aExp2 : Nat := cellBase + 0x380C00
/-- The trip mask. -/
def aTrip : Nat := cellBase + 0x380E00
/-- The settings. -/
def aSettings : Nat := cellBase + 0x380E40
/-- The cell fault bitmap. -/
def aFaultMap : Nat := cellBase + 0x381000
/-- The state of luminaire `l`. -/
def aLum (l : Nat) : Nat := cellBase + 0x383000 + 64 * l
/-- The state of area `a` in a half. -/
def aArea (half : Bool) (a : Nat) : Nat := cellBase + 0x385000 + (if half then 0x2000 else 0) + 8 * a
/-- The area-table record of area `a`. -/
def aAreaRec (a : Nat) : Nat := cellBase + 0x389000 + 16 * a

end Sys2Proof.Machine
end

