-- ==== Sys2Proof/Machine/Colour.lean ====
section
/-!
DEFINITION. The arithmetic of the colour pipeline (chapter 06), stage by stage and without the state: conversions (R138, R139), lightness
(R140), derating (R143), the temperature model (R145), depreciation and burn (R147, R148), the solve (R150 to R152) and the
codes (R153, R154).
-/

namespace Sys2Proof.Machine.Colour

open Sys2Proof Sys2Proof.Machine

/-- R125: x / 2ⁿ rounded to nearest, ties away from zero. -/
def rnd (x : Int) (n : Nat) : Int :=
  let h : Int := ((2 ^ n / 2 : Nat) : Int)
  if 0 ≤ x then (x + h) / ((2 ^ n : Nat) : Int) else -((-x + h) / ((2 ^ n : Nat) : Int))

/-- R125: an arithmetic right shift, towards minus infinity. -/
def asr (x : Int) (n : Nat) : Int := x / ((2 ^ n : Nat) : Int)

/-- R125: clamp to 0 to 65,535. -/
def sat16 (x : Int) : Int := clampInt 0 65535 x

/-- R138: (x, y) to (u', v'). -/
def toUv (x y : Int) : Int × Int :=
  let den := -2 * x + 12 * y + 196608
  ((4 * x * 65536 + den / 2) / den, (9 * y * 65536 + den / 2) / den)

/-! ### Tables -/

/-- The largest `n` in `[lo, hi)` with `p n`, by `f` halvings, where `p lo` holds. -/
def bisect (p : Nat → Bool) : Nat → Nat → Nat → Nat
  | 0, lo, _ => lo
  | f + 1, lo, hi =>
      if hi ≤ lo + 1 then lo
      else
        let mid := (lo + hi) / 2
        if p mid then bisect p f mid hi else bisect p f lo mid

/-- `EXP2_FRAC[g]` = 32,768 × 2^(−g/256), rounded to nearest (R147): the largest n with n − 1/2 at or below that value. -/
def exp2Frac (g : Nat) : Nat := bisect (fun n => (2 * n - 1) ^ 256 * 2 ^ g ≤ 2 ^ 4096) 17 1 32769

/-- Krystek's rational approximation of the Planckian locus in (u, v), as numerator and denominator coefficients of 1, T, T², in
units of 10⁻¹⁷ (R139 names it; the coefficients are the published ones: PRESUMED, log entry 20). -/
def krystekU : (Int × Int × Int) × (Int × Int × Int) :=
  ((86011775700000000, 15411825400000, 12864121200), (100000000000000000, 84242023500000, 70814516300))
/-- The same for v. -/
def krystekV : (Int × Int × Int) × (Int × Int × Int) :=
  ((31739872600000000, 4228062450000, 4204816910), (100000000000000000, -2897418160000, 16145605300))

/-- A quadratic in mired: c₀ m² + c₁ 10⁶ m + c₂ 10¹², with its derivative. -/
def quad (c : Int × Int × Int) (m : Int) : Int × Int :=
  (c.1 * m * m + c.2.1 * 1000000 * m + c.2.2 * 1000000000000, 2 * c.1 * m + c.2.1 * 1000000)

/-- Value and derivative (by mired) of a Krystek quotient. -/
def krystek (q : (Int × Int × Int) × (Int × Int × Int)) (m : Int) : Rat × Rat :=
  let n := quad q.1 m
  let d := quad q.2 m
  ((n.1 : Rat) / d.1, ((n.2 * d.1 - n.1 * d.2 : Int) : Rat) / (d.1 * d.1 : Int))

/-- The square root of a non-negative rational, rounded to nearest. -/
def sqrtRound (q : Rat) : Int := ((isqrt (4 * q.num.toNat / q.den) + 1) / 2 : Nat)

/-- Entry `i` of the locus table (R139): u', v' in Q0.16 and the normal per unit Duv in Q2.14. -/
def locus (i : Nat) : Int × Int × Int × Int :=
  let m : Int := 64 + 4 * i
  let u := krystek krystekU m
  let v := krystek krystekV m
  let norm2 := u.2 * u.2 + v.2 * v.2
  let nu := sqrtRound (v.2 * v.2 / norm2 * (16384 * 16384 : Int))
  let nv := sqrtRound (u.2 * u.2 / norm2 * (24576 * 24576 : Int))
  (quantize 0 65535 65536 u.1, quantize 0 65535 65536 (v.1 * (3 / 2)),
    (if (u.2 * v.2) < 0 then nu else -nu), nv)

/-- The locus table as bytes (0x4800.08): u' u16, v' u16, nu' i16, nv' i16 for each entry. -/
def locusTable : Bytes :=
  (List.range 256).flatMap (fun i =>
    let e := locus i
    leBytes 2 e.1.toNat ++ leBytes 2 e.2.1.toNat ++ leBytes 2 (e.2.2.1 % 65536).toNat ++ leBytes 2 (e.2.2.2 % 65536).toNat)

/-- `EXP2_FRAC` as bytes (0x4800.09). -/
def exp2Table : Bytes := (List.range 256).flatMap (fun g => leBytes 2 (exp2Frac g))

/-- R139: a CCT target to (u', v'), over two neighbouring entries of a locus table. -/
def cctToUv (tab : Nat → Int × Int × Int × Int) (cct : Nat) (duv : Int) : Int × Int :=
  let m := (16000000 + cct / 2) / cct
  let i := (m - 1024) / 64
  let f : Int := ((m - 1024) % 64 : Nat)
  let e := tab i
  let e' := tab (i + 1)
  let lerp (a b : Int) : Int := a + rnd ((b - a) * f) 6
  (sat16 (lerp e.1 e'.1 + rnd (duv * lerp e.2.2.1 e'.2.2.1) 14),
   sat16 (lerp e.2.1 e'.2.1 + rnd (duv * lerp e.2.2.2 e'.2.2.2) 14))

/-! ### Lightness (R140) -/

/-- R140: flux fraction from lightness. -/
def invLight (l : Int) : Int :=
  if l < 5243 then (l * 1350) / 24389
  else
    let s := ((100 * l + 1048576) * 16777216) / 7602176
    let s2 := asr (s * s) 24
    asr (s2 * s) 33

/-- R140: the largest lightness whose flux is at most `y`. -/
def light (y : Int) : Int := ((bisect (fun l => invLight l ≤ y) 17 0 65536 : Nat) : Int)

/-- R141: the part of the way at tick `k` of a fade of `n` ticks, in Q0.16. -/
def fadePart (k n : Nat) : Int := ((k * 65536 / n : Nat) : Int)

/-- R141: a value on its way. -/
def fadeTo (a b p : Int) : Int := a + rnd ((b - a) * p) 16

/-- R141: the number of ticks of a fade. -/
def fadeTicks (fade rate : Nat) : Nat := (fade * rate + 99) / 100

/-! ### Derating and temperature (R143 to R146) -/

/-- R143: the derating factor h. -/
def derate (start end_ min_ tmax : Int) : Int :=
  if tmax ≤ start then 0x8000
  else if end_ ≤ tmax then min_
  else 0x8000 - ((0x8000 - min_) * (tmax - start)) / (end_ - start)

/-- R144: the mean of the valid reports, ties away from zero. -/
def meanTemp (ts : List Int) : Int :=
  let sum := ts.foldl (· + ·) 0
  let n : Int := ts.length
  if 0 ≤ sum then (2 * sum + n) / (2 * n) else -((-2 * sum + n) / (2 * n))

/-- A primary model (Table 6-9) as numbers. -/
structure Model where
  phiNom : Nat
  pFull : Nat
  rth : Nat
  a1 : Int
  a2 : Int
  bx1 : Int
  bx2 : Int
  by1 : Int
  by2 : Int
  depHalf : Nat
  depTref : Int
  depTdbl : Nat
deriving DecidableEq, Repr

/-- A primary model from its 64 bytes. -/
def modelOf (b : Bytes) : Model :=
  { phiNom := fieldAt b 0 4, pFull := fieldAt b 4 2, rth := fieldAt b 6 2
    a1 := signed 4 (fieldAt b 8 4), a2 := signed 4 (fieldAt b 12 4)
    bx1 := signed 4 (fieldAt b 16 4), bx2 := signed 4 (fieldAt b 20 4)
    by1 := signed 4 (fieldAt b 24 4), by2 := signed 4 (fieldAt b 28 4)
    depHalf := fieldAt b 32 4, depTref := signed 2 (fieldAt b 36 2), depTdbl := fieldAt b 38 2 }

/-- What stage 6 gives for one luminaire and type (R145): Tj, f_T, dx, dy. -/
structure Thermal where
  tj : Int
  ft : Int
  dx : Int
  dy : Int
deriving DecidableEq, Repr

/-- R145: junction temperature and the model terms from the board temperature and the mean code. -/
def thermal (m : Model) (tb : Int) (c : Nat) : Thermal :=
  let p : Int := ((m.pFull * c / 65536 : Nat) : Int)
  let tj := clampInt (-32768) 32767 (tb + ((m.rth : Int) * p + 500) / 1000)
  let d := tj - 6400
  { tj := tj
    ft := sat16 (32768 + rnd (m.a1 * d) 23 + rnd (m.a2 * d * d) 41)
    dx := rnd (m.bx1 * d) 22 + rnd (m.bx2 * d * d) 40
    dy := rnd (m.by1 * d) 22 + rnd (m.by2 * d * d) 40 }

/-- What stage 7 gives for one cell (R146), with whether the slot is usable (R149). -/
structure CellVal where
  usable : Bool := false
  u : Int := 0
  v : Int := 0
  f1 : Nat := 0
  f : Nat := 0
  cap : Nat := 0
  r : Nat := 0
deriving DecidableEq, Repr

/-- R146, R149: a cell from its calibration fields, its type's model and terms, its depreciation and whether the fault map faults it. -/
def cellVal (x0 y0 relFlux flags limit dep : Nat) (m : Model) (t : Thermal) (faulty : Bool) : CellVal :=
  let uv := toUv (sat16 (x0 + t.dx)) (sat16 (y0 + t.dy))
  let f1 := m.phiNom * relFlux / 16384
  let f2 := f1 * t.ft.toNat / 32768
  let f := min (2 ^ 32 - 1) (f2 * dep / 32768)
  let cap := limit * 257
  { usable := flags.testBit 0 && !flags.testBit 1 && !faulty && 1 ≤ f && 1 ≤ uv.2 && limit != 0
    u := uv.1, v := uv.2, f1 := f1, f := f, cap := cap, r := f * cap / 65535 }

/-! ### Depreciation and burn (R147, R148) -/

/-- R147: the depreciation factor before its floor. -/
def depFactor (h16 depHalf : Nat) : Nat :=
  let e := h16 * 16 / depHalf
  if e / 256 ≥ 16 then 0 else exp2Frac (e % 256) / 2 ^ (e / 256)

/-- Shift left by a signed amount. -/
def shiftBy (x : Nat) (n : Int) : Nat := if 0 ≤ n then x * 2 ^ n.toNat else x / 2 ^ (-n).toNat

/-- R148: the burn weight in Q1.15. -/
def burnWeight (m : Model) (tj : Int) : Nat :=
  let k := clampInt (-4096) 2048 ((tj - m.depTref) * 256 / (m.depTdbl : Int))
  let n := k / 256
  let f := (k % 256).toNat
  if f = 0 then shiftBy 32768 n else shiftBy (exp2Frac (256 - f)) (n + 1)

/-- R148: H16 of an accumulator. -/
def burnHours16 (acc rate : Nat) : Nat := acc * 16 / (65535 * rate * 3600)

/-! ### The solve (R150 to R152) -/

/-- R150: barycentric coordinates of a target in a triple; none if infeasible. -/
def bary (a b c : CellVal) (ut vt : Int) : Option (Int × Int × Int) :=
  let d := (b.u - a.u) * (c.v - a.v) - (c.u - a.u) * (b.v - a.v)
  let n1 := (ut - a.u) * (c.v - a.v) - (c.u - a.u) * (vt - a.v)
  let n2 := (b.u - a.u) * (vt - a.v) - (ut - a.u) * (b.v - a.v)
  if d = 0 then none
  else
    let e : Int × Int × Int := if d < 0 then (-d, -n1, -n2) else (d, n1, n2)
    let n0 := e.1 - e.2.1 - e.2.2
    if n0 < 0 ∨ e.2.1 < 0 ∨ e.2.2 < 0 then none
    else
      let b1 := e.2.1 * 65536 / e.1
      let b2 := e.2.2 * 65536 / e.1
      some (65536 - b1 - b2, b1, b2)

/-- The triples of slot numbers a < b < c of a list in order, lexicographically. -/
def triples : List Nat → List (Nat × Nat × Nat)
  | [] => []
  | a :: t => ((t.flatMap fun b => (t.filter (b < ·)).map fun c => (a, b, c))) ++ triples t

/-- The usable slots of a zone. -/
def usableSlots (cs : List CellVal) : List Nat :=
  (List.range cs.length).filter (fun k => (cs.getD k {}).usable)

/-- The shares of one feasible triple, for slots 0 to 4. -/
def tripleShares (cs : List CellVal) (t : Nat × Nat × Nat) (w : Int × Int × Int) : List Int :=
  let va := (cs.getD t.1 {}).v
  let vb := (cs.getD t.2.1 {}).v
  let vc := (cs.getD t.2.2 {}).v
  let tot := w.1 * va + w.2.1 * vb + w.2.2 * vc
  (List.range 5).map fun k =>
    if k = t.1 then w.1 * va * 4294967296 / tot
    else if k = t.2.1 then w.2.1 * vb * 4294967296 / tot
    else if k = t.2.2 then w.2.2 * vc * 4294967296 / tot
    else 0

/-- R150: the shares of a zone at a chromaticity, and how many triples are feasible; `blend` averages them all. -/
def shares (cs : List CellVal) (blend : Bool) (ut vt : Int) : Nat × List Int :=
  let feas := (triples (usableSlots cs)).filterMap fun t =>
    (bary (cs.getD t.1 {}) (cs.getD t.2.1 {}) (cs.getD t.2.2 {}) ut vt).map (tripleShares cs t)
  let used := if blend then feas else feas.take 1
  let sum := used.foldl (fun q p => (List.range 5).map fun k => q.getD k 0 + p.getD k 0) [0, 0, 0, 0, 0]
  (used.length, if 1 < used.length then sum.map (· / (used.length : Int)) else sum)

/-- R151: a target at t of the way (Q0.16) from the white point. -/
def toward (wu wv ut vt : Int) (t : Nat) : Int × Int := (wu + asr ((ut - wu) * t) 16, wv + asr ((vt - wv) * t) 16)

/-- The outcome of the solve: shares, and the marks DEGRADED, SOLVE_FAIL, GAMUT_CLIPPED. -/
structure Solved where
  q : List Int
  degraded : Bool := false
  failed : Bool := false
  clipped : Bool := false
deriving DecidableEq, Repr

/-- R150 to R152: the solve of a colour target; `mode` is 0 FIXED, 1 PRIORITY, 2 BLEND. -/
def solve (cs : List CellVal) (mode : Nat) (wu wv ut vt : Int) : Solved :=
  let us := usableSlots cs
  if mode = 0 ∨ us.length < 3 then
    { q := (List.range 5).map fun k => if us.contains k then 4294967296 / (us.length : Int) else 0
      degraded := mode != 0 }
  else
    let sh := shares cs (mode == 2)
    if 0 < (sh ut vt).1 then { q := (sh ut vt).2 }
    else if (sh wu wv).1 = 0 then { q := [0, 0, 0, 0, 0], failed := true }
    else
      let p := fun t => let w := toward wu wv ut vt t; 0 < (sh w.1 w.2).1
      let t := bisect p 17 0 65536
      let w := toward wu wv ut vt t
      { q := (sh w.1 w.2).2, clipped := true }

/-- R153: the codes of a colour target, and FLUX_CLIPPED. -/
def colourCodes (cs : List CellVal) (q : List Int) (fluxRef : Nat) (y : Int) : List Nat × Bool :=
  let qs := (List.range cs.length).map fun k => (q.getD k 0).toNat
  let yt := fluxRef * y.toNat / 32768
  let lims := (List.zip cs qs).filterMap fun p => if 0 < p.2 then some (p.1.r * 4294967296 / p.2) else none
  let clip := lims.any (· < yt)
  let y' := lims.foldl min yt
  ((List.zip cs qs).map fun p =>
    if p.1.usable then min p.1.cap ((y' * p.2 / 4294967296 * 65535 + p.1.f / 2) / p.1.f) else 0, clip)

/-- R154: the codes of a DIRECT target, and FLUX_CLIPPED. -/
def directCodes (cs : List CellVal) (fr : List Int) : List Nat × Bool :=
  let want := (List.range cs.length).map fun k => (cs.getD k {}).f1 * (fr.getD k 0).toNat / 32768
  let cells := List.zip cs want
  (cells.map fun p =>
    if p.1.usable then min p.1.cap ((min p.2 p.1.r * 65535 + p.1.f / 2) / p.1.f) else 0,
   cells.any fun p => p.1.usable && p.1.r < p.2)

end Sys2Proof.Machine.Colour
end

