-- ==== Sys2Proof/Machine/Time.lean ====
section
/-!
DEFINITION. Time bases, the servo, PTP, the field timing generator, comparators and captures (R314 to R329), the calendar clock and its alarms
(R330 to R340), and the passing of time.
-/

namespace Sys2Proof.Machine

/-- The register `sub` of RTC (Table 13-11). -/
def kRtc (sub : Nat) : Key := 0x6100 * 256 + sub
/-- The register `sub` of alarm `a` (Table 13-12). -/
def kAlarm (a sub : Nat) : Key := (0x6110 + a) * 256 + sub
/-- The register `sub` of comparator `c` (Table 13-10). -/
def kTo (c sub : Nat) : Key := (0x6300 + c) * 256 + sub

/-! ### Base values -/

/-- NS and EPOCH of the field time base. -/
def fieldStamp (s : State) : Nat × Nat := (fieldNs s % 2 ^ 32, fieldNs s / 2 ^ 32)

/-- R26: the tick rate in force. -/
def tickRate (s : State) : Nat := s.time.tickRate
/-- R26: the field rate in force. -/
def fieldRate (s : State) : Nat := s.time.fieldRate
/-- Fields per tick (Table 1-3). -/
def fieldsPerTick (s : State) : Nat := fieldRate s / tickRate s
/-- The field period in ns. -/
def fieldPeriod (s : State) : Nat := 1000000000 / fieldRate s
/-- The fence deadline of the tick that starts now: its start plus the tick period less 0.5 ms (R175), as NS. -/
def deadlineNs (s : State) : Nat := (fieldNs s + 1000000000 / tickRate s - 500000) % 2 ^ 32

/-- Local time in ns since 2000-01-01 by the field base, for schedules (R132); a change of offset counts from the field base's own instant (R334). -/
def localNs (s : State) : Nat :=
  let off := match s.time.heldOffset with
    | some x => if now64 s < x.1 then x.2 else num s (kRtc 7)
    | none => if num s (kRtc 9) ≠ 0 ∧ num s (kRtc 9) ≤ (now64 s : Int) then num s (kRtc 8) else num s (kRtc 7)
  (((now64 s * 1000000000 / 65536 : Nat) : Int) + off * 60000000000).toNat

/-! ### The passing of time -/

/-- `n` TIME cycles on a time base (R314): 8 ns × (1 + FREQ_ADJ × 10⁻¹²) each, without rounding. -/
def Base.count (b : Base) (adj : Int) (n : Nat) : Base :=
  { b with t := (((b.t : Int) + n * (8 * tUnit + 8 * adj)) % tWrap).toNat }

/-- `n` TIME cycles on the calendar clock (R330): two units per period of 32.768 kHz, corrected by the trim. -/
def Rtc.count (r : Rtc) (trim : Int) (n : Nat) : Rtc :=
  if r.still then r
  else
    let a := r.acc + n * (524288 * (10000000 + trim)).toNat
    { r with ticks := (r.ticks + a / 10 ^ 16) % 2 ^ 64, acc := a % 10 ^ 16 }

/-- `n` TIME cycles pass. -/
def elapse (s : State) (n : Nat) : State :=
  { s with
    clk := s.clk + n
    time := { s.time with bases := s.time.bases.map fun p => (p.1, p.2.count (num s (kTb p.1 3)) n) }
    backup := { s.backup with rtc := s.backup.rtc.count (num s (kRtc 3)) n } }

/-- The cycles until time base `n` reaches T = `target` ns; 0 if it has. -/
def cyclesTo (s : State) (n target : Nat) : Nat :=
  let left := target * tUnit - (base s n).t
  let rate := (8 * (tUnit : Int) + 8 * num s (kTb n 3)).toNat
  (left + rate - 1) / rate

/-- The cycles until the calendar clock reaches `target` units. -/
def rtcCyclesTo (s : State) (target : Nat) : Nat :=
  let left := (target - s.backup.rtc.ticks) * 10 ^ 16 - s.backup.rtc.acc
  let rate := (524288 * (10000000 + num s (kRtc 3))).toNat
  if s.backup.rtc.ticks < target ∧ rate ≠ 0 then (left + rate - 1) / rate else 0

/-! ### Captures (R329) -/

/-- A capture source latches the four time bases; `keep` is false for an edge that only counts. -/
def capture (s : State) (src : Nat) (keep : Bool := true) : State :=
  let k : Key := 0x6320 * 256 + src
  let old := (reg s k).toBytes
  let n := (leNat (old.take 4) + 1) % 2 ^ 32
  setVal s k (.bytes (leBytes 4 n ++ (if keep then [0, 0, 0, 0] ++ (List.range 4).flatMap fun i => leBytes 8 (tbNs s i) else old.drop 4)))

/-- PPS_IN_CAPTURE (R329). -/
def execPpsInCapture (s : State) : Host.Outcome State Fault Refusal :=
  let near := match s.time.ppsEdge with
    | some e => s.clk < e + msec 100
    | none => false
  .next { capture s 1 (!near) with time := { s.time with ppsEdge := some s.clk } }

/-! ### The field timing generator (R323, R324) -/

/-- The generator's phase error e in units of 2⁻¹⁶ ns, and D of R324. -/
def phase (s : State) : Int × Int :=
  let p := (fieldPeriod s : Int) * 65536
  let d := (s.time.off + p / 2).fdiv p
  (s.time.off - d * p, d)

/-- One field of the generator: it lasts P (1 + r), r = −e / 0.1 s within ±10 ppm (R323). -/
def Timing.slew (p : Int) (t : Timing) : Timing :=
  let e := t.off - ((t.off + p / 2).fdiv p) * p
  let r := roundRat (mkRat (p * clampInt (-655360000) 655360000 (-e * 10)) (65536 * 1000000000))
  let good := if e.natAbs ≤ 100 * 65536 then t.good + 1 else 0
  { t with
    off := t.off + r
    good := good
    aligned := if e.natAbs > 200 * 65536 then false else t.aligned || good ≥ 16 }

/-- FIELD_ERROR and FIELD_STATE follow the generator; a phase error above 200 ns is SLEWING at once. -/
def showField (s : State) : State :=
  let e := (phase s).1
  let s1 := if e.natAbs > 200 * 65536 then { s with time := { s.time with aligned := false, good := 0 } } else s
  setNum (setNum s1 (kFt 3) (roundDiv e 65536)) (kFt 4)
    (if !s1.time.aligned then 1 else if (phase s1).2 ≠ 0 then 2 else 0)

/-- Whether a renumbering waits for the next tick start (R324). -/
def renumberPending (s : State) : Bool := nat s (kFt 4) == 2

/-- The number by which field `k` is named: R324's new number while a renumbering waits, if it is at or after the next tick start. -/
def namedField (s : State) (k : Nat) : Nat :=
  if renumberPending s ∧ s.time.nextField ≤ k then ((k : Int) + (phase s).2).toNat else k

/-- The generator starts with the numbers of R24 and R25: the next tick start of the field base is its next one. -/
def startGenerator (s : State) : State :=
  let per := 1000000000 / nat s 0x320002
  let j := (fieldNs s + per - 1) / per
  let t := { s.time with fieldRate := nat s 0x320001, tickRate := nat s 0x320002, off := 0, good := 0, aligned := false, longEnd := none }
  let f := j * (t.fieldRate / t.tickRate)
  { s with time := { t with field := f, nextField := f, nextTick := j } }

/-- The generator at a tick start: a renumbering takes effect, the tick is numbered, and the fields until the next tick start are slewed. The new
numbers reach the lanes by the difference answered beside the state. -/
def generatorTick (s : State) : State × Int :=
  let f := fieldsPerTick s
  let p := (fieldPeriod s : Int) * 65536
  let pend := renumberPending s
  let d := if pend then (phase s).2 else 0
  let start := ((s.time.nextField : Int) + d).toNat
  let tick := if pend then start / f else s.time.nextTick
  let stop := if pend then (start + 2 * f - 1) / f * f else start + f
  let t := { s.time with
    off := if pend then (phase s).1 else s.time.off
    field := start
    nextField := stop
    nextTick := tick + 1
    longEnd := if pend then some stop else none }
  let s1 := { s with time := iter (Timing.slew p) (stop - start) t, engines := { s.engines with tick := tick % 2 ^ 32 } }
  (showField (if pend then bump s1 (kFt 7) else s1), d)

/-! ### Steps and the choice of the field base (R319, R322) -/

/-- The next multiple of `p` after `t`. -/
def nextMultiple (t p : Nat) : Nat := (t / p + 1) * p

/-- Which base drives PPS_OUT; none when off (Table 13-8). -/
def ppsBase (s : State) : Option Nat :=
  let v := nat s (kFt 8)
  if v = 4 then some (fieldBase s) else if v < 4 then some v else none

/-- Modes of comparators 0 and 1 of every base as they read (Table 13-10). The base that comes to drive PPS_OUT fires at its next whole second
(R328). -/
def showPps (s : State) : State :=
  (List.range 4).foldl (fun t n =>
    let t1 := if ppsBase t = some n ∧ nat t (kTo (4 * n + 1) 1) = 0 then setNum t (kTo (4 * n + 1) 2) (nextMultiple (tbNs t n) 1000000000) else t
    setNum (setNum t1 (kTo (4 * n) 1) 3) (kTo (4 * n + 1) 1) (if ppsBase t = some n then 2 else 0)) s

/-- A comparator's period: P for the field generator's, one second for PPS_OUT's, its own otherwise. -/
def toPeriod (s : State) (c : Nat) : Nat :=
  if c % 4 = 0 then fieldPeriod s else if c % 4 = 1 then 1000000000 else nat s (kTo c 3)

/-- Whether a comparator is armed, and whether it is periodic. -/
def toArmed (s : State) (c : Nat) : Bool := nat s (kTo c 1) != 0
/-- See `toArmed`. -/
def toPeriodic (s : State) (c : Nat) : Bool := nat s (kTo c 1) ≥ 2

/-- One firing of a comparator (R326): status bits, count, the target's advance or the end. -/
def fireComparator (s : State) (c status target : Nat) : State :=
  let s1 := setNum (bump s (kTo c 5)) (kTo c 4) status
  if toPeriodic s c then setNum s1 (kTo c 2) target else setNum s1 (kTo c 1) 0

/-- R327: a forward step of the base of comparator `c` to T = `now`. -/
def stepComparator (s : State) (old now c : Nat) : State :=
  let tgt := nat s (kTo c 2)
  if toArmed s c ∧ old < tgt ∧ tgt ≤ now then
    if toPeriodic s c then
      let p := toPeriod s c
      let passed := (now - tgt) / p + 1
      bumpBy (fireComparator s c 2 (tgt + passed * p)) (kTo c 6) (passed - 1 : Nat)
    else fireComparator s c 2 tgt
  else s

/-- A step of the field time base (R319). -/
def noteFieldStep (s : State) : State :=
  let s1 := bump s (kFt 6)
  { s1 with time := { s1.time with stepped := true }, recorder := { s1.recorder with stepped := true } }

/-- The field base's T moves by `d` ns against the generator (R323). -/
def moveGenerator (s : State) (d : Int) : State :=
  showField { s with time := { s.time with off := s.time.off + d * 65536 } }

/-- R319: a step of time base `n` to T = `tn` ns. -/
def stepBase (s : State) (n tn : Nat) : State :=
  let old := tbNs s n
  let s1 := bump (putBase s n { base s n with t := tn % 2 ^ 64 * tUnit }) (kTb n 0xB)
  let s2 := [4 * n, 4 * n + 1, 4 * n + 2, 4 * n + 3].foldl (fun t c => stepComparator t old tn c) s1
  if fieldBase s = n then moveGenerator (noteFieldStep s2) ((tn : Int) - old) else s2

/-- A change of field base (R322); a difference of 1 µs or more is a step of the field time base (R319). -/
def setFieldBase (s : State) (n : Nat) : State :=
  if fieldBase s = n then s
  else
    let d := (tbNs s n : Int) - tbNs s (fieldBase s)
    let s1 := setNum s (kFt 2) n
    showPps (moveGenerator (if 1000 ≤ d.natAbs then noteFieldStep s1 else s1) d)

/-- Table 13-7: the field base that `FIELD_SOURCE` calls for now. -/
def wantedBase (s : State) : Nat :=
  let src := nat s (kFt 1)
  let cur := fieldBase s
  let l0 := tbState s 0 == 2
  let l1 := tbState s 1 == 2
  if src = 1 then (if (base s 0).ever then 0 else 3)
  else if src = 2 then (if (base s 2).ever then 2 else 3)
  else if src = 3 then 3
  else if !(base s 0).ever && !(base s 1).ever then 3
  else if l0 && !(cur == 1 && l1) then 0
  else if l1 then 1
  else cur

/-- The field base follows its source (R322). -/
def chooseBase (s : State) : State := setFieldBase s (wantedBase s)

/-- FIELD_BASE_RETURN (R322): TB0 has been LOCKED for RETURN_DELAY. -/
def execFieldBaseReturn (s : State) : Host.Outcome State Fault Refusal :=
  .next (if nat s (kFt 1) = 0 ∧ fieldBase s = 1 ∧ tbState s 0 = 2 then setFieldBase s 0 else s)

/-! ### The servo (R317, R318) -/

/-- A base enters a state of Table 13-2. -/
def setTbState (s : State) (n st : Nat) : State :=
  let b := base s n
  let s1 := setNum (putBase s n { b with good := 0, bad := 0, ever := b.ever || st == 2 }) (kTb n 2) st
  let s2 := if st = 2 ∧ n < 2 then
      endCondition { s1 with time := { s1.time with ptp := tabPut s1.time.ptp n { (tabFind s1.time.ptp n).getD {} with locked := true } } } (28 + n)
    else s1
  chooseBase s2

/-- Table 13-4 after an update that has not stepped. -/
def servoState (s : State) (n : Nat) (theta : Int) : State :=
  let b := base s n
  let st := tbState s n
  let lock := nat s (kTb n 8)
  let good := if theta.natAbs ≤ lock then b.good + 1 else 0
  let bad := if theta.natAbs > 10 * lock then b.bad + 1 else 0
  if st = 0 ∨ st = 3 then setTbState s n 1
  else if st = 1 ∧ 16 ≤ good then setTbState s n 2
  else if st = 2 ∧ 4 ≤ bad then setTbState s n 1
  else putBase s n { b with good := good, bad := bad }

/-- One servo update of TB0, TB1 or TB2 with offset θ in ns, for the instant `at_` (R317). -/
def servoUpdateAt (s : State) (n : Nat) (theta : Int) (now : Nat) : State :=
  let b := base s n
  let st := tbState s n
  let th := nat s (kTb n 7)
  let cyc := match b.lastAt with
    | some at_ => min (now - at_) (secs 4)
    | none => secs 4
  let dt : Rat := mkRat (max cyc 1 : Nat) 125000000
  let s0 := setNum (putBase s n { b with lastAt := some now }) (kTb n 4) (clampInt (-2147483648) 2147483647 theta)
  if (st = 1 ∨ st = 2) ∧ th ≠ 0 ∧ theta.natAbs > th then
    let s1 := stepBase s0 n ((tbNs s n : Int) - theta).toNat
    setTbState (putBase s1 n { base s1 n with integ := 0 }) n 1
  else
    let lim : Rat := (nat s (kTb n 9) : Nat)
    let cl := fun (x : Rat) => if x < -lim then -lim else if lim < x then lim else x
    let perS : Rat := (theta : Rat) / dt
    let integ := cl (b.integ + mkRat (num s (kTb n 6)) 65536 * perS)
    let adj := -roundRat (1000 * cl (mkRat (num s (kTb n 5)) 65536 * perS + integ))
    let s1 := setNum s0 (kTb n 3) adj
    servoState (putBase s1 n { base s1 n with integ := integ, hist := (base s1 n).hist.drop ((base s1 n).hist.length - 15) ++ [adj] }) n theta

/-- One servo update now. -/
def servoUpdate (s : State) (n : Nat) (theta : Int) : State := servoUpdateAt s n theta s.clk

/-- Table 13-4: a base loses its input. -/
def inputLost (s : State) (n : Nat) : State :=
  let st := tbState s n
  let h := (base s n).hist
  if st = 1 then setTbState s n 0
  else if st = 2 then
    setTbState (if h = [] then s else setNum s (kTb n 3) (roundRat (mkRat (h.foldl (· + ·) 0) h.length))) n 3
  else s

/-- HOLDOVER_EXPIRY (R318). -/
def execHoldoverExpiry (n : Fin 3) (s : State) : Host.Outcome State Fault Refusal :=
  .next (if tbState s n = 3 then setTbState s n 0 else s)

/-! ### PTP (R320, R321) -/

/-- PTP instance `i`. -/
def ptp (s : State) (i : Nat) : Ptp := (tabFind s.time.ptp i).getD {}
/-- Put PTP instance `i`. -/
def putPtp (s : State) (i : Nat) (p : Ptp) : State := { s with time := { s.time with ptp := tabPut s.time.ptp i p } }

/-- What the default BMCA orders masters by, lowest first (R320): the grandmaster's attributes and identity, then the steps removed and the identity of
the port that sent the Announce; of two ports that hear one sender's port, the first is taken. -/
def announceRank (a : Announce) : List Nat :=
  [a.prio1.toNat, a.cls.toNat, a.accuracy.toNat, a.variance.toNat, a.prio2.toNat, a.gm.toNat, a.steps.toNat, a.sender.toNat, a.senderPort.toNat]

/-- Lexicographic order of ranks. -/
def rankLe : List Nat → List Nat → Bool
  | [], _ => true
  | _, [] => false
  | x :: xs, y :: ys => x < y || (x == y && rankLe xs ys)

/-- The port that hears the best master, and that master. -/
def bestMaster (t : Tab Announce) : Option (Nat × Announce) :=
  t.foldl (fun b p => match b with
    | none => some p
    | some q => if rankLe (announceRank q.2) (announceRank p.2) then some q else some p) none

/-- The master in use shows in Table 13-6; a valid UTC offset is written into TAI_UTC (R316). -/
def showMaster (s : State) (i : Nat) : State :=
  match bestMaster (ptp s i).heard with
  | none => setNum (setNum s (kPtp i 0xA) 0xFF) (kPtp i 0xC) (-32768)
  | some (port, a) =>
      let s1 := setNum (setNum s (kPtp i 0xA) port) (kPtp i 9) a.gm.toNat
      let s2 := if nat s1 (kPtp i 8) = 1 then setNum s1 (kPtp i 8) 2 else s1
      let l := a.utcOffset.toInt
      let s3 := setNum s2 (kPtp i 0xC) (if a.utcValid then l else -32768)
      if a.utcValid && 10 ≤ l && l ≤ 100 && num s3 (kFt 0xA) != l then persist s3 [(kFt 0xA, .num l)] else s3

/-- Whether instance `i` runs on a port (R320, Table 13-6). -/
def ptpOn (s : State) (i port : Nat) : Bool := stepRan s 11 && flag s (kPtp i 1) && bit s (kPtp i 4) port && nat s (kPtp i 8) != 0

/-- PTP_ANNOUNCE (R320): a qualified Announce feeds the choice of master. -/
def execPtpAnnounce (i port : Fin 2) (a : Announce) (s : State) : Host.Outcome State Fault Refusal :=
  .next (if ptpOn s i port then showMaster (putPtp s i { ptp s i with heard := tabPut (ptp s i).heard port a }) i else s)

/-- PTP time stamps count from 1970; T from 2000 (R314). -/
def ptpToT (x : Int) : Int := x - 946684800000000000

/-- PTP_SYNC (R317): a Sync from the master in use is complete, sent at `t1` with correction `corr`; it arrived now. -/
def execPtpSync (i : Fin 2) (t1 corr : Int) (s : State) : Host.Outcome State Fault Refusal :=
  .next (if nat s (kPtp i 8) = 2 ∨ nat s (kPtp i 8) = 3 then
      let sent := ptpToT t1 + corr + num s (kPtp i 7)
      let theta := (tbNs s i : Int) - sent - num s (kPtp i 0xB)
      let s1 := putPtp s i { ptp s i with sync := some (sent, tbNs s i) }
      servoUpdate (setNum s1 (kPtp i 8) 3) i theta
    else s)

/-- DELAY_REQ_SEND (R320): a Delay_Req leaves towards the master in use. -/
def execDelayReqSend (i : Fin 2) (s : State) : Host.Outcome State Fault Refusal :=
  .next (if nat s (kPtp i 8) = 2 ∨ nat s (kPtp i 8) = 3 then
      let p := ptp s i
      emit (putPtp s i { p with seq := (p.seq + 1) % 65536, delayReq := some (p.seq, tbNs s i) })
        (.delayReq i (nat s (kPtp i 0xA)) p.seq)
    else s)

/-- DELAY_RESP (R320): the mean path delay, end to end, from the last Sync and the Delay_Req it answers. -/
def execDelayResp (i : Fin 2) (seq : Half) (t4 corr : Int) (s : State) : Host.Outcome State Fault Refusal :=
  .next (match (ptp s i).delayReq, (ptp s i).sync with
    | some (n, t3), some (sent, t2) =>
        if n = seq.toNat then
          let back := ptpToT t4 - corr - t3 + num s (kPtp i 7)
          setNum (putPtp s i { ptp s i with delayReq := none }) (kPtp i 0xB)
            (clampInt 0 4294967295 (roundRat (mkRat ((t2 - sent) + back) 2)))
        else s
    | _, _ => s)

/-- An instance loses its input and listens again (R321); `fault` says whether the loss is one of R321's. -/
def ptpLost (s : State) (i : Nat) (fault : Bool) : State :=
  let was := (ptp s i).locked
  let s1 := inputLost (putPtp s i { ptp s i with heard := [], sync := none, delayReq := none }) i
  let s2 := showMaster (setNum s1 (kPtp i 8) 1) i
  if fault && was then raise s2 (28 + i) 0 0 else s2

/-- PTP_INPUT_LOST (R321). -/
def execPtpInputLost (i : Fin 2) (s : State) : Host.Outcome State Fault Refusal :=
  .next (if nat s (kPtp i 8) = 2 ∨ nat s (kPtp i 8) = 3 then ptpLost s i true else s)

/-- Table 13-6: an instance restarts in LISTENING, or stops, after a write of subs 0x01 to 0x07. -/
def restartPtp (s : State) (i : Nat) : State :=
  let s1 := ptpLost s i false
  let s2 := putPtp s1 i { ptp s1 i with locked := false }
  if flag s2 (kPtp i 1) then s2 else setNum s2 (kPtp i 8) 0

/-! ### Comparators and PPS (R326 to R328) -/

/-- TO_MODE takes effect: a target already passed fires at once with LATE (R326). -/
def armComparator (s : State) (c : Nat) : State :=
  let tgt := nat s (kTo c 2)
  if toArmed s c ∧ tgt ≤ tbNs s (c / 4) then fireComparator s c 1 (tgt + toPeriod s c) else s

/-- COMPARATOR_FIRE (R326, R328): the base reaches the target of an armed comparator. -/
def execComparatorFire (c : Fin 16) (s : State) : Host.Outcome State Fault Refusal :=
  .next (if toArmed s c then
      let tgt := nat s (kTo c 2)
      let s1 := elapse s (cyclesTo s (c / 4) tgt)
      let s2 := fireComparator s1 c 0 (tgt + toPeriod s c)
      if c.val % 4 = 1 then emit { s2 with time := { s2.time with ppsUntil := s2.clk + usec (100 * nat s (kFt 9)) } } .pps else s2
    else s)

/-- TB_SET's effect (R319). -/
def tbSet (s : State) (n v : Nat) : State := stepBase s n v

/-! ### The calendar (R330 to R339) -/

/-- Days from 2000-01-01 to a year's first day. -/
def daysToYear (y : Nat) : Nat := (y - 2000) * 365 + (y - 2000 + 3) / 4 - ((y - 2000 + 99) / 100 - (y - 2000 + 399) / 400)
/-- Leap years of the Gregorian calendar. -/
def isLeap (y : Nat) : Bool := y % 4 == 0 && (y % 100 != 0 || y % 400 == 0)
/-- The lengths of a year's months. -/
def monthDays (y : Nat) : List Nat := [31, if isLeap y then 29 else 28, 31, 30, 31, 30, 31, 31, 30, 31, 30, 31]
/-- Month and day of a day of the year, from a list of month lengths. -/
def monthOf : List Nat → Nat → Nat → Nat × Nat
  | [], m, d => (m, d + 1)
  | n :: t, m, d => if d < n then (m, d + 1) else monthOf t (m + 1) (d - n)
/-- Year, month and day of a day since 2000-01-01. -/
def dateOf (day : Nat) : Nat × Nat × Nat :=
  let guess := 2000 + day * 400 / 146097
  let y := if daysToYear (guess + 1) ≤ day then guess + 1 else if day < daysToYear guess then guess - 1 else guess
  let md := monthOf (monthDays y) 1 (day - daysToYear y)
  (y, md.1, md.2)

/-- The calendar view of a local second (Table 13-11): seconds, minutes, hours, day, month, weekday, year; zeros outside 2000 to 2255. -/
def calendarOf (sec : Int) : Bytes :=
  if sec < 0 ∨ (daysToYear 2256 * 86400 : Nat) ≤ sec then List.replicate 8 0
  else
    let n := sec.toNat
    let day := n / 86400
    let d := dateOf day
    ([n % 60, n / 60 % 60, n / 3600 % 24, d.2.2, d.2.1, (day + 5) % 7 + 1].map (BitVec.ofNat 8)) ++ leBytes 2 d.1

/-- The local second of the calendar clock's count. -/
def localSecond (s : State) (utc : Nat) : Int := (utc : Int) + num s (kRtc 7) * 60
/-- The calendar clock's UTC second. -/
def rtcSecondNow (s : State) : Nat := s.backup.rtc.ticks / 65536

/-- Whether the time fields of a match equal those of a second of the day. -/
def timeMatches (cmp : Nat) (m : Bytes) (tod : Nat) : Bool :=
  (!cmp.testBit 0 || tod % 60 == byteAt m 0) && (!cmp.testBit 1 || tod / 60 % 60 == byteAt m 1)
    && (!cmp.testBit 2 || tod / 3600 == byteAt m 2)

/-- Whether the date fields of a match equal those of a day. -/
def dateMatches (cmp : Nat) (m : Bytes) (day : Nat) : Bool :=
  let d := dateOf day
  day < daysToYear 2256
    && (!cmp.testBit 3 || d.2.2 == byteAt m 3) && (!cmp.testBit 4 || d.2.1 == byteAt m 4)
    && (!cmp.testBit 5 || (day + 5) % 7 + 1 == byteAt m 5) && (!cmp.testBit 6 || d.1 == fieldAt m 6 2)

/-- Whether alarm `a` matches a local second (R336). -/
def alarmMatches (s : State) (a : Nat) (sec : Int) : Bool :=
  let cmp := nat s (kAlarm a 2)
  let m := (reg s (kAlarm a 1)).toBytes
  0 ≤ sec && dateMatches cmp m (sec.toNat / 86400) && timeMatches cmp m (sec.toNat % 86400)

/-- Whether some second of a day in `lo` to `hi` matches the time fields. -/
def anyTime (cmp : Nat) (m : Bytes) (lo hi : Nat) : Bool :=
  (List.range 24).any fun h => h * 3600 ≤ hi && lo < (h + 1) * 3600 && (!cmp.testBit 2 || h == byteAt m 2) &&
    (List.range 60).any fun mi => h * 3600 + mi * 60 ≤ hi && lo < h * 3600 + (mi + 1) * 60 && (!cmp.testBit 1 || mi == byteAt m 1) &&
      (List.range 60).any fun sc =>
        let t := h * 3600 + mi * 60 + sc
        lo ≤ t && t ≤ hi && (!cmp.testBit 0 || sc == byteAt m 0)

/-- Whether alarm `a` matches some second strictly between two (R337). -/
def alarmPassed (s : State) (a : Nat) (s0 s1 : Int) : Bool :=
  let cmp := nat s (kAlarm a 2)
  let m := (reg s (kAlarm a 1)).toBytes
  let lo := (max 0 (s0 + 1)).toNat
  let hi := (s1 - 1).toNat
  0 ≤ s1 - 1 && lo ≤ hi &&
    (List.range (min (hi / 86400 + 1) (daysToYear 2256) - lo / 86400)).any fun i =>
      let day := lo / 86400 + i
      dateMatches cmp m day &&
        anyTime cmp m (if i = 0 then lo % 86400 else 0) (if day = hi / 86400 then hi % 86400 else 86399)

/-- An alarm fires (R336, R339). -/
def fireAlarm (s : State) (a : Nat) (skipped : Bool) : State :=
  let dark := s.start.held
  let s1 := setNum (setNum (setNum s (kAlarm a 4) 2) (kAlarm a 5) ((if skipped then 1 else 0) + (if dark then 2 else 0)))
    (kAlarm a 6) s.backup.rtc.ticks
  if dark then { s1 with backup := { s1.backup with rtc := { s1.backup.rtc with unreported := a :: s1.backup.rtc.unreported } } } else s1

/-- Both alarms at a local second that the clock enters by counting. -/
def evalAlarms (s : State) (sec : Int) : State :=
  [0, 1].foldl (fun t a => if nat t (kAlarm a 4) = 1 && alarmMatches t a sec then fireAlarm t a false else t) s

/-- R337, R338: an adjustment of local time from `s0` to `s1`. -/
def adjustAlarms (s : State) (s0 s1 : Int) : State :=
  [0, 1].foldl (fun t a =>
    if nat t (kAlarm a 4) = 1 then
      if s0 < s1 && alarmPassed t a s0 s1 then fireAlarm t a true
      else if alarmMatches t a s1 then fireAlarm t a false else t
    else t) s

/-- The calendar clock takes another count, an adjustment (R331, R335). -/
def adjustRtc (s : State) (ticks : Nat) : State :=
  let s0 := localSecond s (rtcSecondNow s)
  let n := ticks % 2 ^ 64
  let s1 := { s with backup := { s.backup with rtc := { s.backup.rtc with ticks := n, acc := 0, second := n / 65536 } } }
  adjustAlarms s1 s0 (localSecond s1 (n / 65536))

/-- A set (R331, R333): the written value, and OSC_STOPPED clears. -/
def setRtc (s : State) (ticks : Nat) : State :=
  let s1 := adjustRtc s ticks
  let s2 := { s1 with backup := { s1.backup with rtc := { s1.backup.rtc with still := false } } }
  endCondition (setBit (setBit s2 (kRtc 6) 0 false) (kRtc 6) 2 false) 23

/-- RTC_STEP's effect (R331). -/
def stepRtc (s : State) (d : Int) : State := adjustRtc s (((s.backup.rtc.ticks : Int) + d) % 2 ^ 64).toNat

/-- RTC_SECOND (R336): the calendar clock enters its next second by counting. -/
def execRtcSecond (s : State) : Host.Outcome State Fault Refusal :=
  let next := s.backup.rtc.second + 1
  let s1 := elapse s (rtcCyclesTo s (next * 65536))
  .next (if s1.backup.rtc.still then s1
    else evalAlarms { s1 with backup := { s1.backup with rtc := { s1.backup.rtc with second := next } } } (localSecond s1 next))

/-- A change of UTC_OFFSET is an adjustment (R335). -/
def setOffset (s : State) (old new : Int) : State :=
  let utc := (rtcSecondNow s : Int)
  adjustAlarms s (utc + old * 60) (utc + new * 60)

/-- R335: the UTC second in force immediately before the instant `at_` that the clock now reaches. -/
def secondBefore (s : State) (at_ : Nat) : Nat :=
  if at_ ≤ s.backup.rtc.second * 65536 then s.backup.rtc.second else (s.backup.rtc.ticks - 1) / 65536

/-- OFFSET_CHANGE (R334): the calendar clock's UTC reaches NEXT_OFFSET_AT; the schedules keep the old offset until the field base's UTC does. -/
def execOffsetChange (s : State) : Host.Outcome State Fault Refusal :=
  .next (if nat s (kRtc 9) = 0 then s
    else
      let at_ := nat s (kRtc 9)
      let s1 := elapse s (rtcCyclesTo s at_)
      let old := num s1 (kRtc 7)
      let new := num s1 (kRtc 8)
      let s2 := { s1 with
        time := { s1.time with heldOffset := if s1.time.loaded && now64 s1 < at_ then some (at_, old) else none }
        backup := { s1.backup with rtc := { s1.backup.rtc with second := rtcSecondNow s1 } } }
      adjustAlarms (setNum (setNum s2 (kRtc 7) new) (kRtc 9) 0) ((secondBefore s1 at_ : Nat) + old * 60) ((rtcSecondNow s1 : Nat) + new * 60))

/-- The PTP instance whose UTC offset is in force, of the field base first (R316). -/
def utcInstance (s : State) : Option Nat :=
  let first := if fieldBase s = 1 then 1 else 0
  if num s (kPtp first 0xC) ≠ -32768 then some first else if num s (kPtp (1 - first) 0xC) ≠ -32768 then some (1 - first) else none

/-- LEAP_SECOND (R316, R335): at the end of a UTC day, L changes by the leap flag of the field base's instance. -/
def execLeapSecond (s : State) : Host.Outcome State Fault Refusal :=
  .next (match utcInstance s with
    | none => s
    | some i => match bestMaster (ptp s i).heard with
      | none => s
      | some (port, a) =>
          let d : Int := if a.leap61 then 1 else if a.leap59 then -1 else 0
          if d = 0 then s
          else
            let a' := { a with leap61 := false, leap59 := false, utcOffset := BitVec.ofInt 16 (a.utcOffset.toInt + d) }
            let s1 := showMaster (putPtp s i { ptp s i with heard := tabPut (ptp s i).heard port a' }) i
            adjustRtc s1 (((s1.backup.rtc.ticks : Int) - d * 65536) % 2 ^ 64).toNat)

/-- Whether the field base is TB0 or TB1 and LOCKED (R332). -/
def fieldLocked (s : State) : Bool := fieldBase s < 2 && tbState s (fieldBase s) == 2

/-- CALENDAR_SYNC (R332). -/
def execCalendarSync (s : State) : Host.Outcome State Fault Refusal :=
  let apart := ((now64 s : Int) - s.backup.rtc.ticks).natAbs
  .next (if flag s (kRtc 5) && fieldLocked s && (apart * 1000 > 65536 || bit s (kRtc 6) 0) then setRtc s (now64 s) else s)

/-- TRIM_MEASUREMENT (R332): 24 h have been measured; the trim is corrected, rounded to 0.1 ppm. The mains cycles are those that the metering windows of
the day counted; a day with a FREQ_INVALID window or a stopped block is skipped. -/
def execTrimMeasurement (r : TrimReport) (s : State) : Host.Outcome State Fault Refusal :=
  let fix := fun (s : State) (tenths : Int) =>
    setBit (persist s [(kRtc 3, .num (clampInt (-5120) 5120 (num s (kRtc 3) - tenths)))]) (kRtc 6) 1 true
  .next (match r with
    | .ptp ppb => if nat s (kRtc 4) = 1 && fieldLocked s then fix s (roundRat (mkRat ppb 100)) else s
    | .mains =>
        let full : Int := num s kNominalFreq * 86400
        if nat s (kRtc 4) = 2 then
          let s1 := { s with meter := { s.meter with cycles := 0, dayBad := nat s 0x500002 != 1 } }
          if s.meter.dayBad ∨ nat s 0x500002 ≠ 1 then s1 else fix s1 (roundRat (mkRat ((full - s.meter.cycles) * 10000000) full.toNat))
        else s)

/-- OSCILLATOR_STOPPED (R333). -/
def execOscillatorStopped (s : State) : Host.Outcome State Fault Refusal :=
  let s1 := setBit (setBit s (kRtc 6) 0 true) (kRtc 6) 2 true
  let s2 := setNum (setNum s1 (kAlarm 0 4) 0) (kAlarm 1 4) 0
  let s3 := { s2 with backup := { s2.backup with rtc := { s2.backup.rtc with still := true } } }
  .next (if s.start.held then s3 else raise s3 23 0 0)

/-! ### Start (R314, R333, R334) -/

/-- Step 5: every time base is loaded from the calendar clock and counts FREE; the alarms that fired without VSYS are to be reported (R339). -/
def loadBases (s : State) : State :=
  let t := (rtcSecondNow s + (storedNum s (kFt 0xA)).toNat) * 1000000000 + s.backup.rtc.ticks % 65536 * 1000000000 / 65536
  let s1 := { s with
    backup := { s.backup with rtc := { s.backup.rtc with unreported := [] } }
    time := { s.time with loaded := true, dark := s.backup.rtc.unreported, bases := (List.range 4).map fun n => (n, ({ t := t * tUnit } : Base)) } }
  let s2 := setNum s1 (kTb 3 3) (storedNum s (kTb 3 3))
  showPps ((List.range 4).foldl (fun u n =>
    setNum (setNum u (kTo (4 * n) 2) (nextMultiple t 250000)) (kTo (4 * n + 1) 2) (nextMultiple t 1000000000)) s2)

/-! ### Dictionary rules of chapter 13 -/

/-- Check 5 beyond the tables' plain ranges. -/
def rangeTime (idx sub : Nat) (v : Int) : Bool :=
  if 0x6000 ≤ idx ∧ idx ≤ 0x6003 ∧ sub = 7 then v == 0 || (1000 ≤ v && v ≤ 1000000000)
  else if (idx = 0x6200 ∨ idx = 0x6201) ∧ sub = 4 then v % 4 != 0
  else true

/-- Check 6: whether the entry's condition holds. -/
def condTime (s : State) (idx sub : Nat) (v : Int) : Bool :=
  if 0x6000 ≤ idx ∧ idx ≤ 0x6002 ∧ sub = 0xC then false
  else if idx = 0x6200 ∧ sub = 2 then v != num s (kPtp 1 2)
  else if idx = 0x6201 ∧ sub = 2 then v != num s (kPtp 0 2)
  else if 0x6300 ≤ idx ∧ idx ≤ 0x630F ∧ 1 ≤ sub ∧ sub ≤ 3 then idx % 4 ≥ 2
  else if (idx = 0x6110 ∨ idx = 0x6111) ∧ (sub = 1 ∨ sub = 2) then nat s (idx * 256 + 4) != 1
  else if (idx = 0x6110 ∨ idx = 0x6111) ∧ sub = 3 then !(v == 1 && bit s (kRtc 6) 0)
  else true

/-- What a write does beyond the value; `old` is the value before. -/
def afterTime (s : State) (idx sub : Nat) (old : Val) : State :=
  let v := num s (idx * 256 + sub)
  if idx = 0x6010 ∧ sub = 1 then chooseBase s
  else if idx = 0x6010 ∧ sub = 8 then showPps s
  else if (idx = 0x6200 ∨ idx = 0x6201) ∧ sub ≤ 7 then restartPtp s (idx - 0x6200)
  else if 0x6300 ≤ idx ∧ idx ≤ 0x630F ∧ sub = 1 then armComparator s (idx - 0x6300)
  else if idx = 0x6100 ∧ sub = 1 then setRtc s v.toNat
  else if idx = 0x6100 ∧ sub = 7 then setOffset { s with time := { s.time with heldOffset := none } } old.toInt v
  else s

/-- The commands of chapter 13. -/
def commandTime (s : State) (idx sub : Nat) (v : Int) : State :=
  if idx = 0x6003 ∧ sub = 0xC then tbSet s 3 v.toNat
  else if idx = 0x6100 ∧ sub = 2 then stepRtc s v
  else if idx = 0x6110 ∨ idx = 0x6111 then setNum s (idx * 256 + 4) (if v = 1 then 1 else 0)
  else s

/-- Values read as they are now. -/
def liveTime (s : State) (idx sub : Nat) : Option Val :=
  if 0x6000 ≤ idx ∧ idx ≤ 0x6003 ∧ sub = 1 then some (.num (tbNs s (idx - 0x6000)))
  else if idx = 0x6100 ∧ sub = 1 then some (.num s.backup.rtc.ticks)
  else if idx = 0x6100 ∧ sub = 0xA then some (.bytes (calendarOf (localSecond s (rtcSecondNow s))))
  else none

end Sys2Proof.Machine
end

