-- ==== Sys2Proof/Machine/EngineBase.lean ====
section
/-!
DEFINITION. The record of one kernel engine: its registers by name, its status flags, its event queue (R178, R185, R190).
-/

namespace Sys2Proof.Machine

/-- Engine `k`. -/
def engine (s : State) (k : Nat) : Engine := (tabFind s.engines.list k).getD {}

/-- Put engine `k`. -/
def putEngine (s : State) (k : Nat) (e : Engine) : State :=
  { s with engines := { s.engines with list := tabPut s.engines.list k e } }

/-- A 16-byte event record (Table 7-9) stamped now. -/
def eventBytes (s : State) (kind late source : Nat) (data : Bytes) : Bytes :=
  [BitVec.ofNat 8 kind, BitVec.ofNat 8 late] ++ leBytes 2 source ++ leBytes 4 (fieldStamp s).1 ++ (data ++ List.replicate 8 0).take 8

/-- EVENT_POST (R178): an event joins engine `k`'s queue of 64, or is discarded and counted. -/
def postRecord (s : State) (k : Nat) (ev : Bytes) : State :=
  let e := engine s k
  if e.queue.length < 64 then putEngine s k { e with queue := e.queue ++ [ev] }
  else bump s (kEngine k 0xA)

/-- R178: post an event of a kind from a source. -/
def postEvent (s : State) (k kind source : Nat) (data : Bytes) : State :=
  postRecord s k (eventBytes s kind 0 source data)

end Sys2Proof.Machine
end

