-- ==== Sys2Proof/Machine/Zones.lean ====
section
/-!
DEFINITION. Zones, layers, scenes, groups, schedules and areas (chapter 06): the content rules of the records, the commands that write
targets into layers, the schedule's occurrences, footfall and daylight.
-/

namespace Sys2Proof.Machine

/-! ### Records -/

/-- The 32-byte record of a zone in cell memory (Table 6-8). -/
def zoneRec (s : State) (z : Nat) : Bytes := memBytes s.mem (aZone z) 32
/-- `COUNT` of a zone record. -/
def zCount (r : Bytes) : Nat := byteAt r 10
/-- `LUMINAIRE` of a zone record. -/
def zLum (r : Bytes) : Nat := byteAt r 11
/-- `SAFETY_GROUP` of a zone record. -/
def zGroup (r : Bytes) : Nat := byteAt r 12
/-- The cells of a zone record's used slots. -/
def zCells (r : Bytes) : List Nat := (List.range (zCount r)).map fun i => fieldAt r (2 * i) 2

/-- The first `f` pieces of `n` bytes. -/
def chunks (n : Nat) : Nat → Bytes → List Bytes
  | 0, _ => []
  | f + 1, b => b.take n :: chunks n f (b.drop n)

/-- The whole records of `n` bytes in a content. -/
def records (n : Nat) (b : Bytes) : List Bytes := chunks n (b.length / n) b

/-- Whether a sorted list of numbers has no repeats. -/
def sortedNodup (l : List Nat) : Bool := (l.zip l.tail).all fun p => p.1 != p.2

/-- The primary type of a cell in the active calibration content (Table 6-7). -/
def cellType (cal : Bytes) (c : Nat) : Nat := byteAt cal (32 * c + 6) % 16

/-- R15 to R17, R159: one zone record against the driver table and the calibration content. `owner` gives a cell's luminaire. -/
def zoneRecOk (owner : Nat → Option Nat) (cal r : Bytes) : Bool :=
  if zCount r = 0 then r.all (· == 0)
  else
    let cells := zCells r
    zCount r ≤ 5 && zLum r ≤ 127 && (zGroup r ≤ 63 || zGroup r == 0xFF) && byteAt r 13 ≤ 2
      && ((List.range 5).all fun i => i < zCount r || fieldAt r (2 * i) 2 == 0xFFFF)
      && fieldAt r 24 2 ≤ 65534 && (fieldAt r 26 2 ≤ 1023 || fieldAt r 26 2 == 0xFFFF)
      && (cells.map (cellType cal)).Nodup
      && cells.all fun c => owner c == some (zLum r)

/-- R159: a zone-map content; R17 adds that no cell belongs to two zones. -/
def zoneMapOk (owner : Nat → Option Nat) (cal b : Bytes) : Bool :=
  b.length == 524288 && (records 32 b).all (zoneRecOk owner cal)
    && sortedNodup (((records 32 b).flatMap zCells).insertionSort (· ≤ ·))

/-- R158: a calibration content; `modelled` says which primary types have a model. -/
def calibrationOk (modelled : Nat → Bool) (b : Bytes) : Bool :=
  b.length == 2097152 && (records 32 b).all fun r =>
    !(byteAt r 7).testBit 0 ||
      (fieldAt r 2 2 != 0 && fieldAt r 0 2 + fieldAt r 2 2 ≤ 65536 && modelled (byteAt r 6 % 16))

/-- R160: a primary-model record. -/
def modelOk (b : Bytes) : Bool := fieldAt b 0 4 != 0 && fieldAt b 32 4 != 0 && 0x100 ≤ fieldAt b 38 2

/-- R126, R127: a target, but for the check of DIRECT fractions against a zone's slots. -/
def targetOk (t : Bytes) : Bool :=
  let mode := byteAt t 0
  let flux := fieldAt t 4 2
  mode ≤ 3 && flux ≤ 0x8000 &&
    (if mode = 1 then fieldAt t 8 2 != 0 && fieldAt t 6 2 + fieldAt t 8 2 ≤ 65536
     else if mode = 2 then
       1000 ≤ fieldAt t 6 2 && fieldAt t 6 2 ≤ 15000 && -3277 ≤ signed 2 (fieldAt t 8 2) && signed 2 (fieldAt t 8 2) ≤ 3277
     else if mode = 3 then flux == 0 && (List.range 5).all fun i => fieldAt t (6 + 2 * i) 2 ≤ 0x8000
     else true)

/-- R127's last check: a DIRECT target names no slot that a zone of `count` slots does not use. -/
def targetFits (count : Nat) (t : Bytes) : Bool :=
  byteAt t 0 != 3 || (List.range 5).all fun i => i < count || fieldAt t (6 + 2 * i) 2 == 0

/-- Table 6-10: a scene content. -/
def sceneOk (b : Bytes) : Bool :=
  b.length % 20 == 0 && b.length ≤ 81920 && (records 20 b).all fun r =>
    1 ≤ fieldAt r 2 2 && fieldAt r 0 2 + fieldAt r 2 2 ≤ 16384 && targetOk (slice r 4 16)

/-- Table 6-12: a group-map content. -/
def groupMapOk (b : Bytes) : Bool :=
  b.length % 8 == 0 && (records 8 b).all fun r =>
    fieldAt r 0 2 ≤ 1023 && 1 ≤ fieldAt r 4 2 && fieldAt r 2 2 + fieldAt r 4 2 ≤ 16384

/-- Table 6-11: a schedule content; no two entries share group, start and day. -/
def scheduleOk (b : Bytes) : Bool :=
  let rs := records 16 b
  b.length % 16 == 0 && (rs.all fun r =>
      fieldAt r 4 4 ≤ 86399999 && (fieldAt r 2 2 ≤ 1023 || fieldAt r 2 2 == 0xFFFF))
    && sortedNodup ((rs.flatMap fun r => (List.range 7).filterMap fun d =>
      if (byteAt r 0).testBit d then some ((fieldAt r 2 2 * 7 + d) * 86400000 + fieldAt r 4 4) else none).insertionSort (· ≤ ·))

/-- Table 6-13: an area-table content. -/
def areaTableOk (b : Bytes) : Bool :=
  b.length == 16384 && (records 16 b).all fun r =>
    fieldAt r 6 2 != 0 && (List.range 4).all fun i => fieldAt r (8 + 2 * i) 2 ≤ 1023 || fieldAt r (8 + 2 * i) 2 == 0xFFFF

/-- The default content of the area table: every reference 0xFFFF, `E_SET` 500. -/
def areaDefault : Bytes :=
  (List.range 1024).flatMap fun _ =>
    List.replicate 6 0xFF ++ leBytes 2 500 ++ List.replicate 8 0xFF

/-- A setting of 0x4800 or 0x4810 in cell memory, by its offset and size (Table 7-3). -/
def setting (s : State) (off n : Nat) : Nat := rd s (aSettings + off) n
/-- A signed setting. -/
def settingI (s : State) (off n : Nat) : Int := rdSigned s (aSettings + off) n

/-! ### Layers -/

/-- The target of layer 0, 3 or 4 of a zone; MODE 0 is an unset layer. -/
def layerTarget (s : State) (z layer : Nat) : Bytes := memBytes s.mem (aLayer z layer) 16

/-- `ZONE_TARGET` of a zone (R128). -/
def kTarget (z : Nat) : Key := (0x4100 + z / 64) * 256 + z % 64 + 1

/-- A layer of a zone takes 16 bytes; layer 3 is also the zone's `ZONE_TARGET`, whose change is noted (R99, R128). -/
def putLayer (s : State) (z layer : Nat) (t : Bytes) : State :=
  let s1 := store s (aLayer z layer) t
  if layer = 3 ∧ t ≠ layerTarget s z 3 then { s1 with server := noteChange s1.server (kTarget z) } else s1

/-- Write a target into a layer of a zone; layer 3 is stamped with a local time (R134); MODE 0 unsets the layer (R128). Reserved
FLAGS bits are dropped (R9). -/
def setLayerAt (s : State) (stamp z layer : Nat) (t : Bytes) : State :=
  let t' := if byteAt t 0 = 0 then List.replicate 16 0 else t.set 1 (BitVec.ofNat 8 (byteAt t 1 % 4))
  let s1 := putLayer s z layer t'
  { s1 with zones := { s1.zones with
      written := (z * 8 + layer) :: s1.zones.written.filter (· != z * 8 + layer)
      stamps := if layer = 3 then tabPut s1.zones.stamps z stamp else s1.zones.stamps } }

/-- Write a target into a layer of a zone now (R128, R134). -/
def setLayer (s : State) (z layer : Nat) (t : Bytes) : State := setLayerAt s (localNs s) z layer t

/-- Unset a layer of a zone. The change carries no fade time (R131). -/
def unsetLayer (s : State) (z layer : Nat) : State :=
  let s1 := putLayer s z layer (List.replicate 16 0)
  { s1 with zones := { s1.zones with written := s1.zones.written.filter (· != z * 8 + layer) } }

/-- A target with another fade time; 0xFFFF keeps its own. -/
def withFade (t : Bytes) (fade : Nat) : Bytes :=
  if fade = 0xFFFF then t else t.take 2 ++ leBytes 2 fade ++ t.drop 4

/-- TARGET_SKIPS takes a value, in its register and in the settings the engines read (Table 7-3). -/
def setSkips (s : State) (n : Nat) : State := wr (setNum s kTargetSkips n) (aSettings + 12) 4 n

/-- R127, R131: a scene or group command writes one zone, passes over an absent one, and counts one that a DIRECT target does not fit. -/
def commandZoneAt (s : State) (stamp layer : Nat) (t : Bytes) (z : Nat) : State :=
  let n := zCount (zoneRec s z)
  if n = 0 then s
  else if targetFits n t then setLayerAt s stamp z layer t
  else setSkips s ((nat s kTargetSkips + 1) % 2 ^ 32)

/-- R127, R131: a scene or group command writes one zone now. -/
def commandZone (s : State) (layer : Nat) (t : Bytes) (z : Nat) : State := commandZoneAt s (localNs s) layer t z

/-- Whether a zone lies in a group (R20, R130). -/
def inGroup (s : State) (g z : Nat) : Bool :=
  g == 0xFFFF || (records 8 (domain s kGroupMap)).any fun r =>
    fieldAt r 0 2 == g && fieldAt r 2 2 ≤ z && z < fieldAt r 2 2 + fieldAt r 4 2

/-- The present zones of a group. -/
def groupZones (s : State) (g : Nat) : List Nat := s.zones.present.filter (inGroup s g)

/-- The target of the last record of a scene that covers a zone. -/
def sceneTarget (scene : Bytes) (z : Nat) : Option Bytes :=
  ((records 20 scene).reverse.find? fun r => fieldAt r 0 2 ≤ z && z < fieldAt r 0 2 + fieldAt r 2 2).map fun r => slice r 4 16

/-- R131: recall a scene into a layer of a group. -/
def recallScene (s : State) (g scene layer fade : Nat) : State :=
  (groupZones s g).foldl (fun t z =>
    match sceneTarget (domain s (kScene scene)) z with
    | some tgt => commandZone t layer (withFade tgt fade) z
    | none => t) s

/-- R130: write one target into a layer of every zone of a group. -/
def groupTarget (s : State) (g layer : Nat) (t : Bytes) : State :=
  (groupZones s g).foldl (fun u z => commandZone u layer t z) s

/-- R130: unset a layer in every zone of a group. -/
def groupRelease (s : State) (g layer : Nat) : State :=
  (groupZones s g).foldl (fun u z => unsetLayer u z layer) s

/-! ### Schedules (R132 to R134) -/

/-- Milliseconds of a day. -/
abbrev dayMs : Nat := 86400000

/-- Monday is day 0 of a week; 2000-01-01 was a Saturday. -/
def weekday (day : Nat) : Nat := (day + 5) % 7

/-- The latest occurrence of one schedule record at or before a local time in ns: its day and its start in ns. -/
def latestOf (r : Bytes) (now : Nat) : Option (Nat × Nat) :=
  let today := now / (dayMs * 1000000)
  ((List.range 8).filterMap fun back =>
    if back ≤ today ∧ (byteAt r 0).testBit (weekday (today - back)) then
      let start := ((today - back) * dayMs + fieldAt r 4 4) * 1000000
      if start ≤ now then some (today - back, start) else none
    else none).head?

/-- R132: the governing occurrence of a group: record number, day and start. -/
def governing (sched : Bytes) (g now : Nat) : Option (Nat × Nat × Nat) :=
  let rs := records 16 sched
  ((List.range rs.length).filterMap fun i =>
    let r := rs.getD i []
    if fieldAt r 2 2 = g then (latestOf r now).map fun o => (i, o.1, o.2) else none).foldl
      (fun best o => match best with
        | none => some o
        | some b => if b.2.2 < o.2.2 then some o else some b) none

/-- The groups a schedule names, each once. -/
def scheduledGroups (sched : Bytes) : List Nat := ((records 16 sched).map fun r => fieldAt r 2 2).eraseDups

/-- A schedule record of a content. -/
def schedRec (sched : Bytes) (i : Nat) : Bytes := slice sched (16 * i) 16

/-- The recalls due at a tick start: record numbers in ascending order, with their groups and days. An occurrence is known by its record's bytes and its day,
so that a record that a new content replaces governs anew, and one that it keeps does not (log entry 79). -/
def dueRecalls (s : State) (now : Nat) : List (Nat × Nat × Nat) :=
  let sched := domain s kSchedule
  ((scheduledGroups sched).filterMap fun g =>
    match governing sched g now with
    | some (i, d, _) => if tabFind s.zones.governing g = some (schedRec sched i, d) then none else some (i, g, d)
    | none => none).insertionSort (fun a b => a.1 ≤ b.1)

/-- A group that no occurrence governs any more is forgotten: the next one that governs it is a change. -/
def pruneGoverning (s : State) (now : Nat) : State :=
  { s with zones := { s.zones with governing := s.zones.governing.filter fun p => (governing (domain s kSchedule) p.1 now).isSome } }

/-- SCHEDULE events go to every pipeline engine whose partition holds a zone of the group (R178). -/
def postSchedule (s : State) (g scene start : Nat) : State :=
  let lums := (groupZones s g).map fun z => zLum (zoneRec s z)
  (List.range 16).foldl (fun t k =>
    if ((reg t (kEngine k 0xB)).toBytes).any fun l => lums.contains l.toNat then
      postEvent t k 4 g ([BitVec.ofNat 8 scene, 0] ++ leBytes 4 start ++ [0, 0])
    else t) s

/-- R132, R133: recall what the schedule calls for at a tick start; the first tick after a start recalls with fade 0. -/
def scheduleRecall (s : State) : State :=
  let first := !s.zones.ticked
  (dueRecalls s (localNs s)).foldl (fun t x =>
    let r := schedRec (domain t kSchedule) x.1
    let t1 := recallScene t x.2.1 (byteAt r 1) 0 (if first then 0 else fieldAt r 8 2)
    let t2 := { t1 with zones := { t1.zones with governing := tabPut t1.zones.governing x.2.1 (r, x.2.2) } }
    postSchedule t2 x.2.1 (byteAt r 1) (fieldAt r 4 4)) (pruneGoverning s (localNs s))

/-- R134: an override that lasts until the window's end is released when an entry of a group of the zone has started after its
stamp. -/
def overrideEnds (s : State) (z : Nat) : Bool :=
  let t := layerTarget s z 3
  byteAt t 0 != 0 && (byteAt t 1).testBit 1 &&
    (records 16 (domain s kSchedule)).any fun r =>
      inGroup s (fieldAt r 2 2) z &&
        match latestOf r (localNs s) with
        | some o => (tabFind s.zones.stamps z).getD 0 < o.2
        | none => false

/-- R134 at a tick start, over every present zone. -/
def overrideRelease (s : State) : State :=
  s.zones.present.foldl (fun t z => if overrideEnds s z then unsetLayer t z 3 else t) s

/-! ### Areas (R135 to R137) -/

/-- What the sensor function keeps of an area. -/
def area (s : State) (a : Nat) : Area := (tabFind s.zones.areas a).getD {}
/-- Put what the sensor function keeps of an area. -/
def putArea (s : State) (a : Nat) (x : Area) : State := { s with zones := { s.zones with areas := tabPut s.zones.areas a x } }
/-- The 16-byte record of an area (Table 6-13). -/
def areaRec (s : State) (a : Nat) : Bytes := memBytes s.mem (aAreaRec a) 16
/-- Whether a partner handle is one of the occupancy partners of an area. -/
def isOccPartner (r : Bytes) (h : Nat) : Bool := fieldAt r 0 2 == h || fieldAt r 2 2 == h
/-- Whether an area has an occupancy partner. -/
def hasOcc (r : Bytes) : Bool := fieldAt r 0 2 != 0xFFFF || fieldAt r 2 2 != 0xFFFF

/-- R135: whether an area counts as occupied: by presence, by an occupancy partner under supervision loss, or for want of one. -/
def areaOccupied (s : State) (a : Nat) : Bool :=
  let r := areaRec s a
  (area s a).occupied || s.zones.lost.any (isOccPartner r) || !hasOcc r

/-- R135: whether an area is led and not simply occupied. -/
def areaLed (s : State) (a : Nat) : Bool := (area s a).led && !areaOccupied s a

/-- R137: whether an area has a daylight partner that is not under supervision loss. -/
def hasDaylight (s : State) (a : Nat) : Bool :=
  let h := fieldAt (areaRec s a) 4 2
  h != 0xFFFF && !s.zones.lost.contains h

/-- R137: the factor in force in an area. -/
def areaFactor (s : State) (a : Nat) : Nat := if hasDaylight s a then (area s a).g else 0x8000

/-- R135: a presence report; an area that becomes occupied leads its neighbours for `LEAD_HOLD`, an occupied neighbour too, which is led if it falls vacant
within that time. -/
def areaPresent (s : State) (a : Nat) : State :=
  let was := areaOccupied s a
  let s1 := putArea s a { area s a with occupied := true }
  if was then s1
  else ((List.range 4).map fun i => fieldAt (areaRec s1 a) (8 + 2 * i) 2).foldl (fun t n =>
    if n = 0xFFFF then t else putArea t n { area t n with led := true }) s1

/-- R137: the goal factor after an illuminance report; the quotient is truncated toward 0. -/
def daylightGoal (goal eSet e ki dlMin : Nat) : Nat :=
  let delta := (((ki : Int) * ((eSet : Int) - e)).tdiv (2 * (eSet : Int)))
  (min 0x8000 (max (dlMin : Int) ((goal : Int) + delta))).toNat

/-- R137: the applied factor moves toward its goal at a tick. -/
def daylightStep (g goal slew tickMs : Nat) : Nat :=
  let step := max 1 (slew * tickMs / 1000)
  if g < goal then min goal (g + step) else max goal (g - step)

/-- The areas that name a partner for occupancy. -/
def occAreas (s : State) (h : Nat) : List Nat := (List.range 1024).filter fun a => isOccPartner (areaRec s a) h
/-- The areas that name a partner for daylight. -/
def dlAreas (s : State) (h : Nat) : List Nat := (List.range 1024).filter fun a => fieldAt (areaRec s a) 4 2 == h

/-- The library's sensor function takes one event (R135, R137, R178). An area that comes to count as occupied only by its partner's supervision loss does not
lead its neighbours: R135 says no more than "becomes occupied" (DESIGN CHOICE, log entry 80). -/
def sensorEvent (s : State) (e : Bytes) : State :=
  let h := fieldAt e 2 2
  let kind := byteAt e 0
  if kind = 1 then
    if byteAt e 8 = 1 then (occAreas s h).foldl areaPresent s else s
  else if kind = 2 then
    (dlAreas s h).foldl (fun t a =>
      let x := area t a
      putArea t a { x with goal := daylightGoal x.goal (fieldAt (areaRec t a) 6 2) (fieldAt e 8 4) (setting t 26 2) (setting t 28 2) }) s
  else if kind = 5 then
    let others := s.zones.lost.filter (· != h)
    { s with zones := { s.zones with lost := if byteAt e 8 = 0 then h :: others else others } }
  else s

/-- The state record of an area as the sensor function writes it (Table 7-4). -/
def areaBytes (s : State) (a : Nat) : Bytes :=
  let x := area s a
  leBytes 2 (areaFactor s a) ++ leBytes 2 x.goal
    ++ [BitVec.ofNat 8 ((if areaOccupied s a then 1 else 0) + (if areaLed s a then 2 else 0)), 0, 0, 0]

/-- The sensor function at a tick: take the queued events, move every factor, write the half that is not current. The factor of an area whose daylight
partner is lost is 0x8000, from which it moves again when the partner returns (R137). -/
def sensorTick (s : State) (events : List Bytes) : State :=
  let s1 := events.foldl sensorEvent s
  let tickMs := 1000 / tickRate s1
  let s2 := { s1 with zones := { s1.zones with areas := s1.zones.areas.map fun p =>
    (p.1, { p.2 with g := if hasDaylight s1 p.1 then daylightStep p.2.g p.2.goal (setting s1 0 2) tickMs else 0x8000 }) } }
  store s2 (aArea (!s2.engines.areaHalf) 0) ((List.range 1024).flatMap (areaBytes s2))

/-- AREA_VACANT (R135): `VACANT_DELAY` has passed with no presence report. -/
def execAreaVacant (a : Fin 1024) (s : State) : Host.Outcome State Fault Refusal :=
  .next (putArea s a { area s a with occupied := false })

/-- LEAD_HOLD_END (R135): `LEAD_HOLD` has passed; a led area ceases to be led. -/
def execLeadHoldEnd (a : Fin 1024) (s : State) : Host.Outcome State Fault Refusal :=
  .next (putArea s a { area s a with led := false })

end Sys2Proof.Machine
end

