-- ==== Sys2Proof/Machine/Library.lean ====
section
/-!
DEFINITION. The engine library's default tick program (chapters 06 and 07): for each luminaire of an engine's partition, stages 1 to 10 of
Table 6-1, from the inputs in cell memory into the BACK half of the cell codes.
-/

namespace Sys2Proof.Machine

open Colour

/-- The register `sub` of driver `d` (Table 10-1). -/
def kDriver (d sub : Nat) : Key := (0x3100 + d) * 256 + sub

/-- The target stage 1 selects (R129): its layer, 5 for none, and its 16 bytes. -/
structure Selected where
  layer : Nat
  target : Bytes
deriving DecidableEq, Repr

/-- R136: layer 1 of a zone at a tick: its flux and fade, none when unset. -/
def footfall (s : State) (z : Nat) (r : Bytes) : Option (Nat × Nat) :=
  let base := layerTarget s z 0
  let a := fieldAt r 26 2
  let st := byteAt (memBytes s.mem (aArea s.engines.areaHalf a) 8) 4
  if (byteAt r 14).testBit 0 && a != 0xFFFF && byteAt base 0 != 0 && st % 4 == 0 then
    some ((rnd (fieldAt base 4 2 * setting s 18 2 : Nat) 15).toNat, setting s 22 2)
  else none

/-- Layer 1's target: layer 0's with its own flux and fade (R136). -/
def layer1Target (base : Bytes) (fx : Nat × Nat) : Bytes :=
  base.take 2 ++ leBytes 2 fx.2 ++ leBytes 2 fx.1 ++ base.drop 6

/-- R129: the highest-numbered set layer among 4, 3, 1 and 0. -/
def selectLayer (s : State) (z : Nat) (l1 : Option (Nat × Nat)) : Selected :=
  let t4 := layerTarget s z 4
  let t3 := layerTarget s z 3
  let t0 := layerTarget s z 0
  if byteAt t4 0 != 0 then ⟨4, t4⟩
  else if byteAt t3 0 != 0 then ⟨3, t3⟩
  else match l1 with
    | some fx => ⟨1, layer1Target t0 fx⟩
    | none => if byteAt t0 0 != 0 then ⟨0, t0⟩ else ⟨5, []⟩

/-- R142: what of a target two targets are compared by: MODE, FLUX and mode data. -/
def targetKey (t : Bytes) : Bytes := t.take 1 ++ t.drop 4

/-- R138, R139: a colour target in the working space; a target without colour keeps the current point. -/
def targetUv (s : State) (p : ZonePt) (t : Bytes) : Int × Int :=
  if byteAt t 0 = 1 then toUv (fieldAt t 6 2) (fieldAt t 8 2)
  else if byteAt t 0 = 2 then
    cctToUv (fun i =>
      let b := memBytes s.mem (aLocus + 8 * i) 8
      (fieldAt b 0 2, fieldAt b 2 2, signed 2 (fieldAt b 4 2), signed 2 (fieldAt b 6 2)))
      (fieldAt t 6 2) (signed 2 (fieldAt t 8 2))
  else (p.u, p.v)

/-- The initial point of a zone (R474). -/
def initialPoint (r : Bytes) : ZonePt := { u := fieldAt r 20 2, v := fieldAt r 22 2 }

/-- The fade time of a new selected target in units of 10 ms (Table 6-2, R131, R136): its own if the layer was written since the zone's last tick,
`LEAD_FADE` when layer 1 has ended, also with layer 0, otherwise the zone's default. -/
def fadeTime (s : State) (z : Nat) (r : Bytes) (p : ZonePt) (sel : Selected) (l1Changed : Bool) : Nat :=
  let dflt := fieldAt r 24 2
  let own := fieldAt sel.target 2 2
  let new := (sel.layer = 1 && l1Changed) || (sel.layer != 5 && s.zones.written.contains (z * 8 + sel.layer))
  if new then (if own = 0xFFFF then dflt else own)
  else if p.layer = 1 ∧ (sel.layer = 0 ∨ sel.layer = 5) then setting s 24 2
  else dflt

/-- R142: a new selected target starts a fade from the current point. `key` is the target's key, `n` the fade's ticks. Only a change of the target between
DIRECT and XY or CCT applies without a fade. -/
def startFade (s : State) (p : ZonePt) (sel : Selected) (key : Bytes) (n : Nat) : ZonePt :=
  let mode := byteAt sel.target 0
  let shown := if mode = 3 then 2 else if mode = 0 then p.shown else 1
  let was := byteAt p.target 0
  let n' := if (mode = 3 ∧ (was = 1 ∨ was = 2)) ∨ (was = 3 ∧ (mode = 1 ∨ mode = 2)) then 0 else n
  let uv := targetUv s p sel.target
  let y1 : Int := if mode = 3 then 0 else if sel.layer = 5 then 0 else (fieldAt sel.target 4 2 : Nat)
  let u0 := if p.y = 0 then uv.1 else p.u
  let v0 := if p.y = 0 then uv.2 else p.v
  let u1 := if y1 = 0 then u0 else uv.1
  let v1 := if y1 = 0 then v0 else uv.2
  { p with
    target := key, layer := sel.layer, shown := shown, k := 0, n := n'
    l0 := p.l, u0 := u0, v0 := v0, l1 := light y1, u1 := u1, v1 := v1, y1 := y1
    dl0 := p.dl
    dy1 := (List.range 5).map fun i => if mode = 3 then ((fieldAt sel.target (6 + 2 * i) 2 : Nat) : Int) else 0 }

/-- R141: the point at tick `k` of the fade the zone is in. -/
def fadePoint (p : ZonePt) : ZonePt :=
  if p.n ≤ p.k then
    { p with l := p.l1, u := p.u1, v := p.v1, y := p.y1, dl := p.dy1.map light, dy := p.dy1 }
  else
    let q := fadePart p.k p.n
    let l := fadeTo p.l0 p.l1 q
    let dl := (List.range 5).map fun i => fadeTo (p.dl0.getD i 0) (light (p.dy1.getD i 0)) q
    { p with l := l, u := fadeTo p.u0 p.u1 q, v := fadeTo p.v0 p.v1 q, y := invLight l, dl := dl, dy := dl.map invLight }

/-- Stages 1 to 3 of a zone: the point it shows at this tick (R129, R141, R142, R474). -/
def advancePoint (s : State) (z : Nat) (r : Bytes) (sel : Selected) (l1Changed : Bool) : ZonePt :=
  let p := (tabFind s.zones.points z).getD (initialPoint r)
  let known := (tabFind s.zones.points z).isSome
  let key := targetKey sel.target
  if known ∧ p.target = key then fadePoint { p with k := min p.n (p.k + 1), layer := sel.layer }
  else fadePoint (startFade s p sel key (fadeTicks (fadeTime s z r p sel l1Changed) (tickRate s)))

/-- R129, R137: the daylight factor of stage 4. -/
def daylightOf (s : State) (r : Bytes) (sel : Selected) : Nat :=
  let use := ((sel.layer = 0 ∨ sel.layer = 1) ∧ (byteAt r 14).testBit 1) ∨ (sel.layer = 3 ∧ (byteAt sel.target 1).testBit 0)
  let a := fieldAt r 26 2
  if use ∧ a ≠ 0xFFFF then rd s (aArea s.engines.areaHalf a) 2 else 0x8000

/-- The valid lamp-board reports of a luminaire (R144, Table 7-4). -/
def lumReports (s : State) (l : Nat) : List Int :=
  (List.range 4).filterMap fun i =>
    let b := memBytes s.mem (aLum l + 8 * i) 8
    if (byteAt b 4).testBit 0 && !(byteAt b 4).testBit 1 && fieldAt b 2 2 ≤ 1000 then some (signed 2 (fieldAt b 0 2)) else none

/-- What stages 5 to 7 give for a luminaire: h, TEMP_STALE, and the model and terms of each type in use. -/
structure LumTick where
  h : Int
  stale : Bool
  terms : Tab (Model × Thermal)
deriving DecidableEq, Repr

/-- The drivers in the table that belong to a luminaire (R16). -/
def lumDrivers (s : State) (l : Nat) : List Nat := (List.range 128).filter fun d => num s (kDriver d 1) != 0 && nat s (kDriver d 2) == l

/-- The cells of a luminaire: the blocks of its drivers (R15, R16). -/
def lumCells (s : State) (l : Nat) : List Nat :=
  (lumDrivers s l).flatMap fun d => (List.range (nat s (kDriver d 4))).map fun o => nat s (kDriver d 3) + o

/-- The luminaires that have a driver. -/
def usedLuminaires (s : State) : List Nat :=
  (List.range 128).filter fun l => (List.range 128).any fun d => num s (kDriver d 1) != 0 && nat s (kDriver d 2) == l

/-- R143, R144: the highest lamp-board temperature of a luminaire. -/
def lumMax (s : State) (l : Nat) : Int :=
  match lumReports s l with
  | [] => settingI s 8 2
  | t :: ts => ts.foldl max t

/-- R143: the derating factor of a luminaire. -/
def lumFactor (s : State) (l : Nat) : Int := derate (settingI s 2 2) (settingI s 4 2) (setting s 6 2) (lumMax s l)

/-- Stages 5 and 6 of a luminaire (R143 to R145); `front` is the half that is FRONT. The mean of a type is over all the luminaire's cells of the type; one of no
zone has code 0 (R18). -/
def lumTick (s : State) (l : Nat) (front : Bool) : LumTick :=
  let ts := lumReports s l
  let tb := if ts = [] then settingI s 8 2 else meanTemp ts
  let typed := (lumCells s l).map fun c => (byteAt (memBytes s.mem (aCell c) 16) 6 % 16, c)
  let types := (typed.map Prod.fst).eraseDups
  { h := lumFactor s l
    stale := ts = []
    terms := types.map fun t =>
      let mine := typed.filter fun p => p.1 == t
      let mean := if s.zones.ticked then (mine.map fun p => rd s (aCode front p.2) 2).foldl (· + ·) 0 / mine.length else 0
      let m := modelOf (memBytes s.mem (aModel t) 64)
      (t, m, thermal m tb mean) }

/-- Stage 7 of one cell (R146, R149). -/
def cellTick (s : State) (lt : LumTick) (c : Nat) : CellVal :=
  let b := memBytes s.mem (aCell c) 16
  match tabFind lt.terms (byteAt b 6 % 16) with
  | some mt =>
      cellVal (fieldAt b 0 2) (fieldAt b 2 2) (fieldAt b 4 2) (byteAt b 7) (byteAt b 8) (fieldAt b 10 2) mt.1 mt.2
        ((byteAt (memBytes s.mem (aFaultMap + c / 8) 1) 0).testBit (c % 8))
  | none => {}

/-- R148: a cell's burn accumulator grows by its code's weighted ticks. -/
def burnCell (s : State) (lt : LumTick) (c code : Nat) : State :=
  match tabFind lt.terms (byteAt (memBytes s.mem (aCell c) 16) 6 % 16) with
  | some mt => wr s (aBurn c) 8 ((rd s (aBurn c) 8 + code * burnWeight mt.1 mt.2.tj / 32768) % 2 ^ 64)
  | none => s

/-- Stages 8 to 10 of a zone as codes and status byte (R149 to R156, Table 6-6). Where no solution exists the previous codes stand (R151), an unusable cell's
code 0 (R149) and no code above the cell's ceiling (R155) excepted. -/
def zoneCodes (s : State) (r : Bytes) (p : ZonePt) (lt : LumTick) (g : Nat) (front : Bool) : List Nat × Nat :=
  let cells := zCells r
  let cs := cells.map (cellTick s lt)
  let scale := fun y => rnd (rnd (y * g) 15 * lt.h) 15
  let tripped := zGroup r < 64 && (rd s aTrip 8).testBit (zGroup r)
  let floor := cells.any fun c => s.zones.floored.contains c
  let unusable := cs.any fun c => !c.usable
  let common := (if floor then 64 else 0) + (if lt.h < 0x8000 then 32 else 0) + (if lt.stale then 16 else 0)
  if p.shown = 2 then
    let d := directCodes cs (p.dy.map scale)
    ((if tripped then cells.map fun _ => 0 else d.1), common + (if unusable then 8 else 0) + (if d.2 then 1 else 0))
  else
    let sv := solve cs (byteAt r 13) (fieldAt r 20 2) (fieldAt r 22 2) p.u p.v
    let c := colourCodes cs sv.q (fieldAt r 16 4) (scale p.y)
    let codes := if sv.failed then (cells.zip cs).map fun x => if x.2.usable then min x.2.cap (rd s (aCode front x.1) 2) else 0 else c.1
    ((if tripped then cells.map fun _ => 0 else codes),
      common + (if unusable || sv.degraded then 8 else 0) + (if sv.failed then 4 else 0) + (if sv.clipped then 2 else 0)
        + (if c.2 && !sv.failed then 1 else 0))

/-- All stages of one zone: its point, layer 1, status byte, codes into the BACK half and burn; the fade times of what was written are used. -/
def zoneTick (s : State) (lt : LumTick) (back : Bool) (z : Nat) : State :=
  let r := zoneRec s z
  let l1 := footfall s z r
  let old := rd s (aZoneState z + 24) 2
  let l1Flux := match l1 with | some fx => fx.1 | none => 0xFFFF
  let sel := selectLayer s z l1
  let p := advancePoint s z r sel (old != l1Flux || s.zones.written.contains (z * 8))
  let out := zoneCodes s r p lt (daylightOf s r sel) (!back)
  let s1 := { s with zones := { s.zones with points := tabPut s.zones.points z p, written := s.zones.written.filter fun w => w / 8 != z } }
  let s2 := store s1 (aZoneState z + 24)
    (leBytes 2 l1Flux ++ leBytes 2 (match l1 with | some fx => fx.2 | none => 0) ++ [BitVec.ofNat 8 out.2])
  ((zCells r).zip out.1).foldl (fun t cc => burnCell (wr t (aCode back cc.1) 2 cc.2) lt cc.1 cc.2) s2

/-- The present zones of a luminaire. -/
def lumZones (s : State) (l : Nat) : List Nat := s.zones.present.filter fun z => zLum (zoneRec s z) == l

/-- One luminaire of a partition, or the first `n` of its zones. -/
def luminaireTick (s : State) (back : Bool) (l n : Nat) : State :=
  let lt := lumTick s l (!back)
  ((lumZones s l).take n).foldl (fun t z => zoneTick t lt back z) s

/-- R147: the depreciation factor of one cell is computed from its accumulator. -/
def depCell (s : State) (c : Nat) : State :=
  let m := modelOf (memBytes s.mem (aModel (byteAt (memBytes s.mem (aCell c) 16) 6 % 16)) 64)
  let d := if m.depHalf = 0 then 32768 else depFactor (burnHours16 (rd s (aBurn c) 8) (tickRate s)) m.depHalf
  let fl := setting s 10 2
  let s1 := wr s (aCell c + 10) 2 (max d fl)
  { s1 with zones := { s1.zones with floored :=
      if d < fl then c :: s1.zones.floored.filter (· != c) else s1.zones.floored.filter (· != c) } }

/-- The cells of the present zones. -/
def zonedCells (s : State) : List Nat := s.zones.present.flatMap fun z => zCells (zoneRec s z)

/-- R147: recompute every depreciation factor from the accumulators, at a record close and at the first tick after a start: of every cell that a driver of the
table scans or a zone holds. -/
def recomputeDep (s : State) : State := ((usedLuminaires s).flatMap (lumCells s) ++ zonedCells s).eraseDups.foldl depCell s

/-- A cell that joins a zone and whose factor no record close has computed yet gets it now (log entry 81). -/
def depFill (s : State) : State :=
  (zonedCells s).foldl (fun t c => if rd t (aCell c + 10) 2 = 0 then depCell t c else t) s

end Sys2Proof.Machine
end

