-- ==== Sys2Proof/Machine/Engines.lean ====
section
/-!
DEFINITION. The kernel engines' control (chapter 07): loading, stopping and starting (R163, R183), exceptions and overruns (R182, R175), the
program set (R169, R170), partitions (R171, R172), the input window (R176), and the tick blocks (R173).
-/

namespace Sys2Proof.Machine

/-- `ENGINE_STATE` values (Table 7-11). -/
abbrev esStopped : Nat := 0
/-- LOADING. -/
abbrev esLoading : Nat := 1
/-- IDLE. -/
abbrev esIdle : Nat := 2
/-- RUNNING. -/
abbrev esRunning : Nat := 3
/-- STOPPING. -/
abbrev esStopping : Nat := 4
/-- FAULTED. -/
abbrev esFaulted : Nat := 5

/-- The state of engine `k`. -/
def engineState (s : State) (k : Nat) : Nat := nat s (kEngine k 2)
/-- Set the state of engine `k`. -/
def setEngineState (s : State) (k st : Nat) : State := setNum s (kEngine k 2) st

/-- The assignment of engine `k` by the program set in force (Table 7-6); without a set, the library. -/
def assignment (s : State) (k : Nat) : Nat :=
  let b := domain s kProgramSet
  if b = [] then 0xFE else byteAt b (16 + k)

/-- The 64-byte header of a program of a set. -/
def progHeader (b : Bytes) (p : Nat) : Bytes := slice b (64 + 64 * p) 64

/-- Bit 3 of `RESTART_PENDING`: some engine has a start pending (R183). -/
def noteEnginePending (s : State) : State :=
  setBit s kRestartPending 3 ((List.range 16).any fun k => (engine s k).startAsked)

/-- An engine goes to LOADING, if the set in force gives it a program, and one that has not failed its verification at step 13 (R170). -/
def beginLoad (s : State) (k : Nat) : State :=
  let e := { engine s k with startAsked := false, active := false, stall := none, held := false }
  noteEnginePending (setEngineState (putEngine s k e) k
    (if assignment s k = 0xFF ∨ s.engines.unverified.contains k then esStopped else esLoading))

/-- R163: an engine is loaded: registers 0, local data memory the data image and zeros, code memory the program. -/
def loadEngine (s : State) (k : Nat) : State :=
  let a := assignment s k
  let b := domain s kProgramSet
  let h := if a = 0xFE then [] else progHeader b a
  let data := if a = 0xFE then [] else slice b (fieldAt h 28 4) (fieldAt h 8 4)
  let old := engine s k
  let e : Engine :=
    { select := old.select, fenced := old.fenced, queue := old.queue, first := true, inputsChanged := old.inputsChanged
      overran := old.overran, mailbox := old.mailbox
      program := a
      code := if a = 0xFE then [] else slice b (fieldAt h 24 4) (fieldAt h 4 4)
      entry := fieldAt h 12 2
      role := if a = 0xFE then 2 else byteAt h 16
      faultMask := byteAt h 17, dmaMask := byteAt h 18
      mbxFirst := if a = 0xFE then 0 else fieldAt h 20 2
      mbxLast := if a = 0xFE then 0xFFFF else fieldAt h 22 2 }
  let s1 := store (putEngine s k e) (localBase k) (data ++ List.replicate (130816 - data.length) 0)
  setNum s1 (kEngine k 3) a

/-- ENGINE_LOADED (R163, R170): the load completes; the engine starts at the next tick start with FIRST set. -/
def execEngineLoaded (k : Fin 16) (s : State) : Host.Outcome State Fault Refusal :=
  .next (if engineState s k = esLoading then setEngineState (loadEngine s k) k esIdle else s)

/-- R183: a STOP; it keeps the engine out of the pipeline until it is started again (R171). -/
def stopEngine (s : State) (k : Nat) : State :=
  let e := { engine s k with held := true }
  let st := engineState s k
  if st = esRunning ∨ st = esIdle then setEngineState (putEngine s k e) k esStopping
  else if st = esLoading then setEngineState (putEngine s k e) k esStopped
  else if st = esStopping then noteEnginePending (putEngine s k { e with startAsked := false })
  else s

/-- R183, R74: a START; during STOPPING it is pending. In SAFE_MODE the engines stay off (R72). -/
def startEngine (s : State) (k : Nat) : State :=
  let st := engineState s k
  if s.start.safe then s
  else if st = esStopped ∨ st = esFaulted then beginLoad s k
  else if st = esStopping then noteEnginePending (putEngine s k { engine s k with startAsked := true })
  else s

/-- R183: a RESTART: a STOP followed by a pending START. -/
def restartEngine (s : State) (k : Nat) : State :=
  if engineState s k = esStopping then startEngine s k else startEngine (stopEngine s k) k

/-- Whether an engine still has descriptors posted or in progress (R183). -/
def hasPosted (s : State) (k : Nat) : Bool :=
  s.dma.chans.any fun c => c.2.posted.any (fun d => d.owner == k) || (match c.2.current with | some d => d.owner == k | none => false)
    || c.2.chain.any fun d => d.owner == k

/-- ENGINE_STOP_COMPLETE (R183): a stopping engine is stopped, its descriptors and its mailbox request have completed; a pending start
runs. -/
def execEngineStopComplete (k : Fin 16) (s : State) : Host.Outcome State Fault Refusal :=
  let e := engine s k
  .next (if engineState s k = esStopping ∧ !e.active ∧ !hasPosted s k ∧ e.mailbox = none then
      let s1 := setEngineState s k esStopped
      if e.startAsked then beginLoad s1 k else s1
    else s)

/-- R176: the input window opens when no engine is in its tick. -/
def openWindow (s : State) : State :=
  if (List.range 16).all fun k => !(engine s k).active then { s with engines := { s.engines with window := true } } else s

/-- R177: while no engine is IDLE, RUNNING or STOPPING, nothing reads the engine inputs. -/
def noReaders (s : State) : Bool :=
  (List.range 16).all fun k => engineState s k == esStopped || engineState s k == esLoading || engineState s k == esFaulted

/-- R176: whether a change may be applied to cell memory now. -/
def mayApply (s : State) : Bool := s.engines.window || noReaders s

/-- What the module itself does to the engines' inputs is done in an input window, behind the changes that wait (R165, R176). -/
def inWindow (s : State) (t : Task) (now : State → State) : State :=
  if s.server.waiting = [] ∧ mayApply s then now s
  else { s with server := { s.server with waiting :=
    s.server.waiting ++ [{ sid := 0xFFFF, tid := 0, op := 0, items := [], domain := none, task := some t }] } }

/-- An engine leaves its tick: idle, or stopping if a stop waits. -/
def leaveTick (s : State) (k : Nat) (e : Engine) : State :=
  let s1 := putEngine s k { e with active := false, stall := none }
  openWindow (if engineState s1 k = esRunning then setEngineState s1 k esIdle else s1)

/-- R182: an exception stops the engine at the faulting instruction, and it is FAULTED, one that was stopping too; a start pending behind that stop is lost
with it (log entry 82). -/
def engineException (s : State) (k code : Nat) : State :=
  let e := engine s k
  let s1 := noteEnginePending (putEngine s k { e with active := false, stall := none, fenced := false, startAsked := false })
  let s2 := if engineState s1 k = esRunning ∨ engineState s1 k = esStopping then setEngineState s1 k esFaulted else s1
  let s3 := setNum (bump s2 (kEngine k 6)) (kEngine k 7) (code * 2 ^ 24 + e.pc % 2 ^ 14 : Nat)
  openWindow (raise s3 12 code e.pc k)

/-- ENGINE_OVERRUN (R175): the fence deadline passes for an engine still in its tick. -/
def execEngineOverrun (k : Fin 16) (s : State) : Host.Outcome State Fault Refusal :=
  let e := engine s k
  .next (if e.active then
      let s1 := leaveTick s k { e with overran := true, fenced := false }
      raise (bump s1 (kEngine k 5)) 11 0 k k
    else s)

/-- STATS_CLEAR's effect (Table 7-11). -/
def clearEngineStats (s : State) (k : Nat) : State :=
  [5, 6, 9, 0xA, 0xD].foldl (fun t sub => setNum t (kEngine k sub) 0) s

/-! ### Partitions (R171, R172) -/

/-- The assignment of engine `k` by a program set; without a set, the library. -/
def assignOf (b : Bytes) (k : Nat) : Nat := if b = [] then 0xFE else byteAt b (16 + k)

/-- R171: whether engine `k` is a pipeline engine under a program set: it runs the library or a program with PIPELINE, and no STOP has made it STOPPING or
STOPPED with no start pending. -/
def isPipelineBy (b : Bytes) (s : State) (k : Nat) : Bool :=
  let a := assignOf b k
  let e := engine s k
  let st := engineState s k
  (a == 0xFE || (a != 0xFF && (fieldAt (progHeader b a) 14 2).testBit 0)) && !(e.held && (st == esStopped || st == esStopping) && !e.startAsked)

/-- R171: whether engine `k` is a pipeline engine. -/
def isPipeline (s : State) (k : Nat) : Bool := isPipelineBy (domain s kProgramSet) s k

/-- The engine among `es` (number, cells) with the fewest cells; ties go to the lowest number. -/
def leastLoaded : List (Nat × Nat) → Option (Nat × Nat)
  | [] => none
  | e :: t => match leastLoaded t with
    | none => some e
    | some b => if e.2 ≤ b.2 then some e else some b

/-- R171: give each luminaire with a zone to a pipeline engine. -/
def partitionOf (s : State) : Tab Bytes :=
  let recs := s.zones.present.map (zoneRec s)
  let weight := fun l => ((recs.filter fun r => zLum r == l).map zCount).foldl (· + ·) 0
  let lums := (List.range 128).filter fun l => recs.any fun r => zLum r == l
  let engs := (List.range 16).filter (isPipeline s)
  (lums.foldl (fun acc l =>
    match leastLoaded (engs.map fun k => (k, (((tabFind acc k).getD []).map fun b => weight b.toNat).foldl (· + ·) 0)) with
    | some e => tabPut acc e.1 ((tabFind acc e.1).getD [] ++ [BitVec.ofNat 8 l])
    | none => acc) [])

/-- A recomputed partition waits for a tick start (R172). -/
def repartition (s : State) : State :=
  { s with engines := { s.engines with newPartition := some (partitionOf s) } }

/-- The luminaires of engine `k`. -/
def partitionList (s : State) (k : Nat) : List Nat := ((reg s (kEngine k 0xB)).toBytes).map BitVec.toNat

/-- The engine that owns a luminaire. -/
def ownerOf (s : State) (l : Nat) : Option Nat := (List.range 16).find? fun k => (partitionList s k).contains l

/-- The select bit of an engine after the tick start at hand (R166). -/
def selectNext (e : Engine) : Bool := e.select != e.fenced

/-- R172: a luminaire that moves to an engine whose select bit differs at the move keeps its published codes: they are copied from the old FRONT half into the
other. -/
def moveLuminaire (s : State) (l : Nat) (old new : Engine) : State :=
  let oldSel := old.select
  if selectNext old = selectNext new then s
  else ((s.zones.present.filter fun z => zLum (zoneRec s z) == l).flatMap fun z => zCells (zoneRec s z)).foldl
    (fun t c => wr t (aCode oldSel c) 2 (rd t (aCode (!oldSel) c) 2)) s

/-- R172: a waiting partition takes effect at a tick start. -/
def applyPartition (s : State) : State :=
  match s.engines.newPartition with
  | none => s
  | some p =>
      let s1 := (List.range 128).foldl (fun t l =>
        match ownerOf s l, (List.range 16).find? (fun k => ((tabFind p k).getD []).contains (BitVec.ofNat 8 l)) with
        | some a, some b => moveLuminaire t l (engine t a) (engine t b)
        | _, _ => t) { s with engines := { s.engines with newPartition := none } }
      (List.range 16).foldl (fun t k =>
        let mine := (tabFind p k).getD []
        let block := localBase k + 0x1FF00
        let t1 := store (wr t (block + 20) 1 mine.length) (block + 32) (mine ++ List.replicate (128 - mine.length) 0xFF)
        if (reg t1 (kEngine k 0xB)).toBytes = mine then t1
        else putEngine (setVal t1 (kEngine k 0xB) (.bytes mine)) k { engine t1 k with inputsChanged := true }) s1

/-! ### The program set (R169, R170) -/

/-- R169: the set header of a program set (Table 7-6). -/
def setHeaderOk (runtime : Nat) (b : Bytes) : Bool :=
  let n := byteAt b 5
  fieldAt b 0 4 == 0x50474E45 && byteAt b 4 == 1 && 1 ≤ n && n ≤ 16
    && fieldAt b 12 2 ≤ runtime && runtime ≤ fieldAt b 14 2
    && ((List.range 16).all fun k => byteAt b (16 + k) < n || byteAt b (16 + k) == 0xFE || byteAt b (16 + k) == 0xFF)
    && b.length == fieldAt b 36 4 + 64 && b.length ≤ 524288

/-- A name of fixed size: UTF-8, padded with 0 bytes (R8). -/
def nameOk (b : Bytes) : Bool :=
  let t := b.takeWhile (· != 0)
  utf8Go 0 t && (b.drop t.length).all (· == 0)

/-- R169: one program's header, images and encodings; `legal` tells legal code images. -/
def programOk (legal : List Nat → Bool) (b : Bytes) (p : Nat) : Bool :=
  let h := progHeader b p
  let total := fieldAt b 36 4
  let cl := fieldAt h 4 4
  cl % 4 == 0 && 4 ≤ cl && cl ≤ 65536 && fieldAt h 8 4 ≤ 130816 && fieldAt h 12 2 < cl / 4 && byteAt h 16 ≤ 2
    && fieldAt h 24 4 + cl ≤ total && fieldAt h 28 4 + fieldAt h 8 4 ≤ total && nameOk (slice h 32 16)
    && legal ((List.range (cl / 4)).map fun i => fieldAt b (fieldAt h 24 4 + 4 * i) 4)

/-- R169: the header fields, images and encodings of a program set. -/
def programSetOk (legal : List Nat → Bool) (runtime : Nat) (b : Bytes) : Bool :=
  setHeaderOk runtime b && (List.range (byteAt b 5)).all (programOk legal b)

/-- R169: no two engines with different programs claim a common DMA channel. -/
def channelsOk (b : Bytes) : Bool :=
  let ks := (List.range 16).filter fun k => byteAt b (16 + k) < 16
  ks.all fun i => ks.all fun j =>
    byteAt b (16 + i) == byteAt b (16 + j) ||
      (byteAt (progHeader b (byteAt b (16 + i))) 18 &&& byteAt (progHeader b (byteAt b (16 + j))) 18) == 0

/-- R169: the sensor engine is assigned the library or a SENSOR program. -/
def sensorOk (b : Bytes) (k : Nat) : Bool :=
  let a := if b = [] then 0xFE else byteAt b (16 + k)
  a == 0xFE || (a != 0xFF && (fieldAt (progHeader b a) 14 2).testBit 1)

/-- R170: whether engine `k`'s assignment or program differs between two sets. -/
def assignChanged (old new : Bytes) (k : Nat) : Bool :=
  let a := if old = [] then 0xFE else byteAt old (16 + k)
  let b := if new = [] then 0xFE else byteAt new (16 + k)
  let img := fun (x : Bytes) p =>
    let h := progHeader x p
    (h, slice x (fieldAt h 24 4) (fieldAt h 4 4), slice x (fieldAt h 28 4) (fieldAt h 8 4))
  a != b || (a < 16 && img old a != img new b)

/-- R170: an accepted set stops, loads and starts every engine it changes, and the partition is recomputed if the set of pipeline engines changes
(R171). -/
def applyProgramSet (s : State) (old : Bytes) : State :=
  let new := domain s kProgramSet
  let before := (List.range 16).filter (isPipelineBy old s)
  let s0 := { s with engines := { s.engines with unverified := [] } }
  let s1 := setNum (setNum s0 (kProgramCtl 2) 2) (kProgramCtl 4) (fieldAt new 8 4)
  let s2 := (List.range 16).foldl (fun t k =>
    if assignChanged old new k then
      if assignment t k = 0xFF then stopEngine t k else restartEngine t k
    else t) s1
  if (List.range 16).filter (isPipelineBy new s2) = before then s2 else repartition s2

/-- `SET_STATUS` becomes 1 when every engine of the set has started (R170). -/
def noteSetStarted (s : State) : State :=
  if nat s (kProgramCtl 2) = 2 ∧ (List.range 16).all (fun k =>
      assignment s k == 0xFF || engineState s k == esIdle || engineState s k == esRunning) then
    setNum s (kProgramCtl 2) 1
  else s

/-! ### The tick (R166, R173) -/

/-- R166: the select bit of every engine that fenced is inverted, and `CODE_HALF` names the half that is FRONT; the area half inverts
if the sensor engine fenced. -/
def flipHalves (s : State) : State :=
  let sensorFenced := (engine s (nat s (kProgramCtl 3))).fenced
  let s1 := (List.range 16).foldl (fun t k =>
    let e := engine t k
    if e.fenced then
      setNum (putEngine t k { e with select := !e.select, fenced := false }) (kEngine k 4) (if e.select then 1 else 0)
    else t) s
  { s1 with engines := { s1.engines with
      areaHalf := if sensorFenced then !s1.engines.areaHalf else s1.engines.areaHalf, window := false } }

/-- Table 7-5: the tick block of engine `k`, but for its partition. -/
def tickBlock (s : State) (k : Nat) : Bytes :=
  let e := engine s k
  let t := fieldStamp s
  leBytes 4 s.engines.tick ++ leBytes 4 t.1 ++ leBytes 4 t.2 ++ leBytes 2 (tickRate s) ++ leBytes 2 (fieldsPerTick s)
    ++ leBytes 4 ((if e.first then 1 else 0) + (if e.inputsChanged then 2 else 0) + (if e.overran then 4 else 0)
      + (if k = nat s (kProgramCtl 3) then 8 else 0) + (if s.engines.areaHalf then 16 else 0))

/-- R173, steps 3 and 4, for one engine: its tick block is written and, if idle, it starts at its entry. -/
def startTick (s : State) (k : Nat) : State :=
  let e := engine s k
  let block := localBase k + 0x1FF00
  let s1 := wr (store s block (tickBlock s k)) (block + 24) 4 (deadlineNs s)
  if engineState s1 k = esIdle then
    setEngineState (putEngine s1 k { e with
      active := true, pc := e.entry, lu0 := {}, lu1 := {}, first := false, inputsChanged := false, overran := false, tickAt := s.clk })
      k esRunning
  else s1

/-- R174: a fence completes: codes publish at the next tick start, the cycle counts are kept, the engine is idle. -/
def fenceEngine (s : State) (k cycles : Nat) : State :=
  let s1 := setNum s (kEngine k 8) cycles
  let s2 := setNum s1 (kEngine k 9) (max (nat s1 (kEngine k 9)) cycles)
  leaveTick s2 k { engine s2 k with fenced := true, ran := true }

/-- The luminaires of a partition in order, as far as `n` zones reach. -/
def libraryZones (s : State) (back : Bool) : Nat → List Nat → State
  | _, [] => s
  | n, l :: ls => libraryZones (luminaireTick s back l n) back (n - (lumZones s l).length) ls

/-- The default tick program on one engine, from its entry to its fence. With no other program running it fences within 640,000 cycles (R184; the exact count
is a free value). Beside another program it may take longer: how many zones it processes before the fence deadline is a free value, and where that is not more
than its zones it is still in its tick, for the deadline to end (R175). -/
def libraryTick (alone : Bool) (s : State) (k : Nat) : State :=
  let e := engine s k
  let sensor := k == nat s (kProgramCtl 3)
  let s1 := putEngine s k { e with queue := [] }
  let s2 := if sensor then sensorTick s1 e.queue else s1
  let total := ((partitionList s2 k).map fun l => (lumZones s2 l).length).foldl (· + ·) 0
  let (n, s3) := takeFresh s2
  let reach := if alone then total + 1 else (Config.libraryReach n).toNat
  let s4 := libraryZones s3 e.select reach (partitionList s3 k)
  if reach ≤ total then s4
  else
    let cycles := (Config.libraryCycles n).toNat
    fenceEngine s4 k (if alone then cycles % 640001 else cycles)

/-- Every library engine that has started runs its tick. -/
def runLibrary (s : State) : State :=
  let alone := (List.range 16).all fun k => !(engine s k).active || (engine s k).program == 0xFE
  (List.range 16).foldl (fun t k =>
    if (engine t k).active && (engine t k).program == 0xFE then libraryTick alone t k else t) s

end Sys2Proof.Machine
end

