-- ==== Sys2Proof/Machine/Crypto.lean ====
section
/-!
DEFINITION. The published primitives that the spec names and does not restate: SHA-256 (FIPS 180-4), HMAC, the SP 800-108 counter KDF with
R439's fields, AES (FIPS 197), CMAC, GCM and CCM, ECDSA and ECDH on P-256. PRESUMED from those standards (log entry 31).
-/

namespace Sys2Proof.Machine

/-- A number read most significant byte first, as the cryptographic standards have it. -/
def beNat (b : Bytes) : Nat := b.foldl (fun a x => a * 256 + x.toNat) 0
/-- `n` bytes, most significant first. -/
def beBytes (n x : Nat) : Bytes := (leBytes n x).reverse
/-- Bytewise exclusive or. -/
def xorBytes (a b : Bytes) : Bytes := (a.zip b).map fun p => p.1 ^^^ p.2
/-- A content cut into blocks of `n` bytes. -/
def blocks (n : Nat) (b : Bytes) : List Bytes := (List.range ((b.length + n - 1) / n)).map fun i => slice b (n * i) n

/-! ### SHA-256 -/

/-- The first primes. -/
def primesTo (n : Nat) : List Nat :=
  (List.range n).filter fun p => 2 ≤ p && (List.range p).all fun d => d < 2 || p % d != 0
/-- The integer cube root, by bisection in `f` steps below `hi`. -/
def icbrt : Nat → Nat → Nat → Nat → Nat
  | 0, _, lo, _ => lo
  | f + 1, n, lo, hi => let m := (lo + hi) / 2; if m * m * m ≤ n then icbrt f n m hi else icbrt f n lo m
/-- Round constants: the fraction bits of the cube roots of the first 64 primes. -/
def shaK : List Nat := (primesTo 312).map fun p => icbrt 40 (p * 2 ^ 96) 0 (2 ^ 36) % 2 ^ 32
/-- Initial hash: the fraction bits of the square roots of the first 8 primes. -/
def shaH : List Nat := (primesTo 20).map fun p => Nat.sqrt (p * 2 ^ 64) % 2 ^ 32
/-- Rotate right in 32 bits. -/
def rotr (x n : Nat) : Nat := (x >>> n) ||| ((x <<< (32 - n)) % 2 ^ 32)
/-- One word of the message schedule from the 16 before it, latest first. -/
def shaNext (w : List Nat) : Nat :=
  let a := w.getD 14 0
  let b := w.getD 1 0
  (w.getD 15 0 + w.getD 6 0 + (rotr a 7 ^^^ rotr a 18 ^^^ (a >>> 3)) + (rotr b 17 ^^^ rotr b 19 ^^^ (b >>> 10))) % 2 ^ 32
/-- The message schedule of a block. -/
def shaSchedule (b : Bytes) : List Nat :=
  (iter (fun w => shaNext w :: w) 48 ((blocks 4 b).map beNat).reverse).reverse
/-- One round. -/
def shaRound (h : List Nat) (kw : Nat × Nat) : List Nat :=
  match h with
  | [a, b, c, d, e, f, g, x] =>
      let t1 := x + (rotr e 6 ^^^ rotr e 11 ^^^ rotr e 25) + ((e &&& f) ^^^ ((2 ^ 32 - 1 - e) &&& g)) + kw.1 + kw.2
      let t2 := (rotr a 2 ^^^ rotr a 13 ^^^ rotr a 22) + ((a &&& b) ^^^ (a &&& c) ^^^ (b &&& c))
      [(t1 + t2) % 2 ^ 32, a, b, c, (d + t1) % 2 ^ 32, e, f, g]
  | _ => h
/-- One block. -/
def shaBlock (h : List Nat) (b : Bytes) : List Nat :=
  (h.zip ((shaK.zip (shaSchedule b)).foldl shaRound h)).map fun p => (p.1 + p.2) % 2 ^ 32
/-- SHA-256. -/
def sha256 (m : Bytes) : Bytes :=
  let z := (119 - m.length % 64) % 64
  let p := m ++ 0x80 :: List.replicate z 0 ++ beBytes 8 (8 * m.length)
  ((blocks 64 p).foldl shaBlock shaH).flatMap (beBytes 4)

/-- HMAC-SHA-256. -/
def hmac (key m : Bytes) : Bytes :=
  let k0 := if 64 < key.length then sha256 key else key
  let k := k0 ++ List.replicate (64 - k0.length) 0
  sha256 (k.map (· ^^^ 0x5C) ++ sha256 (k.map (· ^^^ 0x36) ++ m))

/-- R439: the counter-mode KDF. `label` is the label's ASCII bytes, `bits` its length L. -/
def kdf (key label context : Bytes) (bits : Nat) : Bytes :=
  ((List.range ((bits + 255) / 256)).flatMap fun i =>
    hmac key (leBytes 4 (i + 1) ++ label ++ 0 :: context ++ leBytes 4 bits)).take (bits / 8)

/-! ### AES -/

/-- Multiplication by x in GF(2⁸). -/
def xtime (a : Nat) : Nat := if a < 128 then 2 * a else (2 * a - 256) ^^^ 0x1B
/-- The S-box (FIPS 197), byte `x` at bit `8 * x`. -/
def sbox : Nat :=
   0xC072A49CAFA2D4ADF04759FA7DC982CA76ABD7FE2B670130C56F6BF27B777C63 * 2 ^ 0
   + 0x75B227EBE28012079A059618C323C7041531D871F1E5A534CCF73F362693FDB7 * 2 ^ 256
   + 0xCF584C4A39BECB6A5BB1FC20ED00D153842FE329B3D63B52A05A6E1B1A2C8309 * 2 ^ 512
   + 0xD2F3FF1021DAB6BCF5389D928F40A351A89F3C507F02F94585334D43FBAAEFD0 * 2 ^ 768
   + 0xDB0B5EDE14B8EE4688902A22DC4F816073195D643D7EA7C41744975FEC130CCD * 2 ^ 1024
   + 0x08AE7A65EAF4566CA94ED58D6D37C8E779E4959162ACD3C25C2406490A3A32E0 * 2 ^ 1280
   + 0x9E1DC186B95735610EF6034866B53E708A8BBD4B1F74DDE8C6B4A61C2E2578BA * 2 ^ 1536
   + 0x16BB54B00F2D99416842E6BF0D89A18CDF2855CEE9871E9B948ED9691198F8E1 * 2 ^ 1792
/-- The S-box of a byte. -/
def sub8 (x : Nat) : Nat := (sbox >>> (8 * x)) % 256
/-- Key expansion: the words of the schedule, each a list of 4 bytes, latest first. `nk` is 4 or 8. -/
def expandKey (nk : Nat) : Nat → Nat → List (List Nat) → List (List Nat)
  | 0, _, w => w
  | f + 1, i, w =>
      let prev := w.headD []
      let base := w.getD (nk - 1) []
      let g := if i % nk = 0 then
          match (prev.drop 1 ++ prev.take 1).map sub8 with
          | a :: r => (a ^^^ iter xtime (i / nk - 1) 1) :: r
          | [] => []
        else if nk = 8 ∧ i % 8 = 4 then prev.map sub8 else prev
      expandKey nk f (i + 1) (((base.zip g).map fun p => p.1 ^^^ p.2) :: w)
/-- The round keys of a key of 16 or 32 bytes, each 16 bytes. -/
def roundKeys (key : Bytes) : List (List Nat) :=
  let nk := key.length / 4
  let words := (expandKey nk (4 * (nk + 7) - nk) nk ((blocks 4 key).map fun b => b.map BitVec.toNat).reverse).reverse
  (List.range (nk + 7)).map fun r => ((List.range 4).map fun j => words.getD (4 * r + j) []).flatten
/-- ShiftRows, column-major. -/
def shiftRows (s : List Nat) : List Nat := (List.range 16).map fun i => s.getD ((i + 4 * (i % 4)) % 16) 0
/-- MixColumns of one column. -/
def mixColumn (c : List Nat) : List Nat :=
  (List.range 4).map fun i =>
    xtime (c.getD i 0) ^^^ (xtime (c.getD ((i + 1) % 4) 0) ^^^ c.getD ((i + 1) % 4) 0) ^^^ c.getD ((i + 2) % 4) 0 ^^^ c.getD ((i + 3) % 4) 0
/-- MixColumns. -/
def mixColumns (s : List Nat) : List Nat := (List.range 4).flatMap fun c => mixColumn ((s.drop (4 * c)).take 4)
/-- AddRoundKey. -/
def addKey (s k : List Nat) : List Nat := (s.zip k).map fun p => p.1 ^^^ p.2
/-- The AES cipher on one block. -/
def aesBlock (key block : Bytes) : Bytes :=
  let ks := roundKeys key
  let n := ks.length - 1
  let s0 := addKey (block.map BitVec.toNat) (ks.headD [])
  let s1 := (List.range (n - 1)).foldl (fun s r => addKey (mixColumns (shiftRows (s.map sub8))) (ks.getD (r + 1) [])) s0
  (addKey (shiftRows (s1.map sub8)) (ks.getD n [])).map (BitVec.ofNat 8)

/-- AES-CMAC (SP 800-38B), 16 bytes. -/
def cmac (key m : Bytes) : Bytes :=
  let dbl := fun (x : Bytes) => let n := beNat x; beBytes 16 (if n < 2 ^ 127 then 2 * n else (2 * n % 2 ^ 128) ^^^ 0x87)
  let k1 := dbl (aesBlock key (List.replicate 16 0))
  let whole := m.length % 16 = 0 ∧ m ≠ []
  let bs := if m = [] then [[]] else blocks 16 m
  let lastB := bs.getLastD []
  let fin := if whole then xorBytes lastB k1
    else xorBytes (lastB ++ 0x80 :: List.replicate (15 - lastB.length) 0) (dbl k1)
  aesBlock key (xorBytes fin (bs.dropLast.foldl (fun c b => aesBlock key (xorBytes c b)) (List.replicate 16 0)))

/-- The CTR keystream of `n` bytes from a counter block, counting in its last `w` bytes. -/
def ctrStream (key ctr : Bytes) (w n : Nat) : Bytes :=
  ((List.range ((n + 15) / 16)).flatMap fun i =>
    aesBlock key (ctr.take (16 - w) ++ beBytes w ((beNat (ctr.drop (16 - w)) + i) % 256 ^ w))).take n

/-- Multiplication in GF(2¹²⁸) as GCM has it. -/
def ghashMul (x y : Nat) : Nat :=
  ((List.range 128).foldl (fun (p : Nat × Nat) i =>
    (if x.testBit (127 - i) then p.1 ^^^ p.2 else p.1,
     if p.2 % 2 = 1 then (p.2 / 2) ^^^ (0xE1 * 2 ^ 120) else p.2 / 2)) (0, y)).1

/-- AES-GCM (SP 800-38D) with a 12-byte IV: the plaintext of a ciphertext whose tag verifies. -/
def gcmOpen (key iv aad c tag : Bytes) : Option Bytes :=
  let h := beNat (aesBlock key (List.replicate 16 0))
  let pad := fun (b : Bytes) => (blocks 16 b).map fun x => beNat (x ++ List.replicate (16 - x.length) 0)
  let y := (pad aad ++ pad c ++ [(8 * aad.length) * 2 ^ 64 + 8 * c.length]).foldl (fun a x => ghashMul (a ^^^ x) h) 0
  let t := xorBytes (aesBlock key (iv ++ [0, 0, 0, 1])) (beBytes 16 y)
  if t = tag then some (xorBytes c (ctrStream key (iv ++ [0, 0, 0, 2]) 4 c.length)) else none

/-- The CCM* authentication block chain with a 13-byte nonce and a tag of `t` bytes, before encryption. -/
def ccmMac (t : Nat) (key nonce a m : Bytes) : Bytes :=
  let pad := fun (b : Bytes) => b ++ List.replicate ((16 - b.length % 16) % 16) 0
  let b0 := BitVec.ofNat 8 ((if a = [] then 0 else 0x40) + 8 * ((t - 2) / 2) + 1) :: (nonce ++ beBytes 2 m.length)
  let bs := b0 :: blocks 16 ((if a = [] then [] else pad (beBytes 2 a.length ++ a)) ++ pad m)
  (bs.foldl (fun c b => aesBlock key (xorBytes c b)) (List.replicate 16 0)).take t

/-- CCM* sealing (IEEE 802.15.4): ciphertext and a tag of `t` bytes. -/
def ccmSeal (t : Nat) (key nonce a m : Bytes) : Bytes :=
  xorBytes m (ctrStream key ([0x01] ++ nonce ++ [0, 1]) 2 m.length) ++ xorBytes (ccmMac t key nonce a m) (aesBlock key ([0x01] ++ nonce ++ [0, 0]))

/-- CCM* opening: the plaintext, if the tag of `t` bytes verifies. -/
def ccmOpen (t : Nat) (key nonce a c : Bytes) : Option Bytes :=
  let body := c.take (c.length - t)
  let m := xorBytes body (ctrStream key ([0x01] ++ nonce ++ [0, 1]) 2 body.length)
  if t ≤ c.length ∧ ccmSeal t key nonce a m = c then some m else none

/-! ### P-256 -/

/-- The field prime. -/
def p256 : Nat := 2 ^ 256 - 2 ^ 224 + 2 ^ 192 + 2 ^ 96 - 1
/-- The group order. -/
def n256 : Nat := 0xFFFFFFFF00000000FFFFFFFFFFFFFFFFBCE6FAADA7179E84F3B9CAC2FC632551
/-- The coefficient b. -/
def b256 : Nat := 0x5AC635D8AA3A93E7B3EBBD55769886BC651D06B0CC53B0F63BCE3C3E27D2604B
/-- The base point. -/
def g256 : Nat × Nat :=
  (0x6B17D1F2E12C4247F8BCE6E563A440F277037D812DEB33A0F4A13945D898C296,
   0x4FE342E2FE1A7F9B8EE7EB4A7C0F9E162BCE33576B315ECECBB6406837BF51F5)
/-- Modular power by squaring, over the exponent's `f` low bits. -/
def powMod (m : Nat) : Nat → Nat → Nat → Nat
  | 0, _, _ => 1
  | f + 1, b, e => let h := powMod m f (b * b % m) (e / 2); if e % 2 = 1 then h * b % m else h
/-- The inverse modulo a prime. -/
def invMod (m x : Nat) : Nat := powMod m 256 (x % m) (m - 2)
/-- Point addition; `none` is the point at infinity. -/
def ecAdd : Option (Nat × Nat) → Option (Nat × Nat) → Option (Nat × Nat)
  | none, q => q
  | q, none => q
  | some (x1, y1), some (x2, y2) =>
      if x1 = x2 ∧ (y1 + y2) % p256 = 0 then none
      else
        let l := if x1 = x2 then (3 * x1 * x1 + (p256 - 3)) * invMod p256 (2 * y1) % p256
          else (y2 + p256 - y1) * invMod p256 (x2 + p256 - x1) % p256
        let x3 := (l * l + 2 * p256 - x1 - x2) % p256
        some (x3, (l * (x1 + p256 - x3) + p256 - y1) % p256)
/-- Scalar multiplication over the scalar's `f` low bits. -/
def ecMul : Nat → Nat → Option (Nat × Nat) → Option (Nat × Nat)
  | 0, _, _ => none
  | f + 1, k, p => let h := ecMul f (k / 2) (ecAdd p p); if k % 2 = 1 then ecAdd h p else h
/-- Whether a point lies on the curve. -/
def onCurve (q : Nat × Nat) : Bool :=
  q.1 < p256 && q.2 < p256 && q.2 * q.2 % p256 == (q.1 * q.1 % p256 * q.1 + (p256 - 3) * q.1 + b256) % p256
/-- A public key's coordinates: x, then y, 32 bytes each under R5 (Table 18-4). -/
def pointOf (b : Bytes) : Nat × Nat := (leNat (b.take 32), leNat ((b.drop 32).take 32))
/-- A public key's 64 bytes. -/
def pointBytes (q : Option (Nat × Nat)) : Bytes :=
  match q with
  | some (x, y) => leBytes 32 x ++ leBytes 32 y
  | none => List.replicate 64 0
/-- The public key of a private scalar. -/
def ecPublic (d : Nat) : Bytes := pointBytes (ecMul 256 d (some g256))
/-- The ECDH shared secret: the x coordinate, under R5; none for a point off the curve. -/
def ecdh (d : Nat) (pub : Bytes) : Option Bytes :=
  if onCurve (pointOf pub) then (ecMul 256 d (some (pointOf pub))).map fun q => leBytes 32 q.1 else none
/-- ECDSA verification with SHA-256; the signature is r, then s. -/
def ecdsaOk (pub m sig : Bytes) : Bool :=
  let r := leNat (sig.take 32)
  let s := leNat ((sig.drop 32).take 32)
  let w := invMod n256 s
  let e := beNat (sha256 m)
  onCurve (pointOf pub) && 0 < r && r < n256 && 0 < s && s < n256 &&
    (match ecAdd (ecMul 256 (e * w % n256) (some g256)) (ecMul 256 (r * w % n256) (some (pointOf pub))) with
     | some q => q.1 % n256 == r
     | none => false)

end Sys2Proof.Machine
end

