-- ==== Sys2Proof/Machine/Keys.lean ====
section
/-!
DEFINITION. The seed, the key area, shells and their use, derivation, import and destruction, attestation and debug unlock (R437 to R448).
-/

namespace Sys2Proof.Machine

/-- The register `sub` of KEYS (Table 18-7). -/
def kKeys (sub : Nat) : Key := 0xA000 * 256 + sub
/-- The register `sub` of ATTESTATION (Table 18-9). -/
def kAttest (sub : Nat) : Key := 0xA010 * 256 + sub
/-- The module's 64-bit serial. -/
def serial (s : State) : Nat := s.mram.serial

/-- The ASCII bytes of a label (R439). -/
def ascii (x : String) : Bytes := x.toList.map fun c => BitVec.ofNat 8 c.toNat

/-- `n` bytes of the DRBG: free values (R437). -/
def drbg (s : State) : Nat → Bytes × State
  | 0 => ([], s)
  | n + 1 =>
      let (k, s1) := takeFresh s
      let (b, s2) := drbg s1 n
      (Config.drbgByte k :: b, s2)

/-- Shell `n`. -/
def shell (s : State) (n : Nat) : Shell := (tabFind s.mram.keys.shells n).getD {}

/-- R438: a key-area change: the copy not in force is rewritten under a fresh mask nonce, its sequence last. -/
def keyChange (s : State) (a : KeyArea) : State :=
  let (nonce, s1) := drbg s 16
  let seq := max a.seqA a.seqB + 1
  let a1 := if a.seqB ≤ a.seqA then { a with seqB := seq, maskB := nonce } else { a with seqA := seq, maskA := nonce }
  { s1 with mram := { s1.mram with keys := a1 } }

/-- Put shell `n`, without a key-area change of its own. -/
def putShell (a : KeyArea) (n : Nat) (x : Shell) : KeyArea := { a with shells := tabPut a.shells n x }

/-- R440: whether a shell is valid, within `f` levels. -/
def validShell (s : State) : Nat → Nat → Bool
  | 0, _ => false
  | f + 1, n =>
      let x := shell s n
      x.type != 0 && !x.orphaned &&
        (x.parent == 0xFF || (validShell s f x.parent && (shell s x.parent).generation == x.parentGen))

/-- R440's limit of 8 levels. -/
def isValid (s : State) (n : Nat) : Bool := validShell s 8 n
/-- The levels of a shell's chain. -/
def levels (s : State) : Nat → Nat → Nat
  | 0, _ => 0
  | f + 1, n => if (shell s n).parent = 0xFF then 1 else 1 + levels s f (shell s n).parent
/-- Whether a shell has a usage bit. -/
def hasUsage (s : State) (n bit : Nat) : Bool := (shell s n).usage.testBit bit

/-- The role a shell grants (Table 18-2), as a number of Table 4-3; none for a type that grants no role. -/
def shellGrant (s : State) (n : Nat) : Option Role :=
  let x := shell s n
  if x.type = 5 then some (if x.grant = 0 then .observer else if x.grant = 1 then .operator else .integrator)
  else if x.type = 6 then some .safety
  else if x.type = 7 then some .vendor
  else none

/-- R82: every session authenticated under a shell that is gone closes; a partner's is its association under its link shell (R120). -/
def closeShellSessions (s : State) (n gen : Nat) : State :=
  (s.server.sessions.filter fun p => p.2.shell == some (n, gen) || (transportOf p.1 == .air && byteAt (partnerRec s (p.1 - 0x1000)) 10 == n)).foldl
    (fun t p => closeSession t p.1) s

/-- R444: a shell is destroyed. -/
def destroyShell (s : State) (n : Nat) : State :=
  let gen := (shell s n).generation
  closeShellSessions (keyChange s (putShell s.mram.keys n { generation := (gen + 1) % 2 ^ 32 })) n gen

/-- R440: a shell found invalid is ORPHANED and its sessions end. -/
def checkShell (s : State) (n : Nat) : State :=
  let x := shell s n
  if x.type = 0 ∨ x.orphaned ∨ isValid s n then s
  else
    closeShellSessions (keyChange s (putShell s.mram.keys n { x with orphaned := true })) n x.generation

/-- R441: one use of a shell's key is counted, in the key area (R438); the use that exhausts `USES_LEFT` destroys the shell. -/
def useShell (s : State) (n : Nat) : State :=
  let x := shell s n
  let s1 := keyChange s (putShell s.mram.keys n { x with uses := (x.uses + 1) % 2 ^ 32, usesLeft := x.usesLeft - 1 })
  if x.usesLeft = 1 then destroyShell s1 n else s1

/-- R445: whether a shell may be used with a usage bit, by a request; a valid shell of the wrong type or without the bit raises source 47. -/
def mayUse (s : State) (n bit : Nat) (types : List Nat) : Bool × State :=
  let s1 := checkShell s n
  if !isValid s1 n then (false, s1)
  else if types.contains (shell s1 n).type && hasUsage s1 n bit then (true, s1)
  else (false, raise s1 47 2 (bit * 256 + n))

/-- R439: a key derived from a shell, one use of it. -/
def deriveKey (s : State) (n : Nat) (label : String) (bits : Nat) : Bytes × State :=
  (kdf (shell s n).key (ascii label) (shell s n).context bits, useShell s n)

/-- The private scalar of a DEVICE_SIGN or IMPORT child (Table 18-5). -/
def scalarOf (b : Bytes) : Nat := leNat b % (n256 - 1) + 1

/-- The usage bits Table 18-3 allows for a shell type. -/
def usageAllowed (type : Nat) : Nat :=
  if type = 2 then 2 ^ 12 else if type = 3 then 2 ^ 11 else if type = 4 then 2 ^ 4 + 2 ^ 3 + 2 ^ 2 + 2 ^ 1
  else if type = 8 then 2 ^ 8 + 2 ^ 10
  else if type = 7 then 2 ^ 10 + 2 ^ 9 + 2 ^ 7 + 2 ^ 6 + 2 ^ 5 + 1
  else if type = 5 ∨ type = 6 then 2 ^ 10 + 2 ^ 7 + 2 ^ 6 + 2 ^ 5 + 1
  else 0

/-- Whether role `a` is one that a shell granting `b` grants. -/
def grants (b a : Option Role) : Bool :=
  match a, b with
  | none, _ => true
  | some _, none => false
  | some .observer, some _ => true
  | some .operator, some r => r != .observer
  | some .integrator, some r => r == .integrator || r == .safety || r == .vendor
  | some .safety, some r => r == .safety
  | some .vendor, some r => r == .vendor

/-- The shell that a derive or import body describes (Table 18-6), without its key. -/
def bodyShell (s : State) (v : Bytes) : Shell :=
  let parent := byteAt v 2
  { type := byteAt v 1, parent := parent, usage := fieldAt v 4 2 % 2 ^ 13, grant := if byteAt v 1 = 5 then byteAt v 6 else 0
    usesLeft := fieldAt v 8 4, expires := (byteAt v 7).testBit 0, generation := (shell s (byteAt v 0)).generation
    parentGen := if parent = 0xFF then 0 else (shell s parent).generation, context := slice v 12 16 }

/-- The role a shell described by a body would grant. -/
def bodyGrant (v : Bytes) : Option Role :=
  let t := byteAt v 1
  if t = 5 then some (if byteAt v 6 = 0 then .observer else if byteAt v 6 = 1 then .operator else .integrator)
  else if t = 6 then some .safety else if t = 7 then some .vendor else none

/-- R442, R443: slot, parent and usage faults, as STATE_CONFLICT. -/
def bodyConflict (s : State) (v : Bytes) (derive : Bool) : Bool :=
  let slot := byteAt v 0
  let parent := byteAt v 2
  (shell s slot).type != 0
    || (if parent = 0xFF then derive
        else !isValid s parent || (derive && !hasUsage s parent 10) || (derive && ((fieldAt v 4 2 % 2 ^ 13) &&& (shell s parent).usage) != fieldAt v 4 2 % 2 ^ 13)
          || (derive && !grants (shellGrant s parent) (bodyGrant v)) || 8 ≤ levels s 8 parent)

/-- R442: type and usage values, as OUT_OF_RANGE. -/
def bodyRange (v : Bytes) (derive : Bool) : Bool :=
  let t := byteAt v 1
  let u := fieldAt v 4 2 % 2 ^ 13
  (if derive then t == 2 || t == 3 || t == 5 || t == 6 || t == 8 else t == 4 || t == 5 || t == 6 || t == 7 || t == 8)
    && (u &&& usageAllowed t) == u && (if t = 5 then byteAt v 6 ≤ 2 else byteAt v 6 == 0)

/-- R442: a child is derived. -/
def shellDerive (s : State) (v : Bytes) : State :=
  let x := bodyShell s v
  let slot := byteAt v 0
  let parent := byteAt v 2
  let k := (shell s parent).key
  let x1 := if x.type = 2 ∨ x.type = 3 then
      let d := scalarOf (kdf k (ascii "ECDSA-P256") x.context 384)
      { x with key := leBytes 32 d, pub := ecPublic d }
    else { x with key := kdf k (ascii "SHELL") x.context 256 }
  let s1 := useShell s parent
  keyChange s1 (putShell s1.mram.keys slot x1)

/-- R443: the valid VERIFY shell with FIRMWARE_RUNTIME that endorses an import. -/
def endorser (s : State) (v : Bytes) : Option Nat :=
  (List.range 256).find? fun n => isValid s n && (shell s n).type == 4 && hasUsage s n 4
    && ecdsaOk (shell s n).pub (v.take 140 ++ s.mram.keys.importNonce) (slice v 140 64)

/-- R443: the key an import brings; none when the tag, ECDH or endorsement fails. -/
def importKey (s : State) (v : Bytes) : Option Shell :=
  let x := bodyShell s v
  let pub := slice v 28 64
  if x.type = 4 then
    if x.usage.testBit 4 && (endorser s v).isNone then none
    else some { x with pub := pub, keyId := leNat ((sha256 pub).take 8) }
  else
    let imp := shell s (byteAt v 3)
    match ecdh (leNat imp.key) pub with
    | none => none
    | some z =>
        let kek := kdf z (ascii "IMPORT") s.mram.keys.importNonce 256
        (gcmOpen kek (List.replicate 12 0) (v.take 92) (slice v 92 32) (slice v 124 16)).map fun k => { x with key := k }

/-- Whether an import may use its IMPORT shell (R445). -/
def importShellOk (s : State) (v : Bytes) : Bool :=
  byteAt v 1 == 4 || (isValid s (byteAt v 3) && (shell s (byteAt v 3)).type == 3 && hasUsage s (byteAt v 3) 11)

/-- R441: the use of its IMPORT shell, or of the shell that endorses it, that an import makes. -/
def importUse (s : State) (v : Bytes) : State :=
  if byteAt v 1 ≠ 4 then useShell s (byteAt v 3)
  else if (fieldAt v 4 2).testBit 4 then
    match endorser s v with
    | some n => useShell s n
    | none => s
  else s

/-- R443: an accepted import: the shell and a new `IMPORT_NONCE` in one key-area change. -/
def shellImport (s : State) (v : Bytes) (x : Shell) : State :=
  let s1 := importUse s v
  let (nonce, s2) := drbg s1 16
  keyChange s2 { putShell s2.mram.keys (byteAt v 0) x with importNonce := nonce }

/-- Whether a valid SAFETY shell exists (R446). -/
def hasSafety (s : State) : Bool := (List.range 256).any fun n => (shell s n).type == 6 && isValid s n

/-- R440: the shells that hold a session, or supply a configured key: `BUS_SHELL` of either bus, `AIR_SHELL`, and the `LINK_SHELL` of each partner
(a partner's session is held by its link shell, R120). -/
def watchedShells (s : State) : List Nat :=
  (s.server.sessions.filterMap fun p => p.2.shell.map (·.1)) ++ ([nat s 0x240003, nat s 0x240103, nat s 0x26000A]
    ++ ((List.range 1024).filterMap fun h =>
      let r := partnerRec s h
      if byteAt r 8 ≠ 0 ∧ leNat (r.take 8) ≠ 0 then some (byteAt r 10) else none)).filter (· ≠ 0xFF)

/-- SHELL_CHECK (R440): the once-per-second check of every shell that holds a session or supplies a configured key. -/
def execShellCheck (s : State) : Host.Outcome State Fault Refusal :=
  .next ((watchedShells s).foldl checkShell s)

/-- R447: the response to a challenge. -/
def attest (s : State) (v : Bytes) : State :=
  let n := byteAt v 0
  let m := slice v 1 16 ++ leBytes 8 (serial s) ++ s.update.measurement ++ leBytes 4 (nat s 0x103003)
  let r := (hmac (shell s n).key m).take 16
  bump (setVal (useShell s n) (kAttest 2) (.bytes (v ++ r))) (kAttest 4)

/-- R447: whether a challenge names a shell that may answer it. -/
def attestOk (s : State) (v : Bytes) : Bool :=
  isValid s (byteAt v 0) && (shell s (byteAt v 0)).type == 8 && hasUsage s (byteAt v 0) 8

/-- DBG_CHALLENGE (R448): a fresh nonce is shifted out. -/
def execDbgChallenge (s : State) : Host.Outcome State Fault Refusal :=
  let (b, s1) := drbg s 16
  .next (emit { s1 with update := { s1.update with dbgNonce := some b } } (.jtag b))

/-- DBG_RESPONSE (R448): a valid VENDOR tag over the nonce unlocks processor debug; a wrong one consumes the nonce. -/
def execDbgResponse (n : Byte) (tag : Bytes) (s : State) : Host.Outcome State Fault Refusal :=
  .next (match s.update.dbgNonce with
    | none => s
    | some nonce =>
        let s0 := { s with update := { s.update with dbgNonce := none } }
        let (ok, s1) := mayUse s0 n.toNat 9 [7]
        let s2 := if ok then useShell s1 n.toNat else s1
        if ok && (hmac (shell s1 n.toNat).key (nonce ++ leBytes 8 (serial s1))).take 16 == tag then
          bump { s2 with update := { s2.update with debug := true } } (kKeys 8)
        else raise s2 47 3 0)

/-- Step 1 (R437, R438, R444): the seed of the first start with the factory shells of Table 18-8, shells that expire, and the re-mask. -/
def unmaskKeys (s : State) : State :=
  let s1 :=
    if s.mram.keys.header then s
    else
      let (seed, t) := drbg s 32
      let (nonce, t1) := drbg t 16
      let root := kdf seed (ascii "ROOT") (leBytes 8 (serial s)) 256
      let release := (List.range 64).map Config.releaseKey
      let child := fun (type usage : Nat) =>
        let d := scalarOf (kdf root (ascii "ECDSA-P256") (List.replicate 16 0) 384)
        ({ type := type, parent := 0, usage := usage, factory := true, key := leBytes 32 d, pub := ecPublic d } : Shell)
      { t1 with mram := { t1.mram with keys := { t1.mram.keys with
          header := true, seed := seed, importNonce := nonce
          shells := [(0, { type := 1, usage := 2 ^ 10, factory := true, key := root }), (1, child 2 (2 ^ 12)), (2, child 3 (2 ^ 11)),
            (3, { type := 4, usage := 2 ^ 4, factory := true, pub := release, keyId := leNat ((sha256 release).take 8) }),
            (4, { type := 7, usage := 2 ^ 9 + 1, factory := true, key := (List.range 32).map Config.vendorKey })] } } }
  let s2 := (tabKeys s1.mram.keys.shells).foldl (fun t n => if (shell t n).expires then destroyShell t n else t) s1
  keyChange s2 { s2.mram.keys with maskStarts := (s2.mram.keys.maskStarts + 1) % 2 ^ 32 }

/-- Values of the key area read as they are now. -/
def liveKeys (s : State) (idx sub : Nat) : Option Val :=
  let a := s.mram.keys
  if idx = 0xA000 then
    if sub = 1 then some (.num (if !a.checks then 2 else if a.header then 1 else 0))
    else if sub = 2 then some (.num (a.shells.filter fun p => p.2.type != 0).length)
    else if sub = 6 then some (.bytes a.importNonce)
    else if sub = 7 then some (.num a.maskStarts)
    else none
  else if idx = 0xA010 ∧ sub = 3 then some (.bytes s.update.measurement)
  else if 0xA100 ≤ idx ∧ idx ≤ 0xA1FF then
    let x := shell s (idx - 0xA100)
    if sub = 1 then some (.num x.type)
    else if sub = 2 then some (.num x.parent)
    else if sub = 3 then some (.num x.usage)
    else if sub = 4 then some (.num x.grant)
    else if sub = 5 then some (.num x.usesLeft)
    else if sub = 6 then some (.num ((if x.factory then 1 else 0) + (if x.expires then 2 else 0) + (if x.orphaned then 4 else 0) : Nat))
    else if sub = 7 then some (.num x.generation)
    else if sub = 8 then some (.num x.parentGen)
    else if sub = 9 then some (.bytes x.context)
    else if sub = 0xA then some (.bytes x.pub)
    else if sub = 0xB then some (.num x.keyId)
    else if sub = 0xC then some (.num x.uses)
    else none
  else none

/-- Check 5 of the key commands (R442). -/
def rangeKeys (idx sub : Nat) (v : Bytes) : Bool :=
  if idx = 0xA000 ∧ sub = 4 then bodyRange v false
  else if idx = 0xA000 ∧ sub = 5 then bodyRange v true
  else true

/-- Check 3 beyond the roles of the tables: a VENDOR shell is imported (R443), and one with FACTORY set destroyed (R444), in a VENDOR session only. -/
def vendorOnly (s : State) (idx sub : Nat) (v : Bytes) : Bool :=
  (idx == 0xA000 && sub == 4 && byteAt v 1 == 7) || (0xA100 ≤ idx && idx ≤ 0xA1FF && sub == 0xD && (shell s (idx - 0xA100)).factory)

/-- Check 6 and the further errors of the key commands, as codes of Table 5-4; 0 accepts. -/
def condKeys (s : State) (idx sub : Nat) (v : Bytes) : Byte :=
  if idx = 0xA000 ∧ sub = 4 then
    if bodyConflict s v false then 7
    else if !importShellOk s v ∨ (importKey s v).isNone then 0x15
    else 0
  else if idx = 0xA000 ∧ sub = 5 then (if bodyConflict s v true then 7 else 0)
  else if idx = 0xA010 then (if s.update.debug ∨ !attestOk s v then 7 else 0)
  else 0

/-- What a refused key command still does: a failed import raises source 47 (R443), a shell of the wrong kind too (R445). -/
def refusedKeys (s : State) (idx sub : Nat) (v : Bytes) (code : Byte) : State :=
  if idx = 0xA000 ∧ sub = 4 ∧ code = 0x15 then
    if importShellOk s v then raise (importUse s v) 47 1 0
    else (mayUse s (byteAt v 3) 11 [3]).2
  else if idx = 0xA010 ∧ !s.update.debug then (mayUse s (byteAt v 0) 8 [8]).2
  else s

/-- The key commands. -/
def commandKeys (s : State) (idx sub : Nat) (v : Bytes) : State :=
  if idx = 0xA000 ∧ sub = 4 then (match importKey s v with | some x => shellImport s v x | none => s)
  else if idx = 0xA000 ∧ sub = 5 then shellDerive s v
  else if idx = 0xA010 then attest s v
  else if 0xA100 ≤ idx ∧ idx ≤ 0xA1FF then destroyShell s (idx - 0xA100)
  else s

end Sys2Proof.Machine
end

