-- ==== Sys2Proof/Machine/Can.lean ====
section
/-!
DEFINITION. The floor-bus controllers as the rest of the machine sees them (chapter 14): the matrix in use, the own node, the bus key, and sending a frame.
-/

namespace Sys2Proof.Machine

/-- The register `sub` of controller `k`'s FLOOR_BUS (Table 14-9). -/
def kBus (k sub : Nat) : Key := (0x2400 + k) * 256 + sub
/-- The matrix of controller `k` (R349). -/
def kMatrix (k : Nat) : Key := 0x2480 * 256 + k + 1
/-- `ADDRESS_STATUS` (Table 1-4). -/
abbrev kAddrStatus : Key := 0x101002
/-- `ADDRESS_ACTIVE` (Table 1-4). -/
abbrev kAddrActive : Key := 0x101003
/-- `PEER_SERIAL` (Table 17-8). -/
abbrev kPeerSerial : Key := 0x740002

/-- Floor-bus controller `k`. -/
def bus (s : State) (k : Nat) : Bus := (tabFind s.bus k).getD {}
/-- Put floor-bus controller `k`. -/
def putBus (s : State) (k : Nat) (b : Bus) : State := { s with bus := tabPut s.bus k b }
/-- `BUS_STATE`: 0 OFF, 1 JOINING, 2 RESTRICTED, 3 MEMBER, 4 MASTER, 5 UNSCHEDULED, 6 BUS_OFF. -/
def busState (s : State) (k : Nat) : Nat := nat s (kBus k 9)
/-- Whether a controller runs: neither OFF nor BUS_OFF. -/
def busRuns (s : State) (k : Nat) : Bool := busState s k != 0 && busState s k != 6
/-- Whether the module is in SAFE_MODE (Table 3-8), or in a SAFE_MODE start (R71). -/
def safeMode (s : State) : Bool := nat s kModuleState == 2 || s.start.safe
/-- Whether the module is the standby. -/
def isStandby (s : State) : Bool := nat s kRole == 2

/-! ### The matrix (R349, R350) -/

/-- The tag of a matrix (R349). -/
def matrixTag (m : Bytes) : Nat := crc32 m % 65536
/-- Whether a content is a matrix. -/
def isMatrix (m : Bytes) : Bool := m.length == 472
/-- R350: the matrix in use on controller `k`. -/
def matrix (s : State) (k : Nat) : Bytes :=
  let m := domain s (kMatrix k)
  match (bus s k).tag with
  | some t => if isMatrix (bus s k).previous && matrixTag m != t && matrixTag (bus s k).previous == t then (bus s k).previous else m
  | none => m
/-- R350: neither matrix carries the master's tag. -/
def matrixMismatch (s : State) (k : Nat) : Bool :=
  match (bus s k).tag with
  | some t => !(isMatrix (matrix s k) && matrixTag (matrix s k) == t)
  | none => false
/-- A node's serial in a matrix; 0 for none. -/
def nodeSerial (m : Bytes) (n : Nat) : Nat := fieldAt m (16 + 12 * n) 8
/-- A node's address in a matrix. -/
def nodeAddress (m : Bytes) (n : Nat) : Nat := fieldAt m (24 + 12 * n) 2
/-- A node's MANAGER flag. -/
def nodeManager (m : Bytes) (n : Nat) : Bool := (byteAt m (26 + 12 * n)).testBit 0
/-- The node of a master rank; 0xFF for none. -/
def rankNode (m : Bytes) (r : Nat) : Nat := byteAt m (400 + r)
/-- The node whose serial is the module's. -/
def ownNode (s : State) (k : Nat) : Option Nat :=
  let m := matrix s k
  if isMatrix m ∧ serial s ≠ 0 then (List.range 32).find? fun n => nodeSerial m n == serial s else none
/-- The module's rank in the master table. -/
def ownRank (s : State) (k : Nat) : Option Nat :=
  (ownNode s k).bind fun n => (List.range 8).find? fun r => rankNode (matrix s k) r == n
/-- Whether the module's node entry on controller `k` carries MANAGER. -/
def isManagerOn (s : State) (k : Nat) : Bool :=
  match ownNode s k with
  | some n => nodeManager (matrix s k) n
  | none => false
/-- Whether the module carries MANAGER on a bus. -/
def isManager (s : State) : Bool := isManagerOn s 0 || isManagerOn s 1
/-- Whether the module is a node of a bus whose matrix lists a manager. -/
def isManaged (s : State) : Bool :=
  [0, 1].any fun k => (ownNode s k).isSome && (List.range 32).any fun n => nodeSerial (matrix s k) n != 0 && nodeManager (matrix s k) n
/-- R350, R32: the matrix gives the own serial another address, or the own address to a serial that is neither the module's nor its pair partner's. -/
def matrixConflict (s : State) (k : Nat) : Bool :=
  let m := matrix s k
  isMatrix m && (List.range 32).any fun n =>
    nodeSerial m n != 0 &&
      if nodeSerial m n = serial s then nodeAddress m n != nat s kAddrActive
      else nodeAddress m n == nat s kAddrActive && nodeSerial m n != nat s kPeerSerial

/-! ### Restricted operation (R359) -/

/-- Restricted by role, SAFE_MODE or ADDRESS_CONFLICT: BUS_STATUS bit 2. -/
def busStandby (s : State) : Bool := isStandby s || safeMode s || bit s kAddrStatus 0

/-- The cases of R359 but JOINING. -/
def restrictedCase (s : State) (k : Nat) : Bool :=
  busStandby s || matrixMismatch s k || (ownNode s k).isNone || (bus s k).dupNode || (bus s k).key.isNone

/-- Whether a controller may send: it runs and is not in restricted operation. -/
def maySend (s : State) (k : Nat) : Bool := (busState s k == 3 || busState s k == 4 || busState s k == 5) && !restrictedCase s k

/-! ### Frames (R344) -/

/-- N of the module's TB2 now. -/
def ownCycle (s : State) : Nat := tbNs s 2 / 1000000

/-- R27: the time base on whose whole milliseconds the segment cycle starts: TB2 on a floor bus, the field time base on none. -/
def cycleBase (s : State) : Nat := if busState s 0 != 0 || busState s 1 != 0 then 2 else fieldBase s

/-- Time passes until a base has come to a multiple of `period` ns plus `offset`; none where it stands there, within `slack` ns. -/
def reachMultiple (s : State) (n period offset slack : Nat) : State :=
  let past := (tbNs s n + period - offset) % period
  if past ≤ slack then s else elapse s (cyclesTo s n (tbNs s n + (period - past)))

/-- The MAC of R344. -/
def canMac (key : Bytes) (id n : Nat) (data : Bytes) : Bytes := (cmac key (leBytes 2 id ++ leBytes 8 n ++ data)).take 4

/-- A frame leaves controller `k` now with 10 bytes of data (Table 14-4); its start of frame is captured (R329). -/
def sendCan (s : State) (k id : Nat) (data : Bytes) : State :=
  match (bus s k).key with
  | some (_, _, key) =>
      capture (emit s (.can k id (data ++ leBytes 2 (ownCycle s % 65536) ++ canMac key id (ownCycle s) data))) (2 + k)
  | none => s

/-- FRAME_MAX of a rate pair in µs (Table 14-2). -/
def frameMax (rates : Nat) : Nat := [160, 104, 127, 71].getD rates 160
/-- The last permitted start point of a rate pair, in µs after the window's start (R342). -/
def lastStart (rates : Nat) : Nat := 250 - frameMax rates

/-- ALARM of a zone (R355). -/
def alarmData (z : Nat) : Bytes := [1, BitVec.ofNat 8 z] ++ List.replicate 8 0

/-- Whether TB2 stands in an arbitration window of controller `k`, which sends under the window rules (R346, R347). -/
def inArbitration (s : State) (k : Nat) : Bool :=
  maySend s k && busState s k != 5 && tbNs s 2 % 1000000 / 250000 % 2 == 0
/-- R347: whether the window's LSP is still to come. -/
def beforeLsp (s : State) (k : Nat) : Bool := tbNs s 2 % 250000 < lastStart (bus s k).rates * 1000
/-- R347: whether an ALARM frame queued now starts in the window in progress, in which no other has been on the bus. -/
def startsNow (s : State) (k : Nat) : Bool := inArbitration s k && beforeLsp s k && (bus s k).seen.isEmpty

/-- R354: in UNSCHEDULED every queued ALARM frame is sent, without window rules. -/
def flushAlarms (s : State) (k : Nat) : State :=
  if busState s k = 5 ∧ maySend s k then
    (bus s k).alarms.foldl (fun t z => sendCan t k z (alarmData z)) (putBus s k { bus s k with alarms := [] })
  else s

/-- R355: an ALARM frame of a zone is queued on an enabled controller. In an arbitration window it starts at once; from the window's LSP on it waits for
the next and is counted (R347). -/
def queueAlarm (s : State) (k z : Nat) : State :=
  let b := bus s k
  if busState s k = 0 ∨ safeMode s ∨ b.alarms.contains z then s
  else if startsNow s k then putBus (sendCan s k z (alarmData z)) k { b with seen := z :: b.seen }
  else
    let s1 := putBus s k { b with alarms := b.alarms ++ [z] }
    flushAlarms (if inArbitration s k && !beforeLsp s k then bump s1 (kBus k 0x11) else s1) k

end Sys2Proof.Machine
end

