-- ==== Sys2Proof/Machine/LineCode.lean ====
section
/-!
DEFINITION. The 8b/10b code of the lanes (R210): characters, code groups and running disparity. The spec names IEEE 802.3 Clause 36 and prints no code group:
the sub-block tables are that standard's (PRESUMED, log entry 77).
-/

namespace Sys2Proof.Machine

/-- The 6-bit sub-blocks abcdei of D0 to D31 in negative running disparity. -/
def sixBits : List (BitVec 6) :=
  [0b100111, 0b011101, 0b101101, 0b110001, 0b110101, 0b101001, 0b011001, 0b111000]
    ++ [0b111001, 0b100101, 0b010101, 0b110100, 0b001101, 0b101100, 0b011100, 0b010111]
    ++ [0b011011, 0b100011, 0b010011, 0b110010, 0b001011, 0b101010, 0b011010, 0b111010]
    ++ [0b110011, 0b100110, 0b010110, 0b110110, 0b001110, 0b101110, 0b011110, 0b101011]
/-- The 4-bit sub-blocks fghj of y = 0 to 7 of data in negative running disparity; 7 in its primary form. -/
def fourBits : List (BitVec 4) := [0b1011, 0b1001, 0b0101, 0b1100, 0b1101, 0b1010, 0b0110, 0b1110]

/-- The ones of a sub-block. -/
def ones (n x : Nat) : Nat := ((List.range n).filter x.testBit).length
/-- A sub-block as it is sent in a running disparity: one that is unbalanced, and 111000 and 1100, is complemented in the positive one. -/
def inDisparity (n x : Nat) (rd : Bool) : Nat :=
  if rd && (ones n x * 2 != n || x == 0b111000 || (n == 4 && x == 0b1100)) then 2 ^ n - 1 - x else x
/-- The running disparity after a sub-block: one that is unbalanced changes it. -/
def afterBlock (n x : Nat) (rd : Bool) : Bool := if ones n x * 2 = n then rd else !rd

/-- The code group of a data byte and the running disparity after it: bit a is the most significant. -/
def dataGroup (rd : Bool) (b : Byte) : BitVec 10 × Bool :=
  let x := b.toNat % 32
  let six := inDisparity 6 (sixBits.getD x 0).toNat rd
  let mid := afterBlock 6 six rd
  let alternate := b.toNat / 32 == 7 && (if mid then [11, 13, 14].contains x else [17, 18, 20].contains x)
  let four := if alternate then (if mid then 0b1000 else 0b0111) else inDisparity 4 (fourBits.getD (b.toNat / 32) 0).toNat mid
  (BitVec.ofNat 10 (16 * six + four), afterBlock 4 four mid)

/-- The code group of a control character of Table 9-1 in negative running disparity. -/
def controlBits : LaneChar → Nat
  | .k285 => 0b0011111010
  | .k281 => 0b0011111001
  | .k277 => 0b1101101000
  | .k297 => 0b1011101000
  | .k307 => 0b0111101000
  | .d _ => 0

/-- The code group of a character and the running disparity after it; a control character's is complemented in positive running disparity. -/
def codeGroup (rd : Bool) : LaneChar → BitVec 10 × Bool
  | .d b => dataGroup rd b
  | c => (BitVec.ofNat 10 (if rd then 1023 - controlBits c else controlBits c), afterBlock 10 (controlBits c) rd)

/-- The code groups of characters from a running disparity on, and the running disparity after them. -/
def lineCode (rd : Bool) : List LaneChar → List (BitVec 10) × Bool
  | [] => ([], rd)
  | c :: t =>
      let g := codeGroup rd c
      let r := lineCode g.2 t
      (g.1 :: r.1, r.2)

end Sys2Proof.Machine
end

