-- ==== Sys2Proof/Machine/Lanes.lean ====
section
/-!
DEFINITION. The drive lanes (chapter 09): the transmit buffer and its numbering, the order of transmission, the FIELD_MARK, priority
injection, COMMIT, delivery and resends, link faults, start and stop.
-/

namespace Sys2Proof.Machine

/-- The register `sub` of lane `n` (Table 9-13). -/
def kLane (n sub : Nat) : Key := (0x3000 + n) * 256 + sub
/-- The register `sub` of SCAN_TIMING (Tables 1-2 and 10-3). -/
def kScan (sub : Nat) : Key := 0x3200 * 256 + sub

/-- Lane `n`. -/
def lane (s : State) (n : Nat) : Lane := (tabFind s.lanes.list n).getD {}
/-- Put lane `n`. -/
def putLane (s : State) (n : Nat) (l : Lane) : State := { s with lanes := { s.lanes with list := tabPut s.lanes.list n l } }
/-- Position `p` of lane `n`. -/
def pos (s : State) (n p : Nat) : Pos := (tabFind (lane s n).pos p).getD {}
/-- Put position `p` of lane `n`. -/
def putPos (s : State) (n p : Nat) (x : Pos) : State := let l := lane s n; putLane s n { l with pos := tabPut l.pos p x }
/-- `LANE_STATE`: 0 STOPPED, 1 STARTING, 2 RUNNING, 3 SCENE_ONLY, 4 STOPPING. -/
def laneState (s : State) (n : Nat) : Nat := nat s (kLane n 2)
/-- Whether the lane runs, RUNNING or SCENE_ONLY (R242). -/
def laneRuns (s : State) (n : Nat) : Bool := laneState s n == 2 || laneState s n == 3
/-- Whether the driver table has an entry for a position. -/
def inTable (s : State) (n p : Nat) : Bool := num s (kDriver (16 * n + p) 1) != 0
/-- Whether a driver holds a position (`DRIVERS_PRESENT`). -/
def present (s : State) (n p : Nat) : Bool := bit s (kLane n 9) p
/-- The positions of a lane's driver table. -/
def tablePositions (s : State) (n : Nat) : List Nat := (List.range 16).filter (inTable s n)
/-- The present positions of a lane. -/
def presentPositions (s : State) (n : Nat) : List Nat := (List.range 16).filter (present s n)

/-! ### Records (R215 to R217) -/

/-- Control-class record types (Table 9-4). -/
def isControl (type : Nat) : Bool := (0x20 ≤ type && type ≤ 0x24) || type == 0x30 || type == 0x31
/-- Requests: unicast control records that the driver answers with a reply (R219). -/
def isRequest (r : TxRec) : Bool := r.dest < 16 && (r.type == 0x21 || r.type == 0x22 || r.type == 0x30 || r.type == 0x31)

/-- The bytes of a record from `STREAM` to the CRC-32 (Table 9-3). -/
def wireRecord (stream : Option Nat) (type dest seq : Nat) (payload : Bytes) : Bytes :=
  let st := match stream with | some n => leBytes 4 n | none => []
  let b := st ++ [BitVec.ofNat 8 type, BitVec.ofNat 8 dest] ++ leBytes 2 seq ++ leBytes 2 payload.length ++ payload
  b ++ leBytes 4 (crc32 b)

/-- The characters a record takes: `LEN` + 12, or `LEN` + 16 in dual-stream mode (R215). -/
def recordChars (dual : Bool) (r : TxRec) : Nat := r.payload.length + 12 + (if dual then 4 else 0)

/-- A record enters the transmit buffer of lane `n`. -/
def enqueue (s : State) (n : Nat) (r : TxRec) : State := let l := lane s n; putLane s n { l with buffer := l.buffer ++ [r] }

/-- A new control record to a position (R217). -/
def queueControl (s : State) (n p type : Nat) (payload : Bytes) : State :=
  let x := pos s n p
  enqueue (putPos s n p { x with seq := (x.seq + 1) % 65536 }) n { type := type, dest := p, seq := some x.seq, payload := payload }

/-- A new control record to every driver (R217). -/
def queueBroadcast (s : State) (n type : Nat) (payload : Bytes) : State :=
  let l := lane s n
  enqueue (putLane s n { l with bseq := (l.bseq + 1) % 65536 }) n { type := type, dest := 0xFF, seq := some l.bseq, payload := payload }

/-- A new state record. -/
def queueState (s : State) (n type dest : Nat) (payload : Bytes) : State :=
  enqueue s n { type := type, dest := dest, payload := payload }

/-- R222: the first field of lane `n` starting at least 44 µs from now, under the number R324 gives it. -/
def effectField (s : State) (n : Nat) : Nat :=
  let l := lane s n
  let past := 8 * (s.clk - l.markAt)
  namedField s (if !l.begun || past + 44000 ≤ fieldPeriod s then l.next else l.next + 1)

/-- A SCENE_SELECT payload (Table 9-6). -/
def scenePayload (scene origin effect : Nat) : Bytes := [BitVec.ofNat 8 scene, BitVec.ofNat 8 origin] ++ leBytes 4 effect
/-- A GROUP_TRIP payload (Table 9-6). -/
def tripPayload (mask effect : Nat) : Bytes := leBytes 8 mask ++ leBytes 4 effect

/-- The lanes of a lane's lock group that are not STOPPED; the lane itself when unlocked (R231). -/
def lockLanes (s : State) (n : Nat) : List Nat :=
  let g := (lane s n).lock
  if g = 0xFF then [n] else (List.range 8).filter fun m => (lane s m).lock == g && laneState s m != 0

/-- A normal-path SCENE_SELECT of the runtime to every driver of the lane and of its lock group (R222, R231). -/
def selectScene (s : State) (n scene : Nat) : State :=
  (lockLanes s n).foldl (fun t m => queueState t m 0x10 0xFF (scenePayload scene 0 (effectField s n))) s

/-- R221: a record on the normal path enters the lane's buffer; a SCENE_SELECT with ORIGIN 1 or a GROUP_TRIP is discarded and counted. -/
def normalPath (s : State) (n : Nat) (r : TxRec) : State :=
  if r.type = 0x13 ∨ (r.type = 0x10 ∧ byteAt r.payload 1 = 1) then bump s (kLane n 0xD) else enqueue s n r

/-- A data record of the lane feed enters the buffer of a lane that runs; on a lane whose tick ends later, by its PHASE, it waits for that lane's first field
(R232, R233). -/
def feedArrives (s : State) (n : Nat) (r : TxRec) : State :=
  let l := lane s n
  if laneState s n != 2 && laneState s n != 3 then s
  else if l.inLast then putLane s n { l with due := l.due ++ [r] }
  else enqueue s n r

/-- R271: a complete record that arrived at a lane's port. -/
def portRecord (s : State) (n : Nat) (b : Bytes) : State :=
  let type := byteAt b 0
  if type = 1 ∨ type = 2 then feedArrives s n { type := type, dest := byteAt b 1, payload := b.drop 6, feed := true } else
  let seq := if [3, 0x10, 0x11, 0x12, 0x3F, 0x40].contains type then none else some (fieldAt b 2 2)
  normalPath s n { type := type, dest := byteAt b 1, seq := seq, payload := b.drop 6 }

/-- Records are taken from a port's bytes as long as one is complete. -/
def portDrain : Nat → Nat → State → State
  | 0, _, s => s
  | f + 1, n, s =>
      let b := (lane s n).port
      let len := 6 + fieldAt b 4 2
      if 6 ≤ b.length ∧ len ≤ b.length then
        portDrain f n (portRecord (putLane s n { lane s n with port := b.drop len }) n (b.take len))
      else s

/-- R271: bytes written to the transmit port of lane `n`. -/
def portWrite (s : State) (n : Nat) (b : Bytes) : State :=
  let l := lane s n
  portDrain ((l.port ++ b).length / 6 + 1) n (putLane s n { l with port := l.port ++ b })

/-! ### Link faults (R242) -/

/-- Bits of `LANE_STATUS` that show the conditions currently met. -/
def laneStatusBits (s : State) (n : Nat) : State :=
  let m := (lane s n).met.map fun c => c.1 / 256
  let b := fun (t : State) (bit kind : Nat) => setBit t (kLane n 0xA) bit (m.contains kind)
  b (b (b (b s 4 1) 3 2) 2 3) 1 7

/-- A condition of Table 9-14: its kind, and its address where that is a position; kind 3's address is a count. -/
def condOf (kind addr : Nat) : Nat := kind * 256 + if kind = 3 then 0 else addr % 256

/-- A condition of Table 9-14 is noted as met. -/
def laneMet (s : State) (n kind addr : Nat) : State :=
  let l := lane s n
  let c := condOf kind addr
  laneStatusBits (putLane s n { l with met := (c, true) :: l.met.filter fun x => x.1 != c }) n

/-- A condition of Table 9-14 is met: source `n` is raised when it begins, or a coded message is reported while the lane starts or stops. -/
def laneFault (s : State) (n kind addr : Nat) : State :=
  let known := (lane s n).met.any fun x => x.1 == condOf kind addr
  let s1 := laneMet s n kind addr
  if known then s1
  else if laneRuns s n then
    raise (if kind = 1 ∨ kind = 2 then { s1 with pair := { s1.pair with linkFault := some s1.clk } } else s1) n kind addr n
  else logMessage s1 (faultCode n kind addr)

/-- A condition ends; the last one to end ends the source's condition. -/
def laneFaultEnd (s : State) (n kind addr : Nat) : State :=
  let l := lane s n
  let c := condOf kind addr
  if l.met.any fun x => x.1 == c then
    let rest := l.met.filter fun x => x.1 != c
    let s1 := laneStatusBits (putLane s n { l with met := rest }) n
    if rest = [] then endCondition s1 n else s1
  else s

/-- RETURN_SILENT (R242, kind 2). -/
def execReturnSilent (n : Fin 8) (s : State) : Host.Outcome State Fault Refusal :=
  .next (if laneRuns s n ∧ nat s (kLane n 9) ≠ 0 then laneFault (putLane s n { lane s n with silent := true }) n 2 0 else s)

/-- What lies within the last second. -/
def lastSecond (s : State) (ts : List Nat) : List Nat := ts.filter fun t => s.clk < t + secs 1
/-- `RX_ERR` of a position over the last second. -/
def recentErrors (s : State) (n p : Nat) : Nat := (((pos s n p).rxErrs.filter fun x => s.clk < x.1 + secs 1).map (·.2)).foldl (· + ·) 0
/-- R242, kind 3: over 1 % of the home-slot bursts expected within the last second are discarded: one of each present driver in each of its fields
(the drivers present now stand for the whole second, log entry 78). -/
def returnErrors (s : State) (n : Nat) : Bool :=
  let l := lane s n
  min l.fields (fieldRate s) * (presentPositions s n).length < (lastSecond s l.discards).length * 100

/-- Whether a condition of Table 9-14 that is a state and no event is met now: kinds 2 to 5. -/
def heldNow (s : State) (n c : Nat) : Bool :=
  if c / 256 = 2 then (lane s n).silent
  else if c / 256 = 3 then returnErrors s n
  else if c / 256 = 4 then 8 ≤ (pos s n (c % 256)).late
  else if c / 256 = 5 then 16 ≤ recentErrors s n (c % 256)
  else false

/-- Whether a condition lasts until its own end and not for a second only: kind 1 until the driver returns, kind 6 until delivery. -/
def lasting (c : Nat) : Bool := c / 256 == 1 || c / 256 == 6

/-- LANE_FAULT_CHECK (R242): conditions that were not met for the full second just ended end; one that is met now is met in the second that begins. -/
def execLaneFaultCheck (n : Fin 8) (s : State) : Host.Outcome State Fault Refusal :=
  let gone := (lane s n).met.filter fun c => !c.2 && !lasting c.1
  let s1 := gone.foldl (fun t c => laneFaultEnd t n (c.1 / 256) (c.1 % 256)) s
  let l := lane s1 n
  .next (putLane s1 n { l with met := l.met.map fun c => (c.1, heldNow s1 n c.1), discards := lastSecond s l.discards })

/-! ### Transmission (R212, R220) -/

/-- Whether lane `n`'s forward pair is driven: in SAFE_MODE only while ARB_GRANT is high (R72). -/
def laneDriven (s : State) (n : Nat) : Bool := (lane s n).marks && (!safeMode s || s.pair.grant)

/-- The characters of the current field gone by: sent, or passed as time. -/
def fieldUsed (s : State) (n : Nat) : Nat := max (lane s n).used ((s.clk - (lane s n).markAt) / 5)

/-- Characters leave on the forward pair after the IDLEs that have filled the time since the last ones, each of which turns the running disparity (R210). -/
def sendChars (s : State) (n : Nat) (cs : List LaneChar) : State :=
  let l := lane s n
  let used := fieldUsed s n
  let x := lineCode (l.rd != ((used - l.used) % 2 == 1)) cs
  let s1 := putLane s n { l with rd := x.2, used := used + cs.length }
  if laneDriven s n then emit s1 (.lane n x.1) else s1

/-- A record's characters (Table 9-3): SOR, its bytes, EOR or ABORT. -/
def recordCode (wire : Bytes) (abort : Bool) : List LaneChar := .k277 :: wire.map .d ++ [if abort then .k307 else .k297]

/-- A record leaves on the forward pair. `abort` ends it with ABORT. -/
def transmit (s : State) (n : Nat) (r : TxRec) (priority abort : Bool) : State :=
  let l := lane s n
  let number := r.stream.getD l.stream
  let stream := if !l.dual then none else if priority then some 0xFFFFFFFF else some number
  let x := pos s n r.dest
  let seq := if r.feed then x.dseq else r.seq.getD ((l.next + 65535) % 65536)
  let wire := wireRecord stream r.type r.dest seq r.payload
  let s1 := sendChars s n (recordCode wire abort)
  let s2 := if l.dual && !priority && nat s kRole == 1 then emit s1 (.mirror n wire) else s1
  let l2 := lane s2 n
  bump (putLane s2 n { l2 with
    pos := if r.feed then tabPut l2.pos r.dest { x with dseq := (x.dseq + 1) % 65536 } else l2.pos
    stream := if l.dual && !priority then (if number + 1 = 0xFFFFFFFF then 0 else number + 1) else l.stream }) (kLane n 0xB)

/-- R436: whether a lane carries only mirrored records on the normal path: a standby's, in dual-stream mode. -/
def mirrorOnly (s : State) (n : Nat) : Bool := (lane s n).dual && nat s kRole == 2

/-- R219: whether a buffered record may leave now: at most 8 undelivered per position, and one request that awaits a reply; a standby sends no
control record of its own (Table 17-2), and on a lane in dual-stream mode nothing but mirrored records (R436). -/
def sendable (s : State) (n : Nat) (r : TxRec) : Bool :=
  if r.stream.isSome then true
  else if mirrorOnly s n || isControl r.type && nat s kRole == 2 then false
  else if r.dest < 16 && isControl r.type && !r.again then
    (pos s n r.dest).sent.length < 8 && !(isRequest r && (pos s n r.dest).request.isSome)
  else true

/-- The first record that may leave, keeping the order of each position's records, and the rest of the buffer. -/
def pickRecord (s : State) (n : Nat) : List Nat → List TxRec → Option (TxRec × List TxRec)
  | _, [] => none
  | held, r :: t =>
      if held.contains r.dest && isControl r.type && !r.again || !sendable s n r then
        (pickRecord s n (r.dest :: held) t).map fun x => (x.1, r :: x.2)
      else some (r, t)

/-- R220: what goes next among the normal records: a SCENE_SELECT first. -/
def nextRecord (s : State) (n : Nat) : Option (TxRec × List TxRec) :=
  let b := (lane s n).buffer
  match b.findIdx? fun r => r.type == 0x10 && sendable s n r with
  | some i => (b[i]?).map fun r => (r, b.eraseIdx i)
  | none => pickRecord s n [] b

/-- A sent unicast control record is undelivered until STATUS acknowledges it (R219). -/
def noteSent (s : State) (n : Nat) (r : TxRec) : State :=
  if r.dest < 16 && isControl r.type && !r.again then
    let x := pos s n r.dest
    putPos s n r.dest { x with
      sent := x.sent ++ [{ txr := r }]
      request := if isRequest r then some { txr := r } else x.request }
  else s

/-- The normal-path record next in order leaves if it ends at least 32 characters before the next field start (R220). `eccFail` says that its data fail an ECC
check while it is sent (R210). -/
def sendNormal (s : State) (n : Nat) (eccFail : Bool) : Option State :=
  match nextRecord s n with
  | none => none
  | some (r, rest) =>
      if fieldUsed s n + recordChars (lane s n).dual r + 32 ≤ fieldPeriod s / 40 then
        let s1 := noteSent (transmit (putLane s n { lane s n with buffer := rest }) n r false eccFail) n r
        some (if eccFail then laneFault (raise s1 16 0 0) n 7 0 else s1)
      else none

/-- RECORD_TRANSMIT (R220): the record next in precedence leaves, if it fits before the next field start. -/
def execRecordTransmit (n : Fin 8) (eccFail : Bool) (s : State) : Host.Outcome State Fault Refusal :=
  let l := lane s n
  .next (if !l.marks then s
    else match l.prio with
    | r :: t =>
        if fieldUsed s n + recordChars l.dual r ≤ fieldPeriod s / 40 then transmit (putLane s n { l with prio := t }) n r true false else s
    | [] => (sendNormal s n eccFail).getD s)

/-- R222: the safety core writes a record into a lane's priority queue; GROUP_TRIP does not exist in version 1. -/
def inject (s : State) (n type : Nat) (payload : Bytes) : State :=
  let l := lane s n
  if laneState s n = 0 ∨ (type = 0x13 ∧ l.version = 1) then s
  else putLane s n { l with prio := l.prio ++ [{ type := type, dest := 0xFF, payload := payload }] }

/-- A record of the safety core goes directly after a FIELD_MARK. -/
def injectNow (s : State) (n type : Nat) (payload : Bytes) : State :=
  transmit s n { type := type, dest := 0xFF, payload := payload } true false

/-- The FIELD_MARK's bytes after its K28.5 (Table 9-2, Table 9-12). -/
def fieldMarkBytes (s : State) (l : Lane) (k : Nat) : Bytes :=
  let tickpos := BitVec.ofNat 8 (k % fieldsPerTick s)
  let b := leBytes 4 k ++ (if l.version = 1 then [] else [BitVec.ofNat 8 l.lock, BitVec.ofNat 8 l.phase]) ++ [tickpos]
  b ++ leBytes 2 (crc16 b)

/-- Whether field `k` is at or after the field from which a selection is in force (R214). -/
def reached (start : Option Nat) (k : Nat) : Bool :=
  match start with
  | some e => (k % 2 ^ 32 + 2 ^ 32 - e % 2 ^ 32) % 2 ^ 32 < 2 ^ 31
  | none => true

/-- R223, R401: the records of the safety core due in a field: the egress selection or its end, then the trip mask. -/
def fieldInjections (s : State) (n k : Nat) : State :=
  let s1 :=
    if s.safety.egress then (if reached (lane s n).egressFrom k then injectNow s n 0x10 (scenePayload 2 1 k) else s)
    else if (lane s n).endScene ≠ 0 then
      let s0 := injectNow s n 0x10 (scenePayload 0 1 k)
      let s2 := putLane s0 n { lane s0 n with endScene := (lane s0 n).endScene - 1 }
      if (lane s2 n).endScene = 0 ∧ laneState s2 n = 3 then selectScene s2 n 1 else s2
    else s
  if nat s1 0x700002 ≠ 0 ∧ (lane s1 n).version ≠ 1 ∧ reached (lane s1 n).tripFrom k then injectNow s1 n 0x13 (tripPayload (nat s1 0x700002) k) else s1

/-- Whether field `k` is the last field of the lane's tick (R234, R324). -/
def lastOfTick (s : State) (k : Nat) : Bool :=
  (k + 1) % fieldsPerTick s == 0 &&
    match s.time.longEnd with
    | some e => e ≤ k + 1
    | none => true

/-- Normal-path records leave in their order until a COMMIT has. -/
def sendCommit : Nat → Nat → State → State
  | 0, _, s => s
  | f + 1, n, s =>
      match sendNormal s n false with
      | some s1 => if (nextRecord s n).any fun x => x.1.type == 3 then s1 else sendCommit f n s1
      | none => s

/-- R234: the COMMIT of the last field of the lane's tick enters the buffer, behind what waits there (R220), and leaves; data records that were not sent are
dropped (R233). -/
def commit (s : State) (n k : Nat) : State :=
  let l := lane s n
  let s1 := putLane s n { l with buffer := l.buffer.filter fun r => !r.feed }
  if laneState s n = 2 ∧ l.feeding ∧ !mirrorOnly s n then
    let s2 := enqueue s1 n { type := 3, dest := if l.lock = 0xFF then 0xFF else 0xF0 + l.lock
                             payload := [BitVec.ofNat 8 (s.engines.tick % 256), 0, 0, 0] ++ leBytes 4 (namedField s (k + 1)) }
    sendCommit (lane s2 n).buffer.length n s2
  else s1

/-- R239: one of the three STOP records of a stop, once the buffer has run empty. -/
def stopRecord (s : State) (n : Nat) : State :=
  let l := lane s n
  if laneState s n = 4 ∧ l.stops ≠ 0 ∧ (l.buffer.filter (sendable s n)) = [] ∧ !mirrorOnly s n then
    transmit (putLane s n { l with stops := l.stops - 1, stopping := true }) n
      { type := 0x3F, dest := 0xFF, payload := [BitVec.ofNat 8 l.stopMode, 0, 0, 0] } false false
  else s

/-! ### Delivery (R219) -/

/-- Undelivered control records leave again, under their own SEQ. -/
def resend (s : State) (n p : Nat) (cs : List Ctrl) : State :=
  cs.foldl (fun t c => bump (enqueue t n { c.txr with again := true, stream := none }) (kLane n 0xF)) (putPos s n p (pos s n p))

/-- Whether a record, or a request that awaits its reply, has been resent four times (R219). -/
def unacked (s : State) (n p : Nat) : Bool := (pos s n p).sent.any (fun c => 4 ≤ c.resends) || (pos s n p).request.any fun c => 4 ≤ c.resends
/-- CONTROL_UNACKED follows the position's records: it begins after the fourth resend of one and ends when that one is delivered (R219, R242). -/
def noteUnacked (s : State) (n p : Nat) : State := if unacked s n p then laneFault s n 6 p else laneFaultEnd s n 6 p

/-- CONTROL_RESEND (R219): 8 fields have passed without delivery. -/
def execControlResend (n : Fin 8) (p : Fin 16) (s : State) : Host.Outcome State Fault Refusal :=
  let x := pos s n p
  .next (if !(lane s n).marks ∨ x.sent = [] ∨ nat s kRole = 2 then s
    else
      let s1 := resend s n p x.sent
      noteUnacked (putPos s1 n p { pos s1 n p with sent := x.sent.map fun c => { c with resends := c.resends + 1 } }) n p)

/-- REQUEST_RESEND (R219): a delivered request has had no reply for 8 fields. -/
def execRequestResend (n : Fin 8) (p : Fin 16) (s : State) : Host.Outcome State Fault Refusal :=
  let x := pos s n p
  .next (match x.request with
    | none => s
    | some c =>
        if (lane s n).marks && c.delivered && nat s kRole != 2 then
          let s1 := resend s n p [c]
          noteUnacked (putPos s1 n p { pos s1 n p with request := some { c with resends := c.resends + 1 } }) n p
        else s)

/-- R219: `ACK_SEQ` delivers every undelivered record at or before it. -/
def deliver (s : State) (n p ack : Nat) : State :=
  let x := pos s n p
  let done := fun (c : Ctrl) => (ack + 65536 - c.txr.seq.getD 0) % 65536 < 32768
  let rest := x.sent.filter fun c => !done c
  let scheduled := x.advSent && !(rest.any fun c => c.txr.type == 0x24) && !((lane s n).buffer.any fun r => r.type == 0x24 && r.dest == p)
  let s1 := putPos s n p { x with sent := rest, advSet := x.advSet || scheduled, request := x.request.map fun c => { c with delivered := c.delivered || done c } }
  if unacked s1 n p then s1 else laneFaultEnd s1 n 6 p

/-- A request has its reply (R219). -/
def answered (s : State) (n p : Nat) : State :=
  let s1 := putPos s n p { pos s n p with request := none }
  if unacked s1 n p then s1 else laneFaultEnd s1 n 6 p

/-! ### Start and stop (R238 to R241) -/

/-- A driver's RETURN_SCHEDULE (Table 9-6). -/
def returnSchedule (s : State) (n p advance : Nat) : State :=
  if (lane s n).version = 1 then s
  else queueControl s n p 0x24 ([BitVec.ofNat 8 p, 0, 0, 0] ++ leBytes 2 advance)

/-- `UNKNOWN_DRIVERS` without a lane's entries: the list is rebuilt at every discovery run (Table 10-3). -/
def dropUnknown (s : State) (n : Nat) : State :=
  let b := (reg s (kScan 6)).toBytes
  setVal s (kScan 6) (.bytes (((List.range (b.length / 9)).map fun i => slice b (9 * i) 9).flatMap fun e => if byteAt e 0 = n then [] else e))

/-- The number of the field of the generator that a lane of phase `phase` starts at or after `ns` from now (R24, R212), and, rounded, the one that
starts now. -/
def fieldFrom (s : State) (phase ns : Nat) : Nat :=
  let p := (fieldPeriod s : Int) * 65536
  (((((fieldNs s + ns : Nat) : Int) * 65536 - s.time.off - fieldPeriod s * 256 * phase + p - 1).fdiv p)).toNat
/-- See `fieldFrom`. -/
def fieldHere (s : State) (phase : Nat) : Nat :=
  let p := (fieldPeriod s : Int) * 65536
  ((((fieldNs s : Int) * 65536 - s.time.off - fieldPeriod s * 256 * phase + p / 2).fdiv p)).toNat

/-- The transmitter of a lane is enabled: IDLE for 100 µs, and FIELD_MARKs from the next field start on (R238, R241). Drivers gain sync anew, so their
`ADVANCE` counts as not set (R228). -/
def laneIdle (s : State) (l : Lane) : Lane :=
  { l with
    marks := true, marksFrom := s.clk + usec 100, markAt := s.clk, used := 0, rd := false
    pos := l.pos.map fun x => (x.1, { x.2 with advSet := false, advSent := false }) }

/-- What outlives a stop of the lane: what the drivers' last STATUS told (Table 10-1, R257) and which of them are missing (R242, kind 1). -/
def laneRest (l : Lane) : Lane :=
  { ({} : Lane) with
    pos := l.pos.map fun x => (x.1, { ({} : Pos) with statusAt := x.2.statusAt, overTemp := x.2.overTemp })
    met := l.met.filter fun c => c.1 / 256 == 1 }

/-- Whether the lanes run in stored-scene-only mode: step 7 was done by its alternative, or the start is one into SAFE_MODE (R63, R71). -/
def storedOnly (s : State) : Bool := s.start.safe || (7 ≤ s.start.next && s.start.bookmark.altUsed.toNat.testBit 7)

/-- R236: whether a lane speaks version 1 at a field rate other than 4,000 Hz. -/
def rateConflict (s : State) (n : Nat) : Bool := nat s (kLane n 8) == 1 && nat s 0x320001 != 4000

/-- R238: a STOPPED lane starts; in stored-scene-only mode it will be SCENE_ONLY (R63). Settings accepted since the last START apply (R237), and the
rates of R26 when no lane runs. A version-1 lane is unlocked with PHASE 0 (Table 9-12). -/
def startLane (s : State) (n : Nat) : State :=
  let idle := (List.range 8).all fun m => laneState s m == 0
  let s0 := if idle && (nat s 0x320001 != s.time.fieldRate || nat s 0x320002 != s.time.tickRate) then startGenerator s else s
  let v1 := nat s (kLane n 8) == 1
  let sceneOnly := storedOnly s
  let phase := if v1 then 0 else nat s (kLane n 5)
  let l := { laneRest (lane s0 n) with
    next := fieldFrom s0 phase 100000
    lock := if v1 then 0xFF else nat s (kLane n 4)
    phase := phase, stopMode := nat s (kLane n 6), dual := flag s (kLane n 7), version := nat s (kLane n 8), sceneOnly := sceneOnly
    disc := some { wait := 5 } }
  let s1 := setNum (putLane s0 n { laneIdle s0 l with marks := s.lanes.pll }) (kLane n 2) 1
  let s2 := (tablePositions s1 n).foldl (fun t p => returnSchedule t n p 0) s1
  let s3 := dropUnknown (queueState s2 n 0x40 0xFF (List.replicate 12 0)) n
  let s4 := if s3.safety.egress then inject s3 n 0x10 (scenePayload 2 1 l.next) else s3
  if sceneOnly then selectScene s4 n 1 else s4

/-- LANE_START_COMPLETE (R238): every driver of the table has answered, or 64 fields have passed. -/
def execLaneStartComplete (n : Fin 8) (s : State) : Host.Outcome State Fault Refusal :=
  .next (if laneState s n = 1 ∧ (64 ≤ (lane s n).fields || (tablePositions s n).all fun p => (pos s n p).arrived) then
      let s1 := setNum s (kLane n 2) (if (lane s n).sceneOnly then 3 else 2)
      let s2 := (lane s1 n).met.foldl (fun t c => if c.1 / 256 = 1 then t else raise t n (c.1 / 256) (c.1 % 256) n) s1
      (tablePositions s2 n).foldl (fun t p => if (pos t n p).arrived then t else raise (laneMet t n 1 p) n 1 p n) s2
    else s)

/-- RESTART_PENDING of a lane, and bit 0 of 0x1018.05 (R240). -/
def lanePending (s : State) (n : Nat) (v : Bool) : State :=
  let s1 := setBit (putLane s n { lane s n with startAsked := v }) (kLane n 0xA) 5 v
  setBit s1 kRestartPending 0 ((List.range 8).any fun m => (lane s1 m).startAsked)

/-- R239: a STOP of a lane; of a STOPPING lane, it cancels a pending START (R74). -/
def stopLane (s : State) (n : Nat) : State :=
  let st := laneState s n
  if st = 4 then lanePending s n false
  else if st = 0 then s
  else
    let l := lane s n
    setNum (putLane s n { l with stops := 3, stopping := false, stopFields := 0, feeding := false, buffer := l.buffer ++ l.due, due := []
                                 disc := none, pos := l.pos.map fun x => (x.1, { x.2 with stopOk := false }) }) (kLane n 2) 4

/-- R240: a START. -/
def laneStart (s : State) (n : Nat) : State :=
  if laneState s n = 0 then startLane s n
  else if laneState s n = 4 then lanePending s n true
  else s

/-- R240: a RESTART. -/
def laneRestart (s : State) (n : Nat) : State :=
  if laneState s n = 0 then startLane s n else lanePending (stopLane s n) n true

/-- Whether a stop is complete (R239): its three STOPs are sent, and every present driver has reported or 16 fields have passed since the first. A lane on which
nothing but mirrored records leaves (R436) sends no STOP. -/
def stopDone (s : State) (n : Nat) : Bool :=
  mirrorOnly s n || ((lane s n).stops == 0 && (16 ≤ (lane s n).stopFields || (presentPositions s n).all fun p => (pos s n p).stopOk))

/-- LANE_STOP_COMPLETE (R239): the transmitter stops; a present driver that has not reported is marked missing. -/
def execLaneStopComplete (n : Fin 8) (s : State) : Host.Outcome State Fault Refusal :=
  .next (if laneState s n = 4 ∧ stopDone s n then
      let again := (lane s n).startAsked
      let s0 := if mirrorOnly s n then s else (presentPositions s n).foldl (fun t p => if (pos t n p).stopOk then t else laneFault t n 1 p) s
      let s1 := lanePending s0 n false
      let s2 := setNum (setNum (putLane s1 n (laneRest (lane s1 n))) (kLane n 2) 0) (kLane n 9) 0
      let s3 := (List.range 16).foldl (fun t p => if nat t (kDriver (16 * n + p) 0xA) = 0 then t else setNum t (kDriver (16 * n + p) 0xA) 0) s2
      let s4 := endCondition (laneStatusBits s3 n) n
      if again then startLane s4 n else s4
    else s)

/-- Whether a lane's transmitter is enabled. -/
def laneUp (s : State) (n : Nat) : Bool := laneState s n != 0

/-- LANE_PLL_UNLOCK (R241): every forward transmitter goes to high impedance. -/
def execLanePllUnlock (s : State) : Host.Outcome State Fault Refusal :=
  let s1 := { s with lanes := { s.lanes with pll := false, list := s.lanes.list.map fun x => (x.1, { x.2 with marks := false }) } }
  .next (raise s1 21 0 0)

/-- LANE_PLL_LOCK (R241): every lane sends IDLE and resumes FIELD_MARKs. -/
def execLanePllLock (s : State) : Host.Outcome State Fault Refusal :=
  let s1 := { s with lanes := { s.lanes with
    pll := true, list := s.lanes.list.map fun x => (x.1, if laneUp s x.1 && !x.2.marks then laneIdle s x.2 else x.2) } }
  .next (endCondition s1 21)

/-- STATS_CLEAR of a lane. -/
def clearLaneStats (s : State) (n : Nat) : State := [0xB, 0xC, 0xD, 0xE, 0xF].foldl (fun t sub => setNum t (kLane n sub) 0) s

end Sys2Proof.Machine
end

