-- ==== Sys2Proof/Machine/SafetyCore.lean ====
section
/-!
DEFINITION. The safety core (chapter 16): its copies, the emergency inputs, the alarm with its cancel and acknowledge, the egress, the trip mask, the
cell-limit audit and the flicker guard, the emergency-lighting tests, and the fault sources' own rows.
-/

namespace Sys2Proof.Machine

/-- The register `sub` of SAFETY_FUNCTIONS (Table 16-4). -/
def kSafety (sub : Nat) : Key := 0x7000 * 256 + sub
/-- The register `sub` of EMG (Table 16-2). -/
def kEmg (sub : Nat) : Key := 0x7300 * 256 + sub
/-- The zone map. -/
abbrev kZoneMap : Key := 0x400001
/-- The calibration domain. -/
abbrev kCalibration : Key := 0x440001
/-- The safety-group records. -/
abbrev kGroups : Key := 0x460001

/-! ### What the safety core shows -/

/-- `SAFETY_STATE` (Table 16-4). -/
def showSafety (s : State) : State :=
  let b := fun (v : Bool) (n : Nat) => if v then 2 ^ n else 0
  setNum s (kSafety 1) (b s.safety.egress 0 + b s.safety.test.isSome 1 + b (s.safety.clearing != []) 2
    + b (s.safety.holds != []) 3 + b (nat s (kSafety 2) != 0) 4 : Nat)

/-! ### Copies (R391) -/

/-- The settings of 0x7300 and 0x2400 that the safety core uses, as one content. -/
def settingsContent (s : State) : Bytes :=
  leBytes 2 (nat s (kEmg 1)) ++ leBytes 2 (nat s (kEmg 2)) ++ leBytes 2 (nat s (kEmg 3))
    ++ [0, 1].flatMap fun k => leBytes 1 (nat s (kBus k 4)) ++ leBytes 2 (nat s (kBus k 5)) ++ leBytes 1 (nat s (kBus k 6))

/-- The content that the pipeline and the dictionary use, by copy: 0 calibration, 1 zone map, 2 group records, 3 settings. -/
def copyContent (s : State) (w : Nat) : Bytes :=
  if w = 0 then domain s kCalibration else if w = 1 then domain s kZoneMap
  else if w = 2 then domain s kGroups else settingsContent s

/-- The copy in force. -/
def copy (s : State) (w : Nat) : Bytes := (tabFind s.safety.copies w).getD []

/-- The runtime hands copy `w` to the safety core. -/
def handCopy (s : State) (w : Nat) : State :=
  { s with safety := { s.safety with handed := tabPut s.safety.handed w (copyContent s w) } }

/-- The safety core's `ALARM_ZONE` of controller `k`. -/
def coreZone (s : State) (k : Nat) : Nat := byteAt (copy s 3) (6 + 4 * k) % 16
/-- The safety core's `ALARM_ACCEPT` of controller `k`. -/
def coreAccept (s : State) (k : Nat) : Nat := fieldAt (copy s 3) (7 + 4 * k) 2
/-- The safety core's `RELAY` of controller `k`. -/
def coreRelay (s : State) (k : Nat) : Bool := byteAt (copy s 3) (9 + 4 * k) != 0

/-- The member cells of safety group `g` by a zone map, ascending (R402). -/
def groupMembers (map : Bytes) (g : Nat) : List Nat :=
  (((records 32 map).filter fun r => zCount r != 0 && zGroup r == g).flatMap zCells).insertionSort (· ≤ ·)

/-- R403 kind 2: whether the members in force do not match record `g`. -/
def groupMismatch (s : State) (g : Nat) : Bool :=
  let r := slice (copy s 2) (64 * g) 64
  let m := groupMembers (copy s 1) g
  m.length != fieldAt r 2 2 || (if m = [] then 0 else crc32 (m.flatMap fun c => leBytes 2 c)) != fieldAt r 4 4

/-! ### The trip mask (R403 to R405) -/

/-- The lanes that are not STOPPED. -/
def liveLanes (s : State) : List Nat := (List.range 8).filter fun n => laneState s n != 0

/-- R403: the safety core sets bit `g` of its trip mask, for the first time or not. -/
def tripSet (s : State) (g kind : Nat) : State :=
  if bit s (kSafety 2) g then s
  else
    let s1 := showSafety (setBit s (kSafety 2) g true)
    let s2 := (liveLanes s1).foldl (fun t n =>
      let e := effectField t n
      let t1 := if nat s (kSafety 2) = 0 then putLane t n { lane t n with tripFrom := some e } else t
      inject t1 n 0x13 (tripPayload (nat t (kSafety 2)) e)) s1
    raise s2 9 kind g

/-- The copies handed take effect at a tick start at which the pipeline uses the same content; a change of membership is compared with the group
records (R391, R403). -/
def takeCopies (s : State) : State :=
  let fresh := [0, 1, 2, 3].filter fun w =>
    match tabFind s.safety.handed w with
    | some b => b == copyContent s w && tabFind s.safety.copies w != some b
        && !s.server.waiting.any fun x => x.domain.any fun d => d.1 == (if w = 0 then kCalibration else if w = 1 then kZoneMap else 0)
    | none => false
  let s1 := fresh.foldl (fun t w => { t with safety := { t.safety with copies := tabPut t.safety.copies w (copyContent t w) } }) s
  if fresh.any fun w => w == 1 || w == 2 then
    (List.range 64).foldl (fun t g =>
      let bad := groupMismatch t g
      let was := t.safety.mismatch.testBit g
      let t1 := { t with safety := { t.safety with mismatch :=
        if bad == was then t.safety.mismatch else t.safety.mismatch ^^^ 2 ^ g } }
      if bad then tripSet t1 g 2 else t1) s1
  else s1

/-- The drivers that hold member cells of a group, by the driver table. -/
def groupDrivers (s : State) (g : Nat) : List Nat :=
  let m := groupMembers (copy s 1) g
  (List.range 128).filter fun d =>
    num s (kDriver d 1) != 0 && m.any fun c => nat s (kDriver d 3) ≤ c && c < nat s (kDriver d 3) + nat s (kDriver d 4)

/-- R405: whether GROUP_CLEAR of `g` is rejected. -/
def groupConflict (s : State) (g : Nat) : Bool :=
  s.safety.mismatch.testBit g || (groupMembers (copy s 1) g).any fun c => s.lanes.opens.contains c || s.lanes.shorts.contains c

/-- GROUP_CLEAR's effect (R405): TRIP_CLEAR to every driver that holds member cells. -/
def groupClear (s : State) (g : Nat) : State :=
  let ds := groupDrivers s g
  let s1 := ds.foldl (fun t d =>
    if laneState t (d / 16) = 0 then t
    else queueControl t (d / 16) (d % 16) 0x20 (leBytes 2 0x28 ++ leBytes 8 (2 ^ g))) s
  showSafety { s1 with safety := { s1.safety with clearing := tabPut s1.safety.clearing g ds } }

/-- GROUP_CLEAR_COMPLETE (R405): every such driver is present and reports bit `g` clear. -/
def execGroupClearComplete (g : Fin 64) (s : State) : Host.Outcome State Fault Refusal :=
  .next (match tabFind s.safety.clearing g with
    | none => s
    | some ds =>
        if ds.all fun d => present s (d / 16) (d % 16) && !(pos s (d / 16) (d % 16)).trip.testBit g then
          let s1 := setBit { s with safety := { s.safety with clearing := tabDrop s.safety.clearing g } } (kSafety 2) g false
          showSafety (if nat s1 (kSafety 2) = 0 then endCondition s1 9 else s1)
        else s)

/-! ### Egress (R398, R401) -/

/-- The safety core selects EGRESS on every lane that is not STOPPED, and repeats it in every field (R223, R398); a selection in force stays so. -/
def beginEgress (s : State) : State :=
  let s1 := { s with safety := { s.safety with egress := true } }
  showSafety ((liveLanes s1).foldl (fun t n =>
    let e := effectField t n
    let l := lane t n
    inject (putLane t n { l with egressFrom := if s.safety.egress then l.egressFrom else some e, endScene := 0 }) n 0x10 (scenePayload 2 1 e)) s1)

/-- R401: the end of an egress: SCENE 0 with ORIGIN 1 in three consecutive fields of every lane. -/
def endEgress (s : State) : State :=
  let s1 := { s with safety := { s.safety with egress := false } }
  showSafety ((liveLanes s1).foldl (fun t n => putLane t n { lane t n with endScene := 3 }) s1)

/-! ### Tests (R409 to R411) -/

/-- R411: whether a test is deferred now. -/
def testDeferred (s : State) : Bool := nat s kModuleState != 1 || nat s (kEmg 5) != 0

/-- The GPIO that a duration test drives, if it is in RELAY mode (R410). -/
def relayPad (s : State) : Option Nat :=
  let g := nat s (kSafety 0xF)
  if g < 8 ∧ nat s ((0x1100 + g) * 256 + 1) = 6 then some g else none

/-- A GPIO's commanded level (Table 2-4). -/
def driveGpio (s : State) (g : Nat) (v : Bool) : State :=
  let s1 := setNum s ((0x1100 + g) * 256 + 3) (if v then 1 else 0)
  { s1 with pads := tabPut s1.pads g { (tabFind s1.pads g).getD {} with wroteAt := some s1.clk } }

/-- A test starts: EGRESS as R398 states; a duration test closes the relay. -/
def beginTest (s : State) (kind : Nat) : State :=
  let running := (List.range 8).filter fun n => laneRuns s n
  let t : SafetyTest :=
    { kind := kind, at_ := now64 s, startClk := s.clk
      effects := running.map fun n => (n, effectField s n)
      await := running.flatMap fun n => (presentPositions s n).map fun p => 16 * n + p
      before := s.lanes.opens ++ s.lanes.shorts
      vbtLow := if kind = 2 then 65535 else 0 }
  let s1 := { s with safety := { s.safety with test := some t, deferred := none } }
  let s2 := beginEgress (setNum s1 (kSafety 0xA) kind)
  match kind, relayPad s2 with
  | 2, some g => driveGpio s2 g true
  | _, _ => s2

/-- A request for a test: at once, or deferred (R411). -/
def requestTest (s : State) (kind : Nat) (scheduled : Bool) : State :=
  if s.safety.test.isSome then s
  else if testDeferred s then
    setNum { s with safety := { s.safety with deferred := some (kind, scheduled) } } (kSafety 0xA) 3
  else beginTest s kind

/-- A code of the stored EGRESS scene of a cell, by the driver table (R409). -/
def egressCode (s : State) (c : Nat) : Nat :=
  match (List.range 128).find? fun d =>
      num s (kDriver d 1) != 0 && nat s (kDriver d 3) ≤ c && c < nat s (kDriver d 3) + nat s (kDriver d 4) with
  | some d => fieldAt (domain s 0x340002) (2048 * d + 2 * (c - nat s (kDriver d 3))) 2
  | none => 0

/-- The cells that gained a fault during a test and whose fault fails it (R409). -/
def failedCells (s : State) (t : SafetyTest) : List Nat :=
  let grouped := (records 32 (copy s 1)).flatMap fun r => if zCount r != 0 && zGroup r ≤ 63 then zCells r else []
  ((s.lanes.opens ++ s.lanes.shorts).eraseDups).filter fun c =>
    !t.before.contains c && (grouped.contains c || egressCode s c != 0)

/-- The result of a test that ran to its end (Table 16-5). -/
def testResult (s : State) (t : SafetyTest) : Nat :=
  if t.kind = 1 then (if t.failed ≠ [] then 1 else if failedCells s t ≠ [] then 2 else 0) else 0

/-- The local day now. -/
def localDay (s : State) : Nat := localNs s / 86400000000000

/-- A test ends with a result: the relay opens, the result is recorded, and the egress ends unless an alarm stands (R401, R409 to R411). -/
def finishTest (s : State) (result : Nat) : State :=
  match s.safety.test with
  | none => s
  | some t =>
      let rec16 := leBytes 8 t.at_ ++ [BitVec.ofNat 8 result, BitVec.ofNat 8 t.kind, BitVec.ofNat 8 (min 255 t.failed.length), 0]
        ++ leBytes 2 (min 65535 (((s.lanes.opens ++ s.lanes.shorts).eraseDups).filter fun c => !t.before.contains c).length)
        ++ leBytes 2 t.vbtLow
      let s1 := setVal s (kSafety (if t.kind = 1 then 0xB else 0xC)) (.bytes rec16)
      let s2 := { s1 with safety := { s1.safety with
        test := none, lastDone := if result ≤ 3 then tabPut s1.safety.lastDone t.kind (localDay s1) else s1.safety.lastDone } }
      let s3 := match t.kind, relayPad s2 with
        | 2, some g => driveGpio s2 g false
        | _, _ => s2
      let s4 := setNum s3 (kSafety 0xA) 0
      if nat s4 (kEmg 5) = 0 then endEgress s4 else showSafety s4

/-- TEST_END (R409, R410): the test's duration expires. -/
def execTestEnd (s : State) : Host.Outcome State Fault Refusal :=
  .next (match s.safety.test with
    | some t => finishTest s (testResult s t)
    | none => s)

/-- Whether a scheduled test of a kind is due today (R409, R410). -/
def testDue (s : State) (kind : Nat) : Bool :=
  let every := nat s (kSafety (if kind = 1 then 4 else 6))
  every != 0 && (kind == 1 || (relayPad s).isSome) &&
    match tabFind s.safety.lastDone kind with
    | some d => d + every ≤ localDay s
    | none => true

/-- TEST_SCHEDULE (R409 to R411): `TEST_TIME` of the local day is reached; a duration test that is due goes first, and a deferred scheduled test
runs. -/
def execTestSchedule (s : State) : Host.Outcome State Fault Refusal :=
  .next (match s.safety.deferred with
    | some (kind, true) => requestTest s kind true
    | _ => if testDue s 2 then requestTest s 2 true else if testDue s 1 then requestTest s 1 true else s)

/-- R411: a commanded test that was deferred starts once nothing defers it. -/
def resumeTest (s : State) : State :=
  match s.safety.deferred with
  | some (kind, false) => if testDeferred s then s else beginTest s kind
  | _ => s

/-- R410: what a metering window shows a running duration test: VBT in mV and IBT. -/
def testWindow (s : State) (vbt ibt : Int) : State :=
  match s.safety.test with
  | some t =>
      if t.kind = 2 then
        let t1 := { t with vbtLow := min t.vbtLow (vbt.toNat / 10), discharged := t.discharged || ibt < 0 }
        let s1 := { s with safety := { s.safety with test := some t1 } }
        if vbt < num s (kSafety 8) ∨ (!t1.discharged ∧ t.startClk + secs 60 ≤ s.clk) then finishTest s1 3 else s1
      else s
  | none => s

/-- R410: the metering block stops during a duration test. -/
def testMeterStops (s : State) : State :=
  match s.safety.test with
  | some t => if t.kind = 2 then finishTest s 3 else s
  | none => s

/-! ### Alarms (R394 to R400) -/

/-- R397, R398: a zone enters `ZONES_ACTIVE`. An alarm during a test ends it (R411). -/
def enterZone (s : State) (z : Nat) : State :=
  let s1 := setBit s (kEmg 6) z true
  if nat s1 (kEmg 5) = 1 then s1
  else
    let s2 := raise (bump (setNum s1 (kEmg 5) 1) (kEmg 0xB)) 34 0 z
    finishTest (beginEgress s2) 4

/-- A channel of the loop raises the alarm: the own zone enters, and ALARM frames are queued (R394, R355). -/
def raiseOwn (s : State) : State :=
  let s1 := enterZone { s with safety := { s.safety with own := true } } (coreZone s 0)
  [0, 1].foldl (fun t k => queueAlarm t k (coreZone t k)) s1

/-- R395, R473: the filtered states agree again. -/
def checkAgree (s : State) : State :=
  if bit s (kEmg 4) 2 && bit s (kEmg 4) 0 == bit s (kEmg 4) 1 then
    (if s.pair.differAt.isNone then endCondition (setBit s (kEmg 4) 2 false) 33 else setBit s (kEmg 4) 2 false)
  else s

/-- EMG_CHANNEL_OPEN (R394, R396): channel 0 is A, 1 is B. -/
def execEmgChannelOpen (ch : Fin 2) (s : State) : Host.Outcome State Fault Refusal :=
  .next (if !s.safety.enabled ∨ bit s (kEmg 4) ch then s
    else
      let s1 := checkAgree (setBit s (kEmg 4) ch true)
      if bit s1 (kEmg 4) 3 && !bit s1 (kEmg 4) (1 - ch.val) then
        { s1 with safety := { s1.safety with opened := s1.safety.opened ||| 2 ^ ch.val } }
      else raiseOwn s1)

/-- EMG_CHANNEL_CLOSED (R394, R396). -/
def execEmgChannelClosed (ch : Fin 2) (s : State) : Host.Outcome State Fault Refusal :=
  .next (if !s.safety.enabled ∨ !bit s (kEmg 4) ch then s
    else
      let s1 := checkAgree (setBit s (kEmg 4) ch false)
      if bit s1 (kEmg 4) 3 && s1.safety.opened.testBit ch then
        setBit { s1 with safety := { s1.safety with opened := s1.safety.opened - 2 ^ ch.val } } (kEmg 0xA) ch true
      else s1)

/-- EMG_DISCREPANCY (R395); none during a loop test (R396). -/
def execEmgDiscrepancy (s : State) : Host.Outcome State Fault Refusal :=
  .next (if s.safety.enabled && bit s (kEmg 4) 0 != bit s (kEmg 4) 1 && !bit s (kEmg 4) 3 && !bit s (kEmg 4) 2 then
      raise (setBit s (kEmg 4) 2 true) 33 0 (if bit s (kEmg 4) 0 then 0 else 1)
    else s)

/-- `EMG_TEST` = 1 (R396). -/
def loopTestStart (s : State) : State :=
  setBit (setNum { s with safety := { s.safety with opened := 0 } } (kEmg 0xA) 0) (kEmg 4) 3 true

/-- The loop test ends: a channel still open raises the alarm (R396). -/
def loopTestEnd (s : State) : State :=
  if bit s (kEmg 4) 3 then
    let s1 := setBit { s with safety := { s.safety with opened := 0 } } (kEmg 4) 3 false
    if bit s1 (kEmg 4) 0 || bit s1 (kEmg 4) 1 then raiseOwn s1 else s1
  else s

/-- EMG_TEST_EXPIRY (R396): the loop test's 60 s pass. -/
def execEmgTestExpiry (s : State) : Host.Outcome State Fault Refusal := .next (loopTestEnd s)

/-- Whether a channel of the loop is open. -/
def loopOpen (s : State) : Bool := bit s (kEmg 4) 0 || bit s (kEmg 4) 1

/-- R397, R399: zones are cancelled; the own zone only after both channels are closed. -/
def cancelZones (s : State) (zones : Nat) : State :=
  let own := 2 ^ coreZone s 0
  let keep := if s.safety.own && loopOpen s then own else 0
  let gone := zones - (zones &&& keep)
  let s1 := if gone &&& own ≠ 0 then { s with safety := { s.safety with own := false } } else s
  let left := nat s1 (kEmg 6) - (nat s1 (kEmg 6) &&& gone)
  let s2 := { setNum s1 (kEmg 6) left with
    bus := s1.bus.map fun b => (b.1, { b.2 with
      alarms := b.2.alarms.filter fun z => left.testBit z || (s1.safety.own && z == coreZone s1 b.1)
      relayed := b.2.relayed.filter fun z => left.testBit z }) }
  if left = 0 ∧ nat s2 (kEmg 5) = 1 then setNum s2 (kEmg 5) 2 else s2

/-- The local acknowledge's effect (R397, R401). -/
def acknowledge (s : State) : State := endEgress (setNum s (kEmg 5) 0)

/-! ### The audit and the guard (R406 to R408) -/

/-- What the audit knows of the cells: cell, zone and group, by the zone-map copy in force. -/
def memberships (s : State) : List (Nat × Nat × Nat) :=
  ((records 32 (copy s 1)).zip (List.range 16384)).flatMap fun p => (zCells p.1).map fun c => (c, p.2, zGroup p.1)

/-- R406: a cell's ceiling. -/
def ceiling (s : State) (ms : List (Nat × Nat × Nat)) (c : Nat) : Nat :=
  let flags := byteAt (copy s 0) (32 * c + 7)
  if ms.any (fun m => m.1 == c) && flags.testBit 0 && !flags.testBit 1 then byteAt (copy s 0) (32 * c + 8) * 257 else 0

/-- R406: one audited code; a code above the ceiling raises source 55. -/
def auditCode (ms : List (Nat × Nat × Nat)) (a : State × List (Nat × Nat)) (p : Nat × Nat) : State × List (Nat × Nat) :=
  let s := a.1
  let tripped := ms.any fun m => m.1 == p.1 && m.2.2 ≤ 63 && bit s (kSafety 2) m.2.2
  let cap := ceiling s ms p.1
  if tripped then (s, a.2 ++ [(p.1, 0)])
  else if cap < p.2 then (raise s 55 1 p.1, a.2 ++ [(p.1, cap)])
  else (s, a.2 ++ [p])

/-- R407: one step of the guard of a zone at tick `j` with sum `x`; true when a hold starts or is renewed. -/
def guardStep (rate j x : Nat) : Option Guard → Guard × Bool
  | none => ({ r := x, tr := j, te := j }, false)
  | some g =>
      let beyond : Bool := if g.up then g.r < x else x < g.r
      if beyond then ({ g with r := x, tr := j }, false)
      else if g.r + x < 5 * (max g.r x - min g.r x) then
        let n := if 6 * ((g.tr + 2 ^ 32 - g.te) % 2 ^ 32) ≤ rate then g.n + 1 else 1
        let g1 : Guard := { up := !g.up, r := x, tr := j, te := g.tr, n := n }
        if 4 ≤ n then ({ g1 with n := 0 }, true) else (g1, false)
      else (g, false)

/-- R407, R408: the guard of one zone on its audited codes. -/
def guardZone (s : State) (z : Nat) (codes : List (Nat × Nat)) : State :=
  let j := s.engines.tick
  let r := guardStep (tickRate s) j ((codes.map Prod.snd).foldl (· + ·) 0) (tabFind s.safety.guards z)
  let s1 := { s with safety := { s.safety with guards := tabPut s.safety.guards z r.1 } }
  if r.2 ∧ (tabFind s1.safety.holds z).isNone then
    raise (showSafety { s1 with safety := { s1.safety with
      holds := tabPut s1.safety.holds z { codes := codes.insertionSort (fun a b => a.1 ≤ b.1), start := j } } }) 54 0 z
  else s1

/-- R408: the code of a cell of a held zone: that of the tick of detection, limited by the ceiling in force; a trip still sets it to 0. -/
def heldCode (s : State) (ms : List (Nat × Nat × Nat)) (p : Nat × Nat) : Nat × Nat :=
  match ms.find? fun m => m.1 == p.1 with
  | none => p
  | some m =>
      match tabFind s.safety.holds m.2.1 with
      | none => p
      | some h =>
          if h.start = s.engines.tick ∨ (m.2.2 ≤ 63 ∧ bit s (kSafety 2) m.2.2) then p
          else (p.1, min ((tabFind h.codes p.1).getD 0) (ceiling s ms p.1))

/-- The audit tap of the lane feed: the codes read in this tick, audited, guarded and held. -/
def auditFeed (s : State) (codes : List (Nat × Nat)) : State × List (Nat × Nat) :=
  let ms := memberships s
  let a := codes.foldl (auditCode ms) (s, [])
  let zs := (ms.map fun m => m.2.1).eraseDups
  let s1 := zs.foldl (fun t z =>
    let mine := a.2.filter fun p => ms.any fun m => m.1 == p.1 && m.2.1 == z
    if mine = [] then t else guardZone t z mine) a.1
  (s1, a.2.map (heldCode s1 ms))

/-- GUARD_HOLD_END (R408): `GUARD_HOLD` has passed without renewal. -/
def execGuardHoldEnd (z : Fin 16384) (s : State) : Host.Outcome State Fault Refusal :=
  .next (if (tabFind s.safety.holds z).isSome then
      let s1 := showSafety { s with safety := { s.safety with holds := tabDrop s.safety.holds z } }
      if s1.safety.holds = [] then endCondition s1 54 else s1
    else s)

/-! ### Heartbeats (R392) -/

/-- HEARTBEAT_LOSS (R392): three segment cycles have passed without a heartbeat of an application core. -/
def execHeartbeatLoss (core : Fin 2) (s : State) : Host.Outcome State Fault Refusal :=
  .next (if (tabFind s.safety.lost core).getD 0 = 3 then s
    else raise { s with safety := { s.safety with lost := tabPut s.safety.lost core 3 } } 18 0 core)

/-- A segment cycle's heartbeat of a core arrives, or does not. -/
def heartbeat (s : State) (core : Nat) (beat : Bool) : State :=
  let n := (tabFind s.safety.lost core).getD 0
  if beat then
    let s1 := { s with safety := { s.safety with lost := tabDrop s.safety.lost core } }
    if 3 ≤ n ∧ s1.safety.lost.all (fun c => c.2 < 3) then endCondition s1 18 else s1
  else
    let s1 := { s with safety := { s.safety with lost := tabPut s.safety.lost core (min 3 (n + 1)) } }
    if n = 2 then raise s1 18 0 core else s1

/-! ### Fault sources (R412 to R416) -/

/-- R473: what the state itself shows of a source's condition; true when nothing in the state says that it still stands. -/
def conditionOver (s : State) (src : Nat) : Bool :=
  if src < 8 then (lane s src).met == []
  else match src with
    | 9 => nat s (kSafety 2) == 0
    | 10 => (List.range 8).all fun n => (lane s n).pos.all fun p => !p.2.overTemp
    | 18 => s.safety.lost.all fun c => c.2 < 3
    | 21 => s.lanes.pll
    | 23 => !bit s (kRtc 6) 0
    | 24 => !s.power.warning
    | 28 => tbState s 0 == 2
    | 29 => tbState s 1 == 2
    | 33 => bit s (kEmg 4) 0 == bit s (kEmg 4) 1 && s.pair.differAt.isNone
    | 42 => nat s 0x740003 != 0 || s.pair.peer.isNone
    | 53 => s.zones.derated == []
    | 54 => s.safety.holds == []
    | _ => true

/-- FAULT_CONDITION_END (R412, R473). -/
def execFaultConditionEnd (src : Fin 64) (s : State) : Host.Outcome State Fault Refusal :=
  .next (if conditionOver s src then endCondition s src else s)

/-- The recoveries of the last 24 h (R416). -/
def recoveries (s : State) (src : Nat) : List Nat :=
  (faultKept s src).history.filter fun t => now64 s < t + 86400 * 65536

/-- R416: SAFE_REQUEST in the bookmark of the current start, into both copies. -/
def requestSafe (s : State) : State := writeBookmark s { s.start.bookmark with safeRequest := true }

/-- R416: one recovery of a source; the eighth within 24 h leaves it LATCHED. -/
def recover (s : State) (src : Nat) : State :=
  let h := recoveries s src
  if 7 ≤ h.length then
    let s1 := setNum (putKept s src { faultKept s src with latched := true, reset := false, history := h }) (kFault src 7) 3
    if nat s1 (kFault src 1) = 4 ∨ nat s1 (kFault src 2) = 4 then requestSafe s1 else s1
  else
    setNum (setNum (putKept s src { faultKept s src with reset := false, history := h ++ [now64 s] }) (kFault src 9) (h.length + 1 : Nat))
      (kFault src 7) 0

/-- QUIET_PERIOD_EXPIRY (R412, R416): of a RECOVERING source, or of one whose reaction reset the module and that has not recurred. -/
def execQuietPeriodExpiry (src : Fin 64) (s : State) : Host.Outcome State Fault Refusal :=
  .next (if nat s (kFault src 7) = 2 ∨ (nat s (kFault src 7) = 0 ∧ (faultKept s src).reset) then
      recover (putFault s src { faultSrc s src with timer := false }) src
    else s)

/-- ESCALATION_EXPIRY (R415): the raise was not acknowledged in time. -/
def execEscalationExpiry (src : Fin 64) (s : State) : Host.Outcome State Fault Refusal :=
  .next (if (faultSrc s src).timer then
      let f := { faultSrc s src with timer := false }
      react (putFault s src f) src f.blk (nat s (kFault src 2))
    else s)

/-- R416: whether FAULT_CLEAR is rejected. -/
def clearConflict (s : State) (src : Nat) : Bool :=
  nat s (kFault src 7) == 1 || (nat s (kFault src 7) == 3 && (faultSrc s src).standing)

/-- FAULT_CLEAR's effect (R416). -/
def faultClear (s : State) (src : Nat) : State :=
  let s1 := setNum (putKept s src { reset := (faultKept s src).reset }) (kFault src 9) 0
  if nat s1 (kFault src 7) = 3 then setNum s1 (kFault src 7) 0 else s1

/-- R414, R73: whether the module holds FAULT_N low. -/
def faultPinLow (s : State) : Bool :=
  !s.safety.enabled || s.start.held || s.start.stoppedAt.isSome || (List.range 64).any fun n => nat s (kFault n 6) == 0 && flag s (kFault n 3) && nat s (kFault n 7) != 0

/-! ### Dictionary -/

/-- The sources that name a block (Table 16-10). -/
def namesBlock (src : Nat) : Bool := src < 8 || [11, 12, 13, 26, 27, 30, 31, 35, 38, 52].contains src

/-- Check 5 beyond the ranges of the tables (R412). -/
def rangeSafety (idx sub : Nat) (v : Int) : Bool :=
  if 0x7100 ≤ idx ∧ idx < 0x7140 ∧ (sub = 1 ∨ sub = 2) then v ≠ 3 || namesBlock (idx - 0x7100) else true

/-- R402, R475: a content of the group records; its reserved bits and bytes are ignored (R9), and no field of a record is encoded. -/
def groupsOk (b : Bytes) : Bool :=
  b.length == 4096 && (records 64 b).all fun r => fieldAt r 2 2 != 0 || fieldAt r 4 4 == 0

/-- Check 6: the code of a state that forbids the access, 0 when none (R399, R400, R405, R410, R413, R416). `manager` says whether this
module's node entry carries MANAGER, `managed` whether it is a node of a bus whose matrix lists one. -/
def condSafety (s : State) (manager managed : Bool) (idx sub : Nat) (v : Int) : Byte :=
  let conflict := fun (b : Bool) => if b then (7 : Byte) else 0
  if 0x7100 ≤ idx ∧ idx < 0x7140 then
    if sub = 0xC then conflict (clearConflict s (idx - 0x7100))
    else conflict (isFixed (idx - 0x7100) && [1, 2, 3, 6].contains sub)
  else if idx = 0x7000 ∧ sub = 3 then conflict (groupConflict s v.toNat)
  else if idx = 0x7000 ∧ sub = 9 then
    conflict (v ≠ 3 && (s.safety.test.isSome || (v == 2 && (relayPad s).isNone)))
  else if idx = 0x7300 ∧ sub = 7 then
    conflict ((!manager && managed) || (v.toNat.testBit (coreZone s 0) && loopOpen s))
  else if idx = 0x7300 ∧ sub = 8 then conflict (nat s (kEmg 5) != 2)
  else 0

/-- The commands' effects; a manager's cancel also stands in its STATUS for 1 s (R399). -/
def commandSafety (s : State) (manager : Bool) (idx sub : Nat) (v : Int) : State :=
  if 0x7100 ≤ idx ∧ idx < 0x7140 then faultClear s (idx - 0x7100)
  else if idx = 0x7000 ∧ sub = 3 then groupClear s v.toNat
  else if idx = 0x7000 then
    if v = 3 then
      (if s.safety.test.isSome then finishTest s 5
       else if s.safety.deferred.isSome then setNum { s with safety := { s.safety with deferred := none } } (kSafety 0xA) 0 else s)
    else requestTest s v.toNat false
  else if sub = 7 then
    if manager then
      cancelZones { s with safety := { s.safety with cancel := v.toNat, cancelAt := s.clk } } v.toNat
    else cancelZones s (v.toNat &&& (if s.safety.own then 2 ^ coreZone s 0 else 0))
  else if sub = 8 then acknowledge s
  else if v = 1 then loopTestStart s
  else loopTestEnd s

/-- Live values: RECOVERIES_24H counts what is within 24 h; a fixed source reads its fixed reaction (R413); the log's content. -/
def liveSafety (s : State) (idx sub : Nat) : Option Val :=
  if 0x7100 ≤ idx ∧ idx < 0x7140 then
    let src := idx - 0x7100
    if sub = 9 then some (.num (recoveries s src).length)
    else if isFixed src && [1, 2, 3, 6].contains sub then some (.num (if sub = 1 then 4 else if sub = 3 then 1 else 0))
    else none
  else if idx = 0x7200 ∧ sub = 1 then some (.bytes (s.mram.faultLog ++ s.logHeld).flatten)
  else none

end Sys2Proof.Machine
end

