-- ==== Sys2Proof/Machine/Air.lean ====
section
/-!
DEFINITION. The wireless partner interface (chapter 15): superframes and slots, joining, the frames of partners, security and frame counters, the
mesh, and the radio's start and stop.
-/

namespace Sys2Proof.Machine

/-- The register `sub` of AIR (Table 15-10). -/
def kAir (sub : Nat) : Key := 0x2600 * 256 + sub
/-- `RADIO_STATE`: 0 STOPPED, 1 STARTING, 2 RUNNING, 3 STOPPING. -/
def radioState (s : State) : Nat := nat s (kAir 2)
/-- Whether the radio runs: RUNNING, or STOPPING until its superframe has ended (R387). -/
def radioRuns (s : State) : Bool := radioState s == 2 || (radioState s == 3 && s.air.isOpen)
/-- The extended address of a partner record. -/
def recExt (r : Bytes) : Nat := fieldAt r 0 8
/-- The `KIND` of a partner record. -/
def recKind (r : Bytes) : Nat := byteAt r 8
/-- A flag of a partner record. -/
def recFlag (r : Bytes) (bit : Nat) : Bool := (byteAt r 9).testBit bit
/-- What is kept of a partner. -/
def partner (s : State) (h : Nat) : Partner := (tabFind s.air.partners h).getD {}
/-- Put a partner. -/
def putPartner (s : State) (h : Nat) (p : Partner) : State := { s with air := { s.air with partners := tabPut s.air.partners h p } }
/-- Whether a partner is associated. -/
def associated (s : State) (h : Nat) : Bool := (partner s h).st == 2
/-- The event counter E of the current superframe (R366). -/
def eventNo (s : State) : Nat := (s.air.sf + s.air.phase) % 65536
/-- The channel map in force. -/
def airMap (s : State) : Bytes := (reg s (kAir 5)).toBytes
/-- A channel of the map. -/
def mapChannel (s : State) (i : Nat) : Nat := byteAt (airMap s) (i % (airMap s).length)
/-- The key numbers of the beacon and mesh keys. -/
abbrev beaconId : Nat := 0x10000
/-- See `beaconId`. -/
abbrev meshId : Nat := 0x10001

/-! ### Associations -/

/-- Units that an event uses, of 2,752 (R373). -/
def unitsOf (exp : Nat) : Nat := 2 ^ (6 - exp)

/-- `PARTNERS` and `CAPACITY_USED`. -/
def showPartners (s : State) : State :=
  let ps := s.air.partners.filter fun p => p.2.st == 2
  setNum (setNum s (kAir 0x19) ps.length) (kAir 0x1A) ((ps.map fun p => unitsOf p.2.exp).foldl (· + ·) 0 : Nat)

/-- Whether a partner still holds its event: associated, or dropped and kept back (R378). -/
def holdsEvent (s : State) (p : Partner) : Bool := p.st == 2 || (p.st == 3 && s.air.sf < p.keepUntil)

/-- R373: whether an event is free, disregarding handle `h`. -/
def eventFree (s : State) (h slot exp phase : Nat) : Bool :=
  s.air.partners.all fun p => p.1 == h || !holdsEvent s p.2 || p.2.slot != slot
    || p.2.phase % 2 ^ min exp p.2.exp != phase % 2 ^ min exp p.2.exp

/-- R373: the lowest free slot and phase of an exponent; phases are multiples of 2ⁿ. -/
def findEvent (s : State) (h exp : Nat) : Option (Nat × Nat) :=
  ((List.range 43).flatMap fun i => ((List.range (2 ^ exp)).filter fun j => j % 2 ^ s.air.order == 0).map fun j => (4 + i, j)).find? fun e =>
    eventFree s h e.1 exp e.2

/-- JOIN_OK of the beacon: a join could be given an event. -/
def joinOk (s : State) : Bool := (findEvent s 0xFFFF 6).isSome

/-- An association ends without a supervision event, and its session with it (R120). -/
def dropPartner (s : State) (h : Nat) : State :=
  let s1 := endSession s (0x1000 + h)
  showPartners { s1 with air := { s1.air with partners := tabDrop s1.air.partners h } }

/-! ### Keys and counters (R382, R383) -/

/-- A key is derived once and held: the shell's use is counted at each derivation (R441). `ask` says that this is a request (R445). -/
def airKey (s : State) (id n : Nat) (label : String) (bit : Nat) (ask : Bool) : Option (Nat × Nat × Bytes) × State :=
  let held := (tabFind s.air.keys id).filter fun k => k.1 == n && k.2.1 == (shell s n).generation && isValid s n
  match held with
  | some k => (some k, s)
  | none =>
      let s0 := { s with air := { s.air with keys := tabDrop s.air.keys id } }
      if n ≥ 0xFF then (none, s0)
      else
        let fit := isValid s0 n && [5, 6, 7].contains (shell s0 n).type && hasUsage s0 n bit
        let (ok, s1) := if ask then mayUse s0 n bit [5, 6, 7] else (fit, s0)
        if ok then
          let gen := (shell s1 n).generation
          let (key, s2) := deriveKey s1 n label 128
          (some (n, gen, key), { s2 with air := { s2.air with keys := tabPut s2.air.keys id (n, gen, key) } })
        else (none, s1)

/-- The link key of a partner. -/
def linkKey (s : State) (h : Nat) : Option (Nat × Nat × Bytes) × State := airKey s h (byteAt (partnerRec s h) 10) "AIR-LINK" 6 true
/-- The beacon key. -/
def beaconKey (s : State) : Option (Nat × Nat × Bytes) × State := airKey s beaconId (nat s (kAir 0xA)) "AIR-BEACON" 7 false
/-- The mesh key. -/
def meshKey (s : State) : Option (Nat × Nat × Bytes) × State := airKey s meshId (nat s (kAir 0xA)) "AIR-MESH" 7 false

/-- R383: the module's next counter under a key; none when exhausted. Counters are reserved in MRAM in blocks of 1,024, and none of a new block is used while
a power-fail warning keeps the block from becoming durable (Table 2-8). -/
def nextCounter (s : State) (id : Nat) (key : Nat × Nat × Bytes) : Option Nat × State :=
  let kept := (tabFind s.mram.airTx id).filter fun c => c.shell == key.1 && c.gen == key.2.1
  let top := (kept.map (·.value)).getD 0
  let n := if kept.isSome then (tabFind s.air.counters id).getD top else 0
  if n ≥ 2 ^ 32 then
    (none, if n = 2 ^ 32 then raise { s with air := { s.air with counters := tabPut s.air.counters id (n + 1) } } 37 3 0x3FF else s)
  else if s.power.warning ∧ !(kept.isSome ∧ n < top) then (none, s)
  else
    let s1 := { s with air := { s.air with counters := tabPut s.air.counters id (n + 1) } }
    if kept.isSome ∧ n < top then (some n, s1)
    else (some n, { s1 with mram := { s1.mram with airTx := tabPut s1.mram.airTx id { shell := key.1, gen := key.2.1, value := n + 1024 } } })

/-- The CCM* nonce of R382. -/
def airNonce (ext ctr level : Nat) : Bytes := beBytes 8 ext ++ leBytes 4 ctr ++ [BitVec.ofNat 8 level]

/-- The MIC bytes of a security level. -/
def micBytes (level : Nat) : Nat := if level = 7 then 16 else 4

/-- The 802.15.4 header of a frame the module sends: frame control, sequence number, addresses, auxiliary security header (R364, R365). -/
def airHeader (fc : Nat) (seq : Nat) (addrs : Bytes) (level ctr : Nat) : Bytes :=
  leBytes 2 fc ++ [BitVec.ofNat 8 seq] ++ addrs ++ [BitVec.ofNat 8 level] ++ leBytes 4 ctr

/-- A secured frame leaves on a channel; nothing leaves under an exhausted key. -/
def sendAir (s : State) (channel id : Nat) (key : Nat × Nat × Bytes) (level fc : Nat) (addrs extra payload : Bytes) (seq : Option Nat := none) : State :=
  match nextCounter s id key with
  | (none, s1) => s1
  | (some ctr, s1) =>
      let hdr := airHeader fc (seq.getD (ctr % 256)) addrs level ctr ++ extra
      let nonce := airNonce (serial s1) ctr level
      let body := if level = 1 then payload ++ (ccmSeal 4 key.2.2 nonce (hdr ++ payload) []) else ccmSeal (micBytes level) key.2.2 nonce hdr payload
      emit s1 (.air channel (hdr ++ body))

/-- Addresses of a frame to a partner: the PAN ID, its short address, the module's. -/
def partnerAddrs (s : State) (h : Nat) : Bytes := leBytes 2 (nat s kAddrActive) ++ leBytes 2 (h + 1) ++ [0, 0]

/-- A failure of a sender: the eighth within 60 s raises source 37 (Table 15-5). -/
def airFail (s : State) (h : Option Nat) (replay : Bool) : State :=
  let s1 := bump s (kAir (if replay then 0x14 else 0x13))
  match h with
  | none => s1
  | some h =>
      let id := 2 * h + (if replay then 1 else 0)
      let l := s1.clk :: ((tabFind s1.air.fails id).getD []).filter fun t => s1.clk < t + secs 60
      if 8 ≤ l.length then
        raise { s1 with air := { s1.air with fails := tabDrop s1.air.fails id } } 37 (if replay then 2 else 1) h
      else { s1 with air := { s1.air with fails := tabPut s1.air.fails id l } }

/-- A partner's last accepted counter under a key, in MRAM (R383). -/
def rxCounter (s : State) (h : Nat) (key : Nat × Nat × Bytes) : Option Nat :=
  ((tabFind s.mram.airRx h).filter fun c => c.shell == key.1 && c.gen == key.2.1).map (·.value)

/-- R383: a partner's frame is opened: MIC, then counter, which is stored; the plaintext when it is accepted. -/
def openPartner (s : State) (h level : Nat) (rx : AirRx) : Option Bytes × State :=
  match linkKey s h with
  | (none, s1) => (none, bump s1 (kAir 0x11))
  | (some key, s1) =>
      if rx.level.toNat ≠ level then (none, bump s1 (kAir 0x11))
      else
        match ccmOpen (micBytes level) key.2.2 (airNonce (recExt (partnerRec s1 h)) rx.counter.toNat level) rx.header rx.sealed_ with
        | none => (none, airFail s1 (some h) false)
        | some m =>
            match rxCounter s1 h key with
            | some last =>
                if rx.counter.toNat ≤ last then (none, airFail s1 (some h) true)
                else (some m, { s1 with mram := { s1.mram with airRx := tabPut s1.mram.airRx h { shell := key.1, gen := key.2.1, value := rx.counter.toNat } } })
            | none => (some m, { s1 with mram := { s1.mram with airRx := tabPut s1.mram.airRx h { shell := key.1, gen := key.2.1, value := rx.counter.toNat } } })

/-! ### Receiving -/

/-- The radio bin of an RSSI (Table 19-4, LINK). -/
def rssiBin (r : Int) : Nat :=
  if r < -90 then 0 else if r < -85 then 1 else if r < -80 then 2 else if r < -75 then 3 else if r < -70 then 4
  else if r < -60 then 5 else if r < -50 then 6 else 7

/-- A valid frame counts at `FRAMES_RX` and in the recorder's radio bins. -/
def countFrame (s : State) (rx : AirRx) : State :=
  let b := rssiBin rx.rssi.toInt
  let s1 := bump s (kAir 0x10)
  { s1 with recorder := { s1.recorder with radio := tabPut s1.recorder.radio b ((tabFind s1.recorder.radio b).getD 0 + 1) } }

/-! ### One receiver (R375) -/

/-- The SHR start of a frame of a slot of this superframe, in µs on the superframes' time line. -/
def shrAt (s : State) (slot : Nat) (rx : AirRx) : Int := (((s.air.sf * 50 + slot) * 5000 + 500 : Nat) : Int) + rx.delta
/-- A received frame's time on air in µs: 32 µs a byte, with its SHR and PHR (R364). -/
def airTime (rx : AirRx) : Nat := 32 * (rx.header.length + rx.sealed_.length + 8)
/-- An acknowledgement's time in µs: 192 µs after the frame, 18 PSDU bytes (R368). -/
abbrev ackTime : Nat := 960
/-- Whether a partner has an event in this superframe (R373). -/
def hasEvent (s : State) (p : Partner) : Bool := p.st == 2 && eventNo s % 2 ^ p.exp == p.phase
/-- The partner whose event a slot of this superframe is. -/
def eventAt (s : State) (slot : Nat) : Option Partner := (s.air.partners.find? fun x => hasEvent s x.2 && x.2.slot == slot).map (·.2)
/-- R374, R375: whether the first frame of a partner's event falls in its window, which opens in the slot before only if that one has no event. -/
def inAirWindow (s : State) (p : Partner) (rx : AirRx) : Bool :=
  rx.delta.natAbs ≤ p.w && (-500 ≤ rx.delta || (eventAt s (p.slot - 1)).isNone)
/-- R375: whether the module's own mesh beacon cuts an exchange that runs on from slot 46. -/
def cutShort (s : State) (slot : Nat) (rx : AirRx) : Bool :=
  slot == 46 && flag s (kAir 0xB) && decide (((s.air.sf * 50 + 47) * 5000 + 500 : Nat) < shrAt s slot rx + (airTime rx + ackTime : Nat))
/-- R375: whether the window of an event, of this slot or opened in it for the next, takes the receiver away from contention and mesh frames. -/
def windowOver (s : State) (slot : Nat) (channel : Option Nat) (rx : AirRx) : Bool :=
  let away := fun (p : Partner) => channel != some (mapChannel s (eventNo s + p.chOff))
  (eventAt s slot).any (fun p => away p && rx.delta.natAbs ≤ p.w)
    || (eventAt s (slot + 1)).any fun p => (eventAt s slot).isNone && 500 < p.w && away p && (5000 - (p.w : Int)) ≤ rx.delta
/-- The exchange that the frame begins holds the receiver to the frame's end. -/
def holdReceiver (s : State) (slot : Nat) (rx : AirRx) : State :=
  { s with air := { s.air with busyTo := (shrAt s slot rx + (airTime rx : Nat)).toNat } }
/-- R365: a frame for this segment: its PAN ID and the short address 0x0000. -/
def forUs (s : State) (rx : AirRx) : Bool := slice rx.header 3 4 == leBytes 2 (nat s kAddrActive) ++ [0, 0]
/-- The slot in which a partner's frame comes: a contention slot, or its event's. -/
def airSlot (s : State) (h : Nat) (rx : AirRx) : Nat :=
  match rx.slot with
  | some c => c.val + 1
  | none => if associated s h then (partner s h).slot else s.air.slot
/-- Whether a partner's frame follows its acknowledgement in the same downlink event (R379). -/
def followsAck (s : State) (h : Nat) (rx : AirRx) : Bool := rx.slot.isNone && (partner s h).acked == some s.air.sf

/-- R375: whether the receiver is there for a frame of a contention slot. -/
def heardBeside (s : State) (slot : Nat) (rx : AirRx) : Bool :=
  (s.air.busyTo : Int) ≤ shrAt s slot rx && !windowOver s slot (some (mapChannel s (eventNo s))) rx

/-- R374, R375: whether the receiver is there for a frame of a partner: no exchange runs on, and a window is open for it. -/
def hears (s : State) (h : Nat) (rx : AirRx) : Bool :=
  let slot := airSlot s h rx
  if rx.slot.isSome then heardBeside s slot rx
  else
    (s.air.busyTo : Int) ≤ shrAt s slot rx && !cutShort s slot rx &&
      (!associated s h || (hasEvent s (partner s h) && (followsAck s h rx || inAirWindow s (partner s h) rx)))

/-- Whether a frame is the first of its partner's event, whose δ is measured (R374). -/
def isFirst (s : State) (h : Nat) (rx : AirRx) : Bool := rx.slot.isNone && !followsAck s h rx
/-- Whether a frame came late (R374). -/
def isLate (s : State) (h : Nat) (rx : AirRx) : Bool := isFirst s h rx && 500 < rx.delta.natAbs

/-- R374: what a valid frame of a partner leaves: the window, δ, RSSI; it counts for supervision (R379). -/
def noteFrame (s : State) (h : Nat) (rx : AirRx) : State :=
  let p := partner s h
  let s1 := countFrame s rx
  let ds := if isFirst s h rx then (rx.delta.natAbs :: p.deltas).take 8 else p.deltas
  let s2 := putPartner s1 h { p with
    deltas := ds, w := if isFirst s h rx then min 2500 (500 + 2 * ds.foldl max 0) else p.w
    rssi := rx.rssi.toInt, missed := 0, lastRx := some s1.clk }
  if isLate s h rx then bump s2 (kAir 0x12) else s2

/-- Whether an MDP message waits for a partner. -/
def downlinkWaits (s : State) (h : Nat) : Bool := (session s (0x1000 + h)).txQueue != []

/-- R379: a downlink frame that stayed unacknowledged at 3 successive downlink events is discarded. -/
def settleDownlink (s : State) (h : Nat) : State :=
  let p := partner s h
  let x := session s (0x1000 + h)
  if p.tries < 3 then s
  else putPartner (putSession (bump s (kAir 0x16)) (0x1000 + h) { x with txQueue := x.txQueue.drop 1 }) h { p with tries := 0 }

/-- R368: the Enh-Ack of an accepted frame: −δ as Time Correction, and frame pending, which makes the partner's next event a downlink event (R379). -/
def enhAck (s : State) (h : Nat) (rx : AirRx) : State :=
  match linkKey (settleDownlink s h) h with
  | (none, s1) => s1
  | (some key, s1) =>
      let pend := downlinkWaits s1 h
      let d := ((-rx.delta) % 4096).toNat
      let s2 := putPartner { s1 with air := { s1.air with busyTo := s1.air.busyTo + ackTime } } h { partner s1 h with downlink := pend }
      let ch := match rx.slot with
        | some _ => mapChannel s2 (eventNo s2)
        | none => mapChannel s2 (eventNo s2 + (partner s2 h).chOff)
      sendAir s2 ch h key 5 (0x220A + (if pend then 0x10 else 0)) [] (leBytes 2 0x0F02 ++ leBytes 2 d) [] (some (byteAt rx.header 2))

/-- A frame of an associated partner: its plaintext when it is taken, and what its reception leaves. `ok` says whether its payload is one of Table 15-4's;
only a REPORT of a partner with URGENT may come in a contention slot (R380). -/
def receiveAir (s : State) (h : Nat) (type : Nat) (ok : Bytes → Bool) (rx : AirRx) : Option Bytes × State :=
  if !radioRuns s then (none, s)
  else if rx.queueFull then (none, raise s 56 0 0)
  else if !forUs s rx ∨ !hears s h rx then (none, s)
  else
    let s0 := holdReceiver s (airSlot s h rx) rx
    if !rx.known ∨ !associated s h ∨ (rx.slot.isSome ∧ (type ≠ 1 ∨ !recFlag (partnerRec s h) 0)) then (none, bump s0 (kAir 0x11))
    else
      match openPartner s0 h 5 rx with
      | (none, s1) => (none, s1)
      | (some m, s1) =>
          let s2 := if rx.counter.toNat = 2 ^ 32 - 1 then raise s1 37 3 h else s1
          if byteAt m 0 ≠ type ∨ !ok m then (none, bump s2 (kAir 0x11)) else (some m, noteFrame s2 h rx)

/-- A report reaches the sensor engine, and the state copy (Table 17-5, block 9). -/
def postSensor (s : State) (ev : Bytes) : State :=
  let s1 := { s with pair := { s.pair with events := s.pair.events ++ [ev] } }
  postRecord s1 (nat s (kProgramCtl 3)) ev

/-- R381: a scene is recalled into layer 3 of a group with UNTIL_WINDOW_END in every target, with the stamp of the report. -/
def switchRecall (s : State) (g scene stamp : Nat) : State :=
  (groupZones s g).foldl (fun t z =>
    match sceneTarget (domain s (kScene scene)) z with
    | some tgt => commandZoneAt t stamp 3 (tgt.set 1 (BitVec.ofNat 8 (byteAt tgt 1 ||| 2))) z
    | none => t) s

/-- R381: a switch report's action, in an input window (R176). -/
def switchAction (s : State) (h : Nat) (data : Bytes) : State :=
  let r := partnerRec s h
  let g := fieldAt r 14 2
  if recKind r ≠ 3 ∨ g = 0xFFFF then s
  else if byteAt data 1 = 0 then
    let scene := byteAt r 13 + byteAt data 0
    if scene ≤ 255 then inWindow s (.recall g scene (localNs s)) fun t => switchRecall t g scene (localNs s) else s
  else if byteAt data 1 = 2 then inWindow s (.release g) fun t => groupRelease t g 3
  else s

/-- A FLOOD joins the relay queue of 16 (R385). -/
def queueFlood (s : State) (body : Bytes) (own : Bool) : State :=
  if s.air.relay.length < 16 then { s with air := { s.air with relay := s.air.relay ++ [{ body := body, own := own, at_ := s.clk }] } }
  else bump s (kAir 0x18)

/-- R385: a shared partner's report is flooded; `ORIGIN_CTR` is set when it leaves. -/
def originate (s : State) (h : Nat) (report : Bytes) : State :=
  if flag s (kAir 0xB) ∧ recFlag (partnerRec s h) 1 then
    queueFlood s (leBytes 2 (nat s kAddrActive) ++ leBytes 4 0 ++ leBytes 1 (nat s (kAir 0xD)) ++ [0] ++ leBytes 8 (recExt (partnerRec s h))
      ++ report ++ leBytes 2 0) true
  else s

/-- Whether a payload is a REPORT of a kind that its slot allows (Table 15-4, R380). -/
def reportOk (rx : AirRx) (m : Bytes) : Bool :=
  let kind := byteAt m 1
  m.length == 10 && 1 ≤ kind && kind ≤ 3 && (rx.slot.isNone || kind == 3 || (kind == 1 && byteAt m 2 == 1))

/-- REPORT (R374, R379 to R383, R385): a report is posted once, acted on, and flooded if shared. -/
def execReport (h : Fin 1024) (rx : AirRx) (s : State) : Host.Outcome State Fault Refusal :=
  .next (match receiveAir s h 1 (reportOk rx) rx with
    | (none, s1) => s1
    | (some m, s1) =>
        let report := (m.drop 1).take 9
        let kind := byteAt m 1
        let again := rx.slot.isNone && (partner s1 h).urgent == some report
        let s2 := enhAck (putPartner s1 h { partner s1 h with urgent := if rx.slot.isSome then some report else none }) h rx
        if again then s2
        else
          let s3 := postSensor s2 (eventBytes s2 kind (if isLate s h rx then 1 else 0) h (report.drop 1))
          let s4 := if kind = 3 then switchAction s3 h (report.drop 1) else s3
          originate s4 h report)

/-- KEEPALIVE (R379). -/
def execKeepalive (h : Fin 1024) (rx : AirRx) (s : State) : Host.Outcome State Fault Refusal :=
  .next (match receiveAir s h 5 (fun m => m.length == 3) rx with
    | (none, s1) => s1
    | (some _, s1) => enhAck (putPartner s1 h { partner s1 h with urgent := none }) h rx)

/-- LEAVE (R372): the event is freed at once. -/
def execLeave (h : Fin 1024) (rx : AirRx) (s : State) : Host.Outcome State Fault Refusal :=
  .next (match receiveAir s h 6 (fun m => m.length == 1) rx with
    | (none, s1) => s1
    | (some _, s1) => dropPartner (enhAck s1 h rx) h)

/-- ENH_ACK (R379): a partner acknowledges the downlink frame of its event. -/
def execEnhAck (h : Fin 1024) (rx : AirRx) (s : State) : Host.Outcome State Fault Refusal :=
  .next (if !radioRuns s ∨ !associated s h ∨ (partner s h).tries = 0 then s
    else if rx.queueFull then raise s 56 0 0
    else if !rx.known then bump s (kAir 0x11)
    else
      match openPartner s h 5 rx with
      | (none, s1) => s1
      | (some _, s1) =>
          let s2 := putPartner s1 h { partner s1 h with tries := 0, acked := some s1.air.sf, lastRx := some s1.clk, missed := 0, rssi := rx.rssi.toInt }
          let x := session s2 (0x1000 + h)
          putSession (countFrame s2 rx) (0x1000 + h) { x with txQueue := x.txQueue.drop 1 })

/-- EVENT_MISSED (R374): an event passes with no valid frame. -/
def execEventMissed (h : Fin 1024) (s : State) : Host.Outcome State Fault Refusal :=
  .next (if associated s h then
      let s1 := settleDownlink s h
      let p := partner s1 h
      putPartner s1 h { p with w := min 2500 (2 * p.w), missed := min 255 (p.missed + 1), urgent := none }
    else s)

/-- SUPERVISION_LOSS (R378); the partner's session ends with its association (R120). -/
def execSupervisionLoss (h : Fin 1024) (s : State) : Host.Outcome State Fault Refusal :=
  .next (if associated s h then
      let p := partner s h
      let s1 := putPartner (endSession s (0x1000 + h)) h { p with st := 3, downlink := false, tries := 0, keepUntil := s.air.sf + 4 * 2 ^ p.exp }
      let s2 := postSensor (showPartners s1) (eventBytes s1 5 0 h [0])
      raise s2 36 0 h
    else s)

/-! ### Joining (R372, R373) -/

/-- R378: the SUPERVISION event of a partner that returns. -/
def restored (s : State) (h : Nat) (was : Nat) : State := if was = 3 then postSensor s (eventBytes s 5 0 h [1]) else s

/-- R372, R373: a listed partner that asks to join is given an event, with a new session (R120), or the request is counted. -/
def takeJoin (s : State) (ext : BitVec 64) (rx : AirRx) : State :=
  match (List.range 1024).find? fun h => recExt (partnerRec s h) == ext.toNat && ext.toNat != 0 && 1 ≤ recKind (partnerRec s h) && recKind (partnerRec s h) ≤ 4 with
  | none => bump s (kAir 0x15)
  | some h =>
      match openPartner s h 5 rx with
      | (none, s1) => bump s1 (kAir 0x15)
      | (some m, s1) =>
          let s2 := countFrame (if rx.counter.toNat = 2 ^ 32 - 1 then raise s1 37 3 h else s1) rx
          let want := byteAt m 2
          let e := min want (byteAt (partnerRec s2 h) 11)
          match (if byteAt m 0 = 3 ∧ m.length = 5 ∧ want ≤ 6 ∧ s2.air.order ≤ e then findEvent s2 h e else none), rx.slot with
          | some (slot, phase), some c =>
              let was := (partner s2 h).st
              let p : Partner := { st := 2, slot := slot, exp := e, phase := phase, chOff := h % (airMap s2).length, rssi := rx.rssi.toInt, lastRx := some s2.clk }
              let s3 := showPartners (putPartner (endSession s2 (0x1000 + h)) h p)
              restored { s3 with air := { s3.air with joins := s3.air.joins ++ [(h, c.val + 1, s3.air.sf + 1)] } } h was
          | _, _ => bump s2 (kAir 0x15)

/-- JOIN_REQUEST (R372, R373): a listed partner is given an event, and is answered in the same slot of the next superframe. -/
def execJoinRequest (ext : BitVec 64) (rx : AirRx) (s : State) : Host.Outcome State Fault Refusal :=
  .next (if !radioRuns s then s
    else if rx.queueFull then raise s 56 0 0
    else if !forUs s rx ∨ !heardBeside s (airSlot s 0xFFFF rx) rx then s
    else if !rx.known then bump (holdReceiver s (airSlot s 0xFFFF rx) rx) (kAir 0x11)
    else takeJoin (holdReceiver s (airSlot s 0xFFFF rx) rx) ext rx)

/-- JOIN_RESPONSE (Table 15-4), at level 7 under the link key. -/
def joinResponse (s : State) (h : Nat) : State :=
  let p := partner s h
  match linkKey s h with
  | (none, s1) => s1
  | (some key, s1) =>
      match beaconKey s1 with
      | (none, s2) => s2
      | (some bk, s2) =>
          sendAir s2 (mapChannel s2 (eventNo s2)) h key 7 0xAC69 (leBytes 2 (nat s2 kAddrActive) ++ leBytes 8 (recExt (partnerRec s2 h)) ++ [0, 0]) []
            ([4] ++ leBytes 2 h ++ leBytes 1 p.slot ++ leBytes 1 p.exp ++ leBytes 1 p.phase ++ leBytes 1 p.chOff
              ++ [BitVec.ofNat 8 (byteAt (partnerRec s2 h) 12), 0] ++ bk.2.2 ++ leBytes 4 ((tabFind s2.air.counters beaconId).getD 0 - 1))

/-! ### Superframes and slots (R366 to R371) -/

/-- The number of the superframe that starts now, by the field timing generator's numbering (R366). -/
def superframeNo (s : State) : Nat :=
  ((((fieldNs s : Int) * 65536 - s.time.off).fdiv 65536 + 125000000 - (s.air.offset * 5000000 : Nat)) / 250000000).toNat

/-- The map and phase in force. -/
def putMap (s : State) (map : Bytes) (phase : Nat) : State :=
  setVal { s with air := { s.air with phase := phase } } (kAir 5) (.bytes map)

/-- `RADIO_STATUS` bits 1 to 4. -/
def showRadio (s : State) : State :=
  let off := nat s (kAir 7)
  let near := s.air.neighbours.any fun n =>
    let d := (n.2.offset + 50 - s.air.offset) % 50
    d ≤ 2 || 48 ≤ d
  let differ := radioState s == 2 && (off != s.air.offset || nat s (kAir 8) != s.air.order)
  setBit (setBit (setBit (setBit s (kAir 0xF) 1 s.air.announce.isSome) (kAir 0xF) 2 near) (kAir 0xF) 3 differ) (kAir 0xF) 4 s.air.startAsked

/-- R371: a write of the map or the phase: at once, or announced from the next beacon on while the radio is RUNNING. -/
def changeMap (s : State) : State :=
  let map := (reg s (kAir 4)).toBytes
  let phase := nat s (kAir 6)
  if radioState s = 2 then
    let n := 2 ^ s.air.order
    let e := eventNo s + 1
    let beacon := s.air.sf + 1 + (n - e % n) % n
    showRadio { s with air := { s.air with announce := some (map, phase, beacon + 256) } }
  else putMap s map phase

/-- SUPERFRAME_START (R366, R371, R387): the counters move on; an announced change applies; a radio that is STARTING opens its first; the last one of a
radio that is STOPPING has ended. -/
def execSuperframeStart (s : State) : Host.Outcome State Fault Refusal :=
  .next (if radioState s = 1 then
      let s1 := { s with air := { s.air with offset := nat s (kAir 7), order := nat s (kAir 8) } }
      let s2 := { s1 with air := { s1.air with sf := superframeNo s1, slot := 0, busyTo := 0, announce := none, isOpen := true } }
      showRadio (setNum (putMap s2 (reg s2 (kAir 4)).toBytes (nat s2 (kAir 6))) (kAir 2) 2)
    else if radioState s = 3 then { s with air := { s.air with isOpen := false } }
    else if radioState s = 2 then
      let n := superframeNo s
      let s1 := { s with air := { s.air with sf := n, slot := 0, busyTo := if n = s.air.sf + 1 then s.air.busyTo else 0 } }
      match s1.air.announce with
      | some (map, phase, at_) =>
          if at_ ≤ s1.air.sf then showRadio (putMap { s1 with air := { s1.air with announce := none } } map phase) else s1
      | none => s1
    else s)

/-- The nibbles of a channel map (Table 15-3). -/
def mapNibbles (map : Bytes) : Bytes :=
  let n := fun (j : Nat) => if j < map.length then byteAt map j - 11 else 0
  (List.range 9).map fun i => BitVec.ofNat 8 (n (2 * i) + 16 * n (2 * i + 1))

/-- R369: the beacon. -/
def sendBeacon (s : State) : State :=
  match beaconKey s with
  | (none, s1) => s1
  | (some key, s1) =>
      let ann := s1.air.announce
      let flags := (if joinOk s1 then 1 else 0) + (if s1.safety.egress then 2 else 0) + (if ann.isSome then 4 else 0)
      let new := match ann with
        | some (map, phase, at_) => leBytes 1 map.length ++ mapNibbles map ++ leBytes 2 phase ++ leBytes 4 at_
        | none => List.replicate 16 0
      sendAir s1 (mapChannel s1 (eventNo s1)) beaconId key 1 0xA008 (leBytes 2 (nat s1 kAddrActive) ++ [0, 0]) []
        ([1] ++ leBytes 1 flags ++ leBytes 2 (eventNo s1) ++ leBytes 1 s1.air.order ++ leBytes 1 s1.air.offset ++ leBytes 8 (now64 s1)
          ++ leBytes 1 (airMap s1).length ++ mapNibbles (airMap s1) ++ new ++ [0, 0, 0, 0])

/-- A frame leaves on the mesh channel under the mesh key. -/
def sendMesh (s : State) (payload : Nat → Bytes) : State :=
  match meshKey s with
  | (none, s1) => s1
  | (some key, s1) =>
      let ctr := (tabFind s1.air.counters meshId).getD (((tabFind s1.mram.airTx meshId).map (·.value)).getD 0)
      sendAir s1 (nat s1 (kAir 0xC)) meshId key 5 0xE849 ([0xFF, 0xFF, 0xFF, 0xFF] ++ leBytes 8 (serial s1)) [] (payload ctr)

/-- R384: the mesh beacon. -/
def sendMeshBeacon (s : State) : State :=
  sendMesh s fun _ => [0x11] ++ leBytes 2 (nat s kAddrActive) ++ leBytes 1 s.air.offset ++ leBytes 2 s.air.phase ++ leBytes 1 s.air.relay.length

/-- R384, R385: the oldest queued FLOOD leaves, with its age so far. -/
def sendFlood (s : State) : State :=
  match s.air.relay with
  | [] => s
  | f :: rest =>
      let age := min 65535 (fieldAt f.body 25 2 + (s.clk - f.at_) / msec 1)
      sendMesh { s with air := { s.air with relay := rest } } fun ctr =>
        [0x10] ++ f.body.take 2 ++ (if f.own then leBytes 4 ctr else slice f.body 2 4) ++ slice f.body 6 19 ++ leBytes 2 age

/-- R379: the downlink event of a partner: its queued frame, and the exchange that it begins. -/
def downlinkEvent (s : State) (h : Nat) : State :=
  let s0 := settleDownlink s h
  let p := { partner s0 h with downlink := false }
  match (session s0 (0x1000 + h)).txQueue with
  | [] => putPartner s0 h p
  | msg :: _ =>
      match linkKey s0 h with
      | (none, s1) => s1
      | (some key, s1) =>
          let ends := (s1.air.sf * 50 + p.slot) * 5000 + 500 + 32 * (msg.length + 27) + ackTime
          sendAir (putPartner { s1 with air := { s1.air with busyTo := ends } } h { p with tries := p.tries + 1 })
            (mapChannel s1 (eventNo s1 + p.chOff)) h key 5 0xA869 (partnerAddrs s1 h) [] (2 :: msg)

/-- What the module sends first in slot `i` (R367 to R370, R372, R379, R384). -/
def openSlot (s : State) (i : Nat) : State :=
  if i = 0 then (if radioState s = 2 ∧ eventNo s % 2 ^ s.air.order = 0 then sendBeacon s else s)
  else if i < 4 then
    let due := s.air.joins.filter fun j => j.2.1 == i && j.2.2 ≤ s.air.sf
    due.foldl (fun t j => joinResponse t j.1)
      { s with air := { s.air with joins := s.air.joins.filter fun j => !(j.2.1 == i && j.2.2 ≤ s.air.sf) } }
  else if i < 47 then
    (s.air.partners.filter fun p => hasEvent s p.2 && p.2.slot == i && p.2.downlink).foldl (fun t p => downlinkEvent t p.1) s
  else if !flag s (kAir 0xB) then s
  else if i = 47 then sendMeshBeacon s
  else sendFlood s

/-- SLOT_START (R367 to R370, R372, R379, R384): slot `i` of the superframe begins. -/
def execSlotStart (i : Fin 50) (s : State) : Host.Outcome State Fault Refusal :=
  .next (if !radioRuns s then s else openSlot { s with air := { s.air with slot := i } } i)

/-! ### The mesh (R384, R385) -/

/-- A mesh frame is opened: MIC and counter of its sender under the mesh key (R383). It is heard when no window, contention slot or exchange needs the
receiver (R375), and ignored but with PAN ID and destination 0xFFFF (R365). -/
def openMesh (s : State) (ext : Nat) (rx : AirRx) : Option Bytes × State :=
  if !radioRuns s ∨ !flag s (kAir 0xB) then (none, s)
  else if rx.queueFull then (none, raise s 56 0 0)
  else if slice rx.header 3 4 ≠ [0xFF, 0xFF, 0xFF, 0xFF] ∨ shrAt s s.air.slot rx < s.air.busyTo ∨ (1 ≤ s.air.slot ∧ s.air.slot ≤ 3)
    ∨ windowOver s s.air.slot none rx then (none, s)
  else
    let s0 := holdReceiver s s.air.slot rx
    if !rx.known ∨ rx.level ≠ 5 then (none, bump s0 (kAir 0x11))
    else
      match meshKey s0 with
      | (none, s1) => (none, bump s1 (kAir 0x11))
      | (some key, s1) =>
          match ccmOpen 4 key.2.2 (airNonce ext rx.counter.toNat 5) rx.header rx.sealed_ with
          | none => (none, airFail s1 none false)
          | some m =>
              let last := (tabFind s1.air.meshRx ext).filter fun c => c.shell == key.1 && c.gen == key.2.1
              if last.any fun c => rx.counter.toNat ≤ c.value then (none, airFail s1 none true)
              else (some m, countFrame { s1 with air := { s1.air with
                meshRx := tabPut s1.air.meshRx ext { shell := key.1, gen := key.2.1, value := rx.counter.toNat } } } rx)

/-- FLOOD (R385): seen-cache, delivery to a REMOTE record, relay. -/
def execFlood (ext : BitVec 64) (rx : AirRx) (s : State) : Host.Outcome State Fault Refusal :=
  .next (match openMesh s ext.toNat rx with
    | (none, s1) => s1
    | (some m, s1) =>
        let b := m.drop 1
        let ttl := byteAt b 6
        if byteAt m 0 ≠ 0x10 ∨ b.length ≠ 27 ∨ ttl = 0 ∨ 15 < ttl ∨ byteAt b 16 = 0 ∨ 3 < byteAt b 16 then bump s1 (kAir 0x11)
        else
          let origin := fieldAt b 0 2
          let ctr := fieldAt b 2 4
          let live := s1.air.seen.filter fun x => s1.clk < x.2.2 + secs 8
          if live.any fun x => x.1 == origin && x.2.1 == ctr then bump s1 (kAir 0x17)
          else
            let s2 := { s1 with air := { s1.air with seen := ((origin, ctr, s1.clk) :: live).take 64 } }
            let age := fieldAt b 25 2
            let s3 := match (List.range 1024).find? fun h =>
                recKind (partnerRec s2 h) == 5 && recExt (partnerRec s2 h) == fieldAt b 8 8 && fieldAt (partnerRec s2 h) 16 2 == origin with
              | some h =>
                  let stamp := (fieldNs s2 - age * 1000000) % 2 ^ 32
                  postSensor s2 (slice b 16 1 ++ [0] ++ leBytes 2 h ++ leBytes 4 stamp ++ slice b 17 8)
              | none => s2
            if 2 ≤ ttl then queueFlood s3 (b.take 6 ++ [BitVec.ofNat 8 (ttl - 1)] ++ b.drop 7) false else s3)

/-- NEIGHBOUR_EXPIRY (R384): an entry has not been heard for 60 s. -/
def execNeighbourExpiry (a : Half) (s : State) : Host.Outcome State Fault Refusal :=
  .next (if (tabFind s.air.neighbours a.toNat).isSome then
      showRadio { s with air := { s.air with neighbours := tabDrop s.air.neighbours a.toNat } }
    else s)

/-- FLOOD_EXPIRY (R385): the oldest queued frame is still unsent 500 ms after its reception. -/
def execFloodExpiry (s : State) : Host.Outcome State Fault Refusal :=
  .next (if s.air.relay = [] then s else bump { s with air := { s.air with relay := s.air.relay.drop 1 } } (kAir 0x18))

/-! ### Start and stop (R387) -/

/-- Whether `AIR_SHELL` names a shell usable for the radio, and the module is commissioned (R29, R387). -/
def radioReady (s : State) : Bool :=
  let n := nat s (kAir 0xA)
  nat s kAddrActive != 0xFFFF && n != 0xFF && isValid s n && hasUsage s n 7

/-- The pending START shows. -/
def radioPending (s : State) (v : Bool) : State := showRadio (setBit { s with air := { s.air with startAsked := v } } kRestartPending 1 v)

/-- START's beginning: the superframe opens at its next start. -/
def openRadio (s : State) : State := setNum (beaconKey s).2 (kAir 2) 1

/-- A START. -/
def radioStart (s : State) : State :=
  if heldOff s 10 then s
  else if radioState s = 0 then openRadio s else if radioState s = 3 then radioPending s true else s

/-- A STOP; one during STOPPING cancels the pending START (R74). -/
def radioStop (s : State) : State :=
  if radioState s = 1 ∨ radioState s = 2 then setNum s (kAir 2) 3 else if radioState s = 3 then radioPending s false else s

/-- A RESTART. -/
def radioRestart (s : State) : State :=
  if radioState s = 0 then radioStart s else radioPending (radioStop s) true

/-- RADIO_STOP_COMPLETE (R387): the relay queue is discarded and the transceiver is off; associations are kept. -/
def execRadioStopComplete (s : State) : Host.Outcome State Fault Refusal :=
  .next (if radioState s = 3 then
      let again := s.air.startAsked
      let s1 := radioPending { s with air := { s.air with relay := [], joins := [], announce := none, isOpen := false } } false
      let s2 := putMap (setNum s1 (kAir 2) 0) (reg s1 (kAir 4)).toBytes (nat s1 (kAir 6))
      showRadio (if again then openRadio s2 else s2)
    else s)

/-- RADIO_FAULT (Table 15-5): the kinds of source 35. -/
def execRadioFault (kind : Fin 3) (s : State) : Host.Outcome State Fault Refusal := .next (raise s 35 (kind + 1) 0)

/-! ### Dictionary -/

/-- R372, Table 15-8: whether a content is accepted as a partner table. -/
def partnerTableOk (s : State) (b : Bytes) : Bool :=
  let rs := records 32 b
  let used := rs.filter fun r => recKind r != 0
  b.length == 32768
    && (used.map fun r => (recExt r, fieldAt r 16 2)).Nodup
    && rs.all fun r =>
        recKind r ≤ 5 && byteAt r 11 ≤ 6
          && (recKind r == 0 || (recExt r != 0 && 4 ≤ byteAt r 12 && (fieldAt r 14 2 ≤ 1023 || fieldAt r 14 2 == 0xFFFF)
            && (if recKind r = 5 then byteAt r 10 == 0xFF && !recFlag r 1 && fieldAt r 16 2 != nat s kAddrActive else fieldAt r 16 2 == 0)))

/-- A new partner table: the association of a changed or removed record is dropped, and its session ends (R120). -/
def afterPartners (s : State) (old : Bytes) : State :=
  let gone := (tabKeys s.air.partners).filter fun h => slice old (32 * h) 32 != partnerRec s h
  let s1 := gone.foldl (fun t h => endSession t (0x1000 + h)) s
  showPartners { s1 with
    air := { s1.air with partners := s1.air.partners.filter fun p => !gone.contains p.1 }
    zones := { s1.zones with lost := s1.zones.lost.filter fun h => !gone.contains h } }

/-- Check 5 beyond the tables' ranges: `CHANNEL_MAP` (Table 15-10). -/
def rangeAir (idx sub : Nat) (b : Bytes) : Bool :=
  if idx = 0x2600 ∧ sub = 4 then b.Nodup && b.all fun x => 11 ≤ x.toNat && x.toNat ≤ 26 else true

/-- Check 6: a START of a radio that cannot start. -/
def condAir (s : State) (idx sub : Nat) (v : Int) : Bool :=
  !(idx == 0x2600 && sub == 1 && v != 1 && !radioReady s)

/-- What a write does beyond the value. -/
def afterAir (s : State) (sub : Nat) : State := if sub = 4 ∨ sub = 6 then changeMap s else if sub = 7 ∨ sub = 8 then showRadio s else s

/-- The commands of Table 15-10. -/
def commandAir (s : State) (sub : Nat) (v : Int) : State :=
  if sub = 1 then (if v = 1 then radioStop s else if v = 2 then radioStart s else radioRestart s)
  else [0x10, 0x11, 0x12, 0x13, 0x14, 0x15, 0x16, 0x17, 0x18].foldl (fun t n => setNum t (kAir n) 0) s

/-- One partner's state (Table 15-9). -/
def partnerState (s : State) (h : Nat) : Bytes :=
  let r := partnerRec s h
  let p := partner s h
  let st := if recKind r = 0 then 0 else if recKind r = 5 then 4 else p.st
  let ago := match p.lastRx with
    | some t => (s.clk - t) / secs 1
    | none => 2 ^ 32 - 1
  leBytes 1 st ++ leBytes 1 (if p.st = 2 then p.slot else 0) ++ leBytes 1 p.exp ++ leBytes 1 p.phase ++ leBytes 1 p.chOff ++ leBytes 1 (p.w / 100)
    ++ [BitVec.ofInt 8 p.rssi] ++ leBytes 1 p.missed ++ leBytes 4 (((tabFind s.mram.airRx h).map (·.value)).getD 0) ++ leBytes 4 (min (2 ^ 32 - 1) ago)

/-- Values read as they are now. -/
def liveAir (s : State) (idx sub : Nat) : Option Val :=
  if idx = 0x2700 ∧ sub = 2 then some (.bytes ((List.range 1024).flatMap (partnerState s)))
  else if idx = 0x2600 ∧ sub = 0xE then
    some (.bytes (s.air.neighbours.flatMap fun n => leBytes 2 n.1 ++ leBytes 1 n.2.offset ++ [BitVec.ofInt 8 n.2.rssi] ++ leBytes 2 n.2.phase
      ++ leBytes 2 (min 65535 ((s.clk - n.2.heardAt) / secs 1))))
  else if idx = 0x2600 ∧ sub = 0xF then some (.num (nat s (kAir 0xF) / 2 * 2 + (if nat s (kFault 35 7) = 1 then 1 else 0) : Nat))
  else none

end Sys2Proof.Machine
end

