-- ==== Sys2Proof/Machine/Mdp.lean ====
section
/-!
DEFINITION. MDP messages as bytes: operation codes, the bodies of Table 5-3 written and read (R104, R472).
-/

namespace Sys2Proof.Machine

/-- The bytes of a reference. -/
def refBytes (r : Ref) : Bytes := leBytes 2 r.index.toNat ++ [r.sub]

/-- The bytes of a value: length, then the bytes. -/
def valueBytes (v : Bytes) : Bytes := leBytes 2 v.length ++ v

/-- The operation code of a request (Table 5-2). -/
def opCode : MdpOp → Byte
  | .read _ => 0x01
  | .write _ _ => 0x02
  | .readMulti _ => 0x03
  | .writeMulti _ => 0x04
  | .blockBegin _ _ _ _ => 0x10
  | .blockData _ _ _ => 0x11
  | .blockEnd _ => 0x12
  | .subscribe _ _ _ => 0x20
  | .command _ _ => 0x30
  | .authBegin _ => 0x50
  | .authProve _ => 0x51
  | .close => 0x52
  | .other c _ => c
  | .malformed c _ => c

/-- The body of a request (Table 5-3). -/
def opBody : MdpOp → Bytes
  | .read r => refBytes r
  | .write r v => refBytes r ++ valueBytes v
  | .readMulti rs => BitVec.ofNat 8 rs.length :: rs.flatMap refBytes
  | .writeMulti is => BitVec.ofNat 8 is.length :: is.flatMap fun i => refBytes i.ref ++ valueBytes i.value
  | .blockBegin r dir size crc => refBytes r ++ [if dir then 1 else 0] ++ leBytes 4 size.toNat ++ leBytes 4 crc.toNat
  | .blockData h off (.write v) => h :: leBytes 4 off.toNat ++ valueBytes v
  | .blockData h off (.read n) => h :: leBytes 4 off.toNat ++ leBytes 2 n.toNat
  | .blockEnd h => [h]
  | .subscribe r m i => refBytes r ++ [m] ++ leBytes 4 i.toNat
  | .command r v => refBytes r ++ valueBytes v
  | .authBegin n => [n]
  | .authProve t => t
  | .close => []
  | .other _ b => b
  | .malformed _ b => b

/-- The length of a request's body. -/
def opLen (o : MdpOp) : Nat := (opBody o).length

/-- A message: header (Table 5-1) and body. -/
def mdpMsg (op : Byte) (tid : Half) (status flags : Byte) (body : Bytes) : Bytes :=
  [3, op] ++ leBytes 2 tid.toNat ++ [status, flags] ++ leBytes 2 body.length ++ body

/-- A request as a message. -/
def requestMsg (o : MdpOp) (tid : Half) (retry : Bool) : Bytes := mdpMsg (opCode o) tid 0 (if retry then 1 else 0) (opBody o)

/-- A reference from three bytes. -/
def refAt (b : Bytes) (off : Nat) : Ref := { index := BitVec.ofNat 16 (fieldAt b off 2), sub := BitVec.ofNat 8 (byteAt b (off + 2)) }

/-- A word from four bytes. -/
def wordAt (b : Bytes) (off : Nat) : Word := BitVec.ofNat 32 (fieldAt b off 4)

/-- A value that fills the rest of a body from an offset. -/
def restValue (b : Bytes) (off : Nat) : Option Bytes :=
  if off + 2 ≤ b.length ∧ b.length = off + 2 + fieldAt b off 2 then some (b.drop (off + 2)) else none

/-- `n` references that fill a body. -/
def parseRefs : Nat → Bytes → Option (List Ref)
  | 0, b => if b = [] then some [] else none
  | n + 1, b => if b.length < 3 then none else (parseRefs n (b.drop 3)).map fun t => refAt b 0 :: t

/-- `n` items that fill a body. -/
def parseItems : Nat → Bytes → Option (List Item)
  | 0, b => if b = [] then some [] else none
  | n + 1, b =>
      let len := fieldAt b 3 2
      if b.length < 5 + len then none
      else (parseItems n (b.drop (5 + len))).map fun t => { ref := refAt b 0, value := slice b 5 len } :: t

/-- R472: a request's body by its operation; `malformed` when it does not match its layout. A BLOCK_DATA argument of two bytes is a read's length
or, for a write transfer, an empty value: the same bytes. -/
def parseOp (code : Byte) (b : Bytes) : MdpOp :=
  let bad := MdpOp.malformed code b
  if code = 0x01 then (if b.length = 3 then .read (refAt b 0) else bad)
  else if code = 0x02 then ((restValue b 3).map (MdpOp.write (refAt b 0))).getD bad
  else if code = 0x03 then (if b = [] then bad else ((parseRefs (byteAt b 0) (b.drop 1)).map MdpOp.readMulti).getD bad)
  else if code = 0x04 then (if b = [] then bad else ((parseItems (byteAt b 0) (b.drop 1)).map MdpOp.writeMulti).getD bad)
  else if code = 0x10 then
    (if b.length = 12 ∧ (byteAt b 3 = 1 ∨ (byteAt b 3 = 0 ∧ fieldAt b 4 8 = 0)) then .blockBegin (refAt b 0) (byteAt b 3 == 1) (wordAt b 4) (wordAt b 8) else bad)
  else if code = 0x11 then
    (if b.length = 7 then .blockData (BitVec.ofNat 8 (byteAt b 0)) (wordAt b 1) (.read (BitVec.ofNat 16 (fieldAt b 5 2)))
     else ((restValue b 5).map fun v => MdpOp.blockData (BitVec.ofNat 8 (byteAt b 0)) (wordAt b 1) (.write v)).getD bad)
  else if code = 0x12 then (if b.length = 1 then .blockEnd (BitVec.ofNat 8 (byteAt b 0)) else bad)
  else if code = 0x20 then (if b.length = 8 ∧ byteAt b 3 ≤ 2 then .subscribe (refAt b 0) (BitVec.ofNat 8 (byteAt b 3)) (wordAt b 4) else bad)
  else if code = 0x30 then ((restValue b 3).map (MdpOp.command (refAt b 0))).getD bad
  else if code = 0x50 then (if b.length = 1 then .authBegin (BitVec.ofNat 8 (byteAt b 0)) else bad)
  else if code = 0x51 then (if b.length = 16 then .authProve b else bad)
  else if code = 0x52 then (if b = [] then .close else bad)
  else .other code b

/-- Whether a message is whole (R104): header, and a body of exactly `LEN` bytes. -/
def messageWhole (m : Bytes) : Bool := 8 ≤ m.length && m.length == 8 + fieldAt m 6 2

/-- The operation byte of a message. -/
def msgOp (m : Bytes) : Byte := BitVec.ofNat 8 (byteAt m 1)
/-- The transaction identifier of a message. -/
def msgTid (m : Bytes) : Half := BitVec.ofNat 16 (fieldAt m 2 2)
/-- Whether RETRY is set. -/
def msgRetry (m : Bytes) : Bool := (byteAt m 5).testBit 0

/-- The body of a PROXY (Table 5-3, R472): none when the enclosed message does not fill the rest exactly or is malformed. -/
def parseProxy (b : Bytes) : Option ProxyReq :=
  let m := b.drop 5
  if b.length < 5 ∨ 2 < byteAt b 2 ∨ !messageWhole m ∨ 128 ≤ byteAt m 1 ∨ byteAt m 0 ≠ 3 then none
  else some { target := BitVec.ofNat 16 (fieldAt b 0 2), side := BitVec.ofNat 8 (byteAt b 2), timeout := BitVec.ofNat 16 (fieldAt b 3 2)
              tid := msgTid m, retry := msgRetry m, inner := parseOp (msgOp m) (m.drop 8) }

/-- The length of a PROXY's body. -/
def proxyLen (p : ProxyReq) : Nat := 13 + opLen p.inner

end Sys2Proof.Machine
end

