-- ==== Sys2Proof/Machine/Dma.lean ====
section
/-!
DEFINITION. The DMA engine and the colophon queue (chapter 11): the descriptor's checks, its address modes and transforms, colophons, overlap, stopping a
channel.
-/

namespace Sys2Proof.Machine

/-- The register `sub` of DMA channel `c` (Table 11-9). -/
def kDma (c sub : Nat) : Key := (0x8200 + c) * 256 + sub
/-- The register `sub` of COLOPHON_QUEUE (Table 11-10). -/
def kCol (sub : Nat) : Key := 0x8210 * 256 + sub

/-- DMA channel `c`. -/
def channel (s : State) (c : Nat) : Chan := (tabFind s.dma.chans c).getD {}
/-- Put DMA channel `c`. -/
def putChannel (s : State) (c : Nat) (x : Chan) : State := { s with dma := { s.dma with chans := tabPut s.dma.chans c x } }
/-- `CHANNEL_STATE`: 0 IDLE, 1 ACTIVE, 2 STOPPING, 3 STOPPED. -/
def channelState (s : State) (c : Nat) : Nat := nat s (kDma c 2)

/-! ### Fields of a descriptor (Tables 11-2, 11-3) -/

/-- `CTRL`. -/
def dCtrl (d : Bytes) : Nat := fieldAt d 0 4
/-- XFORM: 0 NONE, 1 PLANE_SPLIT, 2 PLANE_MERGE, 3 INTERLEAVE, 4 DEINTERLEAVE. -/
def dXform (d : Bytes) : Nat := dCtrl d % 8
/-- SRC_MODE, 0 LINEAR, 1 STRIDE, 2 INDEX. -/
def dSrcMode (d : Bytes) : Nat := dCtrl d / 16 % 4
/-- DST_MODE. -/
def dDstMode (d : Bytes) : Nat := dCtrl d / 64 % 4
/-- E, the element size in bytes. -/
def dElem (d : Bytes) : Nat := 2 ^ (dCtrl d / 256 % 4)
/-- K, the ways of an interleave. -/
def dWays (d : Bytes) : Nat := dCtrl d / 4096 % 16
/-- PLANE_HI. -/
def dHi (d : Bytes) : Nat := dCtrl d / 65536 % 16
/-- PLANE_LO. -/
def dLo (d : Bytes) : Nat := dCtrl d / 1048576 % 16
/-- The size of an index entry. -/
def dIdx (d : Bytes) : Nat := if (dCtrl d).testBit 24 then 4 else 2
/-- CHAIN. -/
def dChain (d : Bytes) : Bool := (dCtrl d).testBit 25
/-- NOTIFY. -/
def dNotify (d : Bytes) : Bool := (dCtrl d).testBit 26
/-- `LEN`. -/
def dLen (d : Bytes) : Nat := fieldAt d 12 4
/-- `ROW`. -/
def dRow (d : Bytes) : Nat := fieldAt d 24 2
/-- The planes of a split or merge. -/
def dPlanes (d : Bytes) : Nat := dHi d + 1 - dLo d
/-- The destination stream's length (Table 11-4). -/
def dDstLen (d : Bytes) : Nat :=
  if dXform d = 1 then dLen d / 16 * dPlanes d else if dXform d = 2 then 16 * dLen d / dPlanes d else dLen d

/-- R273, but for ranges and overlap: whether a descriptor is valid; `engine` says that an engine posted it. Reserved bits of `CTRL` are ignored (R9), reserved
values of its fields are not (R10). -/
def descOk (d : Bytes) (engine : Bool) : Bool :=
  let len := dLen d
  let stride := dSrcMode d == 1 || dDstMode d == 1
  dXform d ≤ 4 && dSrcMode d != 3 && dDstMode d != 3
    && (dXform d ≤ 2 || (2 ≤ dWays d && dWays d ≤ 8))
    && 1 ≤ len && len ≤ 16777216
    && ((dSrcMode d != 2 && dDstMode d != 2) || len % dElem d == 0)
    && (dSrcMode d != 1 || (dRow d != 0 && len % dRow d == 0)) && (if stride then dRow d != 0 else dRow d == 0)
    && (dXform d != 1 || (dElem d == 2 && len % 16 == 0 && len ≤ 4096 && dLo d ≤ dHi d && dDstMode d != 2))
    && (dXform d != 2 || (dElem d == 2 && dLo d ≤ dHi d && len % dPlanes d == 0 && dDstLen d ≤ 4096 && dSrcMode d != 2))
    && (dXform d < 3 || len % (dWays d * dElem d) == 0)
    && (dSrcMode d != 2 || fieldAt d 16 4 % dIdx d == 0) && (dDstMode d != 2 || fieldAt d 20 4 % dIdx d == 0)
    && (if dChain d then fieldAt d 28 4 % 32 == 0 else fieldAt d 28 4 == 0)
    && (engine || fieldAt d 26 2 == 0)

/-! ### Ranges (R272, R276) -/

/-- A span of addresses: from, and just beyond. -/
abbrev Span := Int × Int

/-- The span of a side: mode, address, auxiliary word, stream length. -/
def sideSpan (d : Bytes) (mode addr aux len : Nat) : Span :=
  if mode = 0 then (addr, addr + len)
  else if mode = 1 then
    let rows : Int := ((len + dRow d - 1) / dRow d : Nat)
    let st := signed 4 aux
    (addr + min 0 ((rows - 1) * st), addr + max 0 ((rows - 1) * st) + dRow d)
  else (addr, addr + (if dIdx d = 2 then 65536 else 16777216) * dElem d)

/-- The span of a side's index table, if it has one. -/
def tableSpan (d : Bytes) (mode aux len : Nat) : Option Span :=
  if mode = 2 then some (aux, aux + len / dElem d * dIdx d) else none

/-- Whether a span lies in a range. -/
def within (x : Span) (lo hi : Nat) : Bool := (lo : Int) ≤ x.1 && x.2 ≤ hi

/-- R273, R276: whether a span lies in Table 11-1, for a write when `isStore`; ports are write-only and linear. -/
def runtimeReach (x : Span) (isStore linear : Bool) : Bool :=
  within x 0 0x800000 || within x 0x10000000 0x10400000 || within x 0x20000000 0x20200000
    || (isStore && linear && within x 0x30000000 0x30008000)

/-- R272: whether a span lies in an engine's reach. -/
def engineReach (x : Span) (isStore : Bool) : Bool :=
  within x 0 0x20000 ||
    (if isStore then
      within x 0x10000000 0x10020000 || within x 0x10140000 0x101C0000 || within x 0x10240000 0x102C0000
        || within x 0x10383000 0x10389000 || within x 0x10390000 0x10400000
     else within x 0x10000000 0x10400000)

/-- R272: the physical address of an address that a descriptor of `owner` names. -/
def dmaAddr (owner : Nat) (select : Bool) (a : Nat) : Nat :=
  if 16 ≤ owner then a
  else if a < 0x20000 then localBase owner + a
  else if a < 0x10020000 then a + (if select then 0x20000 else 0)
  else if a < 0x10040000 then a - (if select then 0x20000 else 0)
  else a

/-- The status a descriptor ends with before any data moves, with its `DETAIL`: none when it may run (R273, R282, R283). -/
def precheck (d : Bytes) (owner : Nat) : Option (Nat × Nat) :=
  let eng := owner < 16
  let src := sideSpan d (dSrcMode d) (fieldAt d 4 4) (fieldAt d 16 4) (dLen d)
  let dst := sideSpan d (dDstMode d) (fieldAt d 8 4) (fieldAt d 20 4) (dDstLen d)
  let tabs := (tableSpan d (dSrcMode d) (fieldAt d 16 4) (dLen d)).toList ++ (tableSpan d (dDstMode d) (fieldAt d 20 4) (dDstLen d)).toList
  let reach := fun (x : Span) (st lin : Bool) => if eng then engineReach x st else runtimeReach x st lin
  let meet := fun (x : Span) => x.1 < dst.2 && dst.1 < x.2
  if !descOk d eng then some (3, 0)
  else if !reach src false false then some (4, 0)
  else if !reach dst true (dDstMode d == 0) then some (4, 1)
  else if !tabs.all (fun x => reach x false false) then some (4, 2)
  else if !(dXform d == 0 && dSrcMode d == 0 && dDstMode d == 0) && (meet src || tabs.any meet) then some (2, 0)
  else none

/-! ### Moving the data (R275 to R278) -/

/-- The address of stream byte `i` of a side; none at an index entry at or above 2²⁴. -/
def sideAddr (s : State) (d : Bytes) (owner : Nat) (select : Bool) (mode addr aux i : Nat) : Option Nat :=
  if mode = 0 then some (dmaAddr owner select (addr + i))
  else if mode = 1 then some (dmaAddr owner select ((addr : Int) + ((i / dRow d : Nat) : Int) * signed 4 aux + (i % dRow d : Nat)).toNat)
  else
    let e := rd s (dmaAddr owner select (aux + i / dElem d * dIdx d)) (dIdx d)
    if 2 ^ 24 ≤ e then none else some (dmaAddr owner select (addr + e * dElem d + i % dElem d))

/-- The source stream, up to an index entry out of range. -/
def readSide (s : State) (d : Bytes) (owner : Nat) (select : Bool) : Nat → Nat → Bytes
  | 0, _ => []
  | f + 1, i =>
      match sideAddr s d owner select (dSrcMode d) (fieldAt d 4 4) (fieldAt d 16 4) i with
      | some a => memRead s.mem a :: readSide s d owner select f (i + 1)
      | none => []

/-- Bit `p` of code `i` of a stream of u16 codes. -/
def codeBit (b : Bytes) (i p : Nat) : Bool := (fieldAt b (2 * i) 2).testBit p

/-- R277: PLANE_SPLIT of the codes, from plane `hi` down to `lo`. -/
def planeSplit (b : Bytes) (hi lo : Nat) : Bytes :=
  let n := b.length / 2
  (List.range (hi + 1 - lo)).flatMap fun q => (List.range (n / 8)).map fun y =>
    BitVec.ofNat 8 (((List.range 8).filter fun j => codeBit b (8 * y + j) (hi - q)).foldl (fun x j => x + 2 ^ j) 0)

/-- R277: PLANE_MERGE, the inverse. -/
def planeMerge (b : Bytes) (hi lo : Nat) : Bytes :=
  let per := b.length / (hi + 1 - lo)
  (List.range (8 * per)).flatMap fun i =>
    leBytes 2 (((List.range (hi + 1 - lo)).filter fun q => (byteAt b (q * per + i / 8)).testBit (i % 8)).foldl (fun x q => x + 2 ^ (hi - q)) 0)

/-- R278: the source element that an interleave of `k` blocks of `m` elements writes at destination element `e`. -/
def interleaveFrom (k m e : Nat) : Nat := e % k * m + e / k
/-- R278: the source element that a deinterleave writes at destination element `e`. -/
def deinterleaveFrom (k m e : Nat) : Nat := e % m * k + e / m

/-- R283: a plain copy onto a higher address that overlaps its source runs over descending addresses. -/
def descends (d : Bytes) : Bool :=
  let src := fieldAt d 4 4
  let dst := fieldAt d 8 4
  dXform d == 0 && dSrcMode d == 0 && dDstMode d == 0 && src < dst && dst < src + dLen d

/-- What a descriptor writes, as stream positions and bytes, in the order in which it writes them: that of the destination stream, whose index entries are read in
order (R275), as far as the source was read (R277, R278; log entry 84); from its end in a copy that descends (R283). -/
def transformed (d src : Bytes) : List (Nat × Byte) :=
  let e := dElem d
  let m := dLen d / (dWays d * e)
  let source := fun (i : Nat) =>
    if dXform d = 3 then interleaveFrom (dWays d) m (i / e) * e + i % e
    else if dXform d = 4 then deinterleaveFrom (dWays d) m (i / e) * e + i % e
    else i
  if dXform d = 1 then (if src.length < dLen d then [] else (List.range (dDstLen d)).zip (planeSplit src (dHi d) (dLo d)))
  else if dXform d = 2 then (List.range (dDstLen d)).zip (planeMerge src (dHi d) (dLo d))
  else
    let bytes := ((List.range (dLen d)).takeWhile fun i => source i < src.length).map fun i => (i, src.getD (source i) 0)
    if descends d then bytes.reverse else bytes

/-- One destination byte: to memory, or to a lane's transmit port (R271). -/
def writeDst (s : State) (a : Nat) (b : Byte) : State :=
  if 0x30000000 ≤ a then portWrite s ((a - 0x30000000) / 0x1000 % 8) [b] else store s a [b]

/-- The destination bytes are written in order, at most `limit` of them, up to an index entry out of range: the state, the bytes written, and whether
such an entry ended it. -/
def writeSide (d : Bytes) (owner : Nat) (select : Bool) : Nat → List (Nat × Byte) → State → Nat → State × Nat × Bool
  | _, [], s, n => (s, n, false)
  | 0, _, s, n => (s, n, false)
  | f + 1, (i, b) :: t, s, n =>
      match sideAddr s d owner select (dDstMode d) (fieldAt d 8 4) (fieldAt d 20 4) i with
      | some a => writeSide d owner select f t (writeDst s a b) (n + 1)
      | none => (s, n, true)

/-- A descriptor's data moves, at most `limit` destination bytes: the state, the bytes written, and its status with `DETAIL`. -/
def moveData (s : State) (r : Running) (limit : Nat) : State × Nat × Nat × Nat :=
  match r.feed with
  | some f => (portWrite s f.lane (f.bytes.take limit), min limit f.bytes.length, 0, 0)
  | none =>
  let src := readSide s r.desc r.owner r.select (dLen r.desc) 0
  let w := writeSide r.desc r.owner r.select limit (transformed r.desc src) s 0
  if w.2.2 ∨ src.length < dLen r.desc then (w.1, w.2.1, 4, 2) else (w.1, w.2.1, 0, 0)

/-! ### Colophons (R280, R281) -/

/-- A colophon (Table 11-5). -/
def colophon (s : State) (addr done status c detail : Nat) (chainEnd notify : Bool) : Bytes :=
  leBytes 4 addr ++ leBytes 4 done ++ [BitVec.ofNat 8 status, BitVec.ofNat 8 c, BitVec.ofNat 8 ((if notify then 1 else 0) + (if chainEnd then 2 else 0)),
    BitVec.ofNat 8 detail] ++ leBytes 4 (fieldStamp s).1

/-- R281: a colophon is appended to the ring, or discarded; answers its index. -/
def appendColophon (s : State) (b : Bytes) : Nat × State :=
  let made := nat s (kCol 3)
  if (made + 2 ^ 32 - nat s (kCol 4)) % 2 ^ 32 = s.dma.queueSize then (0xFFFFFFFF, bump s (kCol 5))
  else (made, bump (store s (nat s (kCol 2) + 16 * (made % s.dma.queueSize)) b) (kCol 3))

/-- Statuses that are BAD (Table 11-6). -/
def isBad (status : Nat) : Bool := 1 ≤ status && status ≤ 4

/-- The end of a descriptor on channel `c` (R280 to R283): counters, the colophon with its copy and event, the fault. -/
def endDescriptor (s : State) (c : Nat) (owner addr : Nat) (desc : Bytes) (done status detail : Nat) (chainEnd : Bool) : State :=
  let b := colophon s addr done status c detail chainEnd (dNotify desc)
  let s1 := setNum (bump s (kDma c 5)) (kDma c 6) ((num s (kDma c 6) + done) % 2 ^ 64)
  let s2 := if isBad status then setVal (bump s1 (kDma c 7)) (kDma c 8) (.bytes b) else s1
  let s3 := if status = 1 then raise s2 13 0 c c else if status = 2 then raise s2 52 0 c c else s2
  if status ≠ 0 ∨ dNotify desc then
    let r := appendColophon s3 b
    if owner < 16 then
      let mirror := fieldAt desc 26 2
      postEvent (if mirror = 0 then r.2 else store r.2 (localBase owner + mirror * 16) b) owner 6 c (leBytes 4 r.1)
    else r.2
  else s3

/-! ### Channels (R269, R270, R274, R279, R284) -/

/-- Table 11-9: state and queue length of a channel that is not stopping or stopped. -/
def showChannel (s : State) (c : Nat) : State :=
  let x := channel s c
  let s1 := setNum s (kDma c 9) (min 4 x.posted.length)
  if 2 ≤ channelState s1 c then s1
  else setNum s1 (kDma c 2) (if x.current.isSome || x.chain.isSome then 1 else 0)

/-- The posted places in use: a chain keeps its place until it ends, its last descriptor included (R274). -/
def placesUsed (s : State) (c : Nat) : Nat :=
  let x := channel s c
  x.posted.length + (if x.chain.isSome || x.current.any (fun r => dChain r.desc || 1 < r.n) then 1 else 0)

/-- Whether a chained descriptor's address can be fetched. -/
def fetchable (owner next : Nat) : Bool :=
  let x : Span := (next, next + 32)
  if owner < 16 then engineReach x false else runtimeReach x false false

/-- The rest of a chain is retired, descriptor by descriptor (R284); a fetch that fails and descriptor 4,097 end it as they would have (R274). -/
def retireChain (c owner : Nat) (select : Bool) : Nat → Nat → State → State
  | 0, next, s => endDescriptor s c owner next (memBytes s.mem (dmaAddr owner select next) 32) 0 3 0 true
  | f + 1, next, s =>
      if !fetchable owner next then endDescriptor s c owner next (List.replicate 32 0) 0 1 3 true
      else
        let d := memBytes s.mem (dmaAddr owner select next) 32
        let s1 := endDescriptor s c owner next d 0 5 0 (!dChain d)
        if dChain d then retireChain c owner select f (fieldAt d 28 4) s1 else s1

/-- A posted descriptor is retired as ABORTED, with the chain it begins (R284). -/
def retirePosted (s : State) (c : Nat) (p : Posted) : State :=
  let s1 := endDescriptor s c p.owner p.addr p.desc 0 5 0 (!dChain p.desc)
  if dChain p.desc then retireChain c p.owner p.select 4095 (fieldAt p.desc 28 4) s1 else s1

/-- Every descriptor posted and not started, and the rest of a chain, is retired as ABORTED (R284). -/
def retire (s : State) (c : Nat) : State :=
  let x := channel s c
  let s1 := putChannel s c { x with posted := [], chain := none }
  let s2 := match x.chain with
    | some ch => retireChain c ch.owner ch.select (4097 - ch.n) ch.next s1
    | none => s1
  showChannel (x.posted.foldl (fun t p => retirePosted t c p) s2) c

/-- R179, R284: engine `k` posts the descriptor at a local address; on a STOPPING or STOPPED channel it is retired at once. -/
def postTo (s : State) (k c addr : Nat) : State :=
  let d := memBytes s.mem (localBase k + addr) 32
  if 2 ≤ channelState s c then retirePosted s c { owner := k, addr := addr, desc := d, select := (engine s k).select }
  else
    let x := channel s c
    showChannel (putChannel s c { x with posted := x.posted ++ [{ owner := k, addr := addr, desc := d, select := (engine s k).select }] }) c

/-- A channel's level: C0 is always at 3 (R279). -/
def level (s : State) (c : Nat) : Nat := if c = 0 then 3 else nat s (kDma c 3)

/-- The shared-buffer blocks that C1 to C15 hold (R270). -/
def blocksHeld (s : State) : Nat :=
  ((s.dma.chans.filter fun c => c.1 != 0).map fun c => match c.2.current with | some r => r.blocks | none => 0).foldl (· + ·) 0

/-- Whether a channel has a descriptor that could start. -/
def hasNext (s : State) (c : Nat) : Bool :=
  let x := channel s c
  x.current.isNone && (x.chain.isSome || (x.posted != [] && channelState s c < 2))

/-- Whether a channel's next descriptor could start: C0 never waits for blocks of the buffer, another channel needs one (R270). -/
def startable (s : State) (c : Nat) : Bool := hasNext s c && (c == 0 || blocksHeld s < 192)

/-- Whether a channel has something to do: a descriptor in progress, or one that could start. -/
def hasWork (s : State) (c : Nat) : Bool := (channel s c).current.isSome || startable s c

/-- R279: a channel may advance while every channel of a higher level has nothing to do. -/
def mayAdvance (s : State) (c : Nat) : Bool := (List.range 16).all fun d => !(level s c < level s d && hasWork s d)

/-- R279: how far a channel stands behind the one its level served last; at first, behind C15 (log entry 85). -/
def turnOf (s : State) (c : Nat) : Nat := (c + 15 - (tabFind s.dma.served (level s c)).getD 15) % 16

/-- R279: whether a channel's descriptor is the next to start: of the highest level with work, in the round robin of its level. -/
def isServed (s : State) (c : Nat) : Bool :=
  startable s c && mayAdvance s c
    && (List.range 16).all fun d => !(level s d == level s c && startable s d && turnOf s d < turnOf s c)

/-- The next descriptor of a channel: of its chain, or the first posted. -/
def nextDesc (s : State) (c : Nat) : Option (Running × State) :=
  let x := channel s c
  match x.chain, x.posted with
  | some ch, _ => some ({ owner := ch.owner, addr := ch.next, desc := memBytes s.mem (dmaAddr ch.owner ch.select ch.next) 32, select := ch.select
                          n := ch.n, blocks := 0 }, putChannel s c { x with chain := none })
  | none, p :: rest => some ({ owner := p.owner, addr := p.addr, desc := p.desc, select := p.select, n := 1, blocks := 0, feed := p.feed },
      putChannel s c { x with posted := rest })
  | none, [] => none

/-- What follows the end of a descriptor: the chain goes on, unless a STOP retires it (R274, R284). -/
def afterEnd (s : State) (c : Nat) (r : Running) : State :=
  let x := channel s c
  let s1 := putChannel s c { x with
    current := none
    chain := if dChain r.desc then some { owner := r.owner, next := fieldAt r.desc 28 4, select := r.select, n := r.n + 1 } else none }
  if channelState s1 c = 2 then retire s1 c else showChannel s1 c

/-- R273: the check of a descriptor before its data moves; the runtime's descriptors of the lane feed are as Table 11-8 has them, and hold. -/
def checked (r : Running) : Option (Nat × Nat) := if r.feed.isSome then none else precheck r.desc r.owner

/-- DESCRIPTOR_START (R273, R274): the channel's next descriptor is fetched, given buffer blocks and checked; `fetch` says how the fabric serves the fetch of a
chained one, an uncorrectable ECC error raising source 16 too (R282). A channel that is not the next to be served waits (R279). -/
def execDescriptorStart (c : Fin 16) (fetch : Fetch) (s : State) : Host.Outcome State Fault Refusal :=
  let chained := (channel s c).chain.isSome
  .next (if !isServed s c then s
    else match nextDesc { s with dma := { s.dma with served := tabPut s.dma.served (level s c) c.val } } c with
      | none => s
      | some (r, s1) =>
          if chained && (fetch != .served || !fetchable r.owner r.addr) then
            let s2 := if fetch = .ecc then raise s1 16 0 0 else s1
            showChannel (endDescriptor s2 c r.owner r.addr (List.replicate 32 0) 0 1 3 true) c
          else if 4096 < r.n then showChannel (endDescriptor s1 c r.owner r.addr r.desc 0 3 0 true) c
          else match checked r with
            | some (st, detail) => afterEnd (endDescriptor s1 c r.owner r.addr r.desc 0 st detail (!dChain r.desc)) c r
            | none =>
                let need := min 16 ((dLen r.desc + 255) / 256)
                showChannel (putChannel s1 c { channel s1 c with
                  current := some { r with blocks := if c.val = 0 then 0 else min need (192 - blocksHeld s1) } }) c)

/-- The destination bytes that a failed access leaves written: of a PLANE_SPLIT none while its source is being read (R277). -/
def bytesBefore (d : Bytes) (e : BusError) : Nat := if dXform d = 1 ∧ e.side ≠ 1 then 0 else min e.after (dDstLen d)

/-- DESCRIPTOR_DONE (R280, R282): the descriptor in progress ends, DONE or by a failed access; it waits while a channel of a higher level has something to do
(R279). -/
def execDescriptorDone (c : Fin 16) (err : Option BusError) (s : State) : Host.Outcome State Fault Refusal :=
  .next (match (channel s c).current with
    | none => s
    | some r =>
        if !mayAdvance s c then s else
        let limit := match err with
          | some e => bytesBefore r.desc e
          | none => dDstLen r.desc
        let m := moveData s r limit
        match err with
        | some e =>
            let s1 := if e.ecc then raise m.1 16 0 0 else m.1
            afterEnd (endDescriptor s1 c r.owner r.addr r.desc m.2.1 1 e.side (!dChain r.desc)) c r
        | none => afterEnd (endDescriptor m.1 c r.owner r.addr r.desc m.2.1 m.2.2.1 m.2.2.2 (!dChain r.desc)) c r)

/-- RESTART_PENDING of a channel. -/
def channelPending (s : State) (c : Nat) (v : Bool) : State :=
  setNum (putChannel s c { channel s c with startAsked := v }) (kDma c 0xA) (if v then 1 else 0)

/-- R284: a STOP of a channel. -/
def channelStop (s : State) (c : Nat) : State :=
  let st := channelState s c
  if st = 2 then channelPending s c false
  else if st = 3 then s
  else
    let s1 := setNum s (kDma c 2) 2
    if (channel s1 c).current.isNone then retire s1 c else s1

/-- R284: a START of a channel. -/
def channelStart (s : State) (c : Nat) : State :=
  let st := channelState s c
  if st = 3 then setNum s (kDma c 2) 0 else if st = 2 then channelPending s c true else s

/-- R284: a RESTART of a channel. -/
def channelRestart (s : State) (c : Nat) : State :=
  if channelState s c = 3 then setNum s (kDma c 2) 0
  else if channelState s c = 2 then channelPending s c true
  else channelPending (channelStop s c) c true

/-- DMA_STOP_COMPLETE (R284): nothing is in progress or waits; the channel is STOPPED, and a pending START runs. -/
def execDmaStopComplete (c : Fin 16) (s : State) : Host.Outcome State Fault Refusal :=
  let x := channel s c
  .next (if channelState s c = 2 ∧ x.current.isNone ∧ x.posted = [] ∧ x.chain.isNone then
      setNum (channelPending s c false) (kDma c 2) (if x.startAsked then 0 else 3)
    else s)

/-- The commands of chapter 11. -/
def commandDma (s : State) (idx sub : Nat) (v : Int) : State :=
  let c := idx - 0x8200
  if sub = 1 then (if v = 1 then channelStop s c else if v = 2 then channelStart s c else channelRestart s c)
  else setVal ([5, 6, 7].foldl (fun t k => setNum t (kDma c k) 0) s) (kDma c 8) (.bytes (List.replicate 16 0))

/-- Check 6: C0 to C7 take no CHANNEL_CONTROL (Table 11-9). -/
def condDma (idx sub : Nat) : Bool := 0x8200 ≤ idx && idx < 0x8208 && sub == 1

/-- Live values of chapter 11: OWNER. -/
def liveDma (s : State) (idx sub : Nat) : Option Val :=
  if 0x8208 ≤ idx ∧ idx < 0x8210 ∧ sub = 4 then
    match (List.range 16).find? fun k => (engine s k).dmaMask.testBit (idx - 0x8208) with
    | some k => some (.num (k : Nat))
    | none => some (.num 0xFF)
  else none

end Sys2Proof.Machine
end

