-- ==== Sys2Proof/Machine/Meter.lean ====
section
/-!
DEFINITION. Energy and power measurement (chapter 12): sample sets, windows and their quantities, energy registers, reversals and phase loss, demand,
pulses, calibration, start and stop. Real arithmetic is rational; square roots and the sine are taken to 2⁻³² (log entry 33).
-/

namespace Sys2Proof.Machine

/-- The register `sub` of METERING (Table 12-3). -/
def kMeter (sub : Nat) : Key := 0x5000 * 256 + sub
/-- The register `sub` of INSTANTANEOUS (Table 12-5). -/
def kInst (sub : Nat) : Key := 0x5100 * 256 + sub
/-- The register `sub` of ENERGY (Table 12-7). -/
def kEnergy (sub : Nat) : Key := 0x5200 * 256 + sub
/-- The register `sub` of DC_CHANNELS (Table 12-10). -/
def kDc (sub : Nat) : Key := 0x5500 * 256 + sub
/-- The register `sub` of pulse output `o` (Table 12-9). -/
def kPulse (o sub : Nat) : Key := (0x5400 + o) * 256 + sub
/-- The register `sub` of DEMAND (Table 12-8). -/
def kDemand (sub : Nat) : Key := 0x5600 * 256 + sub
/-- `METER_STATE`: 0 STOPPED, 1 RUNNING, 2 STOPPING, 3 CALIBRATING. -/
def meterState (s : State) : Nat := nat s (kMeter 2)
/-- Put the metering block. -/
def putMeter (s : State) (m : Meter) : State := { s with meter := m }
/-- Whether the module holds the active role: ACTIVE or SINGLE (R425). -/
def roleAct (s : State) : Bool := if safeMode s then s.pair.grant else nat s 0x740001 < 2
/-- `WIRING` 1: phase A only. -/
def singlePhase (s : State) : Bool := nat s (kMeter 4) == 1

/-! ### Real arithmetic -/

/-- A square root to 2⁻³². -/
def ratSqrt (q : Rat) : Rat := mkRat (isqrt (q.num.toNat * 2 ^ 64 / q.den) : Nat) (2 ^ 32)

/-- The terms of the series of sine or cosine: x is in units of 2⁻⁴⁸, `k` the next factorial step. -/
def trigSeries : Nat → Int → Int → Nat → Int
  | 0, _, _, _ => 0
  | f + 1, x2, term, k => term + trigSeries f x2 (-(term * x2 / 2 ^ 48) / ((k : Int) * (k + 1))) (k + 2)

/-- 2π in units of 2⁻⁴⁸. -/
def twoPi : Int := 1768559438007110

/-- The sine of a turn fraction, in units of 2⁻⁴⁸. -/
def sinTurn (t : Rat) : Int :=
  let frac := t - t.floor
  let (sgn, f) := if frac < mkRat 1 2 then (1, frac) else ((-1 : Int), frac - mkRat 1 2)
  let g := if mkRat 1 4 < f then mkRat 1 2 - f else f
  let x := ((g * twoPi).floor : Int)
  sgn * trigSeries 12 (x * x / 2 ^ 48) x 2

/-- The cosine of a turn fraction, in units of 2⁻⁴⁸. -/
def cosTurn (t : Rat) : Int := sinTurn (t + mkRat 1 4)

/-- The sum of a list of rationals. -/
def ratSum (l : List Rat) : Rat := l.foldl (· + ·) 0

/-- The mean of a list; 0 of none. -/
def ratMean (l : List Rat) : Rat := if l = [] then 0 else ratSum l / (l.length : Nat)

/-- Entry `i` of a list of rationals, 0 beyond its end. -/
def ratAt (l : List Rat) (i : Nat) : Rat := l.getD i 0

/-- The phasor of samples at `f` cycles per sample (R295). -/
def phasor (xs : List Rat) (f : Rat) : Rat × Rat :=
  let terms := xs.zip (List.range xs.length)
  (ratSum (terms.map fun p => p.1 * (cosTurn (f * (p.2 : Nat)) : Rat)), -ratSum (terms.map fun p => p.1 * (sinTurn (f * (p.2 : Nat)) : Rat)))

/-- The magnitude of a phasor. -/
def magnitude (z : Rat × Rat) : Rat := ratSqrt (z.1 * z.1 + z.2 * z.2)

/-- arg a − arg b in 0.01°, −18,000 to 17,999 (R295); `free` where one of the phasors is 0 and has no argument. -/
def angleOf (free : Int) (a b : Rat × Rat) : Int :=
  let re := a.1 * b.1 + a.2 * b.2
  let im := a.2 * b.1 - a.1 * b.2
  let up := if im < 0 then -im else im
  let n := Colour.bisect (fun m => (re * (sinTurn (mkRat (2 * m - 1) 72000) : Rat)) ≤ up * (cosTurn (mkRat (2 * m - 1) 72000) : Rat)) 15 1 18001
  if re = 0 ∧ im = 0 then free else if im < 0 then -(n : Int) else if n = 18000 then -18000 else n

/-- THD in 0.01 % (R295): harmonics 2 to 40 against the fundamental; `free` where there is no fundamental. -/
def thdOf (free : Int) (xs : List Rat) (f : Rat) : Int :=
  let x1 := magnitude (phasor xs f)
  let hs := (List.range 39).map fun h => magnitude (phasor xs (f * ((h + 2 : Nat) : Rat)))
  if x1 = 0 then free else quantize 0 65535 10000 (ratSqrt (ratSum (hs.map fun x => x * x)) / x1)

/-! ### Sample sets (R285 to R290, R297) -/

/-- The full scale of channel `c` in the order of Table 12-1, as a primary value. -/
def fullScale (s : State) (c : Nat) : Nat :=
  if c < 3 then nat s (kMeter 7) else if c < 6 then nat s (kMeter 8) else if c = 6 then nat s (kMeter 9) else nat s (kDc (c - 6))

/-- A breakpoint of a correction table: current, gain, phase. -/
def breakpoint (t : Bytes) (i : Nat) : Rat × Rat × Rat :=
  ((fieldAt t (8 * i) 4 : Nat), (fieldAt t (8 * i + 4) 2 : Nat), (signed 2 (fieldAt t (8 * i + 6) 2) : Int))

/-- R289: gain (in 1/32,768) and phase (in 0.001°) of a current channel at an RMS current; the first breakpoint's before any window. -/
def correction (t : Bytes) : Option Rat → Rat × Rat
  | none => (breakpoint t 0).2
  | some x =>
      match (List.range 9).find? fun k => x < (breakpoint t k).1 with
      | some 0 => (breakpoint t 0).2
      | none => (breakpoint t 8).2
      | some k =>
          let a := breakpoint t (k - 1)
          let b := breakpoint t k
          let w := if b.1 = a.1 then 0 else (x - a.1) / (b.1 - a.1)
          (a.2.1 + (b.2.1 - a.2.1) * w, a.2.2 + (b.2.2 - a.2.2) * w)

/-- The pole of a first-order high-pass filter with its corner at 0.5 Hz, at 8,000 samples per second: (1 − t) / (1 + t) with t = tan(π × 0.5 / 8,000), in
units of 2⁻⁴⁸. -/
def highPassPole : Rat := mkRat 281364463443590 (2 ^ 48)

/-- R287: the high-pass filter of an AC channel: one pole, a zero at DC, gain 1 for the highest frequency and the corner at 0.5 Hz; from the last output, the
last input and the input, to 2⁻³² (log entries 32 and 33). -/
def highPass (y1 x1 x : Rat) : Rat :=
  mkRat ((highPassPole * y1 + (1 + highPassPole) / 2 * (x - x1)) * ((2 ^ 32 : Nat) : Rat)).floor (2 ^ 32)

/-- R290: a current signal advanced by a share of a sample period; no shift leaves it as it is (log entry 32). -/
def timeShift (past : List Rat) (by_ : Rat) : Rat := if by_ = 0 then past.getLastD 0 else Config.timeShift past by_

/-- The frequency of the previous window in cycles per sample, of the nominal one when it had none (R290). -/
def cyclesPerSample (s : State) : Rat := (s.meter.freq.getD (nat s (kMeter 5) : Nat)) / 8000

/-- R287 to R290: the channels of a sample set in mV and mA, with the histories its filters need. How the time shift and the quadrature filter are
computed is open in the spec but for their stated response (log entry 32). -/
def correctSet (s : State) (codes : List Int) : Meter × Sample :=
  let m := s.meter
  let gains := (reg s (kMeter 0xA)).toBytes
  let hp := (List.range 7).map fun c => highPass (ratAt m.hp c) ((m.raw.getD c 0 : Int) : Rat) ((codes.getD c 0 : Int) : Rat)
  let scaled := fun (c : Nat) (x : Rat) => x * (fullScale s c : Nat) / 8388608
  let us := (List.range 3).map fun c => scaled c (ratAt hp c) * (fieldAt gains (2 * c) 2 : Nat) / 32768
  let raws := (List.range 4).map fun c => scaled (c + 3) (ratAt hp (c + 3))
  let past := (List.range 7).map fun c => (m.past.getD c []).drop ((m.past.getD c []).length - 127) ++ [if c < 3 then ratAt us c else ratAt raws (c - 3)]
  let is := (List.range 4).map fun c =>
    let g := correction (reg s ((0x5300 + c) * 256 + 1)).toBytes (m.irms[c]?)
    timeShift (past.getD (c + 3) []) (g.2 / 360000 / cyclesPerSample s) * g.1 / 32768
  let dc := (List.range 4).map fun c =>
    scaled (c + 7) (((codes.getD (c + 7) 0 : Int) : Rat) - ((signed 4 (fieldAt (reg s (kMeter 0xE)).toBytes (4 * (c + 7)) 4) : Int) : Rat))
  let on := fun (c : Nat) => !(singlePhase s && c != 0) && !(m.irms[c]?).any (fun i => i < ((nat s (kMeter 0xB) : Nat) : Rat))
  let p := (List.range 3).map fun c => if on c then ratAt us c * ratAt is c else 0
  let q := (List.range 3).map fun c => if on c then Config.quadrature (past.getD c []) * ratAt is c else 0
  ({ m with raw := codes, hp := hp, past := past }, { stamp := fieldNs s, flags := 0, ac := us ++ is, dc := dc, p := p, q := q })

/-- R297: the power samples: A, B, C, sum of active power, the same of reactive power, luminaire bus, battery, in µW. -/
def powerSamples (m : Meter) : List Rat :=
  let n := match m.freq with
    | some f => (roundRat (8000 / f)).toNat
    | none => 160
  let mean := fun (c n : Nat) => ratMean ((m.powers.take n).map fun x => ratAt x c)
  let p := (List.range 3).map fun c => mean c n
  let q := (List.range 3).map fun c => mean (c + 3) n
  p ++ [ratSum p] ++ q ++ [ratSum q] ++ [mean 6 160, mean 7 160]

/-- The energy register that a power sample of a given sign enters (Table 12-6): import, or export. -/
def energyReg (i : Nat) (positive : Bool) : Nat :=
  if i < 4 then (if positive then i else i + 4)
  else if i < 8 then (if positive then i + 4 else i + 8)
  else 20 + 2 * (i - 8) + (if positive then 0 else 1)

/-- Add energy in µWh to register `r`, keeping the residue (R298). -/
def addEnergy (m : Meter) (r : Nat) (e : Rat) : Meter :=
  let x := (tabFind m.res r).getD 0 + e
  { m with acc := tabPut m.acc r ((tabFind m.acc r).getD 0 + x.floor.toNat), res := tabPut m.res r (x - (x.floor : Int)) }

/-- One power sample enters its register: power × 125 µs; 0 adds to neither. -/
def addPower (m : Meter) (i : Nat) (w : Rat) : Meter :=
  if w = 0 then m else addEnergy m (energyReg i (0 < w)) ((if w < 0 then -w else w) / 28800000)

/-! ### Pulses (R307, R308, R312) -/

/-- Pulse output `o`; its source before any change is its default. -/
def pulseOut (s : State) (o : Nat) : PulseOut := (tabFind s.meter.out o).getD { source := if o = 0 then 3 else 11 }
/-- Put a pulse output. -/
def putPulse (s : State) (o : Nat) (p : PulseOut) : State := { s with meter := { s.meter with out := tabPut s.meter.out o p } }

/-- R307: the quanta that an accumulator has passed since `base`. -/
def quantaPassed (p : PulseOut) (acc : Nat) : Nat := (acc - p.base) * p.const / 1000000000

/-- One pulse falls due now (R308). -/
def pulseDue (s : State) (o : Nat) : State :=
  let p := pulseOut s o
  let p1 := { p with passed := p.passed + 1, lastDue := some s.clk }
  let gap := match p.lastDue with
    | some d => s.clk - d
    | none => secs 3600
  if 65535 ≤ p.dues.length then raise (bump (putPulse s o p1) (kPulse o 7)) 41 0 o
  else setNum (putPulse s o { p1 with dues := p1.dues ++ [(s.clk, gap)] }) (kPulse o 5) (p1.dues.length + 1 : Nat)

/-- PULSE_DUE of one output: as many pulses as quanta were crossed; none is due while disabled or on standby (R312). -/
def pulsesDue (s : State) (o : Nat) : State :=
  let p := pulseOut s o
  let n := quantaPassed p ((tabFind s.meter.acc p.source).getD 0)
  if flag s (kPulse o 1) && roleAct s then iter (fun t => pulseDue t o) (n - p.passed) s
  else putPulse s o { p with passed := n }

/-- A pulse width in TIME cycles; the setting is in units of 0.1 ms. -/
def pulseWidth (s : State) (o : Nat) : Nat := 12500 * nat s (kPulse o 4)

/-- PULSE_START (R308): the pulse at the head of the backlog starts; the backlog is kept while the block is stopped (R311). -/
def execPulseStart (o : Fin 2) (s : State) : Host.Outcome State Fault Refusal :=
  let p := pulseOut s o
  .next (match p.dues with
    | [] => s
    | d :: rest =>
        let free := match p.startAt with
          | some t => t + 2 * p.width ≤ s.clk
          | none => true
        if p.high || !free || !roleAct s || meterState s != 1 then s
        else
          let w := if rest ≠ [] then 62500 else if 2 * pulseWidth s o ≤ d.2 then pulseWidth s o else max 62500 (d.2 / 2)
          let s1 := putPulse s o { p with dues := rest, startAt := some s.clk, width := w, high := true }
          bump (setNum s1 (kPulse o 5) rest.length) (kPulse o 6))

/-! ### Starting and stopping (R288, R311) -/

/-- RESTART_PENDING of the block, and bit 2 of 0x1018.05. -/
def meterPending (s : State) (v : Bool) : State :=
  setBit (setBit { s with meter := { s.meter with startAsked := v } } (kMeter 0xF) 4 v) kRestartPending 2 v

/-- A START of a stopped block: the 20 ms offset check begins (R288). It does not run while VAFE is out of range (R49). -/
def meterBegin (s : State) : State :=
  if s.power.vafeBad then s
  else setNum { s with meter := { s.meter with offSum := [], offN := 0 } } (kMeter 2) 3

/-- The accumulators and maxima in one persistent transaction (R301); a power-fail warning rejects it (R91). -/
def saveEnergy (s : State) : State :=
  if s.power.warning then s
  else transact s ((List.range 24).map (fun r => (kEnergy (0x41 + r), Val.num ((tabFind s.meter.acc r).getD 0)))
    ++ [7, 8, 9, 0xA].map fun k => (kDemand k, reg s (kDemand k)))

/-- Step 12 reloads the accumulators (R301). -/
def loadEnergy (s : State) : State :=
  let s1 := { s with meter := { s.meter with acc := (List.range 24).map fun r => (r, (storedNum s (kEnergy (0x41 + r))).toNat) } }
  [7, 8, 9, 0xA].foldl (fun t k => setNum t (kDemand k) (storedNum t (kDemand k))) s1

/-- The registers of 0x5200 follow the accumulators (R298, R299). -/
def showEnergy (s : State) : State :=
  let a : Nat → Nat := fun r => (tabFind s.meter.acc r).getD 0
  let c : Nat → Nat := fun r => a r / 1000 % 2 ^ 32
  let s1 := (List.range 24).foldl (fun t r =>
    setNum (setNum (setNum t (kEnergy (1 + r)) (c r : Nat)) (kEnergy (0x21 + r)) (a r / 1000 / 2 ^ 32 % 256 : Nat)) (kEnergy (0x41 + r)) (a r : Nat)) s
  ([(0, 4), (1, 5), (2, 6), (3, 7), (8, 12), (9, 13), (10, 14), (11, 15), (20, 21), (22, 23)].zip (List.range 10)).foldl
    (fun t p => setNum t (kEnergy (0x61 + p.2)) (signed 4 ((c p.1.1 + 2 ^ 32 - c p.1.2) % 2 ^ 32))) s1

/-- The sum-apparent energy counted, in µVAh. -/
def apparentEnergy (m : Meter) : Rat := ((tabFind m.acc 19).getD 0 : Nat) + (tabFind m.res 19).getD 0

/-- R302: the reset of the energy registers at a window end; the demand interval in progress keeps what it has counted. -/
def resetEnergy (s : State) : State :=
  let s1 := { s with meter := { s.meter with
    acc := [], res := [], resetAsked := false
    demand := { s.meter.demand with s := s.meter.demand.s - apparentEnergy s.meter }
    out := s.meter.out.map fun o => (o.1, { o.2 with base := 0, passed := 0 }) } }
  keepNum s1 (kEnergy 0x81) ((num s1 (kEnergy 0x81) + 1) % 2 ^ 32)

/-! ### Reversals and phase loss (R303, R304) -/

/-- R303: a window's sign joins a run; true when a reversal is counted. -/
def signStep (r : SignRun) (sign : Int) : SignRun × Bool :=
  if sign = 0 then (r, false)
  else
    let n := if sign = r.sign then r.n + 1 else 1
    let r1 := { r with sign := sign, n := n }
    if 11 ≤ n ∧ sign ≠ r.est then ({ r1 with est := sign }, r.est ≠ 0) else (r1, false)

/-- R303 for one of A, B, C, sum and battery, with the window's power in µW. -/
def noteSign (s : State) (i : Nat) (p floor : Rat) : State :=
  let sign : Int := if p < floor ∧ -p < floor then 0 else if p < 0 then -1 else 1
  let r := signStep ((tabFind s.meter.runs i).getD {}) sign
  let s1 := { s with meter := { s.meter with runs := tabPut s.meter.runs i r.1 } }
  if r.2 then
    let old := (reg s1 (kEnergy 0x70)).toBytes
    raise (setVal s1 (kEnergy 0x70) (.bytes (old.take (4 * i) ++ leBytes 4 (fieldAt old (4 * i) 4 + 1) ++ old.drop (4 * i + 4)))) 40 i 0
  else s1

/-- R304: phase loss of one phase, by the window's U_rms of all. -/
def notePhase (us : List Rat) (s : State) (c : Nat) : State :=
  let nom : Rat := (nat s (kMeter 6) : Nat)
  let u := ratAt us c
  let other := (List.range 3).any fun d => d != c && nom * 6 / 10 ≤ ratAt us d
  let low := if u < nom * 6 / 10 ∧ other then (tabFind s.meter.below c).getD 0 + 1 else 0
  let high := if nom * 7 / 10 < u then (tabFind s.meter.above c).getD 0 + 1 else 0
  let lost := 3 ≤ (tabFind s.meter.below c).getD 0
  let s1 := { s with meter := { s.meter with
    below := tabPut s.meter.below c (if lost ∧ high < 3 then 3 else low), above := tabPut s.meter.above c high } }
  if low = 3 ∧ !lost then raise s1 39 c 0 else s1

/-- PHASE_LOSS and NO_VOLTAGE after a window (R304); with one phase wired there is no phase loss. -/
def phaseLoss (s : State) (us : List Rat) : State :=
  let none_ := us.all fun u => u < ((nat s (kMeter 6) : Nat) : Rat) / 10
  if singlePhase s then endCondition (setBit (setBit s (kMeter 0xF) 3 none_) (kMeter 0xF) 5 false) 39
  else
    let s1 := [0, 1, 2].foldl (notePhase us) s
    let lost := [0, 1, 2].any fun c => 3 ≤ (tabFind s1.meter.below c).getD 0
    let s2 := setBit (setBit s1 (kMeter 0xF) 3 none_) (kMeter 0xF) 5 lost
    if lost then s2 else endCondition s2 39

/-! ### Windows (R293 to R296) -/

/-- The instants, in samples, of the rising zero crossings of a channel. -/
def crossings : Nat → List Rat → List Rat
  | n, x :: y :: t =>
      if x < 0 ∧ 0 ≤ y then (((n : Nat) : Rat) + (-x) / (y - x)) :: crossings (n + 1) (y :: t) else crossings (n + 1) (y :: t)
  | _, _ => []

/-- R293, R295: the frequency in Hz by the reference channel, from the first to the last crossing counted, the one at which the window began among them; none
when invalid. -/
def windowFreq (m : Meter) : Option Rat :=
  match m.refCh with
  | none => none
  | some c =>
      let xs := (if m.crossed then [-m.lead] else []) ++ crossings 0 (m.win.map fun x => ratAt x.ac c)
      match xs, xs.getLast? with
      | first :: _ :: _, some last =>
          let f := ((xs.length - 1 : Nat) : Rat) * 8000 / (last - first)
          if f < mkRat 425 10 ∨ 69 < f then none else some f
      | _, _ => none

/-- R293, R12: the sample sets of the window that ends, and the one that belongs to the next: where the last two lie on either side of the rising zero crossing
that ends it, with the share of a sample period from the earlier of them to the crossing. -/
def splitWindow (m : Meter) (short : Bool) : List Sample × List Sample × Option Rat :=
  match m.refCh, m.win.reverse with
  | some c, y :: x :: r =>
      let a := ratAt x.ac c
      let b := ratAt y.ac c
      if !short && (windowFreq m).isSome && a < 0 && 0 ≤ b then ((x :: r).reverse, [y], some (-a / (b - a))) else (m.win, [], none)
  | _, _ => (m.win, [], none)

/-- The flags of sample sets together. -/
def flagsOf (w : List Sample) : Nat := w.foldl (fun a x => a ||| x.flags) 0

/-- The quantities of R294 of a window, per phase: U_rms, I_rms of A, B, C, N, P, Q, S. -/
structure Quantities where
  us : List Rat
  is : List Rat
  p : List Rat
  q : List Rat
  s : List Rat

/-- The quantities of a window's sample sets. -/
def quantities (single : Bool) (w : List Sample) : Quantities :=
  let n : Rat := (max 1 w.length : Nat)
  let on := fun c => !(single && (c == 1 || c == 2))
  let rms := fun (c : Nat) => ratSqrt (ratSum (w.map fun x => ratAt x.ac c * ratAt x.ac c) / n)
  let us := (List.range 3).map fun c => if on c then rms c else 0
  let is := (List.range 4).map fun c => if on c then rms (c + 3) else 0
  { us := us, is := is
    p := (List.range 3).map fun c => if on c then ratSum (w.map fun x => ratAt x.p c) / n else 0
    q := (List.range 3).map fun c => if on c then ratSum (w.map fun x => ratAt x.q c) / n else 0
    s := (List.range 3).map fun c => ratAt us c * ratAt is c }

/-- Table 12-5: the registers of one window. -/
def showWindow (s : State) (x : Quantities) (f : Option Rat) (w : List Sample) : State :=
  let u32 := fun (q : Rat) => quantize 0 4294967295 1 q
  let i32 := fun (q : Rat) => quantize (-2147483648) 2147483647 1 q
  let q15 := fun (p q : Rat) => if q = 0 then 0 else quantize (-32768) 32767 32768 (p / q)
  let many := fun (t : State) (k : Nat) (vs : List Int) => (vs.zip (List.range vs.length)).foldl (fun a v => setNum a (kInst (k + v.2)) v.1) t
  let s1 := many (many s 5 (x.us.map u32)) 8 (x.is.map u32)
  let s2 := many (many s1 0xC ((x.p ++ [ratSum x.p]).map fun v => i32 (v / 1000))) 0x10 ((x.q ++ [ratSum x.q]).map fun v => i32 (v / 1000))
  let s3 := many s2 0x14 ((x.s ++ [ratSum x.s]).map fun v => u32 (v / 1000))
  let s4 := many s3 0x18 (((x.p ++ [ratSum x.p]).zip (x.s ++ [ratSum x.s])).map fun v => q15 v.1 v.2)
  let chan := fun c => w.map fun y => ratAt y.ac c
  let on := fun c => !(singlePhase s && (c == 1 || c == 2))
  match f with
  | none => many (setNum s4 (kInst 4) 0) 0x1C (List.replicate 12 0)
  | some hz =>
      let (n, s5) := takeFresh s4
      let free := fun (i : Nat) => (Config.openAngle n i).toInt
      let k := hz / 8000
      let z := fun c => phasor (chan c) k
      let vi := (List.range 3).map fun c => if on c then angleOf (free c) (z c) (z (c + 3)) else 0
      let vv := [1, 2].map fun c => if on c then angleOf (free (2 + c)) (z 0) (z c) else 0
      let thd := (List.range 7).map fun c => if on (if c < 3 then c else c - 3) then thdOf (Config.openThd n c).toNat (chan c) k else 0
      many (setNum s5 (kInst 4) (u32 (hz * 1000))) 0x1C (vi ++ vv ++ thd)

/-- R292: one window enters a calibration in progress, as many as it averages. The neutral's voltage-to-current angle is a free value: Table 12-5 has none. -/
def calWindow (s : State) (x : Quantities) (flags : Nat) : State :=
  match s.meter.cal with
  | none => s
  | some c =>
    if byteAt c.body 3 ≤ c.n then s
    else
      let (k, s1) := takeFresh s
      let amp := fun (i : Nat) => ratAt x.is i
      let v := fun (i : Nat) => if byteAt c.body 0 = 0 then ratAt x.us i else if byteAt c.body 0 = 1 then amp i
        else (((if i < 3 then num s (kInst (0x1C + i)) else (Config.neutralAngle k).toInt) * 10 : Int) : Rat)
      { s1 with meter := { s1.meter with cal := some { c with
          n := c.n + 1
          bad := c.bad || flags % 8 != 0
          sums := (List.range 4).map fun i => ratAt c.sums i + v i
          amps := (List.range 4).map fun i => ratAt c.amps i + amp i } } }

/-- A value takes part in an extreme of the SUPPLY record. -/
def takeExtreme (r : SupplyRun) (i : Nat) (v : Int) : SupplyRun :=
  { r with
    lo := tabPut r.lo i (min ((tabFind r.lo i).getD v) v)
    hi := tabPut r.hi i (max ((tabFind r.hi i).getD v) v) }

/-- Table 19-4, SUPPLY: the recorder takes a window that carries neither OVERLOAD, SAMPLE_LOSS nor CAL. The module's own sensor has no
register: its value is free. -/
def noteSupply (s : State) : State :=
  let flags := nat s (kInst 3)
  if nat s kModuleState ≠ 1 ∨ flags.testBit 0 ∨ flags.testBit 1 ∨ flags.testBit 4 then s
  else
    let (k, s1) := takeFresh s
    let ntc := fun (i : Nat) => [num s (0x1108 * 256 + i)].filter (· != -32768)
    let vals := [(0, num s (kInst 5)), (1, num s (kInst 6)), (2, num s (kInst 7))]
      ++ (if flags.testBit 2 then [] else [(3, num s (kInst 4))])
      ++ [(4, num s (kDc 5)), (5, num s (kDc 8)), (6, num s (kDc 9)), (7, num s (kInst 0xF)), (8, (Config.moduleTemp k).toInt)]
      ++ (ntc 1).map (fun v => (9, v)) ++ (ntc 2).map (fun v => (10, v))
    let r := vals.foldl (fun r v => takeExtreme r v.1 v.2) s1.recorder.supply
    { s1 with recorder := { s1.recorder with supply := { r with windows := (r.windows + 1) % 2 ^ 32 } } }

/-- The length of the window that ends, in sample periods: from the instant at which it began to the crossing, or to the next sample set's instant. -/
def windowLength (m : Meter) (cut : List Sample × List Sample × Option Rat) : Rat := m.lead + (cut.1.length - 1 : Nat) + cut.2.2.getD 1

/-- The end of a window as TIME64: the crossing's instant between two sample sets, or now. -/
def windowEnd (s : State) (cut : List Sample × List Sample × Option Rat) : Nat :=
  match cut.1.getLast?, cut.2 with
  | some x, ([y], some f) => time64At s ((x.stamp : Rat) + f * ((y.stamp : Rat) - x.stamp)).floor.toNat
  | _, _ => now64 s

/-- The end of a window, flagged SHORT or not (R293 to R297, R301 to R304). -/
def closeWindow (s : State) (short : Bool) : State :=
  let m := s.meter
  let cut := splitWindow m short
  let w := cut.1
  let x := quantities (singlePhase s) w
  let f := windowFreq m
  let flags := flagsOf w + (if f.isNone then 4 else 0) + (if short then 8 else 0) + (if nat s (kMeter 0xD) = 1 then 16 else 0)
  let s1 := showWindow s x f w
  let s2 := setNum (setNum (bump s1 (kInst 1)) (kInst 2) (windowEnd s cut)) (kInst 3) flags
  let hours : Rat := windowLength m cut / 28800000
  let m1 := ((x.s ++ [ratSum x.s]).zip [16, 17, 18, 19]).foldl (fun a e => addEnergy a e.2 (e.1 * hours)) s2.meter
  let s3 := putMeter s2 m1
  let s4 := [0, 1].foldl (fun t o => if 16 ≤ (pulseOut t o).source ∧ (pulseOut t o).source < 20 then pulsesDue t o else t) s3
  let dc := fun (c : Nat) => ratMean (w.map fun y => ratAt y.dc c)
  let pdc := ratMean (w.map fun y => ratAt y.dc 0 * ratAt y.dc 1)
  let pbt := ratMean (w.map fun y => ratAt y.dc 2 * ratAt y.dc 3)
  let i32 := fun (q : Rat) => quantize (-2147483648) 2147483647 1 q
  let s5 := [(5, quantize 0 4294967295 1 (dc 0)), (6, i32 (dc 1)), (7, i32 (pdc / 1000)), (8, quantize 0 4294967295 1 (dc 2)), (9, i32 (dc 3)),
    (0xA, i32 (pbt / 1000))].foldl (fun t v => setNum t (kDc v.1) v.2) s4
  let floor : Rat := ((nat s (kMeter 0xB) * nat s (kMeter 6) : Nat) : Rat)
  let s6 := ((x.p ++ [ratSum x.p]).zip [0, 1, 2, 3]).foldl (fun t v => noteSign t v.2 v.1 floor) s5
  let s7 := phaseLoss (noteSign s6 4 pbt 1000000) x.us
  let s8 := if s7.meter.resetAsked then resetEnergy s7 else s7
  let s9 := [0, 1].foldl (fun t o =>
    let p := pulseOut t o
    let src := nat t (kPulse o 2)
    let c := nat t (kPulse o 3)
    if p.source = src ∧ p.const = c then t
    else putPulse t o { p with source := src, const := c, base := (tabFind t.meter.acc src).getD 0, passed := 0 }) s8
  let nom : Rat := (nat s (kMeter 6) : Nat)
  let ref := (List.range 3).find? fun c => nom / 10 ≤ ratAt x.us c
  let s10 := putMeter s9 { s9.meter with
    win := cut.2.1, freq := f, refCh := ref
    lead := 1 - cut.2.2.getD 1, crossed := cut.2.2.isSome && ref == m.refCh
    irms := x.is
    cycles := s9.meter.cycles + (if f.isNone || short then 0 else if nat s kNominalFreq = 60 then 12 else 10)
    dayBad := s9.meter.dayBad || f.isNone || short
    demand := { s9.meter.demand with flags := s9.meter.demand.flags ||| (if flags.testBit 1 then 4 else 0) } }
  let low := nat s10 (kMeter 0xF)
  let s11 := setNum s10 (kMeter 0xF) (low - low % 8 + flags % 8 : Nat)
  let s12 := saveEnergy (showEnergy (calWindow s11 x flags))
  testWindow (noteSupply s12) (num s12 (kDc 8)) (num s12 (kDc 9))

/-- WINDOW_END (R294): an aggregation window ends. -/
def execWindowEnd (s : State) : Host.Outcome State Fault Refusal := .next (if meterState s = 1 then closeWindow s false else s)

/-- The demand interval and the energy registers take one sample set's powers. -/
def countPowers (m : Meter) (pw : List Rat) : Meter :=
  let m1 := (pw.zip (List.range 10)).foldl (fun a v => addPower a v.2 v.1) m
  { m1 with demand := { m1.demand with p := m1.demand.p + ratAt pw 3, q := m1.demand.q + ratAt pw 7, n := m1.demand.n + 1 } }

/-- SAMPLE_SET (R285, R286, R297): eleven codes, or a set lost in the clock-domain queue, which the previous set replaces, one of the offset check too. -/
def execSampleSet (codes : List Int) (queueFull : Bool) (s : State) : Host.Outcome State Fault Refusal :=
  let s0 := if queueFull then raise s 56 0 0 else s
  let set := if queueFull then (if s.meter.last = [] then List.replicate 11 0 else s.meter.last) else codes
  let m := { s.meter with last := set }
  .next (if meterState s = 3 then
      putMeter s0 { m with offN := m.offN + 1, offSum := (List.range 11).map fun c => m.offSum.getD c 0 + set.getD c 0 }
    else if meterState s = 1 then
      let clipped := if set.any fun c => c ≤ -8388607 ∨ 8388607 ≤ c then 1 else 0
      let r := correctSet (putMeter s0 m) set
      let x := r.2
      let now := x.p ++ x.q ++ [ratAt x.dc 0 * ratAt x.dc 1, ratAt x.dc 2 * ratAt x.dc 3]
      let m1 := { r.1 with
        win := r.1.win ++ [{ x with flags := clipped + if queueFull then 2 else 0 }]
        powers := now :: r.1.powers.take 199 }
      let s1 := putMeter s0 (countPowers m1 (powerSamples m1))
      [0, 1].foldl (fun t o => if 16 ≤ (pulseOut t o).source ∧ (pulseOut t o).source < 20 then t else pulsesDue t o) s1
    else s0)

/-- The last whole multiple of `DEMAND_INTERVAL` in UTC of the field time base (R305). -/
def demandBoundary (s : State) : Nat := now64 s / (60 * 65536 * nat s (kDemand 1)) * (60 * 65536 * nat s (kDemand 1))

/-- OFFSET_CHECK_DONE (R288): the offsets are stored and the block runs, or source 38 is raised and it stays stopped. -/
def offsetCheck (s : State) : Bool × State :=
  let means := (List.range 11).map fun c => roundDiv (s.meter.offSum.getD c 0) (max 1 s.meter.offN)
  let bad := (List.range 11).filter fun c => 41943 < (means.getD c 0).natAbs
  let s1 := setVal s (kMeter 0xE) (.bytes (means.flatMap fun x => leBytes 4 (x % 2 ^ 32).toNat))
  if bad = [] then
    let m : Meter :=
      { s1.meter with raw := [], hp := [], past := [], win := [], lead := 0, crossed := false, freq := none, refCh := none, irms := [],
                      powers := [] }
    let m1 := if s1.meter.demand.start = 0 then { m with demand := { m.demand with start := demandBoundary s, at_ := s.clk } } else m
    (true, endCondition (setNum (setNum (putMeter s1 m1) (kMeter 2) 1) (kInst 1) 0) 38)
  else (false, setNum (bad.foldl (fun t c => raise t 38 1 c 0) s1) (kMeter 2) 0)

/-- OFFSET_CHECK_DONE (R288), outside the start sequence. -/
def execOffsetCheckDone (s : State) : Host.Outcome State Fault Refusal := .next (if meterState s = 3 then (offsetCheck s).2 else s)

/-- The stop is complete: the block is STOPPED, and a pending START runs (R311, R74). -/
def meterStopped (s : State) : State :=
  let again := s.meter.startAsked
  let s1 := setNum (meterPending s false) (kMeter 2) 0
  if again then meterBegin s1 else s1

/-- R311: a STOP. -/
def meterStop (s : State) : State :=
  if meterState s = 2 then meterPending s false
  else if meterState s = 3 then meterStopped s
  else if meterState s = 1 then
    let s1 := closeWindow s true
    let s2 := testMeterStops { s1 with meter := { s1.meter with demand := { s1.meter.demand with flags := s1.meter.demand.flags ||| 2 } } }
    let s3 := if nat s2 (kMeter 0xD) = 1 then setNum { s2 with meter := { s2.meter with cal := none } } (kMeter 0xD) 3 else s2
    if (pulseOut s3 0).high || (pulseOut s3 1).high then setNum s3 (kMeter 2) 2 else meterStopped s3
  else s

/-- PULSE_END (R308): the pad returns low; a stop that waited for the pulse is complete. -/
def execPulseEnd (o : Fin 2) (s : State) : Host.Outcome State Fault Refusal :=
  let s1 := putPulse s o { pulseOut s o with high := false }
  .next (if meterState s1 = 2 ∧ !(pulseOut s1 0).high ∧ !(pulseOut s1 1).high then meterStopped s1 else s1)

/-- R311: a START. -/
def meterStart (s : State) : State :=
  if heldOff s 12 then s
  else if meterState s = 0 then meterBegin s else if meterState s = 2 then meterPending s true else s

/-- R311: a RESTART. -/
def meterRestart (s : State) : State :=
  if meterState s = 0 then meterStart s
  else
    let s1 := meterStop s
    if meterState s1 = 0 then meterBegin s1 else meterPending s1 true

/-- VAFE_OUT_OF_RANGE (R49): source 38 is raised and metering stops. -/
def execVafeOutOfRange (s : State) : Host.Outcome State Fault Refusal :=
  let s1 := { s with power := { s.power with vafeBad := true } }
  .next (raise (meterStop s1) 38 0 0)

/-- VAFE_RETURN (R49): metering may run again. -/
def execVafeReturn (s : State) : Host.Outcome State Fault Refusal :=
  .next { s with power := { s.power with vafeBad := false } }

/-! ### Calibration (R292) -/

/-- A calibration's results as persistent values; none when it fails. -/
def calResults (s : State) (c : CalRun) : Option (List (Key × Val)) :=
  let kind := byteAt c.body 0
  let pt := byteAt c.body 1
  let ref : Int := signed 4 (fieldAt c.body 4 4)
  let chans := (List.range 4).filter fun i => (byteAt c.body 2).testBit i
  let mean := fun (i : Nat) => ratAt c.sums i / (max 1 c.n : Nat)
  let key := fun (i : Nat) => (0x5300 + i) * 256 + 1
  let gainOk := fun (g : Int) => 0x6000 ≤ g ∧ g ≤ 0xA000
  if c.bad then none
  else if kind = 0 then
    let old := (reg s (kMeter 0xA)).toBytes
    let new := (List.range 3).map fun i =>
      if chans.contains i ∧ mean i ≠ 0 then roundRat ((fieldAt old (2 * i) 2 : Nat) * (ref : Rat) / mean i) else (fieldAt old (2 * i) 2 : Int)
    if new.all (fun g => decide (gainOk g)) && chans.all (fun i => mean i != 0) then
      some [(kMeter 0xA, .bytes (new.flatMap fun g => leBytes 2 g.toNat))]
    else none
  else
    let one := fun (i : Nat) =>
      let t := (reg s (key i)).toBytes
      let b := breakpoint t pt
      let irms : Rat := ratAt c.amps i / (max 1 c.n : Nat)
      let near := b.1 * 9 / 10 ≤ irms ∧ irms ≤ b.1 * 11 / 10
      let g := if kind = 1 ∧ mean i ≠ 0 then roundRat (b.2.1 * (ref : Rat) / mean i) else roundRat b.2.1
      let ph := if kind = 2 then roundRat (b.2.2 + (mean i - (ref : Rat))) else roundRat b.2.2
      if near ∧ gainOk g ∧ -5000 ≤ ph ∧ ph ≤ 5000 then
        some (key i, Val.bytes (t.take (8 * pt + 4) ++ leBytes 2 g.toNat ++ leBytes 2 (ph % 65536).toNat ++ t.drop (8 * pt + 8)))
      else none
    if (chans.map one).all Option.isSome then some ((chans.map one).filterMap id) else none

/-- CALIBRATION_DONE (R292): the averaged windows are complete. -/
def execCalibrationDone (s : State) : Host.Outcome State Fault Refusal :=
  .next (match s.meter.cal with
    | none => s
    | some c =>
        if c.n < byteAt c.body 3 then s
        else
          let s1 := { s with meter := { s.meter with cal := none } }
          match calResults s c with
          | some items => setNum (persist s1 items) (kMeter 0xD) 2
          | none => setNum s1 (kMeter 0xD) 3)

/-! ### Demand (R305, R306) -/

/-- A demand interval ends: its values are published, and the next one begins. -/
def closeDemand (s : State) : State :=
  let d := s.meter.demand
  let flags := d.flags ||| (if s.time.stepped then 1 else 0)
  let n : Rat := (max 1 d.n : Nat)
  let i32 := fun (q : Rat) => quantize (-2147483648) 2147483647 1 q
  let apparent := apparentEnergy s.meter - d.s
  let dur : Rat := if s.time.stepped then mkRat (s.clk - d.at_ : Nat) (125000000 * 3600) else mkRat (now64 s - d.start : Nat) (65536 * 3600)
  let p := i32 (d.p / n / 1000)
  let s1 := [(2, (d.start : Int)), (3, p), (4, i32 (d.q / n / 1000)),
    (5, if dur = 0 then 0 else quantize 0 4294967295 1 (apparent / dur / 1000)), (6, (flags : Int))].foldl (fun t v => setNum t (kDemand v.1) v.2) s
  let s2 := if flags = 0 ∧ num s1 (kDemand 7) < p then setNum (setNum s1 (kDemand 7) p) (kDemand 8) d.start else s1
  let s3 := if flags = 0 ∧ p < num s2 (kDemand 9) then setNum (setNum s2 (kDemand 9) p) (kDemand 0xA) d.start else s2
  let start := if s.time.stepped then now64 s else demandBoundary s
  { s3 with
    meter := { s3.meter with demand := { start := start, at_ := s.clk, s := apparentEnergy s.meter
                                         flags := if meterState s = 1 then 0 else 2 } }
    time := { s3.time with stepped := false } }

/-- Table 19-4, DEMAND: the recorder takes the interval just published. -/
def noteDemand (s : State) : State :=
  if nat s kModuleState ≠ 1 then s
  else
    let d := s.recorder.demand
    let flags := nat s (kDemand 6)
    let p := num s (kDemand 3)
    let at_ := nat s (kDemand 2)
    let d1 := { d with count := min 255 (d.count + 1), flags := d.flags ||| flags }
    let d2 := if flags ≠ 0 then d1 else
      { d1 with
        peakP := max d.peakP p, peakAt := if d.peakP < p then at_ else d.peakAt
        lowP := min d.lowP p, lowAt := if p < d.lowP then at_ else d.lowAt
        peakS := max d.peakS (nat s (kDemand 5)) }
    { s with recorder := { s.recorder with demand := d2 } }

/-- DEMAND_INTERVAL_END (R305, R306). -/
def execDemandIntervalEnd (s : State) : Host.Outcome State Fault Refusal := .next (noteDemand (closeDemand s))

/-! ### Per-luminaire energy (R310) -/

/-- One accepted STATUS of driver `d`: `VIN` mV × `IIN` mA × Δt, at most 10 ms, to its luminaire. -/
def lumStatus (s : State) (d vin iin : Nat) (since : Option Nat) : State :=
  let l := nat s (kDriver d 2)
  match since with
  | none => s
  | some t =>
      let dt := min (s.clk - t) (msec 10)
      if l ≤ 127 then
        { s with meter := { s.meter with lum := tabPut s.meter.lum l ((tabFind s.meter.lum l).getD 0 + mkRat (vin * iin * dt : Nat) (125000000 * 3600)) } }
      else s

/-- Every luminaire's energy in whole µWh, 8 bytes each. -/
def lumBytes (s : State) : Bytes := (List.range 128).flatMap fun l => leBytes 8 (roundRat ((tabFind s.meter.lum l).getD 0)).toNat

/-! ### Dictionary -/

/-- Check 5 beyond the tables: gains, correction tables and CALIBRATE bodies (R289, Tables 12-2 to 12-4). -/
def rangeMeter (idx sub : Nat) (b : Bytes) : Bool :=
  let gain := fun (g : Nat) => 0x6000 ≤ g && g ≤ 0xA000
  if idx = 0x5000 ∧ sub = 0xA then [0, 2, 4].all fun i => gain (fieldAt b i 2)
  else if idx = 0x5000 ∧ sub = 0xC then
    byteAt b 0 ≤ 2 && byteAt b 1 ≤ (if byteAt b 0 = 0 then 0 else 8) && byteAt b 2 % 16 ≤ (if byteAt b 0 = 0 then 7 else 15)
      && 10 ≤ byteAt b 3 && byteAt b 3 ≤ 250
  else if 0x5300 ≤ idx ∧ idx < 0x5304 then
    let bp := (List.range 9).map fun i => fieldAt b (8 * i) 4
    (bp.zip bp.tail).all (fun p => p.1 < p.2) && (List.range 9).all fun i =>
      gain (fieldAt b (8 * i + 4) 2) && -5000 ≤ signed 2 (fieldAt b (8 * i + 6) 2) && signed 2 (fieldAt b (8 * i + 6) 2) ≤ 5000
  else true

/-- Check 6 (R291, R292). -/
def condMeter (s : State) (idx sub : Nat) : Bool :=
  (idx == 0x5000 && 4 ≤ sub && sub ≤ 9 && meterState s != 0) || (idx == 0x5500 && 1 ≤ sub && sub ≤ 4 && meterState s != 0)
    || (idx == 0x5000 && sub == 0xC && (meterState s != 1 || nat s (kMeter 0xD) == 1))

/-- `CALIBRATE`'s effect (R292). -/
def calibrateStart (s : State) (b : Bytes) : State := setNum { s with meter := { s.meter with cal := some { body := b } } } (kMeter 0xD) 1

/-- ENERGY_RESET's effect (R302). -/
def energyReset (s : State) : State := { s with meter := { s.meter with resetAsked := true } }

/-- MAX_CLEAR's effect. -/
def maxClear (s : State) : State := [7, 8, 9, 0xA].foldl (fun t k => setNum t (kDemand k) 0) s

/-- LUM_ENERGY_RESET's effect. -/
def lumReset (s : State) (l : Nat) : State := { s with meter := { s.meter with lum := if l = 0xFF then [] else tabDrop s.meter.lum l } }

/-- The commands of chapter 12. -/
def commandMeter (s : State) (idx sub : Nat) (v : Int) (b : Bytes) : State :=
  if idx = 0x5000 ∧ sub = 1 then (if v = 1 then meterStop s else if v = 2 then meterStart s else meterRestart s)
  else if idx = 0x5000 then calibrateStart s b
  else if idx = 0x5200 then energyReset s
  else if idx = 0x5500 then lumReset s v.toNat
  else maxClear s

/-- After a write: PULSE_ENABLE 0 holds the pad low and empties the backlog. -/
def afterMeter (s : State) (idx sub : Nat) : State :=
  if (idx = 0x5400 ∨ idx = 0x5401) ∧ sub = 1 ∧ !flag s (kPulse (idx - 0x5400) 1) then
    setNum (putPulse s (idx - 0x5400) { pulseOut s (idx - 0x5400) with dues := [], high := false }) (kPulse (idx - 0x5400) 5) 0
  else s

/-- Live values of chapter 12. -/
def liveMeter (s : State) (idx sub : Nat) : Option Val :=
  if idx = 0x5500 ∧ sub = 0xB then some (.bytes (lumBytes s)) else none

end Sys2Proof.Machine
end

