-- ==== Sys2Proof/Machine/Update.lean ====
section
/-!
DEFINITION. Update packages, the quire, installation at step 2, the trial, confirmation and fallback (R449 to R457), and compatibility (R458).
-/

namespace Sys2Proof.Machine

/-- The register `sub` of UPDATE_WAVE (Table 18-16). -/
def kWave (sub : Nat) : Key := 0xC010 * 256 + sub

/-- The offset of the release block, and of the OEM block (0 = none). -/
def relOff (p : Bytes) : Nat := fieldAt p 12 4
/-- See `relOff`. -/
def oemOff (p : Bytes) : Nat := fieldAt p 16 4
/-- A block's part count. -/
def partCount (p : Bytes) (blk : Nat) : Nat := byteAt p (blk + 5)
/-- A block's signed bytes: header and part table. -/
def signedPart (p : Bytes) (blk : Nat) : Bytes := slice p blk (64 + 64 * partCount p blk)
/-- A block's signature. -/
def signature (p : Bytes) (blk : Nat) : Bytes := slice p (blk + 64 + 64 * partCount p blk) 64
/-- A block's part entries (Table 18-12). -/
def partsOf (p : Bytes) (blk : Nat) : List Bytes := (List.range (partCount p blk)).map fun i => slice p (blk + 64 + 64 * i) 64
/-- All part entries of a package. -/
def allParts (p : Bytes) : List Bytes := partsOf p (relOff p) ++ (if oemOff p = 0 then [] else partsOf p (oemOff p))
/-- `VERSION` of a package; 0 for none. -/
def pkgVersion (p : Bytes) : Nat := fieldAt p (relOff p + 8) 2
/-- `OEM_VERSION` of a package; 0 when there is no OEM block. -/
def pkgOem (p : Bytes) : Nat := if oemOff p = 0 then 0 else fieldAt p (oemOff p + 8) 2
/-- The compatibility declaration (Table 18-11). -/
def pkgCompat (p : Bytes) : Bytes := slice p (relOff p + 10) 16
/-- A part's bytes. -/
def partBytes (p e : Bytes) : Bytes := slice p (fieldAt e 16 4) (fieldAt e 20 4)

/-- R450, check 1. -/
def pkgHeaderOk (p : Bytes) : Bool :=
  let blocks := relOff p :: (if oemOff p = 0 then [] else [oemOff p])
  fieldAt p 0 4 == 0x474B5046 && byteAt p 4 == 1 && fieldAt p 8 4 == p.length && p.length ≤ 4194304
    && fieldAt p (relOff p) 4 == 0x4C455246 && byteAt p (relOff p + 4) == 1
    && 4 ≤ partCount p (relOff p) && partCount p (relOff p) ≤ 32
    && (oemOff p == 0 || (fieldAt p (oemOff p) 4 == 0x4D454F46 && byteAt p (oemOff p + 4) == 1
          && 1 ≤ partCount p (oemOff p) && partCount p (oemOff p) ≤ 32))
    && blocks.all (fun b => b + 128 + 64 * partCount p b ≤ p.length)
    && (allParts p).all (fun e => 1 ≤ fieldAt e 20 4 && fieldAt e 16 4 + fieldAt e 20 4 ≤ p.length)
    && (List.range (allParts p).length).all fun i => (List.range i).all fun j =>
        let a := (allParts p).getD i []
        let b := (allParts p).getD j []
        fieldAt a 16 4 + fieldAt a 20 4 ≤ fieldAt b 16 4 || fieldAt b 16 4 + fieldAt b 20 4 ≤ fieldAt a 16 4

/-- The valid VERIFY shell whose `KEY_ID` a block names and which holds a usage bit. -/
def verifier (s : State) (p : Bytes) (blk keyOff bit : Nat) : Option Nat :=
  (List.range 256).find? fun n => (shell s n).type == 4 && isValid s n && hasUsage s n bit && (shell s n).keyId == fieldAt p (blk + keyOff) 8

/-- Whether a block's signature holds under its VERIFY shell; the verification is one use of that shell (R441). -/
def blockSigned (s : State) (p : Bytes) (blk keyOff bit : Nat) : Bool × State :=
  match verifier s p blk keyOff bit with
  | none => (false, s)
  | some n => (ecdsaOk (shell s n).pub (signedPart p blk) (signature p blk), useShell s n)

/-- R450, check 3. -/
def oemOk (s : State) (p : Bytes) : Bool × State :=
  if oemOff p = 0 then (true, s)
  else if slice p (oemOff p + 16) 32 ≠ sha256 (signedPart p (relOff p) ++ signature p (relOff p)) then (false, s)
  else blockSigned s p (oemOff p) 48 3

/-- R450, check 4. -/
def kindsOk (p : Bytes) : Bool :=
  let r := partsOf p (relOff p)
  let o := if oemOff p = 0 then [] else partsOf p (oemOff p)
  let nums := ((r ++ o).filter fun e => byteAt e 0 == 5 || byteAt e 0 == 0x10).map fun e => fieldAt e 2 2
  ([1, 2, 3, 4].all fun k => (r.filter fun e => byteAt e 0 == k).length == 1)
    && (r.all fun e => byteAt e 0 ≤ 5 && byteAt e 0 != 0) && (o.all fun e => byteAt e 0 == 0x10) && nums.Nodup
    && (r ++ o).all fun e => (byteAt e 0 != 5 || fieldAt e 2 2 < 0x8000) && (byteAt e 0 != 0x10 || 0x8000 ≤ fieldAt e 2 2)

/-- R450, check 5. -/
def hashesOk (p : Bytes) : Bool := (allParts p).all fun e => sha256 (partBytes p e) == slice e 32 32

/-- R451. -/
def floorsOk (s : State) (p : Bytes) : Bool := s.mram.keys.versionFloor ≤ pkgVersion p && s.mram.keys.oemFloor ≤ pkgOem p

/-- R450: the number of the first check of 1 to 6 that a package fails, 0 for none, and the uses of the VERIFY shells. -/
def packageCheck (s : State) (p : Bytes) : Nat × State :=
  if !pkgHeaderOk p then (1, s)
  else
    let (r, s1) := blockSigned s p (relOff p) 32 4
    if !r then (2, s1)
    else
      let (o, s2) := oemOk s1 p
      (if !o then 3 else if !kindsOk p then 4 else if !hashesOk p then 5 else if !floorsOk s p then 6 else 0, s2)

/-- R2, R453: whether the release and OEM signatures of a folio hold; the factory folio has no content in the model (log entry 15). -/
def folioSigned (s : State) (p : Bytes) : Bool × State :=
  if p = [] then (true, s)
  else
    let (r, s1) := blockSigned s p (relOff p) 32 4
    if r then oemOk s1 p else (false, s1)

/-- R450, check 7: every `FW_IMAGE` of a used driver-table entry names a driver part. -/
def imagesNamed (s : State) (p : Bytes) : Bool :=
  let nums := ((allParts p).filter fun e => byteAt e 0 == 5 || byteAt e 0 == 0x10).map fun e => fieldAt e 2 2
  (List.range 128).all fun d => num s ((0x3100 + d) * 256 + 1) == 0 || nums.contains (nat s ((0x3100 + d) * 256 + 9))

/-- R450: BLOCK_END of a package: staged, or rejected with the quire empty. Answers whether it passed. -/
def stagePackage (s : State) (p : Bytes) : Bool × State :=
  let (c, s) := packageCheck s p
  let c7 := if c = 0 then (if imagesNamed s p then 0 else 7) else c
  if c7 = 0 then (true, setNum (setQuire (putFolios s { s.mram.folios with quire := p }) 2) (kUpdate 8) (pkgVersion p))
  else
    let s1 := setNum (setQuire (putFolios s { s.mram.folios with quire := [] }) 0) (kUpdate 8) 0
    (false, if c7 = 2 then raise s1 46 1 0 else if c7 = 3 then raise s1 46 2 0 else if c7 = 5 then raise s1 46 3 0 else s1)

/-- The ACTIVE folio. -/
def Folios.act (f : Folios) : Bytes := if f.active1 then f.slot1 else f.slot0
/-- The PRIOR folio. -/
def Folios.prior (f : Folios) : Bytes := if f.active1 then f.slot0 else f.slot1
/-- The PRIOR slot takes a package. -/
def Folios.putPrior (f : Folios) (p : Bytes) : Folios := if f.active1 then { f with slot0 := p } else { f with slot1 := p }

/-- TRIAL_STATE, kept in the key area. -/
def setTrial (s : State) (t : Nat) : State := setNum (keyChange s { s.mram.keys with trial := t }) (kUpdate 0xB) t

/-- LAST_RESULT, which persists. -/
def setResult (s : State) (r : Nat) : State := setNum (putFolios s { s.mram.folios with lastResult := r }) (kUpdate 0x10) r

/-- R456: a revert. -/
def revert (s : State) : State :=
  let expiry := nat s 0x103001 == 6
  let f := s.mram.folios
  let s1 := setTrial (putFolios s { f with active1 := !f.active1, rejected := true }) 0
  raise (setResult s1 (if expiry then 4 else 3)) 45 (if expiry then 2 else 1) 0

/-- R453: the normal way of step 2, up to the selection; false when a check or the copy fails. `copied` says that the copy itself succeeds. -/
def installStep (s : State) (copied : Bool) : Bool × State :=
  let f := s.mram.folios
  if s.mram.keys.trial = 2 then (true, revert s)
  else if f.quireState = 3 ∨ f.quireState = 4 then
    let (c, s) := packageCheck s f.quire
    if c ≠ 0 ∨ !copied then (false, setQuire s 4)
    else
      let f1 := f.putPrior f.quire
      let s1 := setQuire (putFolios s { f1 with active1 := !f1.active1, rejected := false, quire := [] }) 0
      (true, setResult (setTrial s1 1) 1)
  else (true, s)

/-- RUNTIME_VERSION of a folio: its VERSION. The factory folio has no content in the model; its version is free, at least 0x0300 (R1). -/
def runningVersion (p : Bytes) : Nat := if p = [] then max 0x300 Config.factoryVersion.toNat else pkgVersion p

/-- The folio of this start is selected; its measurement and versions show (R447, Table 18-13). -/
def startFolio (s : State) (prior : Bool) : State :=
  let f := s.mram.folios
  let p := if prior then f.prior else f.act
  let m := sha256 (signedPart p (relOff p) ++ (if oemOff p = 0 then [] else signedPart p (oemOff p)))
  let s1 := if s.mram.keys.trial = 1 ∧ !prior then setTrial s 2 else setNum s (kUpdate 0xB) s.mram.keys.trial
  let s2 := { s1 with update := { s1.update with running := p, prior := prior, measurement := m } }
  [(1, runningVersion p), (2, pkgOem p), (3, s2.mram.keys.versionFloor), (4, s2.mram.keys.oemFloor), (5, pkgVersion (if prior then f.act else f.prior)),
    (7, s2.mram.folios.quireState), (8, pkgVersion s2.mram.folios.quire), (0x10, s2.mram.folios.lastResult)].foldl
    (fun t kv => setNum t (kUpdate kv.1) (kv.2 : Nat)) (setVal s2 (kUpdate 0xA) (.bytes (pkgCompat p)))

/-- R453: the alternative of step 2: the ACTIVE folio without a copy, or the PRIOR folio; false when that is REJECTED or a signature of the folio
fails (R2). -/
def altFolio (s : State) : Bool × State :=
  if s.mram.folios.quireState = 4 then
    let (ok, s1) := folioSigned s s.mram.folios.act
    (ok, startFolio (setResult (setQuire s1 5) 5) false)
  else if s.mram.folios.rejected then (false, s)
  else
    let (ok, s1) := folioSigned s s.mram.folios.prior
    if ok then (true, startFolio s1 true) else (false, s1)

/-- R457: a part of the running folio of a kind and number, if its hash holds. -/
def loadPart (s : State) (kinds : List Nat) (number : Nat) : Option Bytes :=
  let p := s.update.running
  ((allParts p).find? fun e => kinds.contains (byteAt e 0) && fieldAt e 2 2 == number).bind fun e =>
    if sha256 (partBytes p e) = slice e 32 32 then some (partBytes p e) else none

/-- A driver image of the running folio (R265, R457). -/
def driverImage (s : State) (number : Nat) : Option Bytes := loadPart s [5, 0x10] number

/-- Whether the running folio carries a driver image whose hash fails (R457). -/
def driverImageBad (s : State) (number : Nat) : Bool :=
  (driverImage s number).isNone && (allParts s.update.running).any fun e => [5, 0x10].contains (byteAt e 0) && fieldAt e 2 2 == number

/-- R455: the conditions of a confirmation. -/
def confirmOk (s : State) : Bool :=
  nat s (kUpdate 0xB) == 2 && nat s 0x101801 == 1 && num s 0x101803 == 0
    && ((List.range 64).all fun src =>
        !((nat s (kFault src 1) == 4 || nat s (kFault src 2) == 4) && (nat s (kFault src 7) == 1 || nat s (kFault src 7) == 3) && nat s (kFault src 6) == 0))
    && (nat s 0x740001 == 0 || (nat s 0x740003 == 1 && fieldAt (pkgCompat s.update.running) 12 2 ≤ s.pair.peerFormat
          && s.pair.peerFormat ≤ fieldAt (pkgCompat s.update.running) 14 2))

/-- R70: every count, ALT_NEXT and SAFE_LATCH of the bookmark are cleared, in both copies. A start that is running goes on by the bookmark as it stood:
the clear takes effect at the next start. -/
def clearBookmark (s : State) : State :=
  let s1 := if s.start.running then { s with start := { s.start with plan := some (s.start.plan.getD s.start.bookmark) } } else s
  writeBookmark s1 { s1.start.bookmark with failCounts := 0, altNext := 0, safeLatch := false }

/-- R455: a confirmation. -/
def confirmTrial (s : State) : State :=
  let p := s.update.running
  let s1 := keyChange s { s.mram.keys with versionFloor := pkgVersion p, oemFloor := pkgOem p, trial := 3 }
  let s2 := setNum (setNum (setNum s1 (kUpdate 0xB) 3) (kUpdate 3) (pkgVersion p)) (kUpdate 4) (pkgOem p)
  clearBookmark (setNum (setResult s2 2) (kUpdate 0xD) 0)

/-- AUTO_CONFIRM (R455): the runtime confirms the trial itself if the conditions hold. -/
def execAutoConfirm (s : State) : Host.Outcome State Fault Refusal :=
  .next (if flag s (kUpdate 0xE) && confirmOk s then confirmTrial s else s)

/-- TRIAL_EXPIRY (R454): the window ends unconfirmed; the module resets with cause 6. -/
def execTrialExpiry (s : State) : Host.Outcome State Fault Refusal :=
  .next (if nat s (kUpdate 0xB) = 2 then orderReset s 6 0 else s)

/-- R452: INSTALL. -/
def install (s : State) (v : Nat) : State :=
  if v = 3 then setNum (setQuire (putFolios s { s.mram.folios with quire := [] }) 0) (kUpdate 8) 0
  else
    let s1 := setQuire s 3
    if v = 2 then orderReset (resetPending s1) 5 1 else s1

/-- R452: whether INSTALL is accepted. -/
def installOk (s : State) (v : Nat) : Bool :=
  v == 3 || (nat s (kUpdate 7) == 2 && (nat s (kUpdate 0xB) == 0 || nat s (kUpdate 0xB) == 3))

/-- R458: whether two compatibility declarations are compatible. -/
def compatible (a b : Bytes) : Bool :=
  let within := fun (x y : Bytes) (f n lo w : Nat) => fieldAt y lo w ≤ fieldAt x f n && fieldAt x f n ≤ fieldAt y (lo + w) w
  let one := fun (x y : Bytes) => within x y 2 1 6 1 && within x y 3 1 8 1 && within x y 4 1 10 1 && within x y 0 2 12 2
  one a b && one b a

/-- What remains of the trial window. -/
def liveUpdate (s : State) (idx sub : Nat) : Option Val :=
  if idx = 0xB000 ∧ sub = 0xD ∧ nat s (kUpdate 0xB) = 2 ∧ nat s 0x101801 = 1 then
    some (.num (nat s (kUpdate 0xC) - (s.clk - s.start.doneAt) / secs 1 : Nat))
  else none

end Sys2Proof.Machine
end

