-- ==== Sys2Proof/Machine/Drivers.lean ====
section
/-!
DEFINITION. The module's side of the cell-driver contract (chapter 10) and of the return slots (chapter 09): bursts, STATUS, discovery, configuration, stored
scenes, driver firmware, cell faults, the field start of a lane, and the dictionary conditions of lanes and drivers.
-/

namespace Sys2Proof.Machine

/-- The first driver-table register of a position. -/
def kDrv (n p sub : Nat) : Key := kDriver (16 * n + p) sub
/-- The serial expected at a position; 0 when its entry is unused. -/
def entrySerial (s : State) (n p : Nat) : Nat := nat s (kDrv n p 1)

/-! ### What the module derives for a driver (R253, R262) -/

/-- `LIMIT_TABLE` of driver `d` by a calibration content. -/
def limitTable (s : State) (cal : Bytes) (d : Nat) : Bytes :=
  (List.range 1024).map fun o =>
    let c := nat s (kDriver d 3) + o
    let flags := byteAt cal (32 * c + 7)
    if o < nat s (kDriver d 4) ∧ flags.testBit 0 ∧ !flags.testBit 1 then BitVec.ofNat 8 (byteAt cal (32 * c + 8)) else 0

/-- `GROUP_TABLE` of driver `d` by a zone-map content. -/
def groupTable (s : State) (map : Bytes) (d : Nat) : Bytes :=
  let base := nat s (kDriver d 3)
  let mine := (records 32 map).filter fun r => zCount r != 0 && zGroup r ≤ 63
  (List.range 1024).map fun o =>
    match mine.find? fun r => o < nat s (kDriver d 4) && (zCells r).contains (base + o) with
    | some r => BitVec.ofNat 8 (zGroup r)
    | none => 0xFF

/-- The registers 0x0100 to 0x0113 of driver `d`'s configuration space (Table 10-8). -/
def scanRegisters (s : State) (d : Nat) : Bytes :=
  let g := nat s (kDriver d 5)
  let f := nat s (kDriver d 0xE)
  leBytes 1 (g / 256) ++ leBytes 1 (g % 256) ++ leBytes 2 (nat s (kDriver d 4)) ++ leBytes 1 (nat s (kDriver d 6)) ++ leBytes 4 (nat s (kDriver d 7))
    ++ leBytes 1 (nat s (kDriver d 8)) ++ leBytes 2 (nat s (kScan 3)) ++ leBytes 2 (fieldPeriod s / 1000) ++ leBytes 1 (f % 256) ++ leBytes 1 (f / 256)
    ++ leBytes 2 (num s (kScan 4) % 65536).toNat ++ leBytes 2 (nat s (kScan 5))

/-- The derived content of 0x0100 to 0x0FFF; reserved bytes are 0. -/
def derivedConfig (s : State) (d : Nat) : Bytes :=
  scanRegisters s d ++ List.replicate (0x300 - 20) 0 ++ limitTable s (domain s kCalibration) d ++ groupTable s (domain s kZoneMap) d
    ++ List.replicate 0x400 0

/-- CONFIG_WRITE of `data` at `addr`, at most 1,022 bytes a record (Table 9-6). -/
def configWrite (s : State) (n p : Nat) : Nat → Nat → Bytes → State
  | 0, _, _ => s
  | f + 1, addr, data =>
      if data = [] then s
      else configWrite (queueControl s n p 0x20 (leBytes 2 addr ++ data.take 1022)) n p f (addr + 1022) (data.drop 1022)

/-- The stored-scene codes of driver `d`: SAFE (1) or EGRESS (2). -/
def sceneCodes (s : State) (scene d : Nat) : Bytes :=
  let b := slice (domain s (0x340000 + scene)) (2048 * d) 2048
  b ++ List.replicate (2048 - b.length) 0

/-- SAFE_SCENE_LOAD of a whole scene: records of at most 510 codes, the last with LAST (R261, R262). -/
def sceneLoad (s : State) (n p scene : Nat) : State :=
  let b := sceneCodes s scene (16 * n + p)
  [(0, 510, 0), (510, 510, 0), (1020, 4, 1)].foldl (fun t x =>
    queueControl t n p 0x23 ([BitVec.ofNat 8 scene, BitVec.ofNat 8 x.2.2] ++ leBytes 2 x.1 ++ slice b (2 * x.1) (2 * x.2.1))) s

/-- The return ceiling of a lane (Tables 9-7, 9-12). -/
def ceilingOf (s : State) (n : Nat) : Nat :=
  if (lane s n).version = 1 then 32 else if fieldRate s = 2000 then 128 else if fieldRate s = 4000 then 64 else 32

/-! ### Work at a lane start (Table 10-13, R265 to R267) -/

/-- Step 3 begins: the module reads CONFIG_CRC. -/
def startWork (s : State) (n p : Nat) : State :=
  if (pos s n p).work = .idle ∧ inTable s n p then
    queueControl (putPos s n p { pos s n p with work := .config }) n p 0x21 (leBytes 2 0x14 ++ leBytes 2 4)
  else s

/-- The firmware blocks of an image from an offset on, at most 1,016 bytes each. -/
def fwBlocks (image : Nat) (b : Bytes) : Nat → Nat → List Bytes
  | 0, _ => []
  | f + 1, off => if off < b.length then (leBytes 2 image ++ [0, 0] ++ leBytes 4 off ++ slice b off 1016) :: fwBlocks image b f (off + 1016) else []

/-- The FIRMWARE_START of an image. -/
def fwStart (image : Nat) (b : Bytes) : Bytes := leBytes 2 image ++ [0, 0] ++ leBytes 4 b.length ++ leBytes 4 (crc32 b)

/-- A driver's firmware load ends without RESULT 3 (R267). -/
def fwFailed (s : State) (n p : Nat) : State :=
  let s1 := putPos s n p { pos s n p with work := .done }
  laneFault (setNum s1 (kDrv n p 0xA) (if (pos s n p).fwVersion = 0 then 4 else 5)) n 1 p

/-- R265 for one image on a lane: FW_EXPECT, the broadcast, the FIRMWARE_STARTs; an image whose hash fails is not sent and raises source 46 (R457). -/
def fwImage (s : State) (n image : Nat) (ps : List Nat) : State :=
  match driverImage s image with
  | none => ps.foldl (fun t p => fwFailed t n p) (if driverImageBad s image then raise s 46 3 0 else s)
  | some b =>
      let s1 := ps.foldl (fun t p => queueControl t n p 0x20 (leBytes 2 0x22 ++ leBytes 2 image)) s
      let s2 := (fwBlocks image b (b.length / 1016 + 1) 0).foldl (fun t x => queueBroadcast t n 0x30 x) s1
      ps.foldl (fun t p =>
        let t1 := setNum (setNum (putPos t n p { pos t n p with work := .firmware }) (kDrv n p 0xD) 1) (kDrv n p 0xA) 2
        queueControl t1 n p 0x31 (fwStart image b)) s2

/-- Whether the driver at a position is missing (R242, kind 1). -/
def missing (s : State) (n p : Nat) : Bool := (lane s n).met.any fun c => c.1 == condOf 1 p

/-- Step 5 of Table 10-13: once every driver at work on the lane that is not missing has its configuration and scenes; none in stored-scene-only mode (R63). -/
def tryFirmware (s : State) (n : Nat) : State :=
  let ps := (tablePositions s n).filter fun p => (pos s n p).work == .ready
  let busy := (tablePositions s n).any fun p => !missing s n p && ((pos s n p).work == .config || (pos s n p).work == .scenes)
  if busy || ps == [] then s
  else if (lane s n).sceneOnly then ps.foldl (fun t p => putPos t n p { pos t n p with work := .done }) s
  else ((ps.map fun p => nat s (kDrv n p 9)).eraseDups).foldl (fun t i => fwImage t n i (ps.filter fun p => nat s (kDrv n p 9) == i)) s

/-- DRIVER_MISSING (R242, kind 1): a present driver gives no valid burst for MISSING_LIMIT fields; it no longer holds up the firmware of the others. -/
def execDriverMissing (n : Fin 8) (p : Fin 16) (s : State) : Host.Outcome State Fault Refusal :=
  .next (if laneRuns s n ∧ present s n p then tryFirmware (laneFault s n 1 p) n else s)

/-! ### Bursts (R226 to R230) -/

/-- The acceptance window of a slot, in ns after its start (R228, Table 9-12). -/
def slotWindow (s : State) (n slot : Nat) : Int × Int :=
  if (lane s n).version = 1 then (0, 1200)
  else if (pos s n slot).advSet then (-150, 150) else (-150, 1400)

/-- The slot in which an unpositioned driver is searched, if one is. -/
def searchSlot (s : State) (n : Nat) : Option Nat := (lane s n).disc.bind fun d => d.search.map fun _ => d.slot

/-- Whether a slot has an owner (R229): a driver of the table, a present driver, or a search or PRESENT under way. -/
def slotOwned (s : State) (n slot : Nat) : Bool :=
  inTable s n slot || present s n slot || searchSlot s n == some slot || ((lane s n).disc.any fun d => d.wait != 0)

/-- The request of a position that awaits a reply, if it is of a type. -/
def awaited (s : State) (n p type : Nat) : Option TxRec :=
  ((pos s n p).request.map (·.txr)).filter fun r => r.type == type

/-- The payload rule of a return record (Tables 9-8, 9-12): its length, that of CONFIG_DATA by the request that awaits it, and no reserved value in SHOWING,
PROTOCOL or RESULT (R10). -/
def burstLenOk (s : State) (n pos type : Nat) (p : Bytes) : Bool :=
  if type = 0x81 then p.length == (if (lane s n).version = 1 then 14 else 24) && byteAt p 10 % 4 != 3
  else if type = 0x82 then
    match awaited s n pos 0x21 with
    | some q => p.length == 2 + fieldAt q.payload 2 2
    | none => 3 ≤ p.length
  else if type = 0x83 then p.length == 4 + 2 * byteAt p 2
  else if type = 0x84 then p.length == 16 && (byteAt p 9 == 1 || byteAt p 9 == 2)
  else if type = 0x85 then p.length == 8 && byteAt p 2 ≤ 3
  else false

/-- Whether a burst is whole and its CRC, length and type hold (R230); `type` is the one its command names. -/
def burstOk (s : State) (n type : Nat) (b : Burst) : Bool :=
  let len := byteAt b.bytes 1
  let body := b.bytes.take (2 + len)
  b.coded && b.bytes.length == 4 + len && len ≤ ceilingOf s n && leBytes 2 (crc16 body) == b.bytes.drop (2 + len)
    && byteAt b.bytes 0 == type && burstLenOk s n b.slot type (body.drop 2)

/-- A positioned driver is unassigned: ASSIGN with VALUE 0 (R254). -/
def unassign (s : State) (n p : Nat) : State :=
  queueState s n 0x40 0xFF ([2, BitVec.ofNat 8 p, 0, 0] ++ List.replicate 8 0)

/-- R255, step 1: a wrong or undecodable answer to PRESENT. -/
def conflict (s : State) (n p : Nat) (away : Bool) : State :=
  let s1 := laneFault s n 9 p
  if away then unassign s1 n p else s1

/-- A home-slot burst that a present driver owes is lost (R242, kind 3). -/
def noteDiscard (s : State) (n slot : Nat) : State :=
  if present s n slot then
    let l := lane s n
    let s1 := putLane s n { l with discards := lastSecond s l.discards ++ [s.clk] }
    if laneRuns s1 n && returnErrors s1 n then laneFault s1 n 3 (lastSecond s1 (lane s1 n).discards).length else s1
  else s

/-- A burst is discarded and counted (R230); in a search it is a collision, in a PRESENT an undecodable slot (R255). -/
def discardBurst (s : State) (n slot : Nat) : State :=
  let s1 := noteDiscard (bump s (kLane n 0xD)) n slot
  let l := lane s1 n
  if searchSlot s1 n == some slot then putLane s1 n { l with disc := l.disc.map fun d => { d with collided := true } }
  else if l.disc.any fun d => d.wait != 0 && !d.answered.contains slot then conflict s1 n slot true
  else s1

/-- R227: the module sets and corrects `ADVANCE` by the arrival of bursts. -/
def trackTiming (s : State) (n p : Nat) (at_ : Int) : State :=
  let x := pos s n p
  if (lane s n).version = 1 ∨ (tabFind s.pair.marks n).isSome then s
  else if !x.advSent then
    let a := (clampInt 0 511 (roundDiv at_ 4)).toNat
    returnSchedule (putPos s n p { x with advSent := true, advance := a }) n p a
  else if x.advSet then
    let sum := x.errSum + at_
    if x.errN + 1 = 64 then
      if 20 * 64 < sum.natAbs then
        let a := (clampInt 0 511 ((x.advance : Int) + roundDiv sum (64 * 4))).toNat
        returnSchedule (putPos s n p { x with errSum := 0, errN := 0, advance := a }) n p a
      else putPos s n p { x with errSum := 0, errN := 0 }
    else putPos s n p { x with errSum := sum, errN := x.errN + 1 }
  else s

/-- A valid burst of the driver at a position: it is present, and no longer missing (R242, Table 9-13). -/
def seen (s : State) (n p : Nat) (at_ : Int) : State :=
  let s1 := setBit (putPos s n p { pos s n p with arrived := true, late := 0 }) (kLane n 9) p true
  trackTiming (laneFaultEnd (putLane s1 n { lane s1 n with silent := false }) n 1 p) n p at_

/-- One burst in a slot: the state after it is counted, and its payload if it is accepted and of the type named. -/
def receiveBurst (s : State) (n type : Nat) (b : Burst) : State × Option Bytes :=
  let p := b.slot.val
  let w := slotWindow s n p
  if laneState s n = 0 then (s, none)
  else if b.queueFull then (discardBurst (raise s 56 0 n) n p, none)
  else if b.at_ < w.1 ∨ w.2 < b.at_ then
    let late := (pos s n p).late + 1
    let s1 := noteDiscard (bump (putPos s n p { pos s n p with late := late }) (kLane n 0xE)) n p
    (if 8 ≤ late then laneFault s1 n 4 p else s1, none)
  else if !slotOwned s n p ∨ !burstOk s n type b then (discardBurst s n p, none)
  else
    let s1 := bump s (kLane n 0xC)
    (if searchSlot s1 n = some p then s1 else seen s1 n p b.at_, some ((b.bytes.drop 2).take (byteAt b.bytes 1)))

/-! ### STATUS (R219, R257, R259, R267, Table 9-9) -/

/-- R257: source 10 follows OVER_TEMP. -/
def noteOverTemp (s : State) (n p : Nat) (v : Bool) : State :=
  let was := (pos s n p).overTemp
  let s1 := putPos s n p { pos s n p with overTemp := v }
  if v && !was then raise s1 10 0 (16 * n + p)
  else if !v && was && (List.range 8).all (fun m => (lane s1 m).pos.all fun x => !x.2.overTemp) then endCondition s1 10
  else s1

/-- R259: FAULT_QUERY of the whole block, in as many records as the return ceiling requires. -/
def queryFaults (s : State) (n p : Nat) : State :=
  let bytes := (nat s (kDrv n p 4) + 7) / 8
  let per := (ceilingOf s n - 4) / 2
  let offs := (List.range ((bytes + per - 1) / per)).map fun i => i * per
  if (pos s n p).query ≠ [] ∨ !inTable s n p then s
  else offs.foldl (fun t o => queueControl t n p 0x22 (leBytes 2 (8 * o) ++ [BitVec.ofNat 8 (min per (bytes - o)), 0]))
    (putPos s n p { pos s n p with query := offs.map (8 * ·) })

/-- R242, kind 8: INCOMPLETE in four consecutive ticks. -/
def noteIncomplete (s : State) (n p : Nat) (v : Bool) : State :=
  let x := pos s n p
  let j := s.engines.tick
  if !v ∨ x.lastTag = some j then s
  else
    let k := if x.lastTag.any fun t => (t + 1) % 2 ^ 32 == j then x.incomplete + 1 else 1
    let s1 := putPos s n p { x with incomplete := k, lastTag := some j }
    if 4 ≤ k then laneFault s1 n 8 p else s1

/-- R409: a driver that shows EGRESS in a test. -/
def noteShowing (s : State) (d showing : Nat) : State :=
  match s.safety.test with
  | some t => if showing = 2 then { s with safety := { s.safety with test := some { t with await := t.await.filter (· != d) } } } else s
  | none => s

/-- R242, kind 5: a driver's `RX_ERR` sums to at least 16 within a second. -/
def noteForward (s : State) (n p : Nat) : State := if laneRuns s n && 16 ≤ recentErrors s n p then laneFault s n 5 p else s

/-- The scenes (bits 0 SAFE, 1 EGRESS) whose load a list of undelivered records carries to its end. -/
def loading (rs : List TxRec) (scene : Nat) : Bool := rs.any fun r => r.type == 0x23 && byteAt r.payload 0 == scene
/-- Table 10-12: a scene whose last record was undelivered in `x` and no longer is, and of which no further load waits, matches at the driver. -/
def loadedScenes (x : Pos) (s : State) (n p : Nat) : State :=
  [1, 2].foldl (fun t scene =>
    let y := pos t n p
    let wait := y.scenesDue.testBit (scene - 1) || loading (y.sent.map (·.txr)) scene || loading ((lane t n).buffer.filter fun r => r.dest == p) scene
    if loading (x.sent.map (·.txr)) scene && !wait then
      let stale := (tabFind t.lanes.scenes (16 * n + p)).getD 0
      { t with lanes := { t.lanes with scenes := tabPut t.lanes.scenes (16 * n + p) (stale - (stale &&& scene)) } }
    else t) s

/-- An accepted STATUS. -/
def takeStatus (s : State) (n p : Nat) (b : Bytes) : State :=
  let v1 := (lane s n).version == 1
  let state := byteAt b 10
  let flags := fieldAt b 12 2
  let trip := fieldAt b 14 8
  let since := (pos s n p).statusAt
  let s1 := setVal s (kDrv n p 0xB) (.bytes (b ++ List.replicate (24 - b.length) 0))
  let x := pos s1 n p
  let noAck := state.testBit 5 && !v1
  let s2 := putPos s1 n p { x with
    statusAt := some s.clk, trip := trip
    rxErrs := if byteAt b 22 = 0 then x.rxErrs else (x.rxErrs.filter fun e => s.clk < e.1 + secs 1) ++ [(s.clk, byteAt b 22)]
    advSet := x.advSet && !noAck, advSent := x.advSent && !(noAck && x.advSet)
    stopOk := x.stopOk || ((lane s n).stopping && (state.testBit 2 || state % 4 != 0)) }
  let s3 := loadedScenes x (noteForward (if noAck then s2 else deliver s2 n p (fieldAt b 8 2)) n p) n p
  let s4 := noteOverTemp s3 n p (flags.testBit 2)
  let s5 := if flags.testBit 0 || flags.testBit 1 then queryFaults s4 n p else s4
  let s6 := (List.range 64).foldl (fun t g => if trip.testBit g then tripSet t g 1 else t) s5
  let s7 := noteShowing (noteIncomplete s6 n p (flags.testBit 4)) (16 * n + p) (state % 4)
  lumStatus s7 (16 * n + p) (fieldAt b 4 2) (fieldAt b 6 2) since

/-- STATUS (R219). -/
def execStatus (n : Fin 8) (b : Burst) (s : State) : Host.Outcome State Fault Refusal :=
  let r := receiveBurst s n 0x81 b
  .next (match r.2 with
    | some p => takeStatus r.1 n b.slot p
    | none => r.1)

/-! ### Replies -/

/-- R253, R262: what a CONFIG_DATA reply to the start work leads to. -/
def workReply (s : State) (n p addr : Nat) (data : Bytes) : State :=
  let d := 16 * n + p
  match (pos s n p).work with
  | .config =>
      if addr = 0x14 then
        let s1 := if fieldAt data 0 4 = crc32 (derivedConfig s d) then s
          else configWrite (configWrite (configWrite s n p 1 0x100 (scanRegisters s d)) n p 2 0x400 (limitTable s (domain s kCalibration) d))
            n p 2 0x800 (groupTable s (domain s kZoneMap) d)
        queueControl (putPos s1 n p { pos s1 n p with work := .scenes }) n p 0x21 (leBytes 2 0x18 ++ leBytes 2 8)
      else s
  | .scenes =>
      if addr = 0x18 then
        let stale := (if fieldAt data 0 4 = crc32 (sceneCodes s 1 d) then 0 else 1) + if fieldAt data 4 4 = crc32 (sceneCodes s 2 d) then 0 else 2
        let s0 := { s with lanes := { s.lanes with scenes := tabPut s.lanes.scenes d stale } }
        let s1 := if stale.testBit 0 then sceneLoad s0 n p 1 else s0
        let s2 := if stale.testBit 1 then sceneLoad s1 n p 2 else s1
        tryFirmware (putPos s2 n p { pos s2 n p with work := .ready }) n
      else s
  | _ => s

/-- CONFIG_DATA (R219, R253). -/
def execConfigData (n : Fin 8) (b : Burst) (s : State) : Host.Outcome State Fault Refusal :=
  let r := receiveBurst s n 0x82 b
  .next (match r.2, awaited r.1 n b.slot 0x21 with
    | some p, some q =>
        if p.take 2 = q.payload.take 2 then
          workReply (answered r.1 n b.slot) n b.slot (fieldAt p 0 2) (p.drop 2)
        else r.1
    | _, _ => r.1)

/-- The cells of a bitmap of a driver's block, from offset `first`. -/
def bitmapCells (base count first : Nat) (bm : Bytes) : List Nat :=
  (List.range (8 * bm.length)).filterMap fun i =>
    if first + i < count ∧ (byteAt bm (i / 8)).testBit (i % 8) then some (base + first + i) else none

/-- R259: the cell fault map takes a FAULT_MAP; source 8 is raised for each newly faulted cell. -/
def takeFaultMap (s : State) (n p : Nat) (b : Bytes) : State :=
  let base := nat s (kDrv n p 3)
  let count := nat s (kDrv n p 4)
  let first := fieldAt b 0 2
  let bytes := byteAt b 2
  let inPart := fun (c : Nat) => base + first ≤ c && c < base + min count (first + 8 * bytes)
  let open_ := bitmapCells base count first (slice b 4 bytes)
  let short := bitmapCells base count first (slice b (4 + bytes) bytes)
  let fresh := ((open_ ++ short).eraseDups).filter fun c => !s.lanes.opens.contains c && !s.lanes.shorts.contains c
  let s1 := { s with lanes := { s.lanes with
    opens := s.lanes.opens.filter (fun c => !inPart c) ++ open_, shorts := s.lanes.shorts.filter (fun c => !inPart c) ++ short } }
  let s2 := setNum s1 0x330003 ((s1.lanes.opens ++ s1.lanes.shorts).eraseDups.length : Nat)
  fresh.foldl (fun t c => raise t 8 0 c) (putPos s2 n p { pos s2 n p with query := (pos s2 n p).query.filter (· != first) })

/-- FAULT_MAP (R259). -/
def execFaultMap (n : Fin 8) (b : Burst) (s : State) : Host.Outcome State Fault Refusal :=
  let r := receiveBurst s n 0x83 b
  .next (match r.2, awaited r.1 n b.slot 0x22 with
    | some p, some q =>
        if p.take 3 = q.payload.take 3 then takeFaultMap (answered r.1 n b.slot) n b.slot p else r.1
    | _, _ => r.1)

/-- FIRMWARE_ACK (R266, R267). -/
def execFirmwareAck (n : Fin 8) (b : Burst) (s : State) : Host.Outcome State Fault Refusal :=
  let r := receiveBurst s n 0x85 b
  let p := b.slot.val
  .next (match r.2 with
    | none => r.1
    | some a =>
        if (awaited r.1 n p 0x30).isSome then answered r.1 n p
        else if (awaited r.1 n p 0x31).isSome then
          let s1 := answered r.1 n p
          let image := nat s1 (kDrv n p 9)
          let result := byteAt a 2
          if result = 3 then setNum (putPos s1 n p { pos s1 n p with work := .done }) (kDrv n p 0xA) 3
          else if result = 1 ∨ result = 2 then
            match driverImage s1 image with
            | some img =>
                if nat s1 (kDrv n p 0xD) < 3 then
                  let start := if result = 1 then fieldAt a 4 4 else 0
                  let s2 := (fwBlocks image img (img.length / 1016 + 1) start).foldl (fun t x => queueControl t n p 0x30 x) s1
                  queueControl (bump s2 (kDrv n p 0xD)) n p 0x31 (fwStart image img)
                else fwFailed s1 n p
            | none => fwFailed s1 n p
          else s1
        else r.1)

/-! ### Discovery (R254, R255) -/

/-- Whether a driver's largest geometry covers an entry's `GEOMETRY`. -/
def covers (s : State) (n p : Nat) (reply : Bytes) : Bool :=
  let g := nat s (kDrv n p 5)
  g / 256 ≤ byteAt reply 10 && g % 256 ≤ byteAt reply 11

/-- `UNKNOWN_DRIVERS` takes a serial of a lane; at most 113 entries. -/
def addUnknown (s : State) (n : Nat) (reply : Bytes) : State :=
  let b := (reg s (kScan 6)).toBytes
  let e := BitVec.ofNat 8 n :: reply.take 8
  if b.length < 113 * 9 ∧ !((List.range (b.length / 9)).any fun i => slice b (9 * i) 9 == e) then setVal s (kScan 6) (.bytes (b ++ e)) else s

/-- A reply from the driver that the table names for its position is accepted. -/
def acceptDriver (s : State) (n p : Nat) (reply : Bytes) : State :=
  let s0 := if nat s (kDrv n p 0xA) = 0 then setNum s (kDrv n p 0xA) 1 else s
  let s1 := putPos s0 n p { pos s0 n p with fwVersion := fieldAt reply 12 2 }
  startWork (if covers s1 n p reply then s1 else addUnknown s1 n reply) n p

/-- Whether a serial is in some driver-table entry. -/
def knownSerial (s : State) (serial : Nat) : Bool := (List.range 128).any fun d => nat s (kDriver d 1) == serial

/-- An accepted DISCOVER_REPLY: to a search, to PRESENT, or after ASSIGN. -/
def takeReply (s : State) (n p : Nat) (b : Bytes) : State :=
  let l := lane s n
  let serial := fieldAt b 0 8
  if searchSlot s n = some p then
    putLane s n { l with disc := l.disc.map fun d => { d with reply := some b } }
  else
    let s1 := putLane s n { l with disc := l.disc.map fun d => if d.wait = 0 then d else { d with answered := p :: d.answered } }
    if inTable s1 n p ∧ entrySerial s1 n p = serial then acceptDriver s1 n p b
    else
      let s2 := conflict s1 n p (knownSerial s1 serial)
      if (tablePositions s2 n).any fun q => entrySerial s2 n q == serial then s2 else addUnknown s2 n b

/-- DISCOVER_REPLY (R255). -/
def execDiscoverReply (n : Fin 8) (b : Burst) (s : State) : Host.Outcome State Fault Refusal :=
  let r := receiveBurst s n 0x84 b
  .next (match r.2 with
    | some p => takeReply r.1 n b.slot p
    | none => r.1)

/-- The next SEARCH of a discovery, or its end: the serials found are assigned (R255, steps 2 and 3). -/
def searchNext (s : State) (n : Nat) (d : Disc) : State :=
  match d.stack with
  | (prefix_, plen) :: rest =>
      queueState (putLane s n { lane s n with disc := some { d with search := some (prefix_, plen), stack := rest, reply := none, collided := false } })
        n 0x40 0xFF ([1, BitVec.ofNat 8 d.slot, BitVec.ofNat 8 plen, 0] ++ leBytes 8 prefix_)
  | [] =>
      d.found.foldl (fun t r =>
        match (tablePositions t n).find? fun p => entrySerial t n p == fieldAt r 0 8 && covers t n p r with
        | some p => queueState (putPos t n p { pos t n p with work := .idle, advSet := false, advSent := false, advance := 0, errSum := 0, errN := 0 })
            n 0x40 0xFF ([2, BitVec.ofNat 8 p, 0, 0] ++ r.take 8)
        | none => addUnknown t n r) (putLane s n { lane s n with disc := none })

/-- PRESENT is over: positions that did not answer are cleared, which confirms an unassignment by their silence (R254), and the search begins in the lowest
slot that no present driver owns. -/
def presentEnds (s : State) (n : Nat) (d : Disc) : State :=
  let s0 := (tablePositions s n).foldl (fun t p =>
    if d.answered.contains p || nat t (kDrv n p 0xA) == 0 then t else setNum (putPos t n p { pos t n p with work := .idle }) (kDrv n p 0xA) 0) s
  let s1 := (presentPositions s0 n).foldl (fun t p => if d.answered.contains p then t else setBit t (kLane n 9) p false) s0
  match (List.range 16).find? fun p => !present s1 n p with
  | some slot => searchNext s1 n { d with wait := 0, slot := slot, stack := [(0, 0)] }
  | none => searchNext s1 n { d with wait := 0 }

/-- SEARCH_WATCH_END (R255): four fields of a search have passed. -/
def execSearchWatchEnd (n : Fin 8) (s : State) : Host.Outcome State Fault Refusal :=
  .next (match (lane s n).disc with
    | none => s
    | some d => match d.search with
      | none => s
      | some (prefix_, plen) =>
          let d1 := { d with search := none }
          match d.reply with
          | some r => searchNext s n { d1 with found := d1.found ++ [r] }
          | none =>
              if d.collided ∧ plen < 64 then
                searchNext s n { d1 with stack := (prefix_, plen + 1) :: (prefix_ + 2 ^ (63 - plen), plen + 1) :: d1.stack }
              else searchNext s n d1)

/-- DISCOVER_LANE's effect (R255). -/
def discoverLane (s : State) (n : Nat) : State :=
  queueState (dropUnknown (putLane s n { lane s n with disc := some { wait := 5 } }) n) n 0x40 0xFF (List.replicate 12 0)

/-! ### Changes on a running lane (R253, R262) -/

/-- The drivers of running lanes whose derived tables a change of the calibration domain or zone map alters. -/
def markConfig (s : State) (oldCal oldMap : Bytes) : State :=
  (List.range 128).foldl (fun t d =>
    let n := d / 16
    if laneRuns t n ∧ inTable t n (d % 16) then
      let lim := limitTable t oldCal d != limitTable t (domain t kCalibration) d
      let grp := groupTable t oldMap d != groupTable t (domain t kZoneMap) d
      let x := pos t n (d % 16)
      if lim || grp then putPos t n (d % 16) { x with cfgDue := x.cfgDue ||| (if lim then 1 else 0) ||| (if grp then 2 else 0) } else t
    else t) s

/-- The drivers of the table whose stored scene changed: its CRC no longer matches (Table 10-12), and on a running lane the scene is sent (R262). -/
def markScenes (s : State) (scene : Nat) (old : Bytes) : State :=
  (List.range 128).foldl (fun t d =>
    let n := d / 16
    if inTable t n (d % 16) ∧ slice old (2048 * d) 2048 ≠ slice (domain t (0x340000 + scene)) (2048 * d) 2048 then
      let t1 := { t with lanes := { t.lanes with scenes := tabPut t.lanes.scenes d ((tabFind t.lanes.scenes d).getD 0 ||| scene) } }
      if laneRuns t n then putPos t1 n (d % 16) { pos t1 n (d % 16) with scenesDue := (pos t1 n (d % 16)).scenesDue ||| scene } else t1
    else t) s

/-- DRIVER_CONFIG_UPDATE (R253): the changed tables go to a driver of a running lane. -/
def execDriverConfigUpdate (n : Fin 8) (p : Fin 16) (s : State) : Host.Outcome State Fault Refusal :=
  let x := pos s n p
  let d := 16 * n.val + p.val
  let s1 := putPos s n p { x with cfgDue := 0 }
  let s2 := if x.cfgDue.testBit 0 then configWrite s1 n p 2 0x400 (limitTable s (domain s kCalibration) d) else s1
  .next (if x.cfgDue.testBit 1 then configWrite s2 n p 2 0x800 (groupTable s (domain s kZoneMap) d) else s2)

/-- STORED_SCENE_UPDATE (R262): the changed scenes go to a driver of a running lane. -/
def execStoredSceneUpdate (n : Fin 8) (p : Fin 16) (s : State) : Host.Outcome State Fault Refusal :=
  let x := pos s n p
  let s1 := putPos s n p { x with scenesDue := 0 }
  let s2 := if x.scenesDue.testBit 0 then sceneLoad s1 n p 1 else s1
  .next (if x.scenesDue.testBit 1 then sceneLoad s2 n p 2 else s2)

/-- `SCENES_PENDING`: the drivers of the table whose scene CRCs are known not to match. -/
def scenesPending (s : State) : Nat :=
  ((List.range 128).filter fun d => inTable s (d / 16) (d % 16) && (tabFind s.lanes.scenes d).getD 0 != 0).length

/-! ### Cell faults (Table 10-10) -/

/-- The driver that owns a cell. -/
def cellDriver (s : State) (c : Nat) : Option Nat :=
  (List.range 128).find? fun d => num s (kDriver d 1) != 0 && nat s (kDriver d 3) ≤ c && c < nat s (kDriver d 3) + nat s (kDriver d 4)

/-- The luminaire of the driver that owns a cell (R17). -/
def cellLuminaire (s : State) (c : Nat) : Option Nat := (cellDriver s c).map fun d => nat s (kDriver d 2)

/-- FAULT_CELL_CLEAR's effect: FAULT_CLEAR to the owning drivers, and the map bits cleared. -/
def faultCellClear (s : State) (c : Nat) : State :=
  let ds := if c = 0xFFFF then (List.range 128).filter fun d => num s (kDriver d 1) != 0 else (cellDriver s c).toList
  let s1 := ds.foldl (fun t d =>
    if laneState t (d / 16) = 0 then t
    else queueControl t (d / 16) (d % 16) 0x20 (leBytes 2 0x24 ++ leBytes 2 (if c = 0xFFFF then c else c - nat t (kDriver d 3)))) s
  let s2 := { s1 with lanes := { s1.lanes with
    opens := if c = 0xFFFF then [] else s1.lanes.opens.filter (· != c), shorts := if c = 0xFFFF then [] else s1.lanes.shorts.filter (· != c) } }
  setNum s2 0x330003 ((s2.lanes.opens ++ s2.lanes.shorts).eraseDups.length : Nat)

/-- A fault bitmap of 8,192 bytes. -/
def faultBitmap (cells : List Nat) : Bytes :=
  (List.range 8192).map fun b => BitVec.ofNat 8 (((List.range 8).filter fun j => cells.contains (8 * b + j)).foldl (fun x j => x + 2 ^ j) 0)

/-! ### The field start of a lane (R212) -/

/-- R409: the drivers that did not report SHOWING EGRESS within 4 fields of the effect field. -/
def testField (s : State) (n k : Nat) : State :=
  match s.safety.test with
  | none => s
  | some t => match tabFind t.effects n with
    | none => s
    | some e =>
        if reached (some (e + 5)) k then
          let bad := t.await.filter fun d => d / 16 == n
          { s with safety := { s.safety with test := some { t with
            effects := tabDrop t.effects n, failed := t.failed ++ bad, await := t.await.filter fun d => d / 16 != n } } }
        else s

/-- The wait for answers to PRESENT, by fields. -/
def discField (s : State) (n : Nat) : State :=
  match (lane s n).disc with
  | some d =>
      if d.wait = 1 then presentEnds s n { d with wait := 0 }
      else if d.wait = 0 then s
      else putLane s n { lane s n with disc := some { d with wait := d.wait - 1 } }
  | none => s

/-- R432: after two FIELD_MARKs of a new active module, every present position gets its RETURN_SCHEDULE, and the checks of R253 and R262 run. -/
def roleMark (s : State) (n : Nat) : State :=
  match tabFind s.pair.marks n with
  | none => s
  | some m =>
      if 2 ≤ m then { s with pair := { s.pair with marks := tabPut s.pair.marks n (m - 1) } }
      else
        let s1 := { s with pair := { s.pair with marks := tabDrop s.pair.marks n } }
        (presentPositions s1 n).foldl (fun t p =>
          startWork (returnSchedule (putPos t n p { pos t n p with advSent := true }) n p (pos t n p).advance) n p) s1

/-- A field of lane `n` starts: its number is counted, also while the transmitter is off (R241); the data of a new tick enter (R233). -/
def beginField (s : State) (n k : Nat) : State :=
  let l := lane s n
  putLane s n { l with
    begun := true, next := k + 1, markAt := s.clk, used := 0
    rd := l.rd != ((fieldUsed s n - l.used) % 2 == 1)
    inLast := lastOfTick s k, buffer := l.buffer ++ l.due, due := []
    fields := l.fields + 1, stopFields := if l.stopping then l.stopFields + 1 else 0 }

/-- FIELD_MARK (R212): a field starts, whose mark is captured (R329) unless the clock-domain queue was full (R56); priority records that are due follow, then
COMMIT in the last field of the tick, and STOP of a stop. Before a transmitter has sent IDLE for 100 µs it sends no FIELD_MARK (R238, R241). -/
def execFieldMark (field : FieldStart) (s : State) : Host.Outcome State Fault Refusal :=
  let n := field.lane
  let l := lane s n
  let k := if l.begun then l.next else fieldHere s l.phase
  .next (if laneState s n = 0 ∨ (!l.begun ∧ (!l.marks ∨ s.clk < l.marksFrom)) then s
    else if !l.marks ∨ s.clk < l.marksFrom then beginField s n k
    else
      let s1 := beginField (if field.queueFull then raise s 56 0 0 else capture s (4 + n)) n k
      let s2 := sendChars s1 n (.k285 :: (fieldMarkBytes s l k).map .d)
      let s3 := fieldInjections (l.prio.foldl (fun t r => transmit t n r true false) (putLane s2 n { lane s2 n with prio := [] })) n k
      let s4 := stopRecord (if lastOfTick s k then commit s3 n k else s3) n
      roleMark (discField (testField s4 n k) n) n)

/-! ### Step 7 (Table 3-4) -/

/-- Every enabled lane is synchronised; in the normal way, every driver that was discovered and is not missing runs current firmware, or has failed to (R267), with its
stored scenes loaded. -/
def lanesUp (s : State) : Bool :=
  (List.range 8).all fun n => !flag s (kLane n 3) || (laneRuns s n && (storedOnly s || (tablePositions s n).all fun p =>
    nat s (kDrv n p 0xA) == 0 || missing s n p || ((pos s n p).work == .done && (tabFind s.lanes.scenes (16 * n + p)).getD 0 == 0)))

/-- R73: a lane that did not synchronise stays at high impedance. -/
def dropLane (s : State) (n : Nat) : State :=
  if laneState s n = 1 then laneStatusBits (setNum (setNum (putLane s n (laneRest (lane s n))) (kLane n 2) 0) (kLane n 9) 0) n else s

/-! ### Dictionary conditions of lanes and drivers (R15, R16, R26, R237, R244) -/

/-- Whether a register value reads otherwise: the table as a write would leave it. -/
def withKey (s : State) (k : Key) (v : Int) : State := { s with regs := tabPut s.regs k (.num v) }

/-- R15 for the table: geometry, block within the cells, no overlap. -/
def blocksOk (s : State) : Bool :=
  let used := (List.range 128).filter fun d => num s (kDriver d 1) != 0
  used.all (fun d =>
    let g := nat s (kDriver d 5)
    1 ≤ nat s (kDriver d 4) && nat s (kDriver d 4) ≤ (g / 256) * (g % 256) && nat s (kDriver d 3) + nat s (kDriver d 4) ≤ 65536)
    && used.all fun a => used.all fun b =>
      a == b || nat s (kDriver a 3) + nat s (kDriver a 4) ≤ nat s (kDriver b 3) || nat s (kDriver b 3) + nat s (kDriver b 4) ≤ nat s (kDriver a 3)

/-- R16 for the table: a used driver belongs to a luminaire; at most four drivers a luminaire, on one lane or within one lock group. -/
def luminairesOk (s : State) : Bool :=
  ((List.range 128).all fun d => num s (kDriver d 1) == 0 || nat s (kDriver d 2) < 128) &&
  (List.range 128).all fun l =>
    let ds := (List.range 128).filter fun d => num s (kDriver d 1) != 0 && nat s (kDriver d 2) == l
    let lanes := (ds.map (· / 16)).eraseDups
    let groups := (lanes.map fun n => nat s (kLane n 4)).eraseDups
    ds.length ≤ 4 && (lanes.length ≤ 1 || (groups.length == 1 && groups != [0xFF]))

/-- Check 5 beyond the tables (R14 to R16, R26, R244, Table 10-10), on the state as the whole request would leave it. -/
def rangeLanes (s : State) (idx sub : Nat) (v : Int) : Bool :=
  let t := withKey s (idx * 256 + sub) v
  if 0x3100 ≤ idx ∧ idx < 0x3180 then
    let g := v.toNat
    (if sub = 5 then 1 ≤ g / 256 && g / 256 ≤ 64 && [1, 2, 4, 8, 16].contains (g % 256)
     else if sub = 7 then
       (g / 256 % 32 ≤ 20 && 1 ≤ g / 256 % 32) && (g % 32 ≤ 20 && 1 ≤ g % 32)
     else if sub = 0xE then 20 ≤ g / 256 && g / 256 ≤ 200 && 10 ≤ g % 256 && g % 256 ≤ 200
     else if sub = 1 then v == 0 || (List.range 128).all fun d => d == idx - 0x3100 || num s (kDriver d 1) != v
     else true)
      && (!([1, 2, 3, 4, 5].contains sub) || (blocksOk t && luminairesOk t))
  else if idx = 0x3200 ∧ (sub = 1 ∨ sub = 2) then nat t 0x320001 % nat t 0x320002 == 0
  else if idx = 0x3300 ∧ sub = 2 then v == 0xFFFF || (cellDriver s v.toNat).isSome
  else true

/-- Check 6 (R26, R236, R237, R244, Table 10-3). -/
def condLanes (s : State) (idx sub : Nat) (v : Int) : Bool :=
  let n := idx - 0x3000
  if 0x3000 ≤ idx ∧ idx < 0x3008 then
    if sub = 1 then (v != 1 && laneState s n == 0 && rateConflict s n)
    else if 4 ≤ sub ∧ sub ≤ 8 then
      laneState s n != 0
        || (sub == 4 && (!luminairesOk (withKey s (kLane n 4) v) || (v < 4 && nat s (kLane n 5) != 0)))
        || (sub == 5 && v != 0 && nat s (kLane n 4) < 4)
        || (sub == 7 && v == 0 && nat s (kLane n 8) == 1)
        || (sub == 8 && v == 1 && !flag s (kLane n 7))
    else false
  else if 0x3100 ≤ idx ∧ idx < 0x3180 then (sub ≤ 9 || sub == 0xE) && laneState s ((idx - 0x3100) / 16) != 0
  else if idx = 0x3200 ∧ sub ≤ 2 then (List.range 8).any fun m => laneState s m != 0
  else if idx = 0x3200 ∧ sub = 7 then laneState s v.toNat != 2
  else false

/-- A stored-scene content (R262). -/
def storedScenesOk (s : State) (b : Bytes) : Bool :=
  let cal := domain s kCalibration
  b.length == 262144 && (List.range 128).all fun d =>
    let count := if num s (kDriver d 1) = 0 then 0 else nat s (kDriver d 4)
    (records 2 (slice b (2048 * d) 2048)).zip (List.range 1024) |>.all fun p =>
      let c := fieldAt p.1 0 2
      if p.2 < count then c ≤ byteAt cal (32 * (nat s (kDriver d 3) + p.2) + 8) * 257 else c == 0

/-- R236: no cell of a version-1 driver is in a safety group of a zone map. -/
def versionOk (s : State) (b : Bytes) : Bool :=
  (records 32 b).all fun r => zCount r == 0 || zGroup r == 0xFF || (zCells r).all fun c =>
    match cellDriver s c with
    | some d => nat s (kLane (d / 16) 8) != 1
    | none => true

/-- The commands of chapters 09 and 10. -/
def commandLanes (s : State) (idx sub : Nat) (v : Int) : State :=
  let n := idx - 0x3000
  if idx < 0x3008 then
    if sub = 1 then (if v = 1 then stopLane s n else if v = 2 then laneStart s n else laneRestart s n)
    else clearLaneStats s n
  else if idx = 0x3200 then discoverLane s v.toNat
  else faultCellClear s v.toNat

/-- Live values of chapters 09 and 10. -/
def liveLanes_ (s : State) (idx sub : Nat) : Option Val :=
  if 0x3000 ≤ idx ∧ idx < 0x3008 ∧ sub = 0xA then
    let n := idx - 0x3000
    let x := nat s (kLane n 0xA)
    some (.num (x - x % 2 + (if nat s (kFault n 7) = 1 then 1 else 0) : Nat))
  else if 0x3100 ≤ idx ∧ idx < 0x3180 ∧ sub = 0xC then
    let d := idx - 0x3100
    some (.num (match (pos s (d / 16) (d % 16)).statusAt with
      | some t => (min 0xFFFF ((s.clk - t) / msec 1) : Nat)
      | none => 0xFFFF))
  else if idx = 0x3300 ∧ sub = 1 then some (.bytes (faultBitmap s.lanes.opens ++ faultBitmap s.lanes.shorts))
  else if idx = 0x3400 ∧ sub = 3 then some (.num (scenesPending s))
  else none

end Sys2Proof.Machine
end

