-- ==== Sys2Proof/Machine/EngineCode.lean ====
section
/-!
DEFINITION. The encodings of the kernel engines' instructions (R187, R188, Tables 8-1 to 8-9): which words are legal, and which code images
are, as PROGRAM_SET checks them.
-/

namespace Sys2Proof.Machine.EngineCode

/-- Bits hi to lo of a word. -/
def bits (w hi lo : Nat) : Nat := w / 2 ^ lo % 2 ^ (hi + 1 - lo)

/-- The fields of format T (Table 8-1). -/
def fD (w : Nat) : Nat := bits w 25 22
/-- A. -/
def fA (w : Nat) : Nat := bits w 21 18
/-- B. -/
def fB (w : Nat) : Nat := bits w 17 14
/-- PG. -/
def fPG (w : Nat) : Nat := bits w 13 11
/-- PZ. -/
def fPZ (w : Nat) : Nat := bits w 10 10
/-- SH. -/
def fSH (w : Nat) : Nat := bits w 9 5
/-- FN. -/
def fFN (w : Nat) : Nat := bits w 4 0

/-- A predicate destination: P1 to P7. -/
def isPredDest (x : Nat) : Bool := 1 ≤ x && x ≤ 7

/-- Major 0x18 (Table 8-5): the SH range and zero fields of each FN. -/
def legalVector (w : Nat) : Bool :=
  let f := fFN w
  if f = 0x1F then false
  else if 0x0D ≤ f ∧ f ≤ 0x10 then fSH w ≤ 15 && fB w == 0
  else if 0x12 ≤ f ∧ f ≤ 0x14 then true
  else if 0x1A ≤ f ∧ f ≤ 0x1C then fB w == 0 && fSH w == 0
  else if f = 0x1E then fPZ w == 0 && fSH w == 0
  else fSH w == 0

/-- The FN values of Table 8-5 that major 0x19 accepts. -/
def timesS (f : Nat) : Bool := !((0x0D ≤ f && f ≤ 0x10) || (0x1A ≤ f && f ≤ 0x1C) || f == 0x1F)

/-- Major 0x1B (Table 8-6). -/
def legalLane (w : Nat) : Bool :=
  let f := fFN w
  if f ≤ 2 then fSH w ≤ 7 && fPG w == 0 && fPZ w == 0 && fB w == 0
  else if f = 3 then fB w == 0 && fSH w == 0
  else if f = 4 then fSH w == 0
  else if f ≤ 6 then fPZ w == 0 && fB w == 0 && fSH w == 0
  else false

/-- Major 0x1C (Table 8-7). -/
def legalAcc (w : Nat) : Bool :=
  let f := fFN w
  if f ≤ 6 then fD w ≤ 3 && fSH w == 0
  else if f ≤ 8 then fD w ≤ 3 && fSH w ≤ 23 && fB w == 0
  else if f ≤ 0xB then fA w ≤ 3 && fB w == 0
  else false

/-- Major 0x1F (R198). -/
def legalPred (w : Nat) : Bool :=
  let f := fFN w
  fPG w == 0 && fPZ w == 0 && fSH w == 0 &&
    (if f ≤ 3 then isPredDest (fD w) && fA w ≤ 7 && fB w ≤ 7
     else if f = 4 then isPredDest (fD w) && fA w ≤ 7 && fB w == 0
     else if f ≤ 6 then fA w ≤ 7
     else f == 7 && isPredDest (fD w))

/-- R188: whether a word is a legal encoding, but for what depends on its place in the code. -/
def legalWord (w : Nat) : Bool :=
  let op := bits w 31 26
  let rest := bits w 25 0
  let quiet := fPG w == 0 && fPZ w == 0 && fSH w == 0
  if op = 0x01 then fFN w ≤ 0x13 && quiet && (fFN w != 0x13 || fB w == 0)
  else if op = 0x06 then bits w 17 7 == 0 && bits w 6 5 != 3
  else if 0x02 ≤ op ∧ op ≤ 0x11 then true
  else if op = 0x12 then fD w == 0 && fB w == 0 && quiet && fFN w == 0
  else if op = 0x13 then
    bits w 11 0 != 0 && (bits w 24 24 == 1 || (bits w 23 22 == 0 && bits w 17 12 == 0))
  else if op = 0x18 then legalVector w
  else if op = 0x19 then legalVector w && timesS (fFN w)
  else if op = 0x1A then true
  else if op = 0x1B then legalLane w
  else if op = 0x1C then legalAcc w
  else if op = 0x1D ∨ op = 0x1E then fFN w ≤ 5 && isPredDest (fD w) && fSH w == 0
  else if op = 0x1F then legalPred w
  else if op = 0x20 then fFN w ≤ 3 && fB w == 0 && fSH w == 0
  else if op = 0x21 then (fFN w == 0 && fSH w ≤ 15) || (fFN w == 1 && 1 ≤ fSH w && fSH w ≤ 15)
  else if 0x22 ≤ op ∧ op ≤ 0x24 then bits w 17 16 != 3
  else if op = 0x25 ∨ op = 0x26 then true
  else if op = 0x27 then fFN w ≤ 1 && fSH w ≤ 5 && (fFN w == 0 || fPZ w == 0)
  else if op = 0x28 then fFN w ≤ 1 && fB w == 0 && quiet
  else if op = 0x29 then fD w == 0 && quiet && fFN w == 0
  else if op = 0x2A ∨ op = 0x2E then rest == 0
  else if op = 0x2B ∨ op = 0x2C then fD w == 0 && bits w 17 0 == 0
  else if op = 0x2D then fFN w ≤ 5 && fB w == 0 && quiet && (fFN w != 1 || (fD w == 0 && fA w == 0))
  else false

/-- A field of `n` bits read as two's complement. -/
def sext (n x : Nat) : Int := if x < 2 ^ (n - 1) then (x : Int) else (x : Int) - 2 ^ n

/-- The offset of a branch, `jmp` or `jal`. -/
def jumpOffset (w : Nat) : Option Int :=
  let op := bits w 31 26
  if 0x0A ≤ op ∧ op ≤ 0x0F then some (sext 18 (bits w 17 0))
  else if op = 0x10 then some (sext 26 (bits w 25 0))
  else if op = 0x11 then some (sext 22 (bits w 21 0))
  else none

/-- Whether an instruction may not end a loop body (R188). -/
def endsBadly (w : Nat) : Bool :=
  let op := bits w 31 26
  (0x0A ≤ op && op ≤ 0x13) || op == 0x2A

/-- R188: what of an encoding depends on its place: targets and loop bodies inside the code image. -/
def placeOk (ws : List Nat) (i w : Nat) : Bool :=
  (match jumpOffset w with
    | some o => 0 ≤ (i : Int) + o && (i : Int) + o < (ws.length : Int)
    | none => true)
  && (bits w 31 26 != 0x13 ||
    (i + bits w 11 0 < ws.length && !endsBadly (ws.getD (i + bits w 11 0) 0)))

/-- R188: whether every encoding of a code image is legal. -/
def legalCode (ws : List Nat) : Bool :=
  (List.range ws.length).all fun i => legalWord (ws.getD i 0) && placeOk ws i (ws.getD i 0)

end Sys2Proof.Machine.EngineCode
end

