-- ==== Sys2Proof/Machine/Inputs.lean ====
section
/-!
DEFINITION. The engine inputs in cell memory and how a dictionary change reaches them (R167, R176, R177): zone records, cell table, models, settings, area
table; the dictionary rules of chapters 06 and 07.
-/

namespace Sys2Proof.Machine

open Colour (locusTable exp2Table)

/-- `AREA_TABLE` (Table 6-16). -/
abbrev kAreas : Key := 0x481001
/-- The register `sub` of FADE_LIMITS (Table 6-15). -/
def kFade (sub : Nat) : Key := 0x4800 * 256 + sub
/-- The register `sub` of FOOTFALL_DAYLIGHT (Table 6-16). -/
def kFoot (sub : Nat) : Key := 0x4810 * 256 + sub
/-- The model of primary type `t` (R160). -/
def kModel (t : Nat) : Key := (0x4500 + t) * 256 + 1

/-! ### Contents in cell memory (Table 7-3) -/

/-- The settings: the sub-indices of 0x4800 and 0x4810 that hold a value, in sub-index order, each in its type's size. -/
def loadSettings (s : State) : State :=
  let two := fun (k : Key) => leBytes 2 (num s k % 65536).toNat
  store s aSettings ([2, 3, 4, 5, 6, 7].flatMap (fun i => two (kFade i)) ++ leBytes 4 (nat s kTargetSkips)
    ++ [2, 3, 4, 5, 6, 7, 8].flatMap fun i => two (kFoot i))

/-- R167: every cell that belongs to no zone holds code 0 in both halves. -/
def clearLoose (s : State) (old : List Nat) : State :=
  let kept := s.zones.present.flatMap fun z => zCells (zoneRec s z)
  (old.filter fun c => !kept.contains c).foldl (fun t c => wr (wr t (aCode false c) 2 0) (aCode true c) 2 0) s

/-- The active zone map comes into cell memory: zone records, the present zones, code 0 for cells that left their zones, a new partition (R171);
every present zone restarts at its initial point (R474). -/
def loadZoneMap (s : State) : State :=
  let old := s.zones.present.flatMap fun z => zCells (zoneRec s z)
  let b := domain s kZoneMap
  let s1 := store s (aZone 0) (b ++ List.replicate (524288 - b.length) 0)
  let present := ((records 32 b).zip (List.range 16384)).filterMap fun p => if zCount p.1 = 0 then none else some p.2
  let s2 := { s1 with zones := { s1.zones with present := present, points := [] } }
  repartition (depFill (clearLoose s2 old))

/-- One cell's entry of the cell table (Table 7-4): the first nine bytes of its calibration record; the rest, `D` among it, is the module's own. -/
def cellEntry (rec16 : Bytes × Bytes) : Bytes := rec16.1.take 9 ++ rec16.2.drop 9

/-- The active calibration content comes into the cell table. -/
def loadCells (s : State) : State :=
  let b := domain s kCalibration
  if b = [] then s
  else store s (aCell 0) (((records 32 b).zip (records 16 (memDump s.mem (aCell 0) 1048576))).flatMap cellEntry)

/-- A primary model comes into cell memory. -/
def loadModel (s : State) (t : Nat) : State :=
  let m := (reg s (kModel t)).toBytes
  store s (aModel t) (m ++ List.replicate (64 - m.length) 0)

/-- The area table in force. -/
def areaContent (s : State) : Bytes := if domain s kAreas = [] then areaDefault else domain s kAreas

/-- The active area table comes into cell memory. -/
def loadAreas (s : State) : State := store s (aAreaRec 0) (areaContent s)

/-- Every engine sees INPUTS_CHANGED at its next tick (Table 7-5). -/
def markInputs (s : State) : State :=
  (List.range 16).foldl (fun t k => putEngine t k { engine t k with inputsChanged := true }) s

/-- Everything the engines read, as step 13 leaves it: tables, settings, models, zone records, cell table, area table. -/
def loadInputs (s : State) : State :=
  let s1 := store (store s aLocus locusTable) aExp2 exp2Table
  let s2 := (List.range 16).foldl loadModel (loadSettings s1)
  let s3 := loadCells (loadZoneMap (loadAreas s2))
  store s3 aFaultMap (faultBitmap (s3.lanes.opens ++ s3.lanes.shorts))

/-- BURN_RESET (R148): the accumulators of the luminaire's cells become 0. -/
def burnReset (s : State) (l : Nat) : State :=
  (List.range 128).foldl (fun t d =>
    if num s (kDriver d 1) ≠ 0 ∧ nat s (kDriver d 2) = l then
      store t (aBurn (nat s (kDriver d 3))) (List.replicate (8 * nat s (kDriver d 4)) 0)
    else t) s

/-! ### Changes (R177) -/

/-- Whether a sub-index is an engine input, whose change is applied in an input window (R176); a repartition changes one (R171). -/
def isInput (k : Key) : Bool :=
  let idx := k / 256
  k == kZoneMap || (0x4100 ≤ idx && idx ≤ 0x41FF) || (idx == 0x4300 && 2 ≤ k % 256 && k % 256 ≤ 4) || k == kCalibration
    || (0x4500 ≤ idx && idx ≤ 0x450F) || (idx == 0x4800 && ((1 ≤ k % 256 && k % 256 ≤ 7) || k % 256 == 0xA)) || idx == 0x4810
    || k == 0x330002 || k == kProgramCtl 5

/-- The group commands of Table 6-5. -/
def commandGroups (s : State) (sub : Nat) (v : Bytes) : State :=
  if sub = 2 then recallScene s (fieldAt v 0 2) (byteAt v 2) (byteAt v 3) (fieldAt v 4 2)
  else if sub = 3 then groupTarget s (fieldAt v 0 2) (byteAt v 2) (slice v 4 16)
  else groupRelease s (fieldAt v 0 2) (byteAt v 2)

/-- One sub-index that is an engine input takes its new value in cell memory. -/
def applyItem (s : State) (i : Key × Val) : State :=
  let idx := i.1 / 256
  let sub := i.1 % 256
  if 0x4100 ≤ idx ∧ idx ≤ 0x41FF then setLayer s ((idx - 0x4100) * 64 + (sub - 1)) 3 i.2.toBytes
  else if idx = 0x4300 then commandGroups s sub i.2.toBytes
  else if i.1 = 0x330002 then faultCellClear s i.2.toInt.toNat
  else if i.1 = kProgramCtl 5 then repartition s
  else if i.1 = kFade 1 then setSkips s 0
  else if i.1 = kFade 0xA then burnReset s i.2.toInt.toNat
  else if 0x4500 ≤ idx ∧ idx ≤ 0x450F then loadModel (setVal s i.1 i.2) (idx - 0x4500)
  else if idx = 0x4800 ∨ idx = 0x4810 then loadSettings (setVal s i.1 i.2)
  else setVal s i.1 i.2

/-- A DOMAIN that is an engine input takes its new content in cell memory; the safety core is handed its copy (R391), the drivers' derived tables
are marked (R253). -/
def applyDomain (s : State) (k : Key) (old : Bytes) : State :=
  if k = kZoneMap then markConfig (handCopy (markInputs (loadZoneMap s)) 1) (domain s kCalibration) old
  else if k = kCalibration then markConfig (handCopy (markInputs (loadCells s)) 0) old (domain s kZoneMap)
  else if k = kAreas then loadAreas s
  else s

/-! ### Dictionary rules of chapters 06 and 07 -/

/-- A group of a command or record (R130). -/
def groupOk (g : Nat) : Bool := g ≤ 1023 || g == 0xFFFF
/-- A layer that a command may name (Table 6-5). -/
def layerOk (n : Nat) : Bool := n == 0 || n == 3 || n == 4

/-- Check 5 beyond the tables (R127, R130, R143, R160), on the state as the whole request would leave it. -/
def rangeColour (s : State) (idx sub : Nat) (v : Bytes) : Bool :=
  if 0x4100 ≤ idx ∧ idx ≤ 0x41FF then targetOk v && targetFits (zCount (zoneRec s ((idx - 0x4100) * 64 + (sub - 1)))) v
  else if idx = 0x4300 ∧ sub = 2 then groupOk (fieldAt v 0 2) && layerOk (byteAt v 3)
  else if idx = 0x4300 ∧ sub = 3 then groupOk (fieldAt v 0 2) && layerOk (byteAt v 2) && targetOk (slice v 4 16)
  else if idx = 0x4300 ∧ sub = 4 then groupOk (fieldAt v 0 2) && layerOk (byteAt v 2)
  else if 0x4500 ≤ idx ∧ idx ≤ 0x450F then modelOk v
  else if idx = 0x4800 ∧ (sub = 3 ∨ sub = 4) then num s (kFade 3) < num s (kFade 4)
  else true

/-- Check 6 (R128, Table 7-12): true when the state forbids the access. -/
def condColour (s : State) (idx sub : Nat) (v : Int) : Bool :=
  if 0x4100 ≤ idx ∧ idx ≤ 0x41FF then zCount (zoneRec s ((idx - 0x4100) * 64 + (sub - 1))) == 0
  else if idx = 0x8100 ∧ sub = 3 then !sensorOk (domain s kProgramSet) v.toNat
  else false

/-- The layer that a group command names; one naming layer 4 needs INTEGRATOR (R130). -/
def namesLayer4 (idx sub : Nat) (v : Bytes) : Bool := idx == 0x4300 && ((sub == 2 && byteAt v 3 == 4) || ((sub == 3 || sub == 4) && byteAt v 2 == 4))

/-- The commands of chapter 07. -/
def commandEngines (s : State) (idx sub : Nat) (v : Int) : State :=
  if sub = 1 then
    (if v = 1 then stopEngine s (idx - 0x8000) else if v = 2 then startEngine s (idx - 0x8000) else restartEngine s (idx - 0x8000))
  else clearEngineStats s (idx - 0x8000)

/-- Whether a type's model has been written (R158). -/
def modelled (s : State) (t : Nat) : Bool := (reg s (kModel t)).toBytes.length == 64

/-- The content a VERIFY shell signed: whether the signature holds under a shell that carries a usage bit; a refused use may raise source 47 (R445). -/
def signedBy (s : State) (n bit : Nat) (content sig : Bytes) : Bool × State :=
  let (ok, s1) := mayUse s n bit [4]
  if ok then (ecdsaOk (shell s1 n).pub content sig, useShell s1 n) else (false, s1)

/-- R169: the signature of a program set under its SIGNER; one that fails raises source 46. -/
def setSigned (s : State) (b : Bytes) : Bool × State :=
  let total := fieldAt b 36 4
  let (ok, s1) := signedBy s (byteAt b 32) 2 (b.take total) (slice b total 64)
  if ok && total + 64 ≤ b.length then (true, s1) else (false, raise s1 46 0 0)

/-- R169: BLOCK_END of a program set: every condition is judged, the signature too where another fails; `SET_STATUS` shows a set rejected (Table 7-12). -/
def programSetCheck (s : State) (b : Bytes) : Bool × State :=
  let (ok, s1) := setSigned s b
  let good := ok && programSetOk EngineCode.legalCode (nat s (kUpdate 1)) b && channelsOk b && sensorOk b (nat s (kProgramCtl 3))
  (good, if good then s1 else setNum s1 (kProgramCtl 2) 3)

/-- R170: step 13 verifies the set in force under the rules of R169; an engine whose program fails stays stopped. -/
def verifySet (s : State) : State :=
  let b := domain s kProgramSet
  if b = [] then s
  else
    let (ok, s1) := setSigned s b
    let good := ok && setHeaderOk (nat s (kUpdate 1)) b && channelsOk b
    let bad := (List.range 16).filter fun k => assignOf b k < 16 && !(good && programOk EngineCode.legalCode b (assignOf b k))
    setNum { s1 with engines := { s1.engines with unverified := bad } } (kProgramCtl 2) (if good && bad.isEmpty then 2 else 3)

/-- Step 13 has succeeded when the programs are verified and the first tick is fenced (Table 3-4): every engine that is to run has fenced a tick. -/
def firstTickFenced (s : State) : Bool :=
  nat s (kProgramCtl 2) != 3 && (List.range 16).all fun k => assignment s k == 0xFF || ((engine s k).ran && engineState s k != esFaulted)

/-- Live values of chapters 06 and 07: `ZONE_TARGET` is layer 3 itself, and the tables and status bytes are those of cell memory. -/
def liveColour (s : State) (idx sub : Nat) : Option Val :=
  if 0x4100 ≤ idx ∧ idx ≤ 0x41FF ∧ 1 ≤ sub ∧ sub ≤ 64 then some (.bytes (layerTarget s ((idx - 0x4100) * 64 + (sub - 1)) 3))
  else if idx = 0x4800 ∧ sub = 8 then some (.bytes locusTable)
  else if idx = 0x4800 ∧ sub = 9 then some (.bytes exp2Table)
  else if idx = 0x4800 ∧ sub = 0xB then some (.bytes ((List.range 16384).map fun z => memRead s.mem (aZoneState z + 28)))
  else none

end Sys2Proof.Machine
end

