-- ==== Sys2Proof/Machine/Recorder.lean ====
section
/-!
DEFINITION. The event recorder (chapter 19): records under sequence discipline, recording periods and their close, burn-hour records, operating time, and
what its live domains read as.
-/

namespace Sys2Proof.Machine

/-- The register `sub` of RECORDER (Table 19-6). -/
def kRec (sub : Nat) : Key := 0x9000 * 256 + sub
/-- `RECORDER_STATE`: 0 HOLDING, 1 RUNNING, 2 REBUILDING, 3 BACKLOG. -/
def recState (s : State) : Nat := nat s kRecState
/-- The recorder region of the MRAM. -/
def recRegion (s : State) : RecRegion := s.mram.recorder
/-- Put the recorder region. -/
def putRegion (s : State) (r : RecRegion) : State := { s with mram := { s.mram with recorder := r } }
/-- Put the recorder. -/
def putRec (s : State) (r : Recorder) : State := { s with recorder := r }

/-! ### Records (R462, R463, R466) -/

/-- A record's 224 bytes (Table 19-2), complete. -/
def recordSlot (n opTime cycles type : Nat) (payload : Bytes) : Bytes :=
  let h := leBytes 4 opTime ++ leBytes 4 cycles ++ [BitVec.ofNat 8 type, BitVec.ofNat 8 payload.length]
  let b := leBytes 4 ((2 * n + 2) % 2 ^ 32) ++ h ++ leBytes 2 (crc16 (h ++ payload)) ++ payload
  b ++ List.replicate (224 - b.length) 0

/-- `NEXT_SEQ` and `OLDEST_SEQ`. -/
def showRecNo (s : State) : State :=
  let q := 2 * s.recorder.next + 2
  setNum (setNum s (kRec 4) q) (kRec 5) (max 2 (q - 131072 : Nat))

/-- R463: a record is written to the ring, and to the front matter while that is open: from the first start with an address on, whatever the address is
later, until it is full. -/
def writeRecord (s : State) (opTime type : Nat) (payload : Bytes) : State :=
  let n := s.recorder.next
  let b := recordSlot n opTime (nat s (kRec 9)) type payload
  let r := recRegion s
  let f := nat s (kRec 6)
  let s1 := putRec (putRegion s { r with ring := tabPut r.ring (n % 65536) b }) { s.recorder with next := n + 1 }
  let s2 :=
    if f < 1024 ∧ (0 < f ∨ nat s kAddrActive ≠ 0xFFFF) then
      let s3 := putRegion s1 { recRegion s1 with front := tabPut r.front f b }
      setNum (if f = 0 then setNum s3 (kRec 7) n else s3) (kRec 6) (f + 1 : Nat)
    else s1
  showRecNo s2

/-- R466, R470: a record of a period that closed at the operating time `op` is written, or waits in the backlog of 256 while MRAM may not be written or the header is rebuilt. -/
def closeRecord (s : State) (op type : Nat) (payload : Bytes) : State :=
  if s.power.warning ∨ recState s = 2 then
    if s.recorder.backlog.length < 256 then
      putRec s { s.recorder with backlog := s.recorder.backlog ++ [(type, leBytes 4 op ++ payload)] }
    else
      let s1 := bump s (kRec 0xB)
      raise s1 51 4 (min (2 ^ 20 - 1) (nat s1 (kRec 0xB)))
  else writeRecord s op type payload

/-- The header's content now. -/
def headerNow (s : State) : RecHeader :=
  { opSeconds := nat s (kRec 8), powerCycles := nat s (kRec 9), next := s.recorder.next, frontStart := nat s (kRec 7), frontCount := nat s (kRec 6) }

/-- R470: a header write alternates between the two copies. -/
def writeHeader (s : State) : State :=
  if s.power.warning ∨ recState s = 2 then s
  else
    let r := recRegion s
    putRec (putRegion s { r with headers := tabPut r.headers s.recorder.turn (headerNow s) }) { s.recorder with turn := 1 - s.recorder.turn }

/-! ### Burn-hour records (R468, R469) -/

/-- The burn accumulators of cell memory that are not 0. -/
def burnTab (m : List Host.Cell) : Tab Nat :=
  (m.filter fun c => aBurn 0 ≤ c.1 && c.1 < aBurn 65536).foldl (fun t c =>
    let i := (c.1 - aBurn 0) / 8
    tabPut t i ((tabFind t i).getD 0 + c.2.toNat * 256 ^ ((c.1 - aBurn 0) % 8))) []

/-- The slot with the newest valid burn record (R468, R469). -/
def newestBurn (s : State) : Option (Nat × BurnSlot) :=
  (recRegion s).burns.foldl (fun b p => match b with
    | some q => if q.2.seq < p.2.seq then some p else some q
    | none => some p) none

/-- Whether a `BURN_HOURS` read pins a slot (R471). -/
def burnPinned (s : State) (slot : Nat) : Bool :=
  s.server.transfers.any fun t => t.key == kRec 0xE && !t.write && t.buffer == slot

/-- The slot that the next burn record takes. -/
def burnTarget (s : State) : Nat := match newestBurn s with
  | some (n, _) => 1 - n
  | none => 0

/-- R468: the burn record is written, unless its slot is pinned. -/
def writeBurn (s : State) : State :=
  if burnPinned s (burnTarget s) then s
  else if s.power.warning ∨ recState s = 2 then putRec s { s.recorder with burnDue := true }
  else
    let seq := match newestBurn s with
      | some (_, b) => b.seq + 2
      | none => 2
    let r := recRegion s
    let b : BurnSlot := { seq := seq, opTime := nat s (kRec 8), rate := tickRate s, burn := burnTab s.mem, lum := lumBytes s }
    putRec (putRegion s { r with burns := tabPut r.burns (burnTarget s) b }) { s.recorder with burnDue := false }

/-- R469: the accumulators and luminaire energies are loaded from the newest valid slot. -/
def loadBurn (s : State) : State :=
  match newestBurn s with
  | none => raise s 51 2 0
  | some (_, b) =>
      let rate := nat s 0x320002
      let s1 := b.burn.foldl (fun t p => wr t (aBurn p.1) 8 (if b.rate = rate ∨ b.rate = 0 then p.2 else p.2 * rate / b.rate)) s
      let lum := (List.range 128).filterMap fun l =>
        let e := fieldAt b.lum (8 * l) 8
        if e = 0 then none else some (l, ((e : Nat) : Rat))
      { s1 with meter := { s1.meter with lum := lum } }

/-! ### Sampling (R467, R470) -/

/-- The bin of a lamp-board temperature in Q8.8 (TEMP_HIST). -/
def tempBin (t : Int) : Nat := if t < 2560 then 0 else min 15 ((t - 2560) / 1280 + 1).toNat

/-- The bin of the bursts discarded in a second (LINK). -/
def burstBin (n : Nat) : Nat := if n = 0 then 0 else min 7 (n.log2 + 1)

/-- TEMP_SAMPLE: at the first tick start of each second, every luminaire with a valid report; the lanes' seconds and `OP_SECONDS` count with
it. -/
def sampleSecond (s : State) : State :=
  let sec := now64 s / 65536
  if nat s kModuleState ≠ 1 ∨ sec = s.recorder.second then s
  else
    let temps := (List.range 128).foldl (fun t l =>
      match lumReports s l with
      | [] => t
      | ts =>
          let x := Colour.meanTemp ts
          let h := (tabFind t l).getD { tMin := x, tMax := x }
          let b := tempBin x
          tabPut t l { tMin := min h.tMin x, tMax := max h.tMax x, bins := tabPut h.bins b ((tabFind h.bins b).getD 0 + 1) }) s.recorder.temps
    let counts := (List.range 8).map fun n => (n, nat s (kLane n 0xD))
    let lanes := counts.foldl (fun t c =>
      let b := 8 * c.1 + burstBin ((c.2 + 2 ^ 32 - (tabFind s.recorder.burst c.1).getD c.2) % 2 ^ 32)
      tabPut t b ((tabFind t b).getD 0 + 1)) s.recorder.lanes
    setNum (putRec s { s.recorder with second := sec, temps := temps, lanes := lanes, burst := counts }) (kRec 8) (num s (kRec 8) + 1)

/-! ### Payloads (Table 19-4) -/

/-- TEMP_HIST payloads, five luminaires each. -/
def tempPayloads (s : State) : List Bytes :=
  let entry := fun (p : Nat × TempHist) => leBytes 1 p.1 ++ [0] ++ leBytes 2 (p.2.tMin % 65536).toNat ++ leBytes 2 (p.2.tMax % 65536).toNat ++ [0, 0]
    ++ (List.range 16).flatMap fun b => leBytes 2 ((tabFind p.2.bins b).getD 0)
  let ts := s.recorder.temps
  (List.range ((ts.length + 4) / 5)).map fun i =>
    let g := (ts.drop (5 * i)).take 5
    leBytes 1 g.length ++ List.replicate 7 0 ++ g.flatMap entry

/-- SUPPLY. -/
def supplyPayload (s : State) : Bytes :=
  let r := s.recorder.supply
  let w := fun (t : Tab Int) (i : Nat) => leBytes 4 (((tabFind t i).getD 0) % 2 ^ 32).toNat
  let t16 := fun (i : Nat) => leBytes 2 (((tabFind r.hi i).getD (-32768)) % 65536).toNat
  [0, 1, 2].flatMap (w r.lo) ++ [0, 1, 2].flatMap (w r.hi) ++ [3, 4, 5, 6].flatMap (fun i => w r.lo i ++ w r.hi i) ++ w r.hi 7
    ++ t16 8 ++ t16 9 ++ t16 10 ++ [0, 0] ++ leBytes 4 r.windows

/-- DEMAND. -/
def demandPayload (s : State) : Bytes :=
  let d := s.recorder.demand
  leBytes 1 d.count ++ leBytes 1 d.flags ++ leBytes 1 (nat s (kDemand 1)) ++ [0] ++ leBytes 4 (d.peakP % 2 ^ 32).toNat ++ leBytes 8 d.peakAt
    ++ leBytes 4 (d.lowP % 2 ^ 32).toNat ++ leBytes 8 d.lowAt ++ leBytes 4 d.peakS

/-- A counter summed over both bus controllers. -/
def busSum (s : State) (sub : Nat) : Nat := nat s (kBus 0 sub) + nat s (kBus 1 sub)

/-- LINK. -/
def linkPayload (s : State) : Bytes :=
  let r := s.recorder
  ((List.range 64).flatMap fun b => leBytes 2 ((tabFind r.lanes b).getD 0)) ++ ((List.range 8).flatMap fun b => leBytes 4 ((tabFind r.radio b).getD 0))
    ++ leBytes 4 ((busSum s 0xF + 2 ^ 33 - r.auth0) % 2 ^ 32) ++ leBytes 4 ((busSum s 0x11 + 2 ^ 33 - r.defer0) % 2 ^ 32)
    ++ leBytes 1 r.tec ++ leBytes 1 r.rec_ ++ List.replicate 6 0

/-- FAULTS. -/
def faultsPayload (s : State) : Bytes :=
  let raises := fun (n : Nat) => min 65535 ((nat s (kFault n 8) + 2 ^ 32 - (tabFind s.recorder.raises n).getD 0) % 2 ^ 32)
  ((List.range 64).flatMap fun n => leBytes 2 (raises n))
    ++ leBytes 8 ((List.range 64).foldl (fun a n => if nat s (kFault n 7) = 3 then a + 2 ^ n else a) 0)

/-! ### Periods (R464, R465) -/

/-- A period starts at a TIME64. -/
def startPeriod (s : State) (start : Nat) (short : Bool) : State :=
  putRec s { s.recorder with
    start := start, period := nat s (kRec 1), short := short, stepped := false
    temps := [], supply := {}, demand := {}, lanes := [], radio := [], tec := 0, rec_ := 0
    auth0 := busSum s 0xF, defer0 := busSum s 0x11, raises := (List.range 64).map fun n => (n, nat s (kFault n 8)) }

/-- R465, steps 1 to 4, in an input window: the depreciation factors, the period's records (PERIOD says whether the burn write is skipped), the burn slot, the
header. -/
def runClose (s : State) (period : Bytes) (recs : List (Nat × Bytes)) (stop op : Nat) : State :=
  let p := if burnPinned s (burnTarget s) then period.set 17 ((period.getD 17 0) ||| 16) else period
  let s1 := ((1, p) :: recs).foldl (fun t r => closeRecord t op r.1 r.2) (recomputeDep s)
  setNum (writeHeader (writeBurn s1)) (kRec 0xA) stop

/-- The PERIOD payload of a period that ends at `stop`, and the payloads of its other records (Table 19-4). -/
def periodRecords (s : State) (stop flags : Nat) : Bytes × List (Nat × Bytes) :=
  let invalid := bit s (kRtc 6) 2 || tbState s (fieldBase s) != 2
  let temps := tempPayloads s
  let pflags := flags + (if s.recorder.short then 4 else 0) + (if invalid then 8 else 0)
  (leBytes 8 s.recorder.start ++ leBytes 8 stop ++ leBytes 1 (4 + temps.length) ++ leBytes 1 pflags ++ [0, 0] ++ leBytes 4 s.recorder.period,
    (3, supplyPayload s) :: (4, demandPayload s) :: (5, linkPayload s) :: (6, faultsPayload s) :: temps.map fun p => (2, p))

/-- The close of a period that ends at `stop`, with flags (R465): the next period starts at once, the close runs in the next input window. -/
def closePeriod (s : State) (stop flags : Nat) : State :=
  let x := periodRecords s stop flags
  let op := nat s (kRec 8)
  inWindow (startPeriod s stop false) (.close x.1 x.2 stop op) fun t => runClose t x.1 x.2 stop op

/-- The boundary now in force: the last whole multiple of `RECORD_PERIOD` (R464). -/
def lastBoundary (s : State) : Nat :=
  let p := nat s (kRec 1) * 65536
  if p = 0 then now64 s else now64 s / p * p

/-- PERIOD_END (R464, R465): a boundary, the first boundary of a new `RECORD_PERIOD`, or a step of the field time base. -/
def execPeriodEnd (s : State) : Host.Outcome State Fault Refusal :=
  .next (if nat s kModuleState ≠ 1 ∨ recState s = 0 then s
    else if s.recorder.stepped then closePeriod s (now64 s) 2
    else
      let b := lastBoundary s
      let s1 := if s.recorder.period = nat s (kRec 1) then s else putRec s { s.recorder with short := true }
      closePeriod s1 (if s.recorder.start < b then b else now64 s) 0)

/-- `CLOSE_NOW` (R464): one whose stamp is the period's start closes nothing; the recorder holds outside OPERATIONAL. -/
def closeNow (s : State) : State :=
  if nat s kModuleState ≠ 1 ∨ recState s = 0 ∨ now64 s = s.recorder.start then s
  else
    let x := periodRecords s (now64 s) 1
    runClose (startPeriod s (now64 s) false) x.1 x.2 (now64 s) (nat s (kRec 8))

/-- Whether the close of a period still waits for its input window. -/
def closing (s : State) : Bool := s.server.waiting.any fun w => match w.task with
  | some (.close ..) => true
  | _ => false

/-- HEADER_WRITE (R470). -/
def execHeaderWrite (s : State) : Host.Outcome State Fault Refusal :=
  .next (if nat s kModuleState = 1 ∧ recState s ≠ 0 then writeHeader s else s)

/-- The records of the backlog are written in order, then the burn record and the header that waited (R466). -/
def drainBacklog (s : State) : State :=
  let s1 := s.recorder.backlog.foldl (fun t r => writeRecord t (leNat (r.2.take 4)) r.1 (r.2.drop 4)) (putRec s { s.recorder with backlog := [] })
  writeHeader (if s1.recorder.burnDue then writeBurn s1 else s1)

/-- The state of the recorder follows the power-fail warning (Table 19-6). -/
def showRecState (s : State) : State :=
  if recState s = 1 ∧ s.power.warning then setNum s (kRec 3) 3
  else if recState s = 3 ∧ !s.power.warning then drainBacklog (setNum s (kRec 3) 1)
  else s

/-! ### Start (R469, R470) -/

/-- The complete records of the ring, as record number and slot (R470's scan). -/
def ringRecords (s : State) : List (Nat × Bytes) :=
  (recRegion s).ring.filterMap fun p =>
    let b := p.2
    let len := byteAt b 13
    if fieldAt b 0 4 % 2 = 0 ∧ 2 ≤ fieldAt b 0 4 ∧ crc16 (slice b 4 10 ++ slice b 16 len) = fieldAt b 14 2 then some (fieldAt b 0 4 / 2 - 1, b) else none

/-- A header comes into force. -/
def takeHeader (s : State) (h : RecHeader) : State :=
  showRecNo (setNum (setNum (setNum (setNum (putRec s { s.recorder with next := h.next }) (kRec 8) h.opSeconds) (kRec 9) h.powerCycles)
    (kRec 6) h.frontCount) (kRec 7) h.frontStart)

/-- R470: the recorder starts, with its first period SHORT; a start after power-on or brown-out is a power cycle. -/
def startRecorder (s : State) : State :=
  let best := (recRegion s).headers.foldl (fun (b : Option (Nat × RecHeader)) p => match b with
    | some q => if q.2.next < p.2.next then some p else some q
    | none => some p) none
  let s0 := startPeriod s (now64 s) true
  let s1 := match best with
    | some (n, h) => takeHeader (putRec (setNum s0 (kRec 3) 1) { s0.recorder with turn := 1 - n }) h
    | none => raise (setNum s0 (kRec 3) 2) 51 3 0
  let s2 := putRec s1 { s1.recorder with second := now64 s1 / 65536, burst := (List.range 8).map fun n => (n, nat s1 (kLane n 0xD)) }
  if nat s2 0x103001 ≤ 1 then writeHeader (setNum s2 (kRec 9) (num s2 (kRec 9) + 1)) else s2

/-- HEADER_REBUILD_DONE (R470): the header is rebuilt from the records found, and the backlog is written. -/
def execHeaderRebuildDone (s : State) : Host.Outcome State Fault Refusal :=
  .next (if recState s = 2 then
      let rs := ringRecords s
      let most := fun (f : Nat × Bytes → Nat) => (rs.map f).foldl max 0
      let fronts := (recRegion s).front
      let h : RecHeader := {
        opSeconds := most (fun r => fieldAt r.2 4 4) + nat s (kRec 8), powerCycles := most (fun r => fieldAt r.2 8 4) + nat s (kRec 9)
        next := most fun r => r.1 + 1
        frontStart := (((tabFind fronts 0).map fun b => fieldAt b 0 4 / 2 - 1)).getD 0, frontCount := fronts.length }
      drainBacklog (setNum (takeHeader s h) (kRec 3) 1)
    else s)

/-! ### Dictionary -/

/-- The content of the recorder's live domains, `n` bytes from an offset (R471); `slot` is the pinned burn slot. -/
def recBytes (s : State) (sub slot off n : Nat) : Bytes :=
  let at_ := fun (t : Tab Bytes) (i : Nat) => ((tabFind t (i / 224)).getD []).getD (i % 224) 0
  if sub = 0xE then
    let b := (tabFind (recRegion s).burns slot).getD { seq := 0, opTime := 0, rate := 1, burn := [], lum := [] }
    (List.range n).map fun i =>
      let c := (off + i) / 4
      (leBytes 4 (Colour.burnHours16 ((tabFind b.burn c).getD 0) b.rate)).getD ((off + i) % 4) 0
  else
    let t := if sub = 0xC then (recRegion s).ring else (recRegion s).front
    (List.range n).map fun i => at_ t (off + i)

/-- The commands of Table 19-6. -/
def commandRec (s : State) : State := closeNow s

end Sys2Proof.Machine
end

