-- ==== Sys2Proof/Machine/Tick.lean ====
section
/-!
DEFINITION. The tick start (R173) with what the module does around it: the luminaire reports (Table 7-4), the engines' tick, and the lane feed (R233).
-/

namespace Sys2Proof.Machine

/-! ### Reports and faults in cell memory -/

/-- The report of one driver in a luminaire's state (Table 7-4). -/
def reportBytes (s : State) (d : Nat) : Bytes :=
  match (pos s (d / 16) (d % 16)).statusAt with
  | none => List.replicate 8 0
  | some t =>
      let b := (reg s (kDriver d 0xB)).toBytes
      b.take 2 ++ leBytes 2 (min 0xFFFF ((s.clk - t) / msec 1)) ++ [if (fieldAt b 12 2).testBit 7 then 3 else 1, 0, 0, 0]

/-- The reports of every luminaire, its drivers in ascending order, and the cell fault bitmap. -/
def loadReports (s : State) : State :=
  let s1 := (List.range 128).foldl (fun t l =>
    let ds := (lumDrivers s l).take 4
    let b := ds.flatMap (reportBytes s)
    store t (aLum l) (b ++ List.replicate (32 - b.length) 0)) s
  store s1 aFaultMap (faultBitmap (s.lanes.opens ++ s.lanes.shorts))

/-! ### The lane feed (R18, R233) -/

/-- The codes of a driver's cells, from the half that is FRONT for the engine that owns its luminaire; 0 for a cell of no zone. -/
def driverCodes (s : State) (zoned : List Nat) (d : Nat) : List (Nat × Nat) :=
  let half := (ownerOf s (nat s (kDriver d 2))).map fun k => !(engine s k).select
  (List.range (nat s (kDriver d 4))).map fun o =>
    let c := nat s (kDriver d 3) + o
    (c, match half with
      | some h => if zoned.contains c then rd s (aCode h c) 2 else 0
      | none => 0)

/-- CELL_VALUES payloads of a driver's codes from an offset on, at most 510 codes each (Table 9-6). -/
def valuePayloads (tag : Nat) : Nat → Nat → List Nat → List Bytes
  | 0, _, _ => []
  | f + 1, off, cs =>
      if cs = [] then []
      else ([BitVec.ofNat 8 tag, 0] ++ leBytes 2 off ++ (cs.take 510).flatMap (leBytes 2)) :: valuePayloads tag f (off + 510) (cs.drop 510)

/-- CELL_PLANES payloads of a driver's codes: as many planes each as a payload of 1,024 bytes holds. -/
def planePayloads (tag : Nat) (cs : List Nat) : List Bytes :=
  let n := (cs.length + 7) / 8 * 8
  let b := (cs ++ List.replicate (n - cs.length) 0).flatMap (leBytes 2)
  let per := if n = 0 then 16 else min 16 (1016 / (n / 8))
  (List.range ((16 + per - 1) / per)).map fun i =>
    let hi := 15 - per * i
    let cnt := min per (hi + 1)
    [BitVec.ofNat 8 tag, BitVec.ofNat 8 hi, BitVec.ofNat 8 cnt, 0, 0, 0] ++ leBytes 2 n ++ planeSplit b hi (hi + 1 - cnt)

/-- The data records of one position: their type and payloads; version 1 knows CELL_VALUES only (Table 9-12). -/
def dataRecords (s : State) (n p : Nat) (cs : List Nat) : List TxRec :=
  let tag := s.engines.tick % 256
  let planes := (lane s n).version != 1 && nat s (kDriver (16 * n + p) 6) == 1
  if cs = [] then []
  else (if planes then planePayloads tag cs else valuePayloads tag 3 0 cs).map fun b =>
    { type := if planes then 2 else 1, dest := p, payload := b, feed := true }

/-- A 32-byte descriptor of the runtime (Table 11-2) from memory to a lane's port. -/
def portDescriptor (ctrl src aux len n : Nat) : Bytes :=
  leBytes 4 ctrl ++ leBytes 4 src ++ leBytes 4 (0x30000000 + 0x1000 * n) ++ leBytes 4 len ++ leBytes 4 aux ++ List.replicate 12 0

/-- One data record is posted on channel C0 as two descriptors (R269, Table 11-8): its header from SRAM, its codes from a code half by index table, split into
planes for CELL_PLANES. Where the runtime keeps them in SRAM the spec does not say (log entry 86). -/
def feedRecord (s : State) (n : Nat) (half : Bool) (r : TxRec) : State :=
  let headLen := if r.type = 2 then 8 else 4
  let hi := byteAt r.payload 1
  let lo := hi + 1 - byteAt r.payload 2
  let codes := if r.type = 2 then 2 * fieldAt r.payload 6 2 else r.payload.length - headLen
  let ctrl := 0x120 + if r.type = 2 then 1 + hi * 65536 + lo * 1048576 else 0
  let (i, s1) := takeFresh s
  let at_ := fun (j : Nat) => (Config.feedAddress i j).toNat
  let header : Posted :=
    { owner := 16, addr := at_ 0, desc := portDescriptor 0 (at_ 1) 0 (6 + headLen) n, select := false
      feed := some { lane := n, head := true, bytes := [BitVec.ofNat 8 r.type, BitVec.ofNat 8 r.dest, 0, 0] ++ leBytes 2 r.payload.length
        ++ r.payload.take headLen } }
  let body : Posted :=
    { owner := 16, addr := at_ 2, desc := portDescriptor ctrl (if half then 0x10020000 else 0x10000000) (at_ 3) codes n, select := false
      feed := some { lane := n, head := false, bytes := r.payload.drop headLen } }
  let x := channel s1 0
  showChannel (putChannel s1 0 { x with posted := x.posted ++ [header, body] }) 0

/-- The feed's descriptors of a lane that have not started are dropped when its next tick is fed: their records were not sent (R233); of a record whose header
has gone, the rest follows. -/
def dropUnfed (s : State) (n : Nat) : State :=
  let mine := fun (p : Posted) => p.feed.any fun f => f.lane == n
  let x := channel s 0
  let kept := match x.posted with
    | p :: t => if p.feed.any fun f => !f.head then p :: t.filter fun q => !mine q else x.posted.filter fun q => !mine q
    | [] => []
  showChannel (putChannel s 0 { x with posted := kept }) 0

/-- R251, R231: where the feed of a lane runs for the first time after its START, cell codes are selected again on the lane and on its whole lock group, once
where several of its lanes begin together. -/
def feedScenes (s : State) (ns : List Nat) : State :=
  ((ns.filter fun n => !(lane s n).feeding).foldl (fun (x : State × List Nat) n =>
    let g := (lane s n).lock
    if g ≠ 0xFF ∧ x.2.contains g then x else (selectScene x.1 n 0, g :: x.2)) (s, [])).1

/-- The half that is FRONT for the engine owning a driver's luminaire (R166). -/
def driverHalf (s : State) (d : Nat) : Bool := ((ownerOf s (nat s (kDriver d 2))).map fun k => !(engine s k).select).getD false

/-- The feed of one lane (R233). -/
def feedLane (s : State) (codes : List (Nat × Nat)) (n : Nat) : State :=
  let s1 := dropUnfed (putLane s n { lane s n with feeding := true, due := [], buffer := (lane s n).buffer.filter fun r => !r.feed }) n
  (tablePositions s n).foldl (fun t p =>
    let d := 16 * n + p
    let cs := (List.range (nat s (kDriver d 4))).map fun o => (tabFind codes (nat s (kDriver d 3) + o)).getD 0
    (dataRecords t n p cs).foldl (fun u r => feedRecord u n (driverHalf u d) r) t) s1

/-- The lanes that are fed: RUNNING, and not those on which a standby sends only what is mirrored (R436). -/
def fedLanes (s : State) : List Nat := (List.range 8).filter fun n => laneState s n == 2 && !mirrorOnly s n

/-- The lane feed of a tick: every code passes the audit and the guard of the safety core (R406 to R408). -/
def laneFeed (s : State) : State :=
  let ns := fedLanes s
  let zoned := zonedCells s
  let ds := ns.flatMap fun n => (tablePositions s n).map fun p => 16 * n + p
  let a := auditFeed s (ds.flatMap (driverCodes s zoned))
  ns.foldl (fun t n => feedLane t a.2 n) (feedScenes a.1 ns)

/-! ### The tick start (R173) -/

/-- R143: the luminaires whose h is below 0x8000 at this tick, whether they have a zone or not; fault source 53 stands while there is one. -/
def noteDerating (s : State) : State :=
  let d := (usedLuminaires s).filter fun l => lumFactor s l < 0x8000
  let s1 := { s with zones := { s.zones with derated := d } }
  if d = [] then endCondition s1 53
  else if (faultSrc s1 53).standing then s1
  else raise s1 53 0 0

/-- The engines' part of a tick start, in R173's order; the depreciation factors are computed at the first tick (R147). -/
def engineTick (s : State) : State :=
  let s1 := overrideRelease (scheduleRecall (loadReports s))
  let s2 := wr s1 aTrip 8 (nat s1 (kSafety 2))
  let s3 := (List.range 16).foldl startTick (flipHalves (applyPartition s2))
  let runs := (List.range 16).any fun k => (engine s3 k).active
  let s4 := if runs ∧ !s.zones.ticked then recomputeDep s3 else s3
  let s5 := noteDerating (runLibrary s4)
  let s6 := if s.zones.ticked then laneFeed s5 else s5
  openWindow (noteSetStarted { s6 with zones := { s6.zones with ticked := s6.zones.ticked || runs } })

/-- The field timing generator at a tick start: its number, and the lanes' fields with it (R324). -/
def generatorStep (s : State) : State :=
  let (s1, d) := generatorTick s
  { s1 with lanes := { s1.lanes with list := s1.lanes.list.map fun x => (x.1, { x.2 with next := ((x.2.next : Int) + d).toNat }) } }

/-- A tick starts: the recorder's sample of the second, the safety core's copies (R391), a test that waited (R411), the engines; the runtime has read the
colophons (R281). -/
def tickBody (s : State) : State :=
  let s1 := resumeTest (takeCopies (sampleSecond (generatorStep s)))
  let s2 := if s1.engines.enabled then engineTick s1 else s1
  setNum s2 (kCol 4) (num s2 (kCol 3))

end Sys2Proof.Machine
end

