-- ==== Sys2Proof/Machine/PairBase.lean ====
section
/-!
DEFINITION. The redundant pair as the dictionary sees it (R430, R431, R435): the journal of applied changes for the peer, and the planned swap.
-/

namespace Sys2Proof.Machine

/-- The register `sub` of REDUNDANCY (Table 17-8). -/
def kRed (sub : Nat) : Key := 0x7400 * 256 + sub

/-- Whether changes are copied to a peer: the module is ACTIVE and the stitch link to one is up (R430). What changes while the link is down goes with the
persistent regions once it is up (R431). -/
def copying (s : State) : Bool := nat s kRole == 1 && s.pair.peer.isSome && nat s (kRed 3) != 0

/-- An applied change joins the journal, with the tick from which it applies (Table 17-5, block 8). -/
def journal (s : State) (items : List JournalItem) : State :=
  if copying s then
    { s with pair := { s.pair with journal := s.pair.journal ++ items.map fun i => ((s.engines.tick + 1) % 2 ^ 32, i) } }
  else s

/-- A DOMAIN's content as chunks of at most 1,024 bytes (log entry 42). -/
def journalChunks (r : Ref) : Nat → Nat → Bytes → List JournalItem
  | 0, _, _ => []
  | f + 1, off, b =>
      if b.length ≤ 1024 then [.chunk r off b true]
      else .chunk r off (b.take 1024) false :: journalChunks r f (off + 1024) (b.drop 1024)

/-- The bytes of a journal item in block 8: tick, reference, length or offset, and content (log entry 42). -/
def journalSize : JournalItem → Nat
  | .write _ v => 12 + v.length
  | .chunk _ _ v _ => 16 + v.length

/-- R431: a journal longer than block 8 is carried over, and further persistent writes are held. -/
def carryOver (s : State) : Bool := copying s && 16384 < (s.pair.journal.map fun i => journalSize i.2).foldl (· + ·) 0

/-- R435: whether a SWAP is rejected. -/
def swapConflict (s : State) : Bool :=
  nat s kRole != 1 || (s.pair.peer.map (·.beat)) != some 1 || s.pair.applied < 16

/-- SWAP's effect (R435): SWAP beats in four consecutive cycles. -/
def startSwap (s : State) : State := { s with pair := { s.pair with swapLeft := 4, asked := true } }

/-- Live values of chapter 17: the running image's stitch-state format. -/
def livePair (s : State) (idx sub : Nat) : Option Val :=
  if idx = 0x7400 ∧ sub = 0xE then some (.num (fieldAt (pkgCompat s.update.running) 12 2 : Nat)) else none

end Sys2Proof.Machine
end

