-- ==== Sys2Proof/Machine/Wave.lean ====
section
/-!
DEFINITION. Update waves (R458 to R460): the manager takes each rostered worker and finally itself, by requests to one module at a time. The wave's requests
travel as proxied ones do (R123); what the spec leaves open in the order of reads is in log entry 43.
-/

namespace Sys2Proof.Machine

/-! ### Requests to other modules (R123) -/

/-- The session number under which the wave's own requests stand. -/
abbrev waveSid : Nat := 0x900

/-- R123: a request leaves for a module of another segment or for the pair partner, under a number of the manager's own, with the role of the session it
comes from (R83; log entry 62). -/
def forwardOp (s : State) (sid : Nat) (tid : Half) (target side : Nat) (inner : MdpOp) (role : Role) (timeout : Nat) (itid : Half := 0)
    (content : Bytes := []) : State :=
  let n := s.server.nextFlight
  let f : Flight := { sid := sid, tid := tid, itid := itid, target := target, side := side, inner := inner, role := role, timeout := timeout, sends := 1
                      content := content }
  emit { s with server := { s.server with flights := tabPut s.server.flights n f, nextFlight := n + 1 } }
    (.forward n target side role (requestMsg inner (BitVec.ofNat 16 n) false))

/-! ### The roster (R33) -/

/-- The register `sub` of worker `w`'s roster entry. -/
def kRoster (w sub : Nat) : Key := (0xC100 + w) * 256 + sub
/-- Whether a worker number is rostered. -/
def rostered (s : State) (w : Nat) : Bool := 1 ≤ w && w ≤ 255 && nat s (kRoster w 3) != 0
/-- `PAIR_SIDE` (Table 1-4). -/
abbrev kPairSide : Key := 0x101004
/-- Whether a segment is a pair: a worker rostered with a side B, or this module with a partner. -/
def isPair (s : State) (w : Nat) : Bool := if w = 0 then nat s kPairSide != 0xFF else nat s (kRoster w 2) != 0
/-- The side that names this module (R122): 1 is A, 2 is B; a module that sees no partner counts as A. -/
def ownSide (s : State) : Nat := if nat s kPairSide = 1 then 2 else 1
/-- The address of worker `w` of this manager. -/
def workerAddr (s : State) (w : Nat) : Nat := nat s kAddrActive / 256 * 256 + w

/-! ### The wave's steps -/

/-- The segment in progress. -/
def waveWorker (s : State) : Nat := nat s (kWave 3)
/-- Put the wave's phase. -/
def setPhase (s : State) (p : WavePhase) : State := { s with update := { s.update with wavePhase := p } }
/-- The wave's requests in flight are forgotten. -/
def dropWave (s : State) : State := { s with server := { s.server with flights := s.server.flights.filter fun f => f.2.sid != waveSid } }
/-- R460: the wave is HELD with a cause. -/
def holdWave (s : State) (cause : Nat) : State := setNum (setNum (dropWave s) (kWave 2) 3) (kWave 6) cause

/-- A request of the wave to a side of an address. -/
def waveAsk (s : State) (target side : Nat) (o : MdpOp) : State := forwardOp s waveSid 0 target side o .integrator (nat s 0x210006)
/-- A request to the module being updated. -/
def waveAskModule (s : State) (o : MdpOp) : State := waveAsk s (workerAddr s (waveWorker s)) s.update.waveSide o
/-- Whether the module in hand is this module itself. -/
def waveLocal (s : State) (side : Nat) : Bool := waveWorker s == 0 && side == ownSide s
/-- The other side of the segment. -/
def otherSide (side : Nat) : Nat := 3 - side

/-- The reference of a sub-index. -/
def refOf (k : Key) : Ref := { index := BitVec.ofNat 16 (k / 256), sub := BitVec.ofNat 8 k }

/-- The nodes of a matrix by address, each once (R458). -/
def matrixNodes (s : State) (k : Nat) : List Nat :=
  (((List.range 32).filter fun n => nodeSerial (matrix s k) n != 0).map (nodeAddress (matrix s k))).eraseDups

/-- What step 1 reads (R458, R459): both sides of a pair, or the single module, and every node of the buses the segment shares. -/
def waveReads (s : State) (w : Nat) : List (Nat × Nat × Bool) :=
  let a := workerAddr s w
  let sides := if isPair s w then [(a, 1, true), (a, 2, true)].filter fun x => !(w == 0 && x.2.1 == ownSide s)
    else if w = 0 then [] else [(a, 1, false)]
  let buses := if w = 0 then [0, 1] else if nat s (kRoster w 3) = 1 then [0] else if nat s (kRoster w 3) = 2 then [1] else []
  let nodes := ((buses.flatMap (matrixNodes s)).eraseDups.filter fun x => x != a && x != nat s kAddrActive).map fun x => (x, 0, true)
  sides ++ nodes

/-- The package of the wave, in the manager's own quire. -/
def wavePackage (s : State) : Bytes := s.mram.folios.quire

/-- Step 2 for the module in hand: the package is written, or for this module itself installed from its own quire. -/
def waveWrite (s : State) : State :=
  let s1 := setNum s (kWave 4) 2
  if waveLocal s s.update.waveSide then (if installOk s1 2 then install (setPhase s1 .install) 2 else holdWave s1 3)
  else
    let p := wavePackage s
    waveAskModule (setPhase s1 .begin_) (.blockBegin (refOf (kUpdate 6)) true (BitVec.ofNat 32 p.length) (BitVec.ofNat 32 (crc32 p)))

/-- Step 2 begins: the standby side of a pair is found by its role. -/
def waveFind (s : State) : State :=
  let s1 := setNum s (kWave 4) 2
  if !isPair s (waveWorker s) then waveWrite { s1 with update := { s1.update with waveSide := 1 } }
  else if waveLocal s 1 then waveWrite { s1 with update := { s1.update with waveSide := if isStandby s then 1 else 2 } }
  else waveAsk (setPhase s1 .role) (workerAddr s (waveWorker s)) 1 (.read (refOf kRole))

/-- The next COMPATIBILITY to read, or step 2. -/
def waveNextRead (s : State) (left : List (Nat × Nat × Bool)) : State :=
  match left with
  | [] => waveFind s
  | (a, side, _) :: _ => waveAsk (setPhase s (.compat left)) a side (.read (refOf (kUpdate 0xA)))

/-- Step 1 of a segment (R459). This module is a peer of every segment but its own single one. -/
def waveSegment (s : State) (w : Nat) : State :=
  let s1 := setNum (setNum { s with update := { s.update with waveSecond := false } } (kWave 3) w) (kWave 4) 1
  if (w ≠ 0 ∨ isPair s 0) ∧ !compatible (pkgCompat (wavePackage s)) (pkgCompat s.update.running) then holdWave s1 1
  else waveNextRead s1 (waveReads s1 w)

/-- The segment after worker `w`: the next rostered worker, then the manager's own. -/
def waveNext (s : State) (w : Nat) : Nat := ((List.range 256).find? fun x => w < x && rostered s x).getD 0

/-- A segment is updated: the next one, unless a pause was asked for or it was the last. -/
def waveDone (s : State) : State :=
  let s1 := setPhase (setNum s (kWave 5) (num s (kWave 5) + 1)) .idle
  if waveWorker s = 0 then setNum s1 (kWave 2) 4
  else if s.update.pause then setNum s1 (kWave 2) 2
  else waveSegment s1 (waveNext s (waveWorker s))

/-- Step 4 for a pair (R459, R435): the active side is asked to swap. -/
def waveSwap (s : State) : State :=
  let s1 := setNum (setPhase s .swap) (kWave 4) 4
  let o := otherSide s.update.waveSide
  if waveLocal s o then (if swapConflict s1 then holdWave s1 3 else startSwap (setPhase s1 .change))
  else waveAsk s1 (workerAddr s (waveWorker s)) o (.command (refOf (kRed 5)) [1])

/-- The new standby is updated by steps 2 and 3. -/
def waveSecondSide (s : State) : State :=
  waveWrite { s with update := { s.update with waveSide := otherSide s.update.waveSide, waveSecond := true } }

/-- A block of the package is written from an offset. -/
def waveBlock (s : State) (off : Nat) : State :=
  waveAskModule (setPhase s (.data off)) (.blockData s.update.handle (BitVec.ofNat 32 off) (.write (slice (wavePackage s) off 1267)))

/-- A response to the wave's request: status and body. A status other than OK is a rejected request (R460). -/
def waveResponse (s : State) (status : Nat) (b : Bytes) : State :=
  if nat s (kWave 2) ≠ 1 then s
  else if status ≠ 0 then holdWave s 3
  else
    let value := b.drop 3
    match s.update.wavePhase with
    | .compat [] => s
    | .compat ((_, _, peer) :: rest) =>
        if peer ∧ !compatible (pkgCompat (wavePackage s)) value then holdWave s 1 else waveNextRead s rest
    | .role => waveWrite { s with update := { s.update with waveSide := if byteAt value 0 = 2 then 1 else 2 } }
    | .begin_ => waveBlock { s with update := { s.update with handle := BitVec.ofNat 8 (byteAt b 0) } } 0
    | .data off =>
        if off + 1267 < (wavePackage s).length then waveBlock s (off + 1267) else waveAskModule (setPhase s .end_) (.blockEnd s.update.handle)
    | .end_ => waveAskModule (setPhase s .install) (.command (refOf (kUpdate 9)) [2])
    | .install => setNum (setPhase s .settle) (kWave 4) 3
    | .trial =>
        if byteAt value 0 = 2 then waveAskModule (setPhase s .confirm) (.command (refOf 0xB01001) [1])
        else if byteAt value 0 = 1 then setPhase s .settle
        else if byteAt value 0 = 3 then (if isPair s (waveWorker s) ∧ !s.update.waveSecond then waveSwap s else waveDone s)
        else holdWave s 2
    | .confirm => if isPair s (waveWorker s) ∧ !s.update.waveSecond then waveSwap s else waveDone s
    | .swap => waveAsk (setPhase s .change) (workerAddr s (waveWorker s)) (otherSide s.update.waveSide) (.read (refOf kRole))
    | .change =>
        if byteAt value 0 = 2 then waveSecondSide s
        else waveAsk s (workerAddr s (waveWorker s)) (otherSide s.update.waveSide) (.read (refOf kRole))
    | _ => s

/-- The wave asked this module itself to swap, and it is the standby now. -/
def wavePoll (s : State) : State :=
  if nat s (kWave 2) = 1 ∧ s.update.wavePhase = .change ∧ isStandby s ∧ waveLocal s (otherSide s.update.waveSide) then waveSecondSide s else s

/-- R459: the wave starts with the package STAGED in the manager's own quire. -/
def waveStart (s : State) : State :=
  let s1 := setNum (setNum (setNum (dropWave s) (kWave 2) 1) (kWave 5) 0) (kWave 6) 0
  waveSegment { s1 with update := { s1.update with pause := false } } (waveNext s 0)

/-- R460: RESUME repeats the held segment's current step; after a pause the next segment is taken. -/
def waveResume (s : State) : State :=
  let s1 := setNum (setNum { s with update := { s.update with pause := false } } (kWave 2) 1) (kWave 6) 0
  if nat s (kWave 2) = 2 then waveSegment s1 (waveNext s (waveWorker s))
  else if nat s (kWave 2) ≠ 3 then s
  else if nat s (kWave 4) = 1 then waveSegment s1 (waveWorker s)
  else if nat s (kWave 4) = 2 then (if s.update.waveSecond then waveWrite s1 else waveFind s1)
  else if nat s (kWave 4) = 3 then setPhase s1 .settle
  else waveSwap s1

/-- WAVE_CONTROL (R459, R460). -/
def commandWave (s : State) (v : Int) : State :=
  if v = 1 then waveStart s
  else if v = 2 then (if nat s (kWave 2) = 1 then { s with update := { s.update with pause := true } } else s)
  else if v = 3 then waveResume s
  else if 1 ≤ nat s (kWave 2) ∧ nat s (kWave 2) ≤ 3 then setPhase (setNum (dropWave s) (kWave 2) 5) .idle
  else s

/-- WAVE_SETTLE (R459): the trial module has been OPERATIONAL in TRIAL for `WAVE_SETTLE`; its trial is looked at and confirmed. -/
def execWaveSettle (s : State) : Host.Outcome State Fault Refusal :=
  .next (if nat s (kWave 2) = 1 ∧ s.update.wavePhase = .settle then waveAskModule (setPhase s .trial) (.read (refOf (kUpdate 0xB))) else s)

/-- WAVE_TIMEOUT (R460): a segment has not finished in time. -/
def execWaveTimeout (s : State) : Host.Outcome State Fault Refusal :=
  .next (if nat s (kWave 2) = 1 then holdWave s 4 else s)

end Sys2Proof.Machine
end

