-- ==== Sys2Proof/Machine/Duty.lean ====
section
/-!
DEFINITION. What a manager does for its workers of itself (Table 1-5, R35, R38, R386): schedules and scenes are sent to them, their neighbour tables are read, and
beacon offsets and channel-map phases are assigned. The requests travel as proxied ones do (R123); their order, and what follows a failure, is in log entry 74.
-/

namespace Sys2Proof.Machine

/-- The session number under which the manager's own requests stand. -/
abbrev dutySid : Nat := 0x901

/-- Whether this module coordinates workers: the active module of segment m/0. -/
def coordinates (s : State) : Bool := !isStandby s && nat s kAddrActive != 0xFFFF && nat s kAddrActive % 256 == 0

/-- The rostered workers. -/
def workers (s : State) : List Nat := (List.range 256).filter (rostered s)

/-! ### One request after another for each worker -/

/-- A request of the manager's own to a worker, with the content that follows it. -/
def dutyAsk (s : State) (w : Nat) (o : MdpOp) (content : Bytes) : State :=
  forwardOp s dutySid 0 (workerAddr s w) 0 o .integrator (nat s 0x210006) 0 content

/-- The offset and phase assigned to a worker. -/
def assigned (s : State) (w : Nat) : Nat × Nat :=
  if w = 0 then (nat s (kAir 7), nat s (kAir 6)) else (tabFind s.update.assigned w).getD (0, 0)

/-- A duty towards a worker begins: its neighbour table is read, its offset or phase written, or a content of this module's sent. -/
def dutyBegin (s : State) (w : Nat) (k : Key) : State :=
  if k = kAir 0xE then dutyAsk s w (.blockBegin (refOf k) false 0 0) []
  else if k = kAir 7 then dutyAsk s w (.write (refOf k) (leBytes 1 (assigned s w).1)) []
  else if k = kAir 6 then dutyAsk s w (.write (refOf k) (leBytes 2 (assigned s w).2)) []
  else
    let b := domain s k
    dutyAsk s w (.blockBegin (refOf k) true (BitVec.ofNat 32 b.length) (BitVec.ofNat 32 (crc32 b))) b

/-- Whether a request of the manager's own to a worker is under way. -/
def dutyRuns (s : State) (w : Nat) : Bool := s.server.flights.any fun f => f.2.sid == dutySid && f.2.target == workerAddr s w

/-- The next duty towards a worker begins once the one before it is over. -/
def dutyNext (s : State) (w : Nat) : State :=
  if dutyRuns s w then s
  else match s.update.duties.find? fun d => d.1 == w with
    | some d => dutyBegin { s with update := { s.update with duties := s.update.duties.erase d } } w d.2
    | none => s

/-- A duty joins those of its worker, unless it waits there already. -/
def dutyAdd (s : State) (w : Nat) (k : Key) : State :=
  let s1 := if s.update.duties.contains (w, k) then s else { s with update := { s.update with duties := s.update.duties ++ [(w, k)] } }
  dutyNext s1 w

/-! ### Beacon offsets and phases (R38, R386) -/

/-- The addresses in a neighbour table's bytes (Table 15-10). -/
def tableAddrs (b : Bytes) : List Nat := (List.range (b.length / 8)).map fun i => fieldAt b (8 * i) 2

/-- The addresses that the neighbour table of a segment shows. -/
def heardBy (s : State) (w : Nat) : List Nat := if w = 0 then tabKeys s.air.neighbours else tableAddrs ((tabFind s.update.tables w).getD [])

/-- Whether two segments of the roster are within radio range: either's table shows the other. -/
def inRange (s : State) (x y : Nat) : Bool := (heardBy s x).contains (workerAddr s y) || (heardBy s y).contains (workerAddr s x)

/-- Two offsets at least 3 slots apart around the superframe of 50. -/
def apart (x y : Nat) : Bool := 3 ≤ (x + 50 - y) % 50 && (x + 50 - y) % 50 ≤ 47

/-- A segment's offset and phase beside those of the segments in range that have theirs already: the ones it has if they suit, else the first that do. -/
def assignOne (s : State) (done : Tab (Nat × Nat)) (w : Nat) : Nat × Nat :=
  let near := done.filter fun p => inRange s p.1 w
  let old := assigned s w
  (((old.1 :: List.range 50).find? fun o => near.all fun p => apart o p.2.1).getD old.1,
   ((old.2 :: List.range 256).find? fun h => near.all fun p => h != p.2.2).getD old.2)

/-- The assignment to every segment of the roster, this one's first. -/
def offsetPlan (s : State) : Tab (Nat × Nat) := (0 :: workers s).foldl (fun t w => tabPut t w (assignOne s t w)) []

/-- A segment takes its assignment: this one by a write of its own, a worker by requests. -/
def assignTo (s : State) (w : Nat) (new : Nat × Nat) : State :=
  let old := assigned s w
  if w = 0 then
    let s1 := if new.1 = old.1 then s else afterAir (persist s [(kAir 7, .num new.1)]) 7
    if new.2 = old.2 then s1 else afterAir (persist s1 [(kAir 6, .num new.2)]) 6
  else
    let fresh := (tabFind s.update.assigned w).isNone
    let s1 := { s with update := { s.update with assigned := tabPut s.update.assigned w new } }
    let s2 := if fresh ∨ new.1 ≠ old.1 then dutyAdd s1 w (kAir 7) else s1
    if fresh ∨ new.2 ≠ old.2 then dutyAdd s2 w (kAir 6) else s2

/-- The manager assigns offsets and phases. -/
def assignAll (s : State) : State := if coordinates s then (offsetPlan s).foldl (fun t p => assignTo t p.1 p.2) s else s

/-! ### What begins a duty -/

/-- A worker joins the roster: it is sent the schedule and the scenes, its neighbour table is read, and it is assigned an offset and a phase. -/
def workerJoins (s : State) (w : Nat) : State :=
  if !coordinates s ∨ !rostered s w then s
  else
    let scenes := ((List.range 256).map kScene).filter fun k => domain s k != []
    (kSchedule :: scenes ++ [kAir 0xE]).foldl (fun t k => dutyAdd t w k) (assignAll s)

/-- The schedule or a scene has changed: every worker is sent it. -/
def contentChanged (s : State) (k : Key) : State := if coordinates s then (workers s).foldl (fun t w => dutyAdd t w k) s else s

/-- This segment's neighbour table has changed: the others are read anew. -/
def neighboursChanged (s : State) : State :=
  if coordinates s then (workers s).foldl (fun t w => dutyAdd t w (kAir 0xE)) (assignAll s) else s

/-! ### The answers -/

/-- A duty is over, done or failed. -/
def dutyOver (s : State) (f : Flight) : State := dutyNext s (f.target % 256)

/-- A block of the content is written from an offset, or the transfer ends. -/
def dutySend (s : State) (f : Flight) (h : Byte) (off : Nat) : State :=
  let w := f.target % 256
  if off < f.content.length then dutyAsk s w (.blockData h (BitVec.ofNat 32 off) (.write (slice f.content off 1267))) f.content
  else dutyAsk s w (.blockEnd h) []

/-- The response to a request of the manager's own: status and body. -/
def dutyResponse (s : State) (f : Flight) (status : Nat) (b : Bytes) : State :=
  let w := f.target % 256
  if status ≠ 0 then dutyOver s f
  else match f.inner with
    | .blockBegin _ true _ _ => dutySend s f (BitVec.ofNat 8 (byteAt b 0)) 0
    | .blockBegin _ false _ _ =>
        dutyAsk s w (.blockData (BitVec.ofNat 8 (byteAt b 0)) 0 (.read (BitVec.ofNat 16 (min 256 (fieldAt b 1 4))))) []
    | .blockData h off (.write v) => dutySend s f h (off.toNat + v.length)
    | .blockData h _ (.read _) =>
        assignAll (dutyAsk { s with update := { s.update with tables := tabPut s.update.tables w (b.drop 2) } } w (.blockEnd h) [])
    | _ => dutyOver s f

/-- MESH_BEACON (R384): the neighbour table of up to 32 segments. A manager acts on its change (R386). -/
def execMeshBeacon (ext : BitVec 64) (rx : AirRx) (s : State) : Host.Outcome State Fault Refusal :=
  .next (match openMesh s ext.toNat rx with
    | (none, s1) => s1
    | (some m, s1) =>
        let a := fieldAt m 1 2
        if byteAt m 0 ≠ 0x11 ∨ m.length ≠ 7 then bump s1 (kAir 0x11)
        else if s1.air.neighbours.length < 32 ∨ (tabFind s1.air.neighbours a).isSome then
          let known := (tabFind s1.air.neighbours a).isSome
          let nb : Neighbour := { offset := byteAt m 3, phase := fieldAt m 4 2, rssi := rx.rssi.toInt, heardAt := s1.clk }
          let s2 := showRadio { s1 with air := { s1.air with neighbours := tabPut s1.air.neighbours a nb } }
          if known then s2 else neighboursChanged s2
        else s1)

end Sys2Proof.Machine
end

