-- ==== Sys2Proof/Machine/Operands.lean ====
section
/-!
DEFINITION. The operand forms of the engine instruction set (chapter 08): registers of each class (R185), a vector or scalar second operand
(R195), immediates (R192), predicated lanes (R189), and addresses (R164, R201, R202).
-/

namespace Sys2Proof.Machine

/-- R185: a scalar register; S0 reads 0. -/
def sReg (e : Engine) (r : Nat) : Word := if r = 0 then 0 else (tabFind e.s r).getD 0
/-- R185: write a scalar register; a write to S0 is ignored. -/
def setS (e : Engine) (r : Nat) (w : Word) : Engine := if r = 0 then e else { e with s := tabPut e.s r w }
/-- Lane `i` of a vector register. -/
def vLane (e : Engine) (r i : Nat) : Half := (tabFind e.v (8 * r + i)).getD 0
/-- Write lane `i` of a vector register. -/
def setV (e : Engine) (r i : Nat) (x : Half) : Engine := { e with v := tabPut e.v (8 * r + i) x }
/-- R185: a predicate register; P0 reads 0xFF. -/
def pReg (e : Engine) (p : Nat) : Byte := if p = 0 then 0xFF else (tabFind e.p p).getD 0
/-- R185: write a predicate register; a write to P0 is ignored. -/
def setP (e : Engine) (p : Nat) (x : Byte) : Engine := if p = 0 then e else { e with p := tabPut e.p p x }
/-- Lane `i` of an accumulator. -/
def aLane (e : Engine) (r i : Nat) : Int := (tabFind e.a (8 * r + i)).getD 0
/-- Write lane `i` of an accumulator. -/
def setA (e : Engine) (r i : Nat) (x : Int) : Engine := { e with a := tabPut e.a (8 * r + i) x }

/-- R195: lane `i` of the second operand: a vector's lane, or the low half of a scalar in every lane. -/
def vbLane (e : Engine) (b : VB) (i : Nat) : Half :=
  match b with
  | .vec r => vLane e r i
  | .scal r => (sReg e r).setWidth 16

/-- R189: whether lane `i` is active under a governing predicate. -/
def laneOn (e : Engine) (pg i : Nat) : Bool := (pReg e pg).getLsbD i

/-- R192: an 18-bit immediate, sign-extended. -/
def immS (imm : BitVec 18) : Word := imm.signExtend 32
/-- R192: an 18-bit immediate, zero-extended. -/
def immZ (imm : BitVec 18) : Word := imm.setWidth 32

/-- An engine address plus a signed offset, modulo 2³². -/
def addrPlus (base : Word) (off : Int) : Nat := (base + BitVec.ofInt 32 off).toNat

/-- R164: whether an access of `n` bytes at an engine address lies in local data memory. -/
def inLocal (a n : Nat) : Bool := a + n ≤ 0x20000

/-- Whether an offset in cell memory may be written by a program (Tables 7-2, 7-3): burn accumulators, zone state, luminaire and area
state, OEM area. -/
def ownArea (off : Nat) : Bool :=
  (0x140000 ≤ off && off < 0x1C0000) || (0x240000 ≤ off && off < 0x2C0000) || (0x383000 ≤ off && off < 0x389000)
    || 0x390000 ≤ off

/-- R164: where an engine's aligned access of `n` bytes lies in memory, or the exception it raises: 1 outside Table 7-2, 4 a store into a
read-only range. -/
def translate (k : Nat) (e : Engine) (isStore : Bool) (a n : Nat) : Except Nat Nat :=
  if inLocal a n then .ok (localBase k + a)
  else if a < 0x10000000 ∨ 0x10400000 < a + n then .error 1
  else
    let off := a - 0x10000000
    if off < 0x20000 then .ok (cellBase + (if e.select then 0x20000 else 0) + off)
    else if off < 0x40000 then
      if isStore then .error 4 else .ok (cellBase + (if e.select then 0 else 0x20000) + (off - 0x20000))
    else if isStore && !ownArea off then .error 4
    else .ok (cellBase + off)

/-- R204: the exception of one access: the lowest code that applies; `size` is its alignment. -/
def accessError (k : Nat) (e : Engine) (isStore : Bool) (a n size : Nat) : Option Nat :=
  match translate k e isStore a n with
  | .error c => if a % size != 0 && 3 < c then some 3 else some c
  | .ok _ => if a % size != 0 then some 3 else none

/-- The physical address of an access that raises nothing. -/
def physical (k : Nat) (e : Engine) (isStore : Bool) (a n : Nat) : Nat :=
  match translate k e isStore a n with
  | .ok p => p
  | .error _ => 0

/-- The lowest of several exception codes. -/
def lowest (l : List (Option Nat)) : Option Nat :=
  l.foldl (fun best c => match best, c with
    | none, x => x
    | some b, some c => some (min b c)
    | some b, none => some b) none

end Sys2Proof.Machine
end

