-- ==== Sys2Proof/Machine/Flags.lean ====
section
/-!
DEFINITION. The flags of ESTAT and the saturating computations that set them (R190), the end of an instruction with its loop units (R194), and
the fetch check (R193).
-/

namespace Sys2Proof.Machine

/-- Bit 0 of ESTAT: SSAT, a scalar clamp. -/
abbrev flagSsat : Word := 1
/-- Bit 1 of ESTAT: VSAT, a vector clamp. -/
abbrev flagVsat : Word := 2
/-- Bit 2 of ESTAT: ASAT, an accumulator clamp. -/
abbrev flagAsat : Word := 4

/-- Set a sticky flag when a clamp happened (R190). -/
def mark (e : Engine) (f : Word) (clamped : Bool) : Engine := if clamped then { e with estat := e.estat ||| f } else e

/-- sat_s16: the value as 16 bits, and whether it was clamped. -/
def satS16 (x : Int) : Half × Bool := (BitVec.ofInt 16 (clampInt (-32768) 32767 x), decide (x < -32768 ∨ 32767 < x))
/-- sat_u16: the value as 16 bits, and whether it was clamped. -/
def satU16 (x : Int) : Half × Bool := (BitVec.ofInt 16 (clampInt 0 65535 x), decide (x < 0 ∨ 65535 < x))
/-- Saturation to a signed 32-bit value. -/
def satS32 (x : Int) : Word × Bool :=
  (BitVec.ofInt 32 (clampInt (-2147483648) 2147483647 x), decide (x < -2147483648 ∨ 2147483647 < x))
/-- R197: the clamp of an accumulator lane to signed 40 bits. -/
def satAcc (x : Int) : Int × Bool :=
  (clampInt (-(2 ^ 39)) (2 ^ 39 - 1) x, decide (x < -(2 ^ 39) ∨ 2 ^ 39 - 1 < x))
/-- A lane with no clamp. -/
def plain (x : Half) : Half × Bool := (x, false)

/-- Whether a loop unit runs: active with a count above 0. -/
def LoopUnit.on (u : LoopUnit) : Bool := u.active && u.count != 0

/-- R194: LU0 at the end of an instruction. -/
def endLoop0 (e : Engine) : Engine :=
  if e.lu0.on && e.lu0.last == e.pc then
    if 1 < e.lu0.count then { e with lu0 := { e.lu0 with count := e.lu0.count - 1 }, pc := e.lu0.start }
    else { e with lu0 := { e.lu0 with count := 0 }, pc := e.pc + 1 }
  else { e with pc := e.pc + 1 }

/-- R194: the end of an instruction: LU1 is evaluated first, LU0 only once LU1 has ended; otherwise the next instruction follows. -/
def advance (e : Engine) : Engine :=
  if e.lu1.on && e.lu1.last == e.pc then
    if 1 < e.lu1.count then { e with lu1 := { e.lu1 with count := e.lu1.count - 1 }, pc := e.lu1.start }
    else endLoop0 { e with lu1 := { e.lu1 with count := 0 } }
  else endLoop0 e

/-- R194: a unit is left inactive by a jump whose target lies outside its body. -/
def leaveLoop (u : LoopUnit) (target : Nat) : LoopUnit :=
  if u.start ≤ target ∧ target ≤ u.last then u else { u with active := false }

/-- A taken branch or jump. -/
def jumpTo (e : Engine) (target : Nat) : Engine :=
  { e with pc := target, lu0 := leaveLoop e.lu0 target, lu1 := leaveLoop e.lu1 target }

/-- Instructions of an engine's code. -/
def codeSize (e : Engine) : Nat := e.code.length / 4

/-- Issue of an instruction on engine `k`: an engine that is not in its tick or is stalled executes nothing; a fetch beyond the code raises
PC_RANGE (R193). -/
def issue (k : Nat) (s : State) (f : Engine → State) : State :=
  let e := engine s k
  if !e.active || e.stall.isSome then s
  else if codeSize e ≤ e.pc then engineException s k 7
  else f e

/-- An instruction that only changes its engine and goes on. -/
def simple (k : Nat) (s : State) (f : Engine → Engine) : Host.Outcome State Fault Refusal :=
  .next (issue k s fun e => putEngine s k (advance (f e)))

/-- A scalar result into S[D]. -/
def scalar (k : Nat) (d : Nat) (s : State) (f : Engine → Word) : Host.Outcome State Fault Refusal :=
  simple k s fun e => setS e d (f e)

/-- A saturated scalar result into S[D], with SSAT (R190). -/
def scalarSat (k : Nat) (d : Nat) (s : State) (f : Engine → Word × Bool) : Host.Outcome State Fault Refusal :=
  simple k s fun e => mark (setS e d (f e).1) flagSsat (f e).2

/-- R189: one lane of a predicated vector result. -/
def writeLane (old : Engine) (d : Nat) (g : Pred) (f : Nat → Half × Bool) (e : Engine) (i : Nat) : Engine :=
  if laneOn old g.pg i then mark (setV e d i (f i).1) flagVsat (f i).2
  else if g.pz then setV e d i 0 else e

/-- R189, R190: a predicated vector result, every source read before any lane is written. -/
def writeLanes (old : Engine) (d : Nat) (g : Pred) (f : Nat → Half × Bool) (e : Engine) : Engine :=
  (List.range 8).foldl (writeLane old d g f) e

/-- A vector instruction into V[D]. -/
def vector (k : Nat) (d : Nat) (g : Pred) (s : State) (f : Engine → Nat → Half × Bool) : Host.Outcome State Fault Refusal :=
  simple k s fun e => writeLanes e d g (f e) e

/-- R197: one lane of a predicated accumulator result. -/
def writeAcc (old : Engine) (d : Nat) (g : Pred) (f : Nat → Int) (e : Engine) (i : Nat) : Engine :=
  if laneOn old g.pg i then mark (setA e d i (satAcc (f i)).1) flagAsat (satAcc (f i)).2
  else if g.pz then setA e d i 0 else e

/-- An instruction into accumulator A[D]. -/
def accumulate (k : Nat) (d : Nat) (g : Pred) (s : State) (f : Engine → Nat → Int) : Host.Outcome State Fault Refusal :=
  simple k s fun e => (List.range 8).foldl (writeAcc e d g (f e)) e

/-- R198: the bits of a comparison into P[D]; an inactive bit keeps its value or becomes 0. -/
def compareBits (e : Engine) (d : Nat) (g : Pred) (f : Nat → Bool) : Byte :=
  BitVec.ofNat 8 ((List.range 8).foldl (fun x i =>
    x + (if (if laneOn e g.pg i then f i else if g.pz then false else (pReg e d).getLsbD i) then 2 ^ i else 0)) 0)

/-- A compare into P[D]. -/
def compare (k : Nat) (d : Nat) (g : Pred) (s : State) (f : Engine → Nat → Bool) : Host.Outcome State Fault Refusal :=
  simple k s fun e => setP e d (compareBits e d g (f e))

/-- R189: a sum over the active lanes. -/
def laneSum (e : Engine) (pg : Nat) (f : Nat → Int) : Int :=
  (List.range 8).foldl (fun x i => if laneOn e pg i then x + f i else x) 0

end Sys2Proof.Machine
end

