-- ==== Sys2Proof/Machine/Scalar.lean ====
section
/-!
DEFINITION. The scalar instructions of the kernel engines (R191 to R194): the scalar ALU, the immediates, branches, jumps and loops.
-/

namespace Sys2Proof.Machine

/-- ADD (R191, `add`: S[A] + S[B]). -/
def execAdd (k d a b : Fin 16) (s : State) : Host.Outcome State Fault Refusal :=
  scalar k d s fun e => sReg e a + sReg e b

/-- SUB (R191, `sub`: S[A] − S[B]). -/
def execSub (k d a b : Fin 16) (s : State) : Host.Outcome State Fault Refusal :=
  scalar k d s fun e => sReg e a - sReg e b

/-- AND (R191, `and`). -/
def execAnd (k d a b : Fin 16) (s : State) : Host.Outcome State Fault Refusal :=
  scalar k d s fun e => sReg e a &&& sReg e b

/-- OR (R191, `or`). -/
def execOr (k d a b : Fin 16) (s : State) : Host.Outcome State Fault Refusal :=
  scalar k d s fun e => sReg e a ||| sReg e b

/-- XOR (R191, `xor`). -/
def execXor (k d a b : Fin 16) (s : State) : Host.Outcome State Fault Refusal :=
  scalar k d s fun e => sReg e a ^^^ sReg e b

/-- SLL (R191, `sll`: shifted by S[B] & 31). -/
def execSll (k d a b : Fin 16) (s : State) : Host.Outcome State Fault Refusal :=
  scalar k d s fun e => sReg e a <<< ((sReg e b).toNat % 32)

/-- SRL (R191, `srl`: shifted by S[B] & 31). -/
def execSrl (k d a b : Fin 16) (s : State) : Host.Outcome State Fault Refusal :=
  scalar k d s fun e => sReg e a >>> ((sReg e b).toNat % 32)

/-- SRA (R191, `sra`: arithmetic, by S[B] & 31). -/
def execSra (k d a b : Fin 16) (s : State) : Host.Outcome State Fault Refusal :=
  scalar k d s fun e => (sReg e a).sshiftRight ((sReg e b).toNat % 32)

/-- MUL (R191, `mul`: low 32 bits of the product). -/
def execMul (k d a b : Fin 16) (s : State) : Host.Outcome State Fault Refusal :=
  scalar k d s fun e => sReg e a * sReg e b

/-- MULH (R191, `mulh`: high 32 bits of the signed product). -/
def execMulh (k d a b : Fin 16) (s : State) : Host.Outcome State Fault Refusal :=
  scalar k d s fun e => BitVec.ofInt 32 ((sReg e a).toInt * (sReg e b).toInt / 4294967296)

/-- MULHU (R191, `mulhu`: high 32 bits of the unsigned product). -/
def execMulhu (k d a b : Fin 16) (s : State) : Host.Outcome State Fault Refusal :=
  scalar k d s fun e => BitVec.ofNat 32 ((sReg e a).toNat * (sReg e b).toNat / 4294967296)

/-- SLT (R191, `slt`: 1 if S[A] < S[B] signed, else 0). -/
def execSlt (k d a b : Fin 16) (s : State) : Host.Outcome State Fault Refusal :=
  scalar k d s fun e => if (sReg e a).slt (sReg e b) then 1 else 0

/-- SLTU (R191, `sltu`: 1 if S[A] < S[B] unsigned, else 0). -/
def execSltu (k d a b : Fin 16) (s : State) : Host.Outcome State Fault Refusal :=
  scalar k d s fun e => if (sReg e a).ult (sReg e b) then 1 else 0

/-- MIN (R191, `min`, signed). -/
def execMin (k d a b : Fin 16) (s : State) : Host.Outcome State Fault Refusal :=
  scalar k d s fun e => if (sReg e b).slt (sReg e a) then sReg e b else sReg e a

/-- MAX (R191, `max`, signed). -/
def execMax (k d a b : Fin 16) (s : State) : Host.Outcome State Fault Refusal :=
  scalar k d s fun e => if (sReg e a).slt (sReg e b) then sReg e b else sReg e a

/-- MINU (R191, `minu`, unsigned). -/
def execMinu (k d a b : Fin 16) (s : State) : Host.Outcome State Fault Refusal :=
  scalar k d s fun e => if (sReg e b).ult (sReg e a) then sReg e b else sReg e a

/-- MAXU (R191, `maxu`, unsigned). -/
def execMaxu (k d a b : Fin 16) (s : State) : Host.Outcome State Fault Refusal :=
  scalar k d s fun e => if (sReg e a).ult (sReg e b) then sReg e b else sReg e a

/-- ADDS (R191, `adds`): saturated to −2³¹ to 2³¹ − 1, with SSAT. -/
def execAdds (k d a b : Fin 16) (s : State) : Host.Outcome State Fault Refusal :=
  scalarSat k d s fun e => satS32 ((sReg e a).toInt + (sReg e b).toInt)

/-- SUBS (R191, `subs`): saturated to −2³¹ to 2³¹ − 1, with SSAT. -/
def execSubs (k d a b : Fin 16) (s : State) : Host.Outcome State Fault Refusal :=
  scalarSat k d s fun e => satS32 ((sReg e a).toInt - (sReg e b).toInt)

/-- Leading zeros of a number seen in `w` bits. -/
def leadingZeros (w x : Nat) : Nat := if x = 0 then w else w - 1 - x.log2

/-- CLZ (R191, `clz`): leading zeros of S[A], 32 for 0. -/
def execClz (k d a : Fin 16) (s : State) : Host.Outcome State Fault Refusal :=
  scalar k d s fun e => BitVec.ofNat 32 (leadingZeros 32 (sReg e a).toNat)

/-- ADDI (R192), IMM sign-extended. -/
def execAddi (k d a : Fin 16) (imm : BitVec 18) (s : State) : Host.Outcome State Fault Refusal :=
  scalar k d s fun e => sReg e a + immS imm

/-- ANDI (R192), IMM zero-extended. -/
def execAndi (k d a : Fin 16) (imm : BitVec 18) (s : State) : Host.Outcome State Fault Refusal :=
  scalar k d s fun e => sReg e a &&& immZ imm

/-- ORI (R192), IMM zero-extended. -/
def execOri (k d a : Fin 16) (imm : BitVec 18) (s : State) : Host.Outcome State Fault Refusal :=
  scalar k d s fun e => sReg e a ||| immZ imm

/-- XORI (R192), IMM zero-extended. -/
def execXori (k d a : Fin 16) (imm : BitVec 18) (s : State) : Host.Outcome State Fault Refusal :=
  scalar k d s fun e => sReg e a ^^^ immZ imm

/-- SLLI (R192): a shift by an immediate amount. -/
def execSlli (k d a : Fin 16) (sh : Fin 32) (s : State) : Host.Outcome State Fault Refusal :=
  scalar k d s fun e => sReg e a <<< sh.val

/-- SRLI (R192): a shift by an immediate amount. -/
def execSrli (k d a : Fin 16) (sh : Fin 32) (s : State) : Host.Outcome State Fault Refusal :=
  scalar k d s fun e => sReg e a >>> sh.val

/-- SRAI (R192): a shift by an immediate amount. -/
def execSrai (k d a : Fin 16) (sh : Fin 32) (s : State) : Host.Outcome State Fault Refusal :=
  scalar k d s fun e => (sReg e a).sshiftRight sh.val

/-- SLTI (R192): a signed compare with the sign-extended immediate. -/
def execSlti (k d a : Fin 16) (imm : BitVec 18) (s : State) : Host.Outcome State Fault Refusal :=
  scalar k d s fun e => if (sReg e a).slt (immS imm) then 1 else 0

/-- SLTIU (R192): an unsigned compare with the sign-extended immediate. -/
def execSltiu (k d a : Fin 16) (imm : BitVec 18) (s : State) : Host.Outcome State Fault Refusal :=
  scalar k d s fun e => if (sReg e a).ult (immS imm) then 1 else 0

/-- LUI (R192): S[D] := IMM << 10. -/
def execLui (k d : Fin 16) (imm : BitVec 22) (s : State) : Host.Outcome State Fault Refusal :=
  scalar k d s fun _ => imm.setWidth 32 <<< 10

/-- R188, R193: a branch target, an offset from the instruction's own index; none outside the code image, which is an illegal
encoding. -/
def target (e : Engine) (off : Int) : Option Nat :=
  let t := (e.pc : Int) + off
  if 0 ≤ t ∧ t < codeSize e then some t.toNat else none

/-- Whether engine `k` would execute an instruction now. -/
def issues (s : State) (k : Nat) : Bool :=
  (engine s k).active && (engine s k).stall.isNone && (engine s k).pc < codeSize (engine s k)

/-- R193: a branch; an encoding whose target lies outside the code is illegal (R188). -/
def branch (k : Nat) (off : Int) (s : State) (f : Engine → Bool) : Host.Outcome State Fault Refusal :=
  match target (engine s k) off with
  | some t => .next (issue k s fun e => putEngine s k (if f e then jumpTo e t else advance e))
  | none => if issues s k then .refused .illegalEncoding else .next (issue k s fun _ => s)

/-- BEQ (R193): branches when equal. -/
def execBeq (k a b : Fin 16) (off : BitVec 18) (s : State) : Host.Outcome State Fault Refusal :=
  branch k off.toInt s fun e => sReg e a == sReg e b

/-- BNE (R193): branches when not equal. -/
def execBne (k a b : Fin 16) (off : BitVec 18) (s : State) : Host.Outcome State Fault Refusal :=
  branch k off.toInt s fun e => sReg e a != sReg e b

/-- BLT (R193): branches when S[A] < S[B] signed. -/
def execBlt (k a b : Fin 16) (off : BitVec 18) (s : State) : Host.Outcome State Fault Refusal :=
  branch k off.toInt s fun e => (sReg e a).slt (sReg e b)

/-- BGE (R193): branches when S[A] ≥ S[B] signed. -/
def execBge (k a b : Fin 16) (off : BitVec 18) (s : State) : Host.Outcome State Fault Refusal :=
  branch k off.toInt s fun e => !(sReg e a).slt (sReg e b)

/-- BLTU (R193): branches when S[A] < S[B] unsigned. -/
def execBltu (k a b : Fin 16) (off : BitVec 18) (s : State) : Host.Outcome State Fault Refusal :=
  branch k off.toInt s fun e => (sReg e a).ult (sReg e b)

/-- BGEU (R193): branches when S[A] ≥ S[B] unsigned. -/
def execBgeu (k a b : Fin 16) (off : BitVec 18) (s : State) : Host.Outcome State Fault Refusal :=
  branch k off.toInt s fun e => !(sReg e a).ult (sReg e b)

/-- JMP (R193): PC := PC + OFF. -/
def execJmp (k : Fin 16) (off : BitVec 26) (s : State) : Host.Outcome State Fault Refusal :=
  branch k off.toInt s fun _ => true

/-- JAL (R193): links PC + 1 into S[D], then PC := PC + OFF. -/
def execJal (k d : Fin 16) (off : BitVec 22) (s : State) : Host.Outcome State Fault Refusal :=
  match target (engine s k) off.toInt with
  | some t => .next (issue k s fun e => putEngine s k (jumpTo (setS e d (BitVec.ofNat 32 (e.pc + 1))) t))
  | none => if issues s k then .refused .illegalEncoding else .next (issue k s fun _ => s)

/-- JR (R193): PC := S[A]; a target beyond the code raises PC_RANGE at its fetch. -/
def execJr (k a : Fin 16) (s : State) : Host.Outcome State Fault Refusal :=
  .next (issue k s fun e => putEngine s k (jumpTo e (sReg e a).toNat))

/-- A loop unit started over the next `len` instructions with a count above 0. -/
def startUnit (e : Engine) (len count : Nat) : LoopUnit :=
  { active := true, start := e.pc + 1, last := e.pc + len, count := count }

/-- LOOP (R194): activates a unit over the next LEN instructions; with count 0 it goes on after them. A body that leaves the code image is
an illegal encoding (R188). -/
def execLoop (k : Fin 16) (unit : Bool) (count : LoopCount) (len : BitVec 12) (s : State) : Host.Outcome State Fault Refusal :=
  let e0 := engine s k
  if issues s k ∧ (len = 0 ∨ codeSize e0 ≤ e0.pc + len.toNat) then .refused .illegalEncoding
  else .next (issue k s fun e =>
    let n := match count with
      | .imm c => c.toNat
      | .reg a => (sReg e a).toNat
    let off : LoopUnit := {}
    let u := if n = 0 then off else startUnit e len.toNat n
    let e1 := if unit then { e with lu1 := u } else { e with lu0 := u }
    putEngine s k (if n = 0 then { e1 with pc := e.pc + len.toNat + 1 } else { e1 with pc := e.pc + 1 }))

/-- A unit whose count has reached 0 is inactive. -/
def endUnit (u : LoopUnit) : LoopUnit := if u.count = 0 then { u with active := false } else u

/-- LOOP_END (R194): a unit whose count has reached 0 at its body's last instruction becomes inactive. -/
def execLoopEnd (k : Fin 16) (unit : Bool) (s : State) : Host.Outcome State Fault Refusal :=
  let e := engine s k
  .next (putEngine s k (if unit then { e with lu1 := endUnit e.lu1 } else { e with lu0 := endUnit e.lu0 }))

end Sys2Proof.Machine
end

