-- ==== Sys2Proof/Machine/Vector.lean ====
section
/-!
DEFINITION. The vector instructions of the kernel engines: the vector ALU (R195), immediates and lane operations (R196), multiply-accumulate
(R197), compares and predicates (R198), approximations (R199).
-/

namespace Sys2Proof.Machine

open Colour (rnd)

/-- VADD (R195): wrapping add. -/
def execVadd (k d a : Fin 16) (b : VB) (g : Pred) (s : State) : Host.Outcome State Fault Refusal :=
  vector k d g s fun e i => plain (vLane e a i + vbLane e b i)

/-- VADDS (R195): signed saturating add. -/
def execVadds (k d a : Fin 16) (b : VB) (g : Pred) (s : State) : Host.Outcome State Fault Refusal :=
  vector k d g s fun e i => satS16 ((vLane e a i).toInt + (vbLane e b i).toInt)

/-- VADDUS (R195): unsigned saturating add. -/
def execVaddus (k d a : Fin 16) (b : VB) (g : Pred) (s : State) : Host.Outcome State Fault Refusal :=
  vector k d g s fun e i => satU16 ((vLane e a i).toNat + (vbLane e b i).toNat : Nat)

/-- VSUB (R195): wrapping subtract. -/
def execVsub (k d a : Fin 16) (b : VB) (g : Pred) (s : State) : Host.Outcome State Fault Refusal :=
  vector k d g s fun e i => plain (vLane e a i - vbLane e b i)

/-- VSUBS (R195): signed saturating subtract. -/
def execVsubs (k d a : Fin 16) (b : VB) (g : Pred) (s : State) : Host.Outcome State Fault Refusal :=
  vector k d g s fun e i => satS16 ((vLane e a i).toInt - (vbLane e b i).toInt)

/-- VSUBUS (R195): unsigned saturating subtract. -/
def execVsubus (k d a : Fin 16) (b : VB) (g : Pred) (s : State) : Host.Outcome State Fault Refusal :=
  vector k d g s fun e i => satU16 (((vLane e a i).toNat : Int) - ((vbLane e b i).toNat : Int))

/-- VAND (R195): AND. -/
def execVand (k d a : Fin 16) (b : VB) (g : Pred) (s : State) : Host.Outcome State Fault Refusal :=
  vector k d g s fun e i => plain (vLane e a i &&& vbLane e b i)

/-- VOR (R195): OR. -/
def execVor (k d a : Fin 16) (b : VB) (g : Pred) (s : State) : Host.Outcome State Fault Refusal :=
  vector k d g s fun e i => plain (vLane e a i ||| vbLane e b i)

/-- VXOR (R195): XOR. -/
def execVxor (k d a : Fin 16) (b : VB) (g : Pred) (s : State) : Host.Outcome State Fault Refusal :=
  vector k d g s fun e i => plain (vLane e a i ^^^ vbLane e b i)

/-- VANDN (R195): a AND NOT b. -/
def execVandn (k d a : Fin 16) (b : VB) (g : Pred) (s : State) : Host.Outcome State Fault Refusal :=
  vector k d g s fun e i => plain (vLane e a i &&& ~~~(vbLane e b i))

/-- VSLL (R195): shift left by u(b) & 15. -/
def execVsll (k d a : Fin 16) (b : VB) (g : Pred) (s : State) : Host.Outcome State Fault Refusal :=
  vector k d g s fun e i => plain (vLane e a i <<< ((vbLane e b i).toNat % 16))

/-- VSRL (R195): logical shift right by u(b) & 15. -/
def execVsrl (k d a : Fin 16) (b : VB) (g : Pred) (s : State) : Host.Outcome State Fault Refusal :=
  vector k d g s fun e i => plain (vLane e a i >>> ((vbLane e b i).toNat % 16))

/-- VSRA (R195): arithmetic shift right by u(b) & 15. -/
def execVsra (k d a : Fin 16) (b : VB) (g : Pred) (s : State) : Host.Outcome State Fault Refusal :=
  vector k d g s fun e i => plain ((vLane e a i).sshiftRight ((vbLane e b i).toNat % 16))

/-- VSLLI (R195): shift left by SH. -/
def execVslli (k d a : Fin 16) (sh : Fin 16) (g : Pred) (s : State) : Host.Outcome State Fault Refusal :=
  vector k d g s fun e i => plain (vLane e a i <<< sh.val)

/-- VSRLI (R195): logical shift right by SH. -/
def execVsrli (k d a : Fin 16) (sh : Fin 16) (g : Pred) (s : State) : Host.Outcome State Fault Refusal :=
  vector k d g s fun e i => plain (vLane e a i >>> sh.val)

/-- VSRAI (R195): arithmetic shift right by SH. -/
def execVsrai (k d a : Fin 16) (sh : Fin 16) (g : Pred) (s : State) : Host.Outcome State Fault Refusal :=
  vector k d g s fun e i => plain ((vLane e a i).sshiftRight sh.val)

/-- VRSRAI (R195): rnd(s(a), SH). -/
def execVrsrai (k d a : Fin 16) (sh : Fin 16) (g : Pred) (s : State) : Host.Outcome State Fault Refusal :=
  vector k d g s fun e i => plain (BitVec.ofInt 16 (rnd (vLane e a i).toInt sh))

/-- VMUL (R195): (u(a) × u(b)) mod 2¹⁶. -/
def execVmul (k d a : Fin 16) (b : VB) (g : Pred) (s : State) : Host.Outcome State Fault Refusal :=
  vector k d g s fun e i => plain (vLane e a i * vbLane e b i)

/-- VMULQ (R195): sat_s16(rnd(s(a) × s(b), SH)). -/
def execVmulq (k d a : Fin 16) (b : VB) (sh : Fin 32) (g : Pred) (s : State) : Host.Outcome State Fault Refusal :=
  vector k d g s fun e i => satS16 (rnd ((vLane e a i).toInt * (vbLane e b i).toInt) sh)

/-- VMULQU (R195): sat_u16(rnd(u(a) × u(b), SH)). -/
def execVmulqu (k d a : Fin 16) (b : VB) (sh : Fin 32) (g : Pred) (s : State) : Host.Outcome State Fault Refusal :=
  vector k d g s fun e i => satU16 (rnd ((vLane e a i).toNat * (vbLane e b i).toNat : Nat) sh)

/-- VMULQSU (R195): sat_s16(rnd(s(a) × u(b), SH)). -/
def execVmulqsu (k d a : Fin 16) (b : VB) (sh : Fin 32) (g : Pred) (s : State) : Host.Outcome State Fault Refusal :=
  vector k d g s fun e i => satS16 (rnd ((vLane e a i).toInt * ((vbLane e b i).toNat : Int)) sh)

/-- VMULHU (R195): (u(a) × u(b)) >> 16. -/
def execVmulhu (k d a : Fin 16) (b : VB) (g : Pred) (s : State) : Host.Outcome State Fault Refusal :=
  vector k d g s fun e i => plain (BitVec.ofNat 16 ((vLane e a i).toNat * (vbLane e b i).toNat / 65536))

/-- VMIN (R195): signed minimum. -/
def execVmin (k d a : Fin 16) (b : VB) (g : Pred) (s : State) : Host.Outcome State Fault Refusal :=
  vector k d g s fun e i => plain (if (vbLane e b i).slt (vLane e a i) then vbLane e b i else vLane e a i)

/-- VMAX (R195): signed maximum. -/
def execVmax (k d a : Fin 16) (b : VB) (g : Pred) (s : State) : Host.Outcome State Fault Refusal :=
  vector k d g s fun e i => plain (if (vLane e a i).slt (vbLane e b i) then vbLane e b i else vLane e a i)

/-- VMINU (R195): unsigned minimum. -/
def execVminu (k d a : Fin 16) (b : VB) (g : Pred) (s : State) : Host.Outcome State Fault Refusal :=
  vector k d g s fun e i => plain (if (vbLane e b i).ult (vLane e a i) then vbLane e b i else vLane e a i)

/-- VMAXU (R195): unsigned maximum. -/
def execVmaxu (k d a : Fin 16) (b : VB) (g : Pred) (s : State) : Host.Outcome State Fault Refusal :=
  vector k d g s fun e i => plain (if (vLane e a i).ult (vbLane e b i) then vbLane e b i else vLane e a i)

/-- VABS (R195): sat_s16(abs(s(a))). -/
def execVabs (k d a : Fin 16) (g : Pred) (s : State) : Host.Outcome State Fault Refusal :=
  vector k d g s fun e i => satS16 ((vLane e a i).toInt.natAbs : Nat)

/-- VCLZ (R195): leading zeros of a, 16 for 0. -/
def execVclz (k d a : Fin 16) (g : Pred) (s : State) : Host.Outcome State Fault Refusal :=
  vector k d g s fun e i => plain (BitVec.ofNat 16 (leadingZeros 16 (vLane e a i).toNat))

/-- VMOV (R195): a. -/
def execVmov (k d a : Fin 16) (g : Pred) (s : State) : Host.Outcome State Fault Refusal :=
  vector k d g s fun e i => plain (vLane e a i)

/-- VAVGU (R195): (u(a) + u(b) + 1) >> 1. -/
def execVavgu (k d a : Fin 16) (b : VB) (g : Pred) (s : State) : Host.Outcome State Fault Refusal :=
  vector k d g s fun e i => plain (BitVec.ofNat 16 (((vLane e a i).toNat + (vbLane e b i).toNat + 1) / 2))

/-- VSEL (R195): a where bit i of P[PG] is 1, else b, in every lane. -/
def execVsel (k d a : Fin 16) (b : VB) (pg : Fin 8) (s : State) : Host.Outcome State Fault Refusal :=
  vector k d { pg := 0, pz := false } s fun e i => plain (if laneOn e pg i then vLane e a i else vbLane e b i)

/-- VMOVI (R196): the lane becomes IMM. -/
def execVmovi (k d : Fin 16) (imm : Half) (g : Pred) (s : State) : Host.Outcome State Fault Refusal :=
  vector k d g s fun _ _ => plain imm

/-- VADDI (R196): the lane plus IMM, wrapping. -/
def execVaddi (k d : Fin 16) (imm : Half) (g : Pred) (s : State) : Host.Outcome State Fault Refusal :=
  vector k d g s fun e i => plain (vLane e d i + imm)

/-- VANDI (R196): the lane AND IMM. -/
def execVandi (k d : Fin 16) (imm : Half) (g : Pred) (s : State) : Host.Outcome State Fault Refusal :=
  vector k d g s fun e i => plain (vLane e d i &&& imm)

/-- VORI (R196): the lane OR IMM. -/
def execVori (k d : Fin 16) (imm : Half) (g : Pred) (s : State) : Host.Outcome State Fault Refusal :=
  vector k d g s fun e i => plain (vLane e d i ||| imm)

/-- VINS (R196): V[D] lane k := S[A][15:0]; the other lanes are unchanged. -/
def execVins (k d a : Fin 16) (lane : Fin 8) (s : State) : Host.Outcome State Fault Refusal :=
  simple k s fun e => setV e d lane ((sReg e a).setWidth 16)

/-- VEXT (R196): S[D] := lane k of V[A], sign-extended. -/
def execVext (k d a : Fin 16) (lane : Fin 8) (s : State) : Host.Outcome State Fault Refusal :=
  scalar k d s fun e => (vLane e a lane).signExtend 32

/-- VEXTU (R196): S[D] := lane k of V[A], zero-extended. -/
def execVextu (k d a : Fin 16) (lane : Fin 8) (s : State) : Host.Outcome State Fault Refusal :=
  scalar k d s fun e => (vLane e a lane).setWidth 32

/-- VSPLAT (R196): each lane of V[D] := S[A][15:0]. -/
def execVsplat (k d a : Fin 16) (g : Pred) (s : State) : Host.Outcome State Fault Refusal :=
  vector k d g s fun e _ => plain ((sReg e a).setWidth 16)

/-- VPERM (R196): lane i of V[D] := lane (u(V[B].i) & 7) of V[A]. -/
def execVperm (k d a b : Fin 16) (g : Pred) (s : State) : Host.Outcome State Fault Refusal :=
  vector k d g s fun e i => plain (vLane e a ((vLane e b i).toNat % 8))

/-- VSUM (R196): the signed sum of the active lanes. -/
def execVsum (k d a : Fin 16) (pg : Fin 8) (s : State) : Host.Outcome State Fault Refusal :=
  scalar k d s fun e => BitVec.ofInt 32 (laneSum e pg fun i => (vLane e a i).toInt)

/-- VSUMU (R196): the unsigned sum of the active lanes. -/
def execVsumu (k d a : Fin 16) (pg : Fin 8) (s : State) : Host.Outcome State Fault Refusal :=
  scalar k d s fun e => BitVec.ofInt 32 (laneSum e pg fun i => ((vLane e a i).toNat : Int))

/-- VMUL_A (R197): A := s(a) × s(b), clamped to 40 bits with ASAT. -/
def execVmulA (k : Fin 16) (d : Fin 4) (a b : Fin 16) (g : Pred) (s : State) : Host.Outcome State Fault Refusal :=
  accumulate k d g s fun e i => (vLane e a i).toInt * (vLane e b i).toInt

/-- VMULU_A (R197): A := u(a) × u(b), clamped to 40 bits with ASAT. -/
def execVmuluA (k : Fin 16) (d : Fin 4) (a b : Fin 16) (g : Pred) (s : State) : Host.Outcome State Fault Refusal :=
  accumulate k d g s fun e i => ((vLane e a i).toNat : Int) * (vLane e b i).toNat

/-- VMULSU_A (R197): A := s(a) × u(b), clamped to 40 bits with ASAT. -/
def execVmulsuA (k : Fin 16) (d : Fin 4) (a b : Fin 16) (g : Pred) (s : State) : Host.Outcome State Fault Refusal :=
  accumulate k d g s fun e i => (vLane e a i).toInt * (vLane e b i).toNat

/-- VMAC (R197): A := A + s(a) × s(b), clamped to 40 bits with ASAT. -/
def execVmac (k : Fin 16) (d : Fin 4) (a b : Fin 16) (g : Pred) (s : State) : Host.Outcome State Fault Refusal :=
  accumulate k d g s fun e i => aLane e d i + (vLane e a i).toInt * (vLane e b i).toInt

/-- VMACU (R197): A := A + u(a) × u(b), clamped to 40 bits with ASAT. -/
def execVmacu (k : Fin 16) (d : Fin 4) (a b : Fin 16) (g : Pred) (s : State) : Host.Outcome State Fault Refusal :=
  accumulate k d g s fun e i => aLane e d i + ((vLane e a i).toNat : Int) * (vLane e b i).toNat

/-- VMACSU (R197): A := A + s(a) × u(b), clamped to 40 bits with ASAT. -/
def execVmacsu (k : Fin 16) (d : Fin 4) (a b : Fin 16) (g : Pred) (s : State) : Host.Outcome State Fault Refusal :=
  accumulate k d g s fun e i => aLane e d i + (vLane e a i).toInt * (vLane e b i).toNat

/-- VMSB (R197): A := A − s(a) × s(b), clamped to 40 bits with ASAT. -/
def execVmsb (k : Fin 16) (d : Fin 4) (a b : Fin 16) (g : Pred) (s : State) : Host.Outcome State Fault Refusal :=
  accumulate k d g s fun e i => aLane e d i - (vLane e a i).toInt * (vLane e b i).toInt

/-- VACC_SET (R197): A := s(a) << SH. -/
def execVaccSet (k : Fin 16) (d : Fin 4) (a : Fin 16) (sh : Fin 24) (g : Pred) (s : State) : Host.Outcome State Fault Refusal :=
  accumulate k d g s fun e i => (vLane e a i).toInt * ((2 ^ sh.val : Nat) : Int)

/-- VACCU_SET (R197): A := u(a) << SH. -/
def execVaccuSet (k : Fin 16) (d : Fin 4) (a : Fin 16) (sh : Fin 24) (g : Pred) (s : State) : Host.Outcome State Fault Refusal :=
  accumulate k d g s fun e i => ((vLane e a i).toNat : Int) * ((2 ^ sh.val : Nat) : Int)

/-- VRD_S (R197): V[D] := sat_s16(rnd(A, SH)), with VSAT. -/
def execVrdS (k d : Fin 16) (a : Fin 4) (sh : Fin 32) (g : Pred) (s : State) : Host.Outcome State Fault Refusal :=
  vector k d g s fun e i => satS16 (rnd (aLane e a i) sh)

/-- VRD_U (R197): V[D] := sat_u16(rnd(A, SH)), with VSAT. -/
def execVrdU (k d : Fin 16) (a : Fin 4) (sh : Fin 32) (g : Pred) (s : State) : Host.Outcome State Fault Refusal :=
  vector k d g s fun e i => satU16 (rnd (aLane e a i) sh)

/-- VRD_W (R197): V[D] := rnd(A, SH) mod 2¹⁶, with no flag. -/
def execVrdW (k d : Fin 16) (a : Fin 4) (sh : Fin 32) (g : Pred) (s : State) : Host.Outcome State Fault Refusal :=
  vector k d g s fun e i => plain (BitVec.ofInt 16 (rnd (aLane e a i) sh))

/-- VCEQ (R198): bit i of P[D] is the equality of lane i. -/
def execVceq (k : Fin 16) (d : Fin 8) (a : Fin 16) (b : VB) (g : Pred) (s : State) : Host.Outcome State Fault Refusal :=
  compare k d g s fun e i => vLane e a i == vbLane e b i

/-- VCNE (R198): bit i of P[D] is the inequality of lane i. -/
def execVcne (k : Fin 16) (d : Fin 8) (a : Fin 16) (b : VB) (g : Pred) (s : State) : Host.Outcome State Fault Refusal :=
  compare k d g s fun e i => vLane e a i != vbLane e b i

/-- VCLT (R198): bit i of P[D] is the signed less-than of lane i. -/
def execVclt (k : Fin 16) (d : Fin 8) (a : Fin 16) (b : VB) (g : Pred) (s : State) : Host.Outcome State Fault Refusal :=
  compare k d g s fun e i => (vLane e a i).slt (vbLane e b i)

/-- VCLE (R198): bit i of P[D] is the signed less-or-equal of lane i. -/
def execVcle (k : Fin 16) (d : Fin 8) (a : Fin 16) (b : VB) (g : Pred) (s : State) : Host.Outcome State Fault Refusal :=
  compare k d g s fun e i => (vLane e a i).sle (vbLane e b i)

/-- VCLTU (R198): bit i of P[D] is the unsigned less-than of lane i. -/
def execVcltu (k : Fin 16) (d : Fin 8) (a : Fin 16) (b : VB) (g : Pred) (s : State) : Host.Outcome State Fault Refusal :=
  compare k d g s fun e i => (vLane e a i).ult (vbLane e b i)

/-- VCLEU (R198): bit i of P[D] is the unsigned less-or-equal of lane i. -/
def execVcleu (k : Fin 16) (d : Fin 8) (a : Fin 16) (b : VB) (g : Pred) (s : State) : Host.Outcome State Fault Refusal :=
  compare k d g s fun e i => (vLane e a i).ule (vbLane e b i)

/-- PAND (R198). -/
def execPand (k : Fin 16) (d a b : Fin 8) (s : State) : Host.Outcome State Fault Refusal :=
  simple k s fun e => setP e d (pReg e a &&& pReg e b)

/-- POR (R198). -/
def execPor (k : Fin 16) (d a b : Fin 8) (s : State) : Host.Outcome State Fault Refusal :=
  simple k s fun e => setP e d (pReg e a ||| pReg e b)

/-- PXOR (R198). -/
def execPxor (k : Fin 16) (d a b : Fin 8) (s : State) : Host.Outcome State Fault Refusal :=
  simple k s fun e => setP e d (pReg e a ^^^ pReg e b)

/-- PANDN (R198). -/
def execPandn (k : Fin 16) (d a b : Fin 8) (s : State) : Host.Outcome State Fault Refusal :=
  simple k s fun e => setP e d (pReg e a &&& ~~~(pReg e b))

/-- PNOT (R198). -/
def execPnot (k : Fin 16) (d a : Fin 8) (s : State) : Host.Outcome State Fault Refusal :=
  simple k s fun e => setP e d (~~~(pReg e a))

/-- PCNT (R198): the number of 1 bits of P[A]. -/
def execPcnt (k d : Fin 16) (a : Fin 8) (s : State) : Host.Outcome State Fault Refusal :=
  scalar k d s fun e => BitVec.ofNat 32 ((List.range 8).filter fun i => (pReg e a).getLsbD i).length

/-- PGET (R198): P[A], zero-extended. -/
def execPget (k d : Fin 16) (a : Fin 8) (s : State) : Host.Outcome State Fault Refusal :=
  scalar k d s fun e => (pReg e a).setWidth 32

/-- PSET (R198): P[D] := S[A][7:0]. -/
def execPset (k : Fin 16) (d : Fin 8) (a : Fin 16) (s : State) : Host.Outcome State Fault Refusal :=
  simple k s fun e => setP e d ((sReg e a).setWidth 8)

/-! ### Approximations (R199, Table 8-8) -/

/-- The exact value of Table 8-8: 2³¹ / x rounded, at most 65,535. -/
def exactRcp (x : Nat) : Int := min 65535 (((2 ^ 32 + x) / (2 * x) : Nat) : Int)
/-- 2²³ / √x rounded, at most 65,535. -/
def exactRsqrt (x : Nat) : Int := min 65535 (((isqrt (2 ^ 48 / x) + 1) / 2 : Nat) : Int)
/-- 32,768 × 2^(x / 65,536) rounded, at most 65,535: the largest n with (2 n − 1)^65,536 at or below 2^(16 × 65,536 + x). -/
def exactExp2 (x : Nat) : Int :=
  ((Colour.bisect (fun n => ((2 * n - 1) ^ 65536).log2 < 1048576 + x) 17 32768 65536 : Nat) : Int)
/-- 32,768 × log₂(x / 65,536) rounded: half of the floor of 65,536 log₂ x, plus one half. -/
def exactLog2 (x : Nat) : Int := ((((x ^ 65536).log2 + 1) / 2 : Nat) : Int) - 524288

/-- The exact value, the bound and the input range of each approximation (Table 8-8). -/
def exactOf (fn x : Nat) : Int :=
  if fn = 0 then exactRcp x else if fn = 1 then exactRsqrt x else if fn = 2 then exactExp2 x else exactLog2 x
/-- The bound of Table 8-8. -/
def boundOf (fn : Nat) : Int := if fn = 3 then 2 else 1
/-- The lowest input of the range of Table 8-8. -/
def firstOf (fn : Nat) : Nat := if fn = 1 then 0x4000 else if fn = 2 then 0 else 0x8000
/-- The lowest value a result can take. -/
def floorOf (fn : Nat) : Int := if fn = 3 then -32768 else 0

/-- The module's fixed function before its monotony: the exact value moved by a free deviation within the bound. -/
def nearExact (fn x : Nat) : Int :=
  max (floorOf fn) (min 65535 (exactOf fn x + clampInt (-(boundOf fn)) (boundOf fn) (Config.approxDeviation fn x)))

/-- The running least (or greatest) of a function over `n` + 1 inputs from `x` down. -/
def running (up : Bool) (f : Nat → Int) (x : Nat) : Nat → Int
  | 0 => f x
  | n + 1 => if up then max (f (x)) (running up f (x - 1) n) else min (f x) (running up f (x - 1) n)

/-- R199: the fixed function of each approximation inside its input range: within the bound of the exact value, non-increasing for vrcp and
vrsqrt, non-decreasing for vexp2 and vlog2. The deviation from the exact value is a free function (log entry 21). -/
def approx (fn x : Nat) : Int := running (fn == 2 || fn == 3) (nearExact fn) x (x - firstOf fn)

/-- R199: one lane of an approximation; outside the input range the stated value, with VSAT. -/
def approxLane (fn : Nat) (x : Half) : Half × Bool :=
  if x.toNat < firstOf fn then (if fn = 3 then 0x8000 else 0xFFFF, true) else (BitVec.ofInt 16 (approx fn x.toNat), false)

/-- VRCP (R199). -/
def execVrcp (k d a : Fin 16) (g : Pred) (s : State) : Host.Outcome State Fault Refusal :=
  vector k d g s fun e i => approxLane 0 (vLane e a i)

/-- VRSQRT (R199). -/
def execVrsqrt (k d a : Fin 16) (g : Pred) (s : State) : Host.Outcome State Fault Refusal :=
  vector k d g s fun e i => approxLane 1 (vLane e a i)

/-- VEXP2 (R199). -/
def execVexp2 (k d a : Fin 16) (g : Pred) (s : State) : Host.Outcome State Fault Refusal :=
  vector k d g s fun e i => approxLane 2 (vLane e a i)

/-- VLOG2 (R199). -/
def execVlog2 (k d a : Fin 16) (g : Pred) (s : State) : Host.Outcome State Fault Refusal :=
  vector k d g s fun e i => approxLane 3 (vLane e a i)

end Sys2Proof.Machine
end

