-- ==== Sys2Proof/Machine/EngineMemory.lean ====
section
/-!
DEFINITION. The memory, event, DMA, mailbox and system instructions of the kernel engines (R200 to R208).
-/

namespace Sys2Proof.Machine

open Colour (rnd)

/-- An instruction that raises one of its exceptions has no effect but the exception (R204). -/
def guarded (k : Nat) (s : State) (err : Engine → Option Nat) (f : Engine → State) : Host.Outcome State Fault Refusal :=
  .next (issue k s fun e => match err e with
    | some c => engineException s k c
    | none => f e)

/-! ### Table lookup (R200) -/

/-- The exceptions of a lookup that reads `n` entries from index `j i` in each active lane. -/
def lookupError (e : Engine) (base : Nat) (pg n : Nat) (j : Nat → Nat) : Option Nat :=
  lowest ((List.range 8).flatMap fun i =>
    if laneOn e pg i then
      [if base + 2 * (j i + n) ≤ 0x20000 then none else some 1, if base % 2 = 0 then none else some 3]
    else [])

/-- Entry `n` of the u16 table at a local address. -/
def tableEntry (s : State) (k base n : Nat) : Nat := rd s (localBase k + base + 2 * n) 2

/-- VLUT (R200): lane i := T[x >> SH]. -/
def execVlut (k d a b : Fin 16) (sh : Fin 16) (g : Pred) (s : State) : Host.Outcome State Fault Refusal :=
  let j := fun (e : Engine) i => (vLane e b i).toNat / 2 ^ sh.val
  guarded k s (fun e => lookupError e (sReg e a).toNat g.pg 1 (j e)) fun e =>
    putEngine s k (advance (writeLanes e d g (fun i => plain (BitVec.ofNat 16 (tableEntry s k (sReg e a).toNat (j e i)))) e))

/-- VLUTL (R200): lane i := T[j] + rnd((T[j+1] − T[j]) × f, SH). -/
def execVlutl (k d a b : Fin 16) (sh : Fin 16) (g : Pred) (s : State) : Host.Outcome State Fault Refusal :=
  let j := fun (e : Engine) i => (vLane e b i).toNat / 2 ^ sh.val
  let f := fun (e : Engine) i => (vLane e b i).toNat % 2 ^ sh.val
  guarded k s (fun e => lookupError e (sReg e a).toNat g.pg 2 (j e)) fun e =>
    let t := fun n => ((tableEntry s k (sReg e a).toNat n : Nat) : Int)
    putEngine s k (advance (writeLanes e d g (fun i =>
      plain (BitVec.ofInt 16 (t (j e i) + rnd ((t (j e i + 1) - t (j e i)) * f e i) sh))) e))

/-! ### Loads and stores (R201) -/

/-- The width of an access of size code SZ. -/
def sizeOf (sz : Fin 3) : Nat := 2 ^ sz.val

/-- The value an engine loads: `n` bytes at its address. -/
def loadValue (s : State) (k : Nat) (e : Engine) (a n : Nat) : Nat := rd s (physical k e false a n) n

/-- LD (R201): a sign-extending load of 1, 2 or 4 bytes. -/
def execLd (k d a : Fin 16) (sz : Fin 3) (off : BitVec 16) (s : State) : Host.Outcome State Fault Refusal :=
  let addr := fun (e : Engine) => addrPlus (sReg e a) off.toInt
  guarded k s (fun e => accessError k e false (addr e) (sizeOf sz) (sizeOf sz)) fun e =>
    putEngine s k (advance (setS e d (BitVec.ofInt 32 (signed (sizeOf sz) (loadValue s k e (addr e) (sizeOf sz))))))

/-- LDU (R201): a zero-extending load. -/
def execLdu (k d a : Fin 16) (sz : Fin 3) (off : BitVec 16) (s : State) : Host.Outcome State Fault Refusal :=
  let addr := fun (e : Engine) => addrPlus (sReg e a) off.toInt
  guarded k s (fun e => accessError k e false (addr e) (sizeOf sz) (sizeOf sz)) fun e =>
    putEngine s k (advance (setS e d (BitVec.ofNat 32 (loadValue s k e (addr e) (sizeOf sz)))))

/-- ST (R201): the low bytes of S[D] are stored. -/
def execSt (k d a : Fin 16) (sz : Fin 3) (off : BitVec 16) (s : State) : Host.Outcome State Fault Refusal :=
  let addr := fun (e : Engine) => addrPlus (sReg e a) off.toInt
  guarded k s (fun e => accessError k e true (addr e) (sizeOf sz) (sizeOf sz)) fun e =>
    putEngine (wr s (physical k e true (addr e) (sizeOf sz)) (sizeOf sz) (sReg e d).toNat) k (advance e)

/-- The exceptions of an access of one halfword per active lane at `addr i`. -/
def lanesError (k : Nat) (e : Engine) (isStore : Bool) (pg : Nat) (addr : Nat → Nat) : Option Nat :=
  lowest ((List.range 8).map fun i => if laneOn e pg i then accessError k e isStore (addr i) 2 2 else none)

/-- The halfwords of the active lanes stored in order, a higher lane last. -/
def storeLanes (s : State) (k : Nat) (e : Engine) (d pg : Nat) (addr : Nat → Nat) : State :=
  (List.range 8).foldl (fun t i =>
    if laneOn e pg i then wr t (physical k e true (addr i) 2) 2 (vLane e d i).toNat else t) s

/-- VLD (R201): 16 consecutive bytes into the active lanes. -/
def execVld (k d a : Fin 16) (pg : Fin 8) (off : BitVec 15) (s : State) : Host.Outcome State Fault Refusal :=
  let addr := fun (e : Engine) (i : Nat) => addrPlus (sReg e a) (2 * off.toInt + 2 * (i : Int))
  guarded k s (fun e => lanesError k e false pg (addr e)) fun e =>
    putEngine s k (advance (writeLanes e d { pg := pg, pz := false }
      (fun i => plain (BitVec.ofNat 16 (loadValue s k e (addr e i) 2))) e))

/-- VST (R201): the bytes of the active lanes are stored. -/
def execVst (k d a : Fin 16) (pg : Fin 8) (off : BitVec 15) (s : State) : Host.Outcome State Fault Refusal :=
  let addr := fun (e : Engine) (i : Nat) => addrPlus (sReg e a) (2 * off.toInt + 2 * (i : Int))
  guarded k s (fun e => lanesError k e true pg (addr e)) fun e =>
    putEngine (storeLanes s k e d pg (addr e)) k (advance e)

/-! ### Gather and scatter (R202) -/

/-- R202: the address of lane `i`. -/
def scatterAddr (e : Engine) (a b sh i : Nat) : Nat := addrPlus (sReg e a) (((vLane e b i).toNat * 2 ^ sh : Nat) : Int)

/-- R202, R204: the exceptions of a gather or scatter: 2 outside cell memory, 3 odd, 4 a store into a read-only range. -/
def scatterError (k : Nat) (e : Engine) (isStore : Bool) (pg : Nat) (addr : Nat → Nat) : Option Nat :=
  lowest ((List.range 8).map fun i =>
    if !laneOn e pg i then none
    else if addr i < 0x10000000 ∨ 0x10400000 < addr i + 1 then some 2
    else if addr i % 2 = 1 then some 3
    else accessError k e isStore (addr i) 2 2)

/-- VGATH (R202): lane i of V[D] := the u16 at its address. -/
def execVgath (k d a b : Fin 16) (sh : Fin 6) (g : Pred) (s : State) : Host.Outcome State Fault Refusal :=
  guarded k s (fun e => scatterError k e false g.pg (scatterAddr e a b sh)) fun e =>
    putEngine s k (advance (writeLanes e d g
      (fun i => plain (BitVec.ofNat 16 (loadValue s k e (scatterAddr e a b sh i) 2))) e))

/-- VSCAT (R202): the u16 at each active lane's address := lane i of V[D]. -/
def execVscat (k d a b : Fin 16) (sh : Fin 6) (pg : Fin 8) (s : State) : Host.Outcome State Fault Refusal :=
  guarded k s (fun e => scatterError k e true pg (scatterAddr e a b sh)) fun e =>
    putEngine (storeLanes s k e d pg (scatterAddr e a b sh)) k (advance e)

/-! ### Events (R205) -/

/-- The exceptions of an instruction that reads or writes `n` bytes of local memory aligned to `n`. -/
def localError (a n : Nat) (align : Nat) : Option Nat :=
  if !inLocal a n then some 1 else if a % align != 0 then some 3 else none

/-- R205: the oldest event is copied to local memory and S[D] is the number that remain. -/
def takeEvent (s : State) (k d addr : Nat) (e : Engine) : State :=
  match e.queue with
  | [] => s
  | ev :: rest =>
      putEngine (store s (localBase k + addr) ev) k
        (advance (setS { e with queue := rest, stall := none } d (BitVec.ofNat 32 rest.length)))

/-- EWAIT (R205), non-blocking: with the queue empty, S[D] := 0xFFFFFFFF. -/
def execEwait (k d a : Fin 16) (s : State) : Host.Outcome State Fault Refusal :=
  guarded k s (fun e => localError (sReg e a).toNat 16 16) fun e =>
    if e.queue = [] then putEngine s k (advance (setS e d 0xFFFFFFFF)) else takeEvent s k d (sReg e a).toNat e

/-- EWAIT_BLOCKING (R205): with the queue empty, the engine stalls until an event arrives. -/
def execEwaitBlocking (k d a : Fin 16) (s : State) : Host.Outcome State Fault Refusal :=
  guarded k s (fun e => localError (sReg e a).toNat 16 16) fun e =>
    if e.queue = [] then putEngine s k { e with stall := some (.event d (sReg e a).toNat) }
    else takeEvent s k d (sReg e a).toNat e

/-- EWAIT_WAKE (R205): an event has arrived for an engine stalled in a blocking wait. -/
def execEwaitWake (k : Fin 16) (s : State) : Host.Outcome State Fault Refusal :=
  let e := engine s k
  .next (match e.stall with
    | some (.event d addr) => if e.active then takeEvent s k d addr e else s
    | _ => s)

/-! ### DMA, mailbox, messages (R179 to R181, R206, R207) -/

/-- R179, R206: the exceptions of a post. -/
def postError (e : Engine) (a ch : Nat) : Option Nat :=
  lowest [localError a 32 32, if 8 ≤ ch ∧ ch < 16 ∧ e.dmaMask.testBit (ch - 8) then none else some 5]

/-- R179, R206: the descriptor joins the channel's four, or the engine stalls; never on a STOPPING or STOPPED channel (R284). -/
def postDescriptor (s : State) (k a ch : Nat) (e : Engine) : State :=
  if placesUsed s ch < 4 ∨ 2 ≤ channelState s ch then
    postTo (putEngine s k (advance { e with stall := none })) k ch a
  else putEngine s k { e with stall := some (.post ch a) }

/-- DPOST (R206): the 32-byte descriptor at S[A] is posted to channel CH. -/
def execDpost (k a ch : Fin 16) (s : State) : Host.Outcome State Fault Refusal :=
  guarded k s (fun e => postError e (sReg e a).toNat ch) fun e => postDescriptor s k (sReg e a).toNat ch e

/-- DPOST_UNSTALL (R179): a posted descriptor has been taken, and a stalled post completes. -/
def execDpostUnstall (k : Fin 16) (s : State) : Host.Outcome State Fault Refusal :=
  let e := engine s k
  .next (match e.stall with
    | some (.post ch a) => if e.active then postDescriptor s k a ch e else s
    | _ => s)

/-- R180: the exception of a mailbox block outside local data memory or misaligned. -/
def mailboxError (a : Nat) : Option Nat := if inLocal a 256 ∧ a % 8 = 0 then none else some 8

/-- R180: the block is handed to the dictionary server, its STATUS 0xFF while pending; a second request stalls. -/
def handMailbox (s : State) (k a : Nat) (e : Engine) : State :=
  if e.mailbox.isSome then putEngine s k { e with stall := some (.mailbox a) }
  else putEngine (store s (localBase k + a + 1) [0xFF]) k (advance { e with mailbox := some a, stall := none })

/-- MBOX (R207, R180). -/
def execMbox (k a : Fin 16) (s : State) : Host.Outcome State Fault Refusal :=
  guarded k s (fun e => mailboxError (sReg e a).toNat) fun e => handMailbox s k (sReg e a).toNat e

/-- MBOX_UNSTALL (R180): the pending request has been answered, and a stalled mbox issues. -/
def execMboxUnstall (k : Fin 16) (s : State) : Host.Outcome State Fault Refusal :=
  let e := engine s k
  .next (match e.stall with
    | some (.mailbox a) => if e.active && e.mailbox.isNone then handMailbox s k a e else s
    | _ => s)

/-- A message leaves the ring once no notification that carries it is queued (log entry 24). -/
def purgeRing (s : State) : State :=
  { s with engines := { s.engines with ring := s.engines.ring.filter fun m => s.server.notices.any fun n => n.msg == some m.1 } }

/-- R181, form 0: a message joins the ring of 256 and appears at MESSAGE, and every subscription to it is sent a notification of its own; or it is discarded
and counted. -/
def postMessage (s : State) (k : Nat) (msg : Bytes) : State :=
  let s0 := purgeRing s
  if 256 ≤ s0.engines.ring.length then bump s0 (kEngine k 0xD)
  else
    let n := s0.engines.nextMsg
    let key := kEngine k 0xC
    purgeRing { s0 with
      regs := tabPut s0.regs key (.bytes msg)
      engines := { s0.engines with ring := s0.engines.ring ++ [(n, msg)], nextMsg := n + 1 }
      server := (s0.server.subs.filter fun b => !b.periodic && b.covers key).foldl (fun v b => addNotice v b key (some n)) s0.server }

/-- R181, R182: the exceptions of mpost: outside local memory, misaligned, or a form-1 source not in `FAULT_MASK`. -/
def mpostError (s : State) (k : Nat) (e : Engine) (a : Nat) : Option Nat :=
  let m := memBytes s.mem (localBase k + a) 16
  lowest [localError a 16 4,
    if inLocal a 16 ∧ byteAt m 0 = 1 ∧ !(60 ≤ byteAt m 1 && byteAt m 1 ≤ 63 && e.faultMask.testBit (byteAt m 1 - 60)) then some 6
    else none]

/-- R181, R207: mpost sends the 16 bytes at S[A]: form 0 a message, form 1 an OEM fault; any other form is discarded and counted. -/
def mpost (k a : Nat) (s : State) : Host.Outcome State Fault Refusal :=
  guarded k s (fun e => mpostError s k e (sReg e a).toNat) fun e =>
    let m := memBytes s.mem (localBase k + (sReg e a).toNat) 16
    let s1 := putEngine s k (advance e)
    if byteAt m 0 = 0 then postMessage s1 k m
    else if byteAt m 0 = 1 then raise s1 (byteAt m 1) (byteAt m 2 % 64) (fieldAt m 4 4 % 2 ^ 20)
    else bump s1 (kEngine k 0xD)

/-- MPOST_MESSAGE (R181, form 0). -/
def execMpostMessage (k a : Fin 16) (s : State) : Host.Outcome State Fault Refusal := mpost k a s
/-- MPOST_FAULT (R181, form 1). -/
def execMpostFault (k a : Fin 16) (s : State) : Host.Outcome State Fault Refusal := mpost k a s

/-! ### Fence and system (R174, R207, R208) -/

/-- ENG cycles since the tick start: four to a cycle of TIME (Table 2-15). -/
def tickCycles (s : State) (e : Engine) : Nat := min (2 ^ 32 - 1) (4 * (s.clk - e.tickAt))

/-- FENCE (R174): the engine's tick ends. -/
def execFence (k : Fin 16) (s : State) : Host.Outcome State Fault Refusal :=
  .next (issue k s fun e => fenceEngine s k (tickCycles s e))

/-- STAT (R208): S[D] := ESTAT. -/
def execStat (k d : Fin 16) (s : State) : Host.Outcome State Fault Refusal := scalar k d s fun e => e.estat
/-- STATCLR (R208): ESTAT := 0. -/
def execStatclr (k : Fin 16) (s : State) : Host.Outcome State Fault Refusal := simple k s fun e => { e with estat := 0 }
/-- CYC (R208): S[D] := ENG cycles since the tick start, saturating. -/
def execCyc (k d : Fin 16) (s : State) : Host.Outcome State Fault Refusal :=
  scalar k d s fun e => BitVec.ofNat 32 (tickCycles s e)
/-- TBNS (R208): S[D] := the nanosecond counter of the field time base. -/
def execTbns (k d : Fin 16) (s : State) : Host.Outcome State Fault Refusal :=
  scalar k d s fun _ => BitVec.ofNat 32 (fieldStamp s).1
/-- TBEP (R208): S[D] := the wrap count of the field time base. -/
def execTbep (k d : Fin 16) (s : State) : Host.Outcome State Fault Refusal :=
  scalar k d s fun _ => BitVec.ofNat 32 (fieldStamp s).2
/-- ENG (R208): S[D] := the engine's number. -/
def execEng (k d : Fin 16) (s : State) : Host.Outcome State Fault Refusal :=
  scalar k d s fun _ => BitVec.ofNat 32 k.val
/-- NOP (R208): no effect. -/
def execNop (k : Fin 16) (s : State) : Host.Outcome State Fault Refusal := simple k s fun e => e

end Sys2Proof.Machine
end

