-- ==== Sys2Proof/Machine/Access.lean ====
section
/-!
DEFINITION. Access to the dictionary (chapter 04): what a sub-index is, the values as bytes, who may do what, the values read as they are now, and the checks
of Table 4-5.
-/

namespace Sys2Proof.Machine

/-! ### Error codes (Table 5-4) -/

/-- NO_OBJECT. -/
abbrev eNoObject : Byte := 1
/-- READ_ONLY. -/
abbrev eReadOnly : Byte := 2
/-- WRITE_ONLY. -/
abbrev eWriteOnly : Byte := 3
/-- NO_RIGHT. -/
abbrev eNoRight : Byte := 4
/-- TYPE_MISMATCH. -/
abbrev eType : Byte := 5
/-- OUT_OF_RANGE. -/
abbrev eRange : Byte := 6
/-- STATE_CONFLICT. -/
abbrev eState : Byte := 7
/-- STORE_UNAVAILABLE. -/
abbrev eStore : Byte := 8
/-- POWER_FAIL. -/
abbrev ePower : Byte := 9
/-- LIMIT. -/
abbrev eLimit : Byte := 0xA
/-- IMAGE_INVALID. -/
abbrev eImage : Byte := 0xB
/-- BUSY. -/
abbrev eBusy : Byte := 0xC
/-- TOO_LARGE. -/
abbrev eTooLarge : Byte := 0xD
/-- BAD_OPERATION. -/
abbrev eBadOp : Byte := 0xE
/-- NO_TRANSFER. -/
abbrev eNoTransfer : Byte := 0xF
/-- SEQUENCE. -/
abbrev eSequence : Byte := 0x10
/-- NO_ROUTE. -/
abbrev eNoRoute : Byte := 0x11
/-- PROXY_TIMEOUT. -/
abbrev eProxyTime : Byte := 0x12
/-- VERSION. -/
abbrev eVersion : Byte := 0x13
/-- NOT_SUPPORTED. -/
abbrev eNotSupported : Byte := 0x14
/-- AUTH_FAILED. -/
abbrev eAuth : Byte := 0x15

/-! ### What a sub-index is -/

/-- A sub-index as the dictionary in force defines it (R75 to R78, R84, R101). -/
structure Decl where
  ty : Ty
  acc : Access
  readRole : Role
  writeRole : Role
  rng : Rng
  dflt : Val
deriving DecidableEq, Repr

/-- A role by its number (Table 4-3). -/
def roleOfNat (n : Nat) : Role :=
  if n = 0 then .observer else if n = 1 then .operator else if n = 2 then .integrator else if n = 3 then .safety else .vendor

/-- The number of a role. -/
def Role.code : Role → Nat
  | .observer => 0 | .operator => 1 | .integrator => 2 | .safety => 3 | .vendor => 4

/-- R79: whether role `a` includes role `b`. -/
def Role.includes (a b : Role) : Bool :=
  match b with
  | .safety => a == .safety
  | .vendor => a == .vendor
  | _ => b.code ≤ a.code

/-- An access kind by its number in an OEM declaration (log entry 44). -/
def accessOf (n : Nat) : Access := if n = 0 then .ro else if n = 1 then .rw else if n = 2 then .wo else if n = 3 then .rwp else .cmd

/-- An OEM declaration as a sub-index (R101). -/
def oemDecl (d : OemDecl) : Option Decl :=
  (tyOf d.ty).map fun ty =>
    { ty := ty, acc := accessOf d.access, readRole := d.readRole, writeRole := d.writeRole, dflt := d.dflt
      rng := if ty.size.isSome then .range d.lo d.hi else .lens d.lo.toNat d.hi.toNat }

/-- The highest sub-index of an entry (R75); none for an index that does not exist. -/
def highestOf (s : State) (idx : Nat) : Option Nat :=
  if isOem idx then
    (s.mram.oem.filter fun p => p.1 / 256 == idx).foldl (fun m p => some (max (p.1 % 256) (m.getD 0))) none
  else highestSub idx

/-- R73: the start stopped at one of the steps 1 to 6, and the boot ROM serves the recovery subset. -/
def inRecovery (s : State) : Bool :=
  match s.start.stoppedAt with
  | some n => 1 ≤ n && n ≤ 6
  | none => false

/-- The recovery subset: module state, bookmark, reset cause, reset command and the update area. -/
def inSubset (idx : Nat) : Bool := idx == 0x1018 || idx == 0x1020 || idx == 0x1030 || idx == 0x1040 || (0xB000 ≤ idx && idx ≤ 0xBFFF)

/-- What a sub-index is; none where it does not exist. -/
def declOf (s : State) (idx sub : Nat) : Option Decl :=
  if inRecovery s && !inSubset idx then none
  else if sub = 0 then
    (highestOf s idx).map fun h => { ty := .u8, acc := .ro, readRole := .observer, writeRole := .integrator, rng := .all, dflt := .num h }
  else if isOem idx then (tabFind s.mram.oem (idx * 256 + sub)).bind oemDecl
  else (entryOf idx sub).map fun e =>
    { ty := e.ty, acc := e.acc, readRole := areaRead idx, writeRole := e.wr.getD (areaWrite idx), rng := e.rng, dflt := e.dflt }

/-! ### Values as bytes (R76) -/

/-- R9: reserved bits of a value written are ignored and read 0. -/
def maskVal (r : Rng) (v : Val) : Val :=
  match r, v with
  | .bits m, .num n => .num (n.toNat &&& m : Nat)
  | _, _ => v

/-- Check 4: the length of a value (R76, R77); 0 when it fits. -/
def lengthError (d : Decl) (v : Bytes) : Byte :=
  match d.ty.size with
  | some n => if v.length = n then 0 else eType
  | none =>
      if d.acc = .rwp ∧ 256 < v.length then eTooLarge
      else if 1024 < v.length then eType
      else match d.rng with
        | .exact n => if v.length = n then 0 else eType
        | .len m => if v.length ≤ m then 0 else eType
        | .lens lo hi => if lo ≤ v.length ∧ v.length ≤ hi then 0 else eType
        | _ => 0

/-- Check 5 as the tables state it: range, values, reserved values (R10). -/
def inTableRange (d : Decl) (v : Val) : Bool :=
  (match d.rng with
    | .range lo hi => lo ≤ v.toInt && v.toInt ≤ hi
    | .vals l => l.any fun (x : Nat) => v.toInt == (x : Int)
    | _ => true)
    && (d.ty != .bool || (0 ≤ v.toInt && v.toInt ≤ 1)) && (d.ty != .str || utf8Go 0 v.toBytes)

/-! ### Sessions' roles (R79 to R83) -/

/-- R29: an uncommissioned module. -/
def uncommissioned (s : State) : Bool := nat s kAddrActive == 0xFFFF

/-- R81: the role of a local session that has not authenticated. -/
def localRole (s : State) : Role :=
  if uncommissioned s || nat s kModuleState == 2 || inRecovery s then .integrator else roleOfNat (nat s 0x105008)

/-- R83: the lower of two roles; of SAFETY and VENDOR, neither of which includes the other, INTEGRATOR, which both include. -/
def Role.lower (a b : Role) : Role := if a.includes b then b else if b.includes a then a else .integrator

/-- The role that binds a session; none before it is bound to a shell that grants one, and once that shell's end has closed it (R82). -/
def boundRole (s : State) (sid : Nat) : Option Role :=
  if (session s sid).closed then none
  else match transportOf sid with
  | .host | .console => some ((session s sid).role.getD (localRole s))
  | .engine =>
      let e := engine s (sid - 0x100)
      some (if e.program = 0xFE then .integrator else roleOfNat (min 2 e.role))
  | .air =>
      let n := byteAt (partnerRec s (sid - 0x1000)) 10
      if isValid s n then (shellGrant s n).map fun r => if Role.includes r .operator then .operator else r else none
  | _ => (session s sid).role

/-- The role under which a session's request is checked: for one that a manager's link forwards, the lower of the link's and its origin's (R83). -/
def roleOf (s : State) (sid : Nat) : Option Role :=
  (boundRole s sid).map fun r => match (session s sid).limit with
    | some l => r.lower l
    | none => r

/-- R79: whether a session's role permits what requires a role. -/
def permits (s : State) (sid : Nat) (need : Role) : Bool :=
  match roleOf s sid with
  | some r => r.includes need
  | none => false

/-! ### Values read as they are now -/

/-- The bookmark's 16 bytes (Table 3-5). -/
def bookmarkBytes (b : Bookmark) : Bytes :=
  let mode : Nat := (if b.safeRequest then 4 else 0) + (if b.safeLatch then 2 else 0) + (if b.bootAlt then 1 else 0)
  let body := [2, b.current, BitVec.ofNat 8 mode, b.lastFailStep] ++ leBytes 4 b.failCounts.toNat ++ leBytes 2 b.altNext.toNat
    ++ leBytes 2 b.altUsed.toNat ++ leBytes 2 b.lastFailCode.toNat
  body ++ leBytes 2 (crc16 body)

/-- The bytes of a home record (Table 4-8). -/
def HomeRec.size (r : HomeRec) : Nat := 12 + (padFour r.value).length

/-- `STORE_USED`: the bytes used in the active bank. -/
def bankUsed (s : State) : Nat := (s.mram.store.home.map fun p => p.2.size).foldl (· + ·) 0

/-- Live values of chapters 03 to 05. -/
def liveBase (s : State) (idx sub : Nat) : Option Val :=
  if idx = 0x1018 ∧ sub = 4 ∧ nat s kModuleState = 1 then some (.num ((s.clk - s.start.doneAt) / secs 1 % 2 ^ 32 : Nat))
  else if idx = 0x1020 then
    if sub = 1 then some (.bytes (bookmarkBytes s.start.used))
    else if sub = 2 then some (.num s.start.bookmark.failCounts.toNat)
    else if sub = 3 then some (.num s.start.bookmark.altNext.toNat)
    else if sub = 4 then some (.num s.start.bookmark.altUsed.toNat)
    else if sub = 6 then some (.bytes s.mram.history.flatten)
    else none
  else if idx = 0x1050 then
    if sub = 6 then some (.num (bankUsed s : Nat))
    else if sub = 9 then some (.num s.server.discards)
    else none
  else if idx = 0x2100 ∧ sub = 3 then some (.num (min 255 (s.server.sessions.filter fun x => !x.2.closed).length : Nat))
  else if idx = 0xA000 ∧ sub = 3 then some (.bytes s.mram.keys.cert)
  else none

/-- A value that the module computes as it is read; none for a register. -/
def liveVal (s : State) (idx sub : Nat) : Option Val :=
  ((((((((((liveBase s idx sub).or (liveTime s idx sub)).or (liveLanes_ s idx sub)).or (liveDma s idx sub)).or (liveMeter s idx sub)).or
    (liveSafety s idx sub)).or (liveKeys s idx sub)).or (liveUpdate s idx sub)).or (liveAir s idx sub)).or (liveColour s idx sub)).or (livePair s idx sub)

/-- The value of a sub-index as a read returns it. -/
def readVal (s : State) (idx sub : Nat) (d : Decl) : Val :=
  if sub = 0 then d.dflt
  else (liveVal s idx sub).getD (if isOem idx then (tabFind s.regs (idx * 256 + sub)).getD d.dflt else reg s (idx * 256 + sub))

/-- The content of a DOMAIN entry as a read transfer finds it (R96). -/
def readDomain (s : State) (idx sub : Nat) : Bytes :=
  let k := idx * 256 + sub
  match liveVal s idx sub with
  | some v => v.toBytes
  | none =>
      let b := domain s k
      if b ≠ [] then b
      else if k = kAreas then areaDefault
      else if idx = 0x3400 then List.replicate 262144 0
      else if k = kPartners then List.replicate 32768 0
      else if k = kZoneMap then List.replicate 524288 0
      else if k = kCalibration then List.replicate 2097152 0
      else if k = kGroups then List.replicate 4096 0
      else []

/-! ### Checks 5 and 6 of the entries -/

/-- A sub-index as if it held a value. -/
def withItem (s : State) (i : Key × Val) : State := { s with regs := tabPut s.regs i.1 i.2 }

/-- R33, R34: a roster write. Serials are rostered once, under one worker number and one side, and are not the manager's own: looked at as a serial is
written and as its entry comes into use. A bus holds at most 32 nodes. -/
def rosterOk (t : State) (idx sub : Nat) (v : Int) : Bool :=
  let w := idx - 0xC100
  let others := (List.range 256).filter fun x => x != w && rostered t x
  let used := others.flatMap fun x => [nat t (kRoster x 1), nat t (kRoster x 2)].filter (· != 0)
  let own := [t.mram.serial, nat t kPeerSerial].filter (· != 0)
  let nodes := fun (kind : Nat) => ((List.range 256).map fun x =>
    if rostered t x && nat t (kRoster x 3) == kind then (if nat t (kRoster x 2) = 0 then 1 else 2) else 0).foldl (· + ·) 0
      + (if nat t kPairSide = 0xFF then 1 else 2)
  let names := if sub = 3 then (if v = 0 then [] else [nat t (kRoster w 1), nat t (kRoster w 2)].filter (· != 0)) else [v.toNat].filter (· != 0)
  (names.all fun n => !used.contains n && !own.contains n) && nodes 1 ≤ 32 && nodes 2 ≤ 32

/-- Check 5 of the entries themselves; `t` is the state as the whole request would leave it (R87). -/
def inEntryRange (t : State) (idx sub : Nat) (v : Val) : Bool :=
  if 0xC101 ≤ idx ∧ idx ≤ 0xC1FF then rosterOk t idx sub v.toInt
  else if idx = 0xB000 ∧ sub = 0xF then v.toInt + 10 ≤ num t (kUpdate 0xC)
  else if idx < 0x3000 then rangeAir idx sub v.toBytes
  else if idx < 0x4000 then rangeLanes t idx sub v.toInt
  else if idx < 0x5000 then rangeColour t idx sub v.toBytes
  else if idx < 0x6000 then rangeMeter idx sub v.toBytes
  else if idx < 0x7000 then rangeTime idx sub v.toInt
  else if idx < 0x8000 then rangeSafety idx sub v.toInt
  else rangeKeys idx sub v.toBytes

/-- Check 6 of the entries, as a code of Table 5-4; 0 accepts. -/
def entryCondition (t : State) (idx sub : Nat) (v : Val) : Byte :=
  let conflict := fun (b : Bool) => if b then eState else 0
  if 0x1100 ≤ idx ∧ idx ≤ 0x1107 ∧ sub = 3 then conflict (nat t (idx * 256 + 1) < 4)
  else if idx < 0x2000 then 0
  else if idx < 0x3000 then conflict (!condAir t idx sub v.toInt)
  else if idx < 0x4000 then conflict (condLanes t idx sub v.toInt)
  else if idx < 0x5000 then conflict (condColour t idx sub v.toInt)
  else if idx < 0x6000 then conflict (condMeter t idx sub)
  else if idx < 0x7000 then conflict (!condTime t idx sub v.toInt)
  else if idx = 0x7400 ∧ sub = 5 then conflict (swapConflict t)
  else if idx < 0x8000 then condSafety t (isManager t) (isManaged t) idx sub v.toInt
  else if idx < 0x9000 then conflict (condColour t idx sub v.toInt || condDma idx sub)
  else if idx = 0xB000 ∧ sub = 9 then conflict (!installOk t v.toInt.toNat)
  else if idx = 0xB010 then conflict (!confirmOk t)
  else if idx = 0xC010 ∧ sub = 1 then conflict (v.toInt == 1 && (nat t (kUpdate 7) != 2 || uncommissioned t))
  else condKeys t idx sub v.toBytes

/-- Table 17-2: what a standby's sessions may still write: the update area, through which its image is replaced (R459), and the reset
(DEDUCED, log entry 45). -/
def standbyMayWrite (idx : Nat) : Bool := idx == 0xB000 || idx == 0xB010 || idx == 0x1040

/-- R91: the commands whose acceptance writes MRAM at once. -/
def writesMram (idx sub : Nat) : Bool :=
  (idx == 0x1040 && sub == 1) || (idx == 0x1020 && sub == 5) || (idx == 0x1050 && sub == 4) || (0x7100 ≤ idx && idx < 0x7140 && sub == 0xC)
    || (idx == 0xB000 && sub == 9) || (idx == 0xB010 && sub == 1) || (idx == 0xA000 && (sub == 4 || sub == 5))
    || (0xA100 ≤ idx && idx ≤ 0xA1FF && sub == 0xD)

/-- The role that a write or command needs: its entry's, or INTEGRATOR for a group command that names layer 4 (R130). -/
def neededRole (d : Decl) (idx sub : Nat) (v : Bytes) : Role := if namesLayer4 idx sub v then .integrator else d.writeRole

/-- Check 3 for a write or command: the role, a mailbox's index range (R180), the local acknowledge on the host port and console only (R400), and the import
of the first SAFETY shell (R446), and what only a VENDOR session may do (R443, R444). -/
def mayWrite (s : State) (sid : Nat) (d : Decl) (idx sub : Nat) (v : Bytes) : Bool :=
  (permits s sid (neededRole d idx sub v)
      || (idx == 0xA000 && sub == 4 && byteAt v 1 == 6 && !hasSafety s && permits s sid .integrator && (sid == 0 || sid == 1)))
    && (!(idx == 0x7300 && sub == 8) || sid == 0 || sid == 1) && (!vendorOnly s idx sub v || permits s sid .vendor)

/-- The checks of Table 4-5 for a WRITE or COMMAND of one sub-index; `t` is the state as the whole request would leave it. 0 accepts. -/
def checkWrite (s t : State) (sid : Nat) (isCmd : Bool) (r : Ref) (v : Bytes) : Byte :=
  let idx := r.index.toNat
  let sub := r.sub.toNat
  match declOf s idx sub with
  | none => eNoObject
  | some d =>
      if d.ty = .domain then eBadOp
      else if isCmd != (d.acc == .cmd) then eBadOp
      else if d.acc = .ro ∧ !(isOem idx && transportOf sid == .engine && sub != 0) then eReadOnly
      else if !mayWrite s sid d idx sub v then eNoRight
      else if lengthError d v ≠ 0 then lengthError d v
      else
        let x := decodeVal d.ty v
        let c := entryCondition t idx sub x
        if !inTableRange d x || !inEntryRange t idx sub x then eRange
        else if c ≠ 0 then c
        else if isStandby s && !standbyMayWrite idx then eState
        else if d.acc = .rwp ∧ storeDegraded s then eStore
        else if s.power.warning ∧ (d.acc = .rwp ∨ writesMram idx sub) then ePower
        else 0

/-- The checks for a READ of one sub-index. -/
def checkRead (s : State) (sid : Nat) (r : Ref) : Byte :=
  match declOf s r.index.toNat r.sub.toNat with
  | none => eNoObject
  | some d =>
      if d.ty = .domain then eBadOp
      else if d.acc = .wo ∨ d.acc = .cmd then eWriteOnly
      else if !permits s sid d.readRole then eNoRight
      else 0

/-- A sub-index as type code and value bytes. -/
def readItem (s : State) (r : Ref) : Nat × Bytes :=
  match declOf s r.index.toNat r.sub.toNat with
  | none => (0, [])
  | some d => (d.ty.code, valBytes d.ty (readVal s r.index.toNat r.sub.toNat d))

/-- The item of a write as it is stored: decoded, reserved bits 0 (R9). -/
def storedItem (s : State) (r : Ref) (v : Bytes) : Key × Val :=
  let k := r.index.toNat * 256 + r.sub.toNat
  match declOf s r.index.toNat r.sub.toNat with
  | none => (k, .bytes v)
  | some d => (k, maskVal d.rng (decodeVal d.ty v))

/-- Whether a sub-index is RWP. -/
def isRwp (s : State) (k : Key) : Bool := ((declOf s (k / 256) (k % 256)).map (·.acc)) == some .rwp
/-- Whether a sub-index is a CMD. -/
def isCommand (s : State) (k : Key) : Bool := ((declOf s (k / 256) (k % 256)).map (·.acc)) == some .cmd

end Sys2Proof.Machine
end

