-- ==== Sys2Proof/Machine/Bus.lean ====
section
/-!
DEFINITION. The floor safety bus (chapter 14): joining and restricted operation, REFERENCEs, TB2 and mastership, the windows and what is sent in them,
received ALARM and STATUS frames, and errors.
-/

namespace Sys2Proof.Machine

/-! ### Matrices and the bus key -/

/-- Whether window entry `b` of a matrix is used. -/
def entryKind (m : Bytes) (b : Nat) : Nat := byteAt m (408 + 4 * b)
/-- The owner of window entry `b`. -/
def entryNode (m : Bytes) (b : Nat) : Nat := byteAt m (409 + 4 * b)

/-- R349: whether a content is accepted as a matrix; its reserved bits and bytes are ignored (R9). -/
def matrixOk (m : Bytes) : Bool :=
  let used := fun (n : Nat) => n < 32 && nodeSerial m n != 0
  isMatrix m && byteAt m 0 == 1
    && (((List.range 32).map (nodeSerial m)).filter (· != 0)).Nodup
    && (List.range 8).all (fun r => rankNode m r == 0xFF || used (rankNode m r))
    && (List.range 16).all (fun b => entryKind m b ≤ 2 && byteAt m (410 + 4 * b) ≤ 2 && byteAt m (411 + 4 * b) < 2 ^ byteAt m (410 + 4 * b)
        && (entryKind m b == 0 || used (entryNode m b)))
    && (List.range 32).all fun n => !used n || (List.range 16).any fun b => entryKind m b == 1 && entryNode m b == n

/-- Whether window entry `b` is in use in matrix cycle `c` (Table 14-6). -/
def entryDue (m : Bytes) (b c : Nat) : Bool := entryKind m b != 0 && c % 2 ^ byteAt m (410 + 4 * b) == byteAt m (411 + 4 * b)

/-- R344, R441: the bus key is derived once and held, one use of the shell; a key whose shell is gone is dropped. `ask` says that this is a
request (R445), not a check. -/
def refreshKey (s : State) (k : Nat) (ask : Bool) : State :=
  let n := nat s (kBus k 3)
  let held := match (bus s k).key with
    | some (m, gen, _) => m == n && (shell s n).generation == gen && isValid s n
    | none => false
  if held then s
  else
    let s0 := putBus s k { bus s k with key := none }
    if n ≥ 0xFF then s0
    else
      let fit := isValid s0 n && [5, 6, 7].contains (shell s0 n).type && hasUsage s0 n 5
      let (ok, s1) := if ask then mayUse s0 n 5 [5, 6, 7] else (fit, s0)
      if ok then
        let gen := (shell s1 n).generation
        let (key, s2) := deriveKey s1 n "FLOOR-CMAC" 128
        putBus s2 k { bus s2 k with key := some (n, gen, key) }
      else s1

/-! ### States (R350, R359) -/

/-- `BUS_STATUS`, `NODE` and `MATRIX_TAG` (Table 14-9), ADDRESS_CONFLICT, and the entry into restricted operation. -/
def showBus (s : State) (k : Nat) : State :=
  if busState s k = 0 then s
  else
    let b := fun (v : Bool) (n : Nat) => if v then 2 ^ n else 0
    let s0 := if matrixConflict s k then setBit s kAddrStatus 0 true else s
    let s1 := setNum s0 (kBus k 0xA) (b (bus s0 k).key.isNone 5 + b ((ownNode s0 k).isNone || (bus s0 k).dupNode) 4
      + b (matrixMismatch s0 k) 3 + b (busStandby s0) 2 + b (busState s0 k == 6) 1 + b (bus s0 k).passive 0 : Nat)
    let s2 := setNum s1 (kBus k 0xB) (match ownNode s1 k with | some n => n | none => 0xFF)
    let s3 := if isMatrix (matrix s2 k) then setNum s2 (kBus k 0xE) (matrixTag (matrix s2 k)) else s2
    if 3 ≤ busState s3 k ∧ busState s3 k ≤ 5 ∧ restrictedCase s3 k then setNum s3 (kBus k 9) 2 else s3

/-- R360: a controller that has heard a REFERENCE leaves JOINING once TB2 is LOCKED. -/
def joinBus (s : State) (k : Nat) : State :=
  if busState s k = 1 ∧ (bus s k).heard ∧ tbState s 2 = 2 then
    setNum s (kBus k 9) (if restrictedCase s k then 2 else 3)
  else s

/-- R359, R432: at a cycle start a controller no longer restricted takes part again. -/
def unrestrict (s : State) (k : Nat) : State :=
  if busState s k = 2 ∧ !restrictedCase s k then setNum s (kBus k 9) (if tbState s 2 = 2 ∧ (bus s k).heard then 3 else 1) else s

/-- R360: a controller is enabled in restricted operation as JOINING. -/
def enableBus (s : State) (k : Nat) : State :=
  let s1 := putBus s k { enabled := true, rates := nat s (kBus k 2), alarms := (bus s k).alarms }
  let s2 := refreshKey (setNum s1 (kBus k 9) 1) k true
  showBus s2 k

/-- The step 9 way of R360: every controller with `BUS_ENABLE` set listens, and TB2 is loaded from TB3 when FREE; an uncommissioned module
joins no floor bus (R29). -/
def startBuses (s : State) : State :=
  if nat s kAddrActive = 0xFFFF then s
  else
    let ks := [0, 1].filter fun k => flag s (kBus k 1)
    let s1 := if ks ≠ [] ∧ tbState s 2 = 0 then putBase s 2 { base s 2 with t := (base s 3).t } else s
    ks.foldl enableBus s1

/-- Whether every enabled controller has succeeded at step 9 (R360). -/
def busesJoined (s : State) : Bool := [0, 1].all fun k => busState s k == 0 || (bus s k).heard

/-! ### TB2 and mastership (R351 to R354) -/

/-- Whether the module is master of a bus. -/
def mastersBus (s : State) : Bool := busState s 0 == 4 || busState s 1 == 4

/-- R352: whether controller `k` gives TB2 its input. -/
def feedsTb2 (s : State) (k : Nat) : Bool :=
  let first := busState s 0 == 3 || busState s 1 != 3
  !mastersBus s && (if k = 0 then first
    else busState s 0 != 3 && (busState s 1 == 3 || busState s 0 == 0 || busState s 0 ≥ 5))

/-- R351: a master's servo update from its field time base, once a cycle; with TB2 itself as the field time base it has no input. -/
def masterServo (s : State) : State :=
  if mastersBus s then (if fieldBase s = 2 then inputLost s 2 else servoUpdate s 2 ((tbNs s 2 : Int) - fieldNs s)) else s

/-- R353: a potential master: in the master table, TB2 LOCKED or master, not restricted. -/
def potentialMaster (s : State) (k : Nat) : Option Nat :=
  if (busState s k = 4 ∨ (busState s k = 3 ∧ (tbState s 2 = 2 ∨ mastersBus s))) ∧ !restrictedCase s k then ownRank s k else none

/-- Table 14-7: the module sends a REFERENCE of its rank. -/
def sendReference (s : State) (k r : Nat) : State :=
  let prev := match (bus s k).sentSof with
    | some t => leBytes 8 t
    | none => List.replicate 8 0xFF
  let s1 := sendCan s k (0x10 + r) (prev ++ leBytes 2 (matrixTag (domain s (kMatrix k))))
  putBus s1 k { bus s1 k with sentSof := some (tbNs s1 2) }

/-- The module becomes master with rank `r`; its first `PREV_SOF` is all ones (R353). -/
def takeMastership (s : State) (k r : Nat) : State :=
  let s1 := putBus s k { bus s k with heard := true, sentSof := none, tag := some (matrixTag (domain s (kMatrix k))) }
  showBus (setNum (setNum s1 (kBus k 9) 4) (kBus k 0xC) r) k

/-- The end of a REFERENCE loss (R473): no controller is UNSCHEDULED. -/
def endReferenceLoss (s : State) : State :=
  if busState s 0 ≠ 5 ∧ busState s 1 ≠ 5 then endCondition s 32 else s

/-- JOIN_TIMEOUT (R360, R351): a potential master that hears no REFERENCE takes mastership; TB2 takes its field time base. -/
def execJoinTimeout (k : Fin 2) (s : State) : Host.Outcome State Fault Refusal :=
  .next (if busState s k = 1 ∧ !(bus s k).heard ∧ !restrictedCase s k then
      match ownRank s k with
      | some r => takeMastership (if fieldBase s = 2 ∨ mastersBus s then s else stepBase s 2 (fieldNs s)) k r
      | none => s
    else s)

/-- MISSING_REFERENCE (R353): a potential master sends its own; `won` says whether its identifier was the lowest. -/
def execMissingReference (k : Fin 2) (won : Bool) (s : State) : Host.Outcome State Fault Refusal :=
  .next (match potentialMaster s k with
    | some r =>
        if won then sendReference (if busState s k = 4 then s else takeMastership s k r) k r
        else if busState s k = 4 then setNum s (kBus k 9) 3
        else s
    | none => s)

/-- R354: a controller without REFERENCEs; kind 2 of source 32. TB2 loses its input where it came from here (R352). -/
def execReferenceLost (k : Fin 2) (s : State) : Host.Outcome State Fault Refusal :=
  .next (
    let s1 := if feedsTb2 s k ∧ (busRuns s k ∨ busState s k = 6) then inputLost s 2 else s
    if busState s k = 3 then
      let s2 := setNum (setNum (putBus s1 k { bus s1 k with lastSof := none }) (kBus k 9) 5) (kBus k 0xC) 0xFF
      flushAlarms (raise s2 32 2 (16 * k + 15)) k
    else if busState s k = 2 then setNum s1 (kBus k 0xC) 0xFF
    else s1)

/-! ### Receiving (R345) -/

/-- R345: the cycle number closest to `own` whose low 16 bits are `fresh`. -/
def nearCycle (own fresh : Nat) : Nat :=
  let d := (fresh + 65536 - own % 65536) % 65536
  if d < 32768 then own + d else if 65536 ≤ own + d then own + d - 65536 else own + d

/-- Whether a frame's MAC verifies over a cycle number (R344). -/
def macOk (s : State) (k id n : Nat) (data : Bytes) : Bool :=
  match (bus s k).key with
  | some (_, _, key) => canMac key id n (data.take 10) == slice data 12 4
  | none => false

/-- R345: whether a frame but a REFERENCE is authentic. -/
def authentic (s : State) (k id : Nat) (data : Bytes) : Bool :=
  let own := ownCycle s
  let n := nearCycle own (fieldAt data 10 2)
  macOk s k id n data && n ≤ own + 1 && own ≤ n + 1

/-- R345: whether a STATUS or DICT frame is taken. -/
def taken (s : State) (k id : Nat) (data : Bytes) : Bool := authentic s k id data && (tbState s 2 == 2 || mastersBus s)

/-- R352: the servo update that an authentic REFERENCE gives. -/
def referenceServo (s : State) (k n prev : Nat) : State :=
  match (bus s k).lastSof with
  | some (n0, c, at_) =>
      if n0 + 1 = n ∧ prev ≠ 2 ^ 64 - 1 ∧ feedsTb2 s k then
        servoUpdateAt s 2 ((c : Int) - prev - num s (kBus k 7)) at_
      else s
  | none => s

/-- R353, R354: the rank of a REFERENCE confirms or changes the master. -/
def noteMaster (s : State) (k r : Nat) : State :=
  let old := nat s (kBus k 0xC)
  let wasMaster := busState s k == 4
  let s1 := setNum s (kBus k 0xC) r
  let s2 := if wasMaster then setNum (putBus s1 k { bus s1 k with sentSof := none }) (kBus k 9) 3 else s1
  if (busState s k = 3 ∨ wasMaster) ∧ old ≠ 0xFF ∧ old ≠ r then raise s2 32 1 (16 * k + r) else s2

/-- REFERENCE (R345, R350, R352 to R354, R360): one of rank `r` arrives; a master takes only one that beats its own. -/
def execReference (k : Fin 2) (r : Fin 8) (data : Bytes) (s : State) : Host.Outcome State Fault Refusal :=
  .next (if !busRuns s k ∨ (busState s k = 4 ∧ nat s (kBus k 0xC) < r) then s
    else
      let s1 := capture s (2 + k)
      let prev := fieldAt data 0 8
      let n := if prev = 2 ^ 64 - 1 then nearCycle (ownCycle s1) (fieldAt data 10 2) else prev / 1000000 + 1
      if !macOk s1 k (0x10 + r) n data then bump s1 (kBus k 0xF)
      else
        let s2 := noteMaster s1 k r
        let s3 := referenceServo s2 k n prev
        let s4 := putBus s3 k { bus s3 k with heard := true, tag := some (fieldAt data 8 2), lastSof := some (n, tbNs s1 2, s1.clk) }
        let s5 := if busState s4 k = 5 then setNum s4 (kBus k 9) 3 else s4
        endReferenceLoss (joinBus (showBus s5 k) k))

/-- R64: ALARM frames of the floor bus are received from the end of step 9 on. -/
def alarmsHeard (s : State) : Bool := !s.start.running || 9 < s.start.next

/-- R356: whether an alarm of zone `z` on bus `k` is acted on. -/
def alarmsAct (s : State) (k z : Nat) : Bool := s.safety.enabled && alarmsHeard s && (coreAccept s k).testBit z

/-- R356: acting on an alarm of zone `z` heard on bus `k`. -/
def actOnAlarm (s : State) (k z : Nat) : State := if alarmsAct s k z then enterZone s z else s

/-- R358: a manager relays a zone to its other bus. -/
def relayAlarm (s : State) (k z : Nat) : State :=
  let o := 1 - k
  if isManager s ∧ coreRelay s 0 ∧ coreRelay s 1 ∧ !(bus s o).seen.contains z ∧ busState s o ≠ 0 then
    let s1 := putBus s o { bus s o with seen := z :: (bus s o).seen, relayed := if (bus s o).relayed.contains z then (bus s o).relayed else z :: (bus s o).relayed }
    queueAlarm s1 o z
  else s

/-- ALARM_FRAME (R356, R358): acted on whether or not it is authentic, and whether or not the controller is restricted. -/
def execAlarmFrame (k : Fin 2) (z : Fin 16) (data : Bytes) (s : State) : Host.Outcome State Fault Refusal :=
  .next (if !busRuns s k ∨ !alarmsHeard s then s
    else
      let s1 := capture s (2 + k)
      if byteAt data 0 ≠ 1 ∨ byteAt data 1 ≠ z then bump s1 (kBus k 0xF)
      else
        let s2 := if authentic s1 k z data then s1 else bump s1 (kBus k 0xF)
        let s3 := putBus s2 k { bus s2 k with seen := z :: (bus s2 k).seen }
        if alarmsAct s3 k z then relayAlarm (bump (actOnAlarm s3 k z) (kBus k 0x10)) k z else s3)

/-- STATUS_FRAME (R345, R356, R357, R399): alarm zones are acted on; a manager's cancels end the zones that the frame does not alarm. -/
def execStatusFrame (k : Fin 2) (node : Fin 32) (data : Bytes) (s : State) : Host.Outcome State Fault Refusal :=
  .next (if !busRuns s k then s
    else
      let s1 := capture s (2 + k)
      if !taken s1 k (0x20 + node) data then bump s1 (kBus k 0xF)
      else if ownNode s1 k = some node.val then
        if fieldAt data 6 4 ≠ serial s1 % 2 ^ 32 then showBus (putBus s1 k { bus s1 k with dupNode := true }) k else s1
      else
        let alarms := fieldAt data 0 2
        let s2 := (List.range 16).foldl (fun t z => if alarms.testBit z then actOnAlarm t k z else t) s1
        let cancels := fieldAt data 2 2
        if nodeManager (matrix s2 k) node ∧ cancels ≠ 0 then cancelZones s2 (cancels - (cancels &&& alarms)) else s2)

/-! ### Windows (R346 to R348) -/

/-- R347: the ALARM frames that start in an arbitration window whose bus is free for the module `t` µs after its start; those that
cannot start wait and are counted. -/
def sendAlarms (k : Nat) : List Nat → Nat → State → State
  | [], _, s => s
  | z :: zs, t, s =>
      let f := frameMax (bus s k).rates
      if t < lastStart (bus s k).rates ∨ (t ≠ 0 ∧ t + f ≤ 320) then
        sendAlarms k zs (t + f) (putBus (sendCan s k z (alarmData z)) k
          { bus s k with alarms := (bus s k).alarms.filter (· != z), seen := z :: (bus s k).seen })
      else sendAlarms k zs t (bump s (kBus k 0x11))

/-- R348: the owner of an exclusive window sends, or drops its frame for this cycle. -/
def exclusive (s : State) (k t : Nat) (send : State → State) : State :=
  if t < lastStart (bus s k).rates then send s else bump s (kBus k 0x11)

/-- SFLAGS of Table 14-8. -/
def statusFlags (s : State) : Nat :=
  let b := fun (v : Bool) (n : Nat) => if v then 2 ^ n else 0
  b s.safety.egress 6 + b (safeMode s) 5 + b (nat s kRole < 2) 4 + b (bit s (kEmg 4) 2) 3 + b (bit s (kEmg 4) 1) 1 + b (bit s (kEmg 4) 0) 0

/-- The alarm zones of the module's STATUS on a bus, its own and those relayed (Table 14-8). -/
def statusZones (s : State) (k : Nat) : Nat :=
  let own := if s.safety.own then 2 ^ coreZone s k else 0
  own ||| ((bus s k).relayed.filter fun z => bit s (kEmg 6) z).foldl (fun a z => a ||| 2 ^ z) 0

/-- Table 14-8: the module's STATUS. -/
def sendStatus (s : State) (k n : Nat) : State :=
  let active := ((List.range 64).filter fun f => nat s (kFault f 7) == 1).length
  sendCan s k (0x20 + n) (leBytes 2 (statusZones s k) ++ leBytes 2 (if isManagerOn s k then s.safety.cancel else 0)
    ++ [BitVec.ofNat 8 (statusFlags s), BitVec.ofNat 8 (min 255 active)] ++ leBytes 4 (serial s))

/-- R362: the next DICT segment leaves: to its node from a manager, from the own node to the manager otherwise. -/
def sendDict (s : State) (k n : Nat) : State :=
  match (bus s k).segments with
  | [] => s
  | (dst, seg) :: rest =>
      putBus (sendCan s k (if isManagerOn s k then 0x40 + dst else 0x60 + n) seg) k { bus s k with segments := rest }

/-- R351, R353: window 1 of a basic cycle for a master, or for a potential master of a lower rank number at basic cycle 0. -/
def windowReference (s : State) (k t : Nat) : State :=
  if busState s k = 4 then
    match ownRank s k with
    | some r => exclusive s k t fun u => sendReference u k r
    | none => s
  else
    match potentialMaster s k with
    | some r =>
        if ownCycle s % 16 = 0 ∧ t = 0 ∧ r < nat s (kBus k 0xC) ∧ nat s (kBus k 0xC) ≠ 0xFF
            ∧ (!isManagerOn s k ∨ ((tbNs s 2 : Int) - fieldNs s).natAbs ≤ 10000) then
          sendReference (takeMastership s k r) k r
        else s
    | none => s

/-- WINDOW_START (R346 to R348, R351, R353, R355, R362): TB2 has come to window `w` of its basic cycle on bus `k`; the bus is free for the module's first
frame `t` µs after the window's start. -/
def execWindowStart (k : Fin 2) (w : Fin 4) (t : Nat) (s : State) : Host.Outcome State Fault Refusal :=
  .next (
    let s1 := reachMultiple s 2 1000000 (250000 * w) 15
    let s0 := putBus s1 k { bus s1 k with seen := [] }
    if !busRuns s k then s
    else if !maySend s0 k ∨ busState s0 k = 5 then s0
    else if w.val % 2 = 0 then sendAlarms k ((bus s0 k).alarms.insertionSort (· ≤ ·)) t s0
    else if w.val = 1 then windowReference s0 k t
    else
      match ownNode s0 k with
      | none => s0
      | some n =>
          let m := matrix s0 k
          let b := ownCycle s0 % 16
          if !entryDue m b (ownCycle s0 / 16) ∨ entryNode m b ≠ n then s0
          else if entryKind m b = 1 then exclusive s0 k t fun u => sendStatus u k n
          else if (bus s0 k).segments = [] then s0
          else exclusive s0 k t fun u => sendDict u k n)

/-! ### Errors (R361) -/

/-- The error counters of a controller as they read, and their highest values of the hour (R468). -/
def noteCounters (s : State) (k tec rec_ : Nat) : State :=
  let s1 := setNum s (kBus k 0xD) (tec * 256 + rec_ : Nat)
  { s1 with recorder := { s1.recorder with tec := max s1.recorder.tec tec, rec_ := max s1.recorder.rec_ rec_ } }

/-- A controller is no longer error passive; source 30 ends with the last one (R361, R473). -/
def endPassive (s : State) (k : Nat) : State :=
  let s1 := putBus s k { bus s k with passive := false }
  if (bus s1 (1 - k)).passive then s1 else endCondition s1 30

/-- ERROR_PASSIVE (R361): the controller's counters, saturated at 255; with both below 128 it is error passive no longer. -/
def execErrorPassive (k : Fin 2) (tec rec_ : Byte) (s : State) : Host.Outcome State Fault Refusal :=
  .next (if !busRuns s k then s
    else
      let s1 := noteCounters s k tec.toNat rec_.toNat
      showBus (if tec.toNat < 128 ∧ rec_.toNat < 128 then endPassive s1 k
        else raise (putBus s1 k { bus s1 k with passive := true }) 30 0 k k) k)

/-- BUS_OFF (R361): the transmit error counter has passed 255. -/
def execBusOff (k : Fin 2) (s : State) : Host.Outcome State Fault Refusal :=
  .next (if !busRuns s k then s
    else
      let s1 := setNum (setNum (putBus s k { bus s k with lastSof := none, sentSof := none }) (kBus k 9) 6) (kBus k 0xC) 0xFF
      showBus (raise (endPassive (noteCounters s1 k 255 (nat s (kBus k 0xD) % 256)) k) 31 0 k k) k)

/-- BUS_OFF_RECOVERY (R361): `BUSOFF_DELAY` has passed; the controller rejoins as JOINING. -/
def execBusOffRecovery (k : Fin 2) (s : State) : Host.Outcome State Fault Refusal :=
  .next (if busState s k = 6 then
      let s1 := setNum (setNum (putBus s k { bus s k with heard := false }) (kBus k 9) 1) (kBus k 0xD) 0
      showBus (if busState s1 (1 - k) = 6 then s1 else endCondition s1 31) k
    else s)

/-! ### The segment cycle and the dictionary -/

/-- What a segment cycle's start does to the buses (R350, R351, R359, R399). -/
def cycleBuses (s : State) : State :=
  let s1 := if s.safety.cancel ≠ 0 ∧ s.safety.cancelAt + secs 1 ≤ s.clk then { s with safety := { s.safety with cancel := 0 } } else s
  let s2 := [0, 1].foldl (fun t k => if busState t k = 0 then t else
    joinBus (unrestrict (showBus (refreshKey t k false) k) k) k) s1
  masterServo s2

/-- What a write beyond the value does: a new `BUS_SHELL` derives its key; a new matrix keeps the previous one (R350). -/
def afterBus (s : State) (idx sub : Nat) (old : Bytes) : State :=
  if idx = 0x2480 then
    let k := sub - 1
    showBus (putBus s k { bus s k with previous := old }) k
  else
    let k := idx - 0x2400
    if sub = 3 ∧ busState s k ≠ 0 then showBus (refreshKey s k true) k else s

/-- `STATS_CLEAR` (Table 14-9). -/
def commandBus (s : State) (idx : Nat) : State :=
  let k := idx - 0x2400
  setNum (setNum (setNum s (kBus k 0xF) 0) (kBus k 0x10) 0) (kBus k 0x11) 0

end Sys2Proof.Machine
end

