-- ==== Sys2Proof/Machine/Text.lean ====
section
/-!
DEFINITION. Numbers, references and values as text on the console (R121; where the rule leaves the form of a reply open, log entry 47).
-/

namespace Sys2Proof.Machine

/-! ### Writing -/

/-- `n` decimal digits of a number. -/
def decDigits : Nat → Nat → Bytes
  | 0, _ => []
  | n + 1, x => decDigits n (x / 10) ++ [BitVec.ofNat 8 (48 + x % 10)]
/-- The count of a number's decimal digits, within 20. -/
def decLength (x : Nat) : Nat := ((List.range 20).find? fun d => x < 10 ^ (d + 1)).getD 19 + 1
/-- A number in decimal. -/
def decText (x : Int) : Bytes := (if x < 0 then [0x2D] else []) ++ decDigits (decLength x.natAbs) x.natAbs
/-- Bytes as hexadecimal. -/
def octetsText (b : Bytes) : Bytes := b.flatMap fun x => hexText 2 x.toNat
/-- A reference, such as 0x4120.03. -/
def refText (r : Ref) : Bytes := ascii "0x" ++ hexText 4 r.index.toNat ++ [0x2E] ++ hexText 2 r.sub.toNat
/-- A fraction with `b` binary places, exactly, with `b` decimal places. -/
def fracText (b : Nat) (x : Int) : Bytes :=
  let a := x.natAbs
  (if x < 0 then [0x2D] else []) ++ decDigits (decLength (a / 2 ^ b)) (a / 2 ^ b) ++ [0x2E] ++ decDigits b (a % 2 ^ b * 5 ^ b)
/-- A TIME64 as ISO 8601 UTC with six fractional digits, rounded down. -/
def timeText (x : Nat) : Bytes :=
  let sec := x / 65536
  let (y, m, d) := dateOf (sec / 86400)
  let t := sec % 86400
  decDigits 4 y ++ [0x2D] ++ decDigits 2 m ++ [0x2D] ++ decDigits 2 d ++ [0x54] ++ decDigits 2 (t / 3600) ++ [0x3A] ++ decDigits 2 (t / 60 % 60)
    ++ [0x3A] ++ decDigits 2 (t % 60) ++ [0x2E] ++ decDigits 6 (x % 65536 * 1000000 / 65536) ++ [0x5A]

/-- The name of a type (Table 4-1). -/
def Ty.name : Ty → String
  | .bool => "BOOL" | .u8 => "U8" | .u16 => "U16" | .u32 => "U32" | .u64 => "U64" | .i16 => "I16" | .i32 => "I32" | .i64 => "I64"
  | .q15 => "Q15" | .q16 => "Q16_16" | .time64 => "TIME64" | .str => "STR" | .octets => "OCTETS" | .domain => "DOMAIN"

/-- A value of a type as text. -/
def valueText (ty : Ty) (b : Bytes) : Bytes :=
  let n := (decodeVal ty b).toInt
  match ty with
  | .q15 => fracText 15 n
  | .q16 => fracText 16 n
  | .time64 => timeText n.toNat
  | .str => [0x22] ++ b ++ [0x22]
  | .octets | .domain => octetsText b
  | _ => decText n

/-- The name of an error code (Table 5-4). -/
def errorName (c : Nat) : String :=
  ["OK", "NO_OBJECT", "READ_ONLY", "WRITE_ONLY", "NO_RIGHT", "TYPE_MISMATCH", "OUT_OF_RANGE", "STATE_CONFLICT", "STORE_UNAVAILABLE", "POWER_FAIL",
    "LIMIT", "IMAGE_INVALID", "BUSY", "TOO_LARGE", "BAD_OPERATION", "NO_TRANSFER", "SEQUENCE", "NO_ROUTE", "PROXY_TIMEOUT", "VERSION",
    "NOT_SUPPORTED", "AUTH_FAILED"].getD c "RESERVED"

/-- The name of a role (Table 4-3). -/
def roleName (n : Nat) : String := ["OBSERVER", "OPERATOR", "INTEGRATOR", "SAFETY", "VENDOR"].getD n "RESERVED"

/-- A failure's reply. -/
def errorText (c : Byte) : Bytes := ascii "! 0x" ++ hexText 2 c.toNat ++ [0x20] ++ ascii (errorName c.toNat)

/-- The reply to a console request (Table 5-9). -/
def replyText (o : MdpOp) (status : Byte) (body : Bytes) : Bytes :=
  if status ≠ 0 then errorText status
  else match o with
    | .read r =>
        match tyOf (byteAt body 0) with
        | some ty => ascii "= " ++ refText r ++ [0x20] ++ ascii ty.name ++ [0x20] ++ valueText ty (body.drop 3)
        | none => ascii "ok"
    | .authBegin _ => ascii "nonce " ++ octetsText body
    | .authProve _ => ascii "role " ++ ascii (roleName (byteAt body 0))
    | _ => ascii "ok"

/-! ### Reading -/

/-- The first word of a line and the rest after one space. -/
def splitWord (b : Bytes) : Bytes × Bytes := (b.takeWhile (· != 0x20), (b.dropWhile (· != 0x20)).drop 1)
/-- The value of a decimal digit. -/
def decOf (b : Byte) : Option Nat := if 48 ≤ b.toNat ∧ b.toNat ≤ 57 then some (b.toNat - 48) else none
/-- The value of a hexadecimal digit. -/
def hexOf (b : Byte) : Option Nat :=
  if 48 ≤ b.toNat ∧ b.toNat ≤ 57 then some (b.toNat - 48)
  else if 65 ≤ b.toNat ∧ b.toNat ≤ 70 then some (b.toNat - 55)
  else if 97 ≤ b.toNat ∧ b.toNat ≤ 102 then some (b.toNat - 87)
  else none
/-- Digits of a base as a number; none when there are none or one is no digit. -/
def digitsOf (digit : Byte → Option Nat) (base : Nat) (b : Bytes) : Option Nat :=
  if b = [] then none else b.foldl (fun a c => a.bind fun x => (digit c).map fun d => x * base + d) (some 0)
/-- A number: decimal, or hexadecimal with 0x. -/
def parseNat (b : Bytes) : Option Nat := if b.take 2 = ascii "0x" then digitsOf hexOf 16 (b.drop 2) else digitsOf decOf 10 b
/-- A number with a sign. -/
def parseInt (b : Bytes) : Option Int :=
  if b.take 1 = [0x2D] then (parseNat (b.drop 1)).map fun (n : Nat) => -(n : Int) else (parseNat b).map fun (n : Nat) => (n : Int)
/-- A reference. -/
def parseRef (b : Bytes) : Option Ref :=
  let (i, t) := (b.takeWhile (· != 0x2E), (b.dropWhile (· != 0x2E)).drop 1)
  match parseNat i, digitsOf hexOf 16 t with
  | some x, some y => if x < 65536 ∧ y < 256 then some { index := BitVec.ofNat 16 x, sub := BitVec.ofNat 8 y } else none
  | _, _ => none
/-- Hexadecimal bytes. -/
def parseOctets : Nat → Bytes → Option Bytes
  | 0, _ => some []
  | n + 1, b => match b with
      | [] => some []
      | [_] => none
      | x :: y :: t => (hexOf x).bind fun h => (hexOf y).bind fun l => (parseOctets n t).map fun r => BitVec.ofNat 8 (16 * h + l) :: r
/-- A decimal fraction. -/
def parseFraction (b : Bytes) : Option Rat :=
  let neg := b.take 1 == [0x2D]
  let c := if neg then b.drop 1 else b
  let i := c.takeWhile (· != 0x2E)
  let f := (c.dropWhile (· != 0x2E)).drop 1
  (digitsOf decOf 10 (i ++ f)).map fun n => (if neg then -1 else 1) * ((n : Nat) : Rat) / ((10 ^ f.length : Nat) : Rat)
/-- ISO 8601 UTC as a TIME64, its fraction rounded under R8. -/
def parseTime (b : Bytes) : Option Nat :=
  let part := fun (o n : Nat) => digitsOf decOf 10 (slice b o n)
  let frac := (b.drop 20).takeWhile (· != 0x5A)
  let marks := [byteAt b 4, byteAt b 7, byteAt b 10, byteAt b 13, byteAt b 16] == [0x2D, 0x2D, 0x54, 0x3A, 0x3A]
  let tail := (b.drop 19 == [0x5A]) || (byteAt b 19 == 0x2E && frac.length ≤ 6 && b.drop (20 + frac.length) == [0x5A])
  match part 0 4, part 5 2, part 8 2, part 11 2, part 14 2, part 17 2, (if byteAt b 19 = 0x2E then digitsOf decOf 10 frac else some 0) with
  | some y, some mo, some d, some h, some mi, some se, some f =>
      if marks ∧ tail ∧ 2000 ≤ y ∧ 1 ≤ mo ∧ mo ≤ 12 ∧ 1 ≤ d ∧ d ≤ (monthDays y).getD (mo - 1) 0 ∧ h < 24 ∧ mi < 60 ∧ se < 60 then
        let days := daysToYear y + ((monthDays y).take (mo - 1)).foldl (· + ·) 0 + (d - 1)
        let scale := if byteAt b 19 = 0x2E then 10 ^ frac.length else 1
        some ((days * 86400 + h * 3600 + mi * 60 + se) * 65536 + (roundDiv (f * 65536 : Nat) scale).toNat)
      else none
  | _, _, _, _, _, _, _ => none

/-- A value of a type from text, in the type's encoding; none for text that is no such value. -/
def parseValue (ty : Ty) (b : Bytes) : Option Bytes :=
  match ty with
  | .q15 => (parseFraction b).map fun q => leBytes 2 (quantize (-32768) 32767 32768 q % 65536).toNat
  | .q16 => (parseFraction b).map fun q => leBytes 4 (quantize (-2147483648) 2147483647 65536 q % 4294967296).toNat
  | .time64 => (parseTime b).map fun t => leBytes 8 t
  | .str => if 2 ≤ b.length ∧ b.take 1 = [0x22] ∧ b.drop (b.length - 1) = [0x22] then some ((b.drop 1).take (b.length - 2)) else none
  | .octets => parseOctets b.length b
  | .domain => none
  | _ => (parseInt b).bind fun x =>
      match ty.size with
      | some n => if (if ty.isSigned then decide (-2 ^ (8 * n - 1) ≤ x) && decide (x < 2 ^ (8 * n - 1)) else decide (0 ≤ x) && decide (x < 2 ^ (8 * n))) then
            some (leBytes n (x % 2 ^ (8 * n)).toNat) else none
      | none => none

end Sys2Proof.Machine
end

