-- ==== Sys2Proof/Machine/Apply.lean ====
section
/-!
DEFINITION. What applied requests do (R86, R90, R94, R177): writes with what their entries add, commands, contents of DOMAIN entries, and the ends of sessions
and transfers.
-/

namespace Sys2Proof.Machine

/-- `IMAGE_LOAD` (Table 4-10). -/
abbrev kImage : Key := 0x105001

/-! ### General-purpose pads (R45) -/

/-- Pad GPn. -/
def gpio (s : State) (n : Nat) : Gpio := (tabFind s.pads n).getD {}
/-- Put pad GPn. -/
def putGpio (s : State) (n : Nat) (g : Gpio) : State := { s with pads := tabPut s.pads n g }

/-- What a pad is given by its mode (Table 2-5). -/
def gpioDrive (s : State) (n : Nat) : Drive :=
  let m := nat s ((0x1100 + n) * 256 + 1)
  let high := flag s ((0x1100 + n) * 256 + 3)
  if m = 2 ∨ m = 3 then .pullUp
  else if m = 4 ∨ m = 6 then (if high then .high else .low)
  else if m = 5 then (if high then .z else .low)
  else .z

/-- A new GPIO_MODE after the mode `old`: a pad that leaves an output mode goes to high impedance first (R45); its level shows again, debounced in modes 2 and 3
from its next change. -/
def gpioModeSet (s : State) (n : Nat) (old : Nat := 0) : State :=
  let m := nat s ((0x1100 + n) * 256 + 1)
  let s0 := putGpio s n { gpio s n with differ := 0 }
  let s1 := emit (if 4 ≤ old ∧ m ≠ old then emit s0 (.gpio n .z) else s0) (.gpio n (gpioDrive s0 n))
  if m = 2 ∨ m = 3 then s1 else setNum s1 ((0x1100 + n) * 256 + 2) (if (gpio s n).raw then 1 else 0)

/-! ### Writes -/

/-- A sub-index takes a value (R99); an OEM sub-index has its declaration's default. -/
def setAny (s : State) (k : Key) (v : Val) : State :=
  if isOem (k / 256) then
    (if (tabFind s.regs k).orElse (fun _ => (declOf s (k / 256) (k % 256)).map (·.dflt)) = some v then s else touchVal s k v)
  else setVal s k v

/-- What an entry adds to a write of its sub-index; `old` is the value before. -/
def afterWrite (s : State) (idx sub : Nat) (old : Val) : State :=
  if idx = 0x1010 then setBit s kAddrStatus 1 (nat s 0x101001 != nat s kAddrActive)
  else if 0x1100 ≤ idx ∧ idx ≤ 0x1107 then
    (if sub = 1 then gpioModeSet s (idx - 0x1100) old.toInt.toNat
     else if sub = 3 then
       emit (putGpio s (idx - 0x1100) { gpio s (idx - 0x1100) with wroteAt := some s.clk }) (.gpio (idx - 0x1100) (gpioDrive s (idx - 0x1100)))
     else s)
  else if idx = 0x2100 ∧ sub = 1 then (if flag s 0x210001 then s else endSessions s fun sid => 0x10000 ≤ sid)
  else if idx = 0x2400 ∨ idx = 0x2401 then (if 4 ≤ sub ∧ sub ≤ 6 then handCopy s 3 else afterBus s idx sub old.toBytes)
  else if idx = 0x2600 then afterAir s sub
  else if idx = 0x5400 ∨ idx = 0x5401 then afterMeter s idx sub
  else if 0x6000 ≤ idx ∧ idx < 0x7000 then afterTime s idx sub old
  else if idx = 0x7300 ∧ sub ≤ 3 then handCopy s 3
  else if 0xC101 ≤ idx ∧ idx ≤ 0xC1FF ∧ sub = 3 ∧ s.start.loaded then workerJoins s (idx - 0xC100)
  else s

/-- A command's action (R78); `manager` and the like are this module's own. A command of an OEM entry has no action of the module's. -/
def runCommand (s : State) (idx sub : Nat) (v : Val) : State :=
  let n := v.toInt
  if idx = 0x1020 then clearBookmark s
  else if idx = 0x1040 then
    orderReset (resetPending (if n = 2 then requestSafe s else s)) 5 n.toNat
  else if idx = 0x1050 then { s with mram := { s.mram with store := { s.mram.store with resetAsked := true } } }
  else if idx < 0x2600 then commandBus s idx
  else if idx < 0x3000 then commandAir s sub n
  else if idx < 0x4000 then commandLanes s idx sub n
  else if idx < 0x5000 then s
  else if idx < 0x6000 then commandMeter s idx sub n v.toBytes
  else if idx < 0x7000 then commandTime s idx sub n
  else if idx = 0x7400 then startSwap s
  else if idx < 0x8000 then commandSafety s (isManager s) idx sub n
  else if idx < 0x8200 then commandEngines s idx sub n
  else if idx < 0x9000 then commandDma s idx sub n
  else if idx < 0xA000 then commandRec s
  else if idx < 0xB000 then commandKeys s idx sub v.toBytes
  else if idx = 0xB000 then install s n.toNat
  else if idx = 0xB010 then confirmTrial s
  else if idx = 0xC010 then commandWave s n
  else s

/-- One accepted item takes effect: an engine input in cell memory, a command, or a value with what its entry adds. -/
def applyWrite (s : State) (i : Key × Val) : State :=
  let idx := i.1 / 256
  let sub := i.1 % 256
  if isInput i.1 then applyItem s i
  else if isCommand s i.1 then runCommand s idx sub i.2
  else
    let old := reg s i.1
    afterWrite (setAny s i.1 i.2) idx sub old

/-- The journal item of an applied item (Table 17-5, block 8): writes, and the commands that change an engine input. -/
def journalOf (s : State) (i : Key × Val) : List JournalItem :=
  if isCommand s i.1 && !isInput i.1 then []
  else match declOf s (i.1 / 256) (i.1 % 256) with
    | some d => [.write (refOf i.1) (valBytes d.ty i.2)]
    | none => []

/-- Accepted items take effect, whole and in order (R86). -/
def applyItems (s : State) (items : List (Key × Val)) : State :=
  journal (items.foldl applyWrite s) (items.flatMap (journalOf s))

/-- Values written by a session: RWP ones become durable in one transaction first (R87, R90). -/
def makeDurable (s : State) (items : List (Key × Val)) : State :=
  let rwp := items.filter fun i => isRwp s i.1
  if rwp = [] then s else transact s rwp

/-! ### Contents of DOMAIN entries (R94, R95) -/

/-- Whether a DOMAIN is persistent. -/
def isInputDomain (k : Key) : Bool := k == kZoneMap || k == kCalibration || k == kAreas

/-- The entry's own content rules for a write (R95), but for images and packages; a program set may raise source 46 (R169). -/
def checkContent (s : State) (k : Key) (b : Bytes) : Bool × State :=
  let idx := k / 256
  if k = kZoneMap then (zoneMapOk (cellLuminaire s) (domain s kCalibration) b && versionOk s b, s)
  else if k = kCalibration then (calibrationOk (modelled s) b, s)
  else if 0x4200 ≤ idx ∧ idx ≤ 0x42FF then (sceneOk b, s)
  else if k = kGroupMap then (groupMapOk b, s)
  else if k = kSchedule then (scheduleOk b, s)
  else if k = kAreas then (areaTableOk b, s)
  else if k = kGroups then (groupsOk b, s)
  else if idx = 0x3400 then (storedScenesOk s b, s)
  else if idx = 0x2480 then (matrixOk b, s)
  else if k = kPartners then (partnerTableOk s b, s)
  else if k = kProgramSet then programSetCheck s b
  else (true, s)

/-- What an entry adds when its new content is in force; `old` is the content before. -/
def afterContent (s : State) (k : Key) (old : Bytes) : State :=
  let idx := k / 256
  if isInputDomain k then applyDomain s k old
  else if idx = 0x3400 then markScenes s (k % 256) old
  else if k = kGroups then handCopy s 2
  else if k = kProgramSet then applyProgramSet s old
  else if idx = 0x2480 then afterBus s idx (k % 256) old
  else if k = kPartners then afterPartners s old
  else if k = kSchedule ∨ isScene k then contentChanged s k
  else s

/-- New content becomes durable: the filled buffer is the active one by one transaction, whose home record names it (R94). -/
def storeContent (s : State) (k : Key) (b : Bytes) : State :=
  let s1 := putDomain s k b
  transact s1 [(k, .num ((tabFind s1.mram.store.buffers k).getD 0 : Nat))]

/-- New content takes effect; a content that differs is a change (R99). -/
def applyContent (s : State) (k : Key) (old : Bytes) : State :=
  let s1 := afterContent s k old
  let b := domain s1 k
  let s2 := if b = old then s1 else { s1 with server := noteChange s1.server k }
  journal s2 (journalChunks (refOf k) 16384 0 b)

/-! ### The answers of the server -/

/-- Whether responses of a session still reach someone: local, engine and partner sessions, and sessions that are open. -/
def sessionOpen (s : State) (sid : Nat) : Bool := sid < 0x2000 || (tabFind s.server.sessions sid).isSome

/-- R180: the response is written into the mailbox block of engine `k`, and a MAILBOX event follows. -/
def answerMailbox (s : State) (k : Nat) (op status : Byte) (body : Bytes) : State :=
  let e := engine s k
  match e.mailbox with
  | none => s
  | some a =>
      let b := localBase k + a
      let s1 := store s (b + 1) [status]
      let s2 := if op = 1 ∧ status = 0 then store (store s1 (b + 5) (body.take 1)) (b + 6) (body.drop 1) else s1
      postEvent (putEngine s2 k { engine s2 k with mailbox := none }) k 7 0 [status]

/-- A request is answered: in its mailbox, as a line on the console, as a PROXY's enclosed response where it was served here, or as a message; not
where its session has ended meanwhile. A request answered late is none that reads. -/
def respond (s : State) (sid : Nat) (tid : Half) (op status : Byte) (body : Bytes) (inner : Option (Byte × Half)) : State :=
  if transportOf sid = .engine then answerMailbox s (sid - 0x100) op status body
  else if sid = 1 then emit s (.console (if status = 0 then ascii "ok" else errorText status))
  else if !sessionOpen s sid ∨ !(session s sid).busy.contains tid then s
  else match inner with
    | none => answer s sid tid op status body
    | some (iop, itid) => answer s sid tid op 0 (responseMsg iop itid status body)

/-- What the module itself does in an input window (R176). -/
def runTask (s : State) : Task → State
  | .recall g scene stamp => switchRecall s g scene stamp
  | .release g => groupRelease s g 3
  | .close period recs stop op => runClose s period recs stop op

/-- A waiting change is applied in an input window and answered (R177). -/
def finishChange (s : State) (w : Waiting) : State :=
  match w.task with
  | some t => runTask s t
  | none =>
  let s1 := applyItems s w.items
  let s2 := match w.domain with
    | some (k, old) => applyContent s1 k old
    | none => s1
  respond s2 w.sid w.tid w.op 0 [] w.inner

/-! ### Subscriptions as the module sends them (R98 to R100) -/

/-- The readable sub-indices that a reference covers. -/
def coveredSubs (s : State) (idx sub : Nat) : List Nat :=
  if sub = 0xFF then
    (List.range 255).filter fun x => match declOf s idx x with
      | some d => d.acc != .wo && d.acc != .cmd
      | none => false
  else [sub]

/-- A NOTIFY body (Table 5-3) for a sub-index now; a DOMAIN's value is empty (log entry 46). -/
def notifyBody (s : State) (num : Nat) (k : Key) (count : Nat) (v : Option Bytes) : Bytes :=
  let (ty, b) := match declOf s (k / 256) (k % 256) with
    | some d => (d.ty.code, if d.ty = .domain then [] else (v.getD (valBytes d.ty (readVal s (k / 256) (k % 256) d))))
    | none => (0, [])
  leBytes 2 num ++ refBytes (refOf k) ++ leBytes 2 count ++ leBytes 8 (now64 s) ++ leBytes 1 ty ++ valueBytes b

/-- A NOTIFY leaves (Table 5-2, 0x21); one too long for the air is replaced by TOO_LARGE (R120): a NOTIFY with that STATUS and an empty body (DESIGN CHOICE,
log entry 71: R120 does not lay it out). -/
def sendNotify (s : State) (sid : Nat) (body : Bytes) : State :=
  if transportOf sid = .air ∧ 56 < body.length then sendTo s sid (mdpMsg 0x21 0 eTooLarge 0 []) else sendTo s sid (mdpMsg 0x21 0 0 0 body)

/-- The subscription with a number. -/
def subNumbered (s : State) (n : Nat) : Option Sub := s.server.subs.find? fun b => b.num == n
/-- Put a subscription. -/
def putSub (s : State) (b : Sub) : State :=
  { s with server := { s.server with subs := s.server.subs.map fun x => if x.num == b.num then b else x } }

/-- A register that hardware counts by itself has changed since it was last sent: its change count is not known (log entry 36). -/
def liveNotice (s : State) (b : Sub) (sub : Nat) : State :=
  let k := b.index * 256 + sub
  match (if 0 < sub then liveVal s b.index sub else none) with
  | none => s
  | some v =>
      match (subNumbered s b.num).bind fun x => tabFind x.last k with
      | none => putSub s { (subNumbered s b.num).getD b with last := tabPut ((subNumbered s b.num).getD b).last k v }
      | some old =>
          if old = v ∨ s.server.notices.any (fun n => n.num == b.num && n.key == k) then s
          else
            let (n, s1) := takeFresh s
            let s2 := { s1 with server := queueNotice s1.server b k }
            let s3 := { s2 with server := { s2.server with notices := s2.server.notices.map fun x =>
              if x.num == b.num && x.key == k then { x with count := (Config.liveChanges n).toNat } else x } }
            putSub s3 { (subNumbered s3 b.num).getD b with last := tabPut ((subNumbered s3 b.num).getD b).last k v }

/-- The bytes that a notification carries: its message of the ring, where its source is an engine's MESSAGE (R181). -/
def noticeValue (s : State) (n : Notice) : Option Bytes :=
  n.msg.bind fun m => (s.engines.ring.find? fun x => x.1 == m).map (·.2)

/-- R99: whether the oldest notification of a subscription may leave: none of its session is older, and its change is durable. -/
def mayNotify (s : State) (n : Notice) : Bool :=
  (s.server.notices.find? fun x => x.sid == n.sid) == some n && !(s.deferred.any fun d => d.1 == n.key)

/-- A value that hardware counts has been sent as it is now. -/
def markNotified (s : State) (b : Sub) (k : Key) : State :=
  match (if 0 < k % 256 then liveVal s (k / 256) (k % 256) else none) with
  | some v => putSub s { b with sentAt := some s.clk, last := tabPut b.last k v }
  | none => putSub s { b with sentAt := some s.clk }

/-- NOTIFY_ON_CHANGE (R99, R100): the minimum interval has passed since the subscription last sent; its oldest notification leaves, in its turn among those
of its session. -/
def execNotifyOnChange (sub : Half) (s : State) : Host.Outcome State Fault Refusal :=
  .next (match subNumbered s sub.toNat with
    | none => s
    | some b =>
        if b.periodic then s
        else
          let s1 := (coveredSubs s b.index b.sub).foldl (fun t x => liveNotice t b x) s
          match s1.server.notices.find? fun n => n.num == b.num with
          | none => s1
          | some n =>
              if !mayNotify s1 n then s1
              else
                let s2 := { s1 with server := { s1.server with notices := s1.server.notices.erase n } }
                let s3 := sendNotify s2 b.sid (notifyBody s2 b.num n.key n.count (noticeValue s2 n))
                purgeRing (markNotified s3 ((subNumbered s3 b.num).getD b) n.key))

/-- NOTIFY_PERIODIC (R98): the period has passed; the value of every covered sub-index leaves. -/
def execNotifyPeriodic (sub : Half) (s : State) : Host.Outcome State Fault Refusal :=
  .next (match subNumbered s sub.toNat with
    | none => s
    | some b =>
        if !b.periodic then s
        else
          let s1 := (coveredSubs s b.index b.sub).foldl (fun t x =>
            sendNotify t b.sid (notifyBody t b.num (b.index * 256 + x) 0 none)) s
          putSub s1 { b with sentAt := some s1.clk })

end Sys2Proof.Machine
end

