-- ==== Sys2Proof/Machine/Image.lean ====
section
/-!
DEFINITION. Dictionary images (R101 to R103): the records of an image, the OEM declarations in it (log entry 44), its checks, and what an accepted image does.
-/

namespace Sys2Proof.Machine

/-! ### Records -/

/-- `n` home records that fill a body (Table 4-8): whether REC_CRC holds, the sub-index, its type and its value. -/
def imageRecs : Nat → Bytes → Option (List (Bool × Key × Nat × Bytes))
  | 0, b => if b = [] then some [] else none
  | n + 1, b =>
      let len := fieldAt b 4 2
      let pad := (len + 3) / 4 * 4
      if b.length < 12 + pad then none
      else (imageRecs n (b.drop (12 + pad))).map fun t =>
        (crc32 (b.take (8 + pad)) == fieldAt b (8 + pad) 4, fieldAt b 0 2 * 256 + byteAt b 2, byteAt b 3, slice b 8 len) :: t

/-- The body of an image. -/
def imageBody (p : Bytes) : Bytes := slice p 64 (fieldAt p 20 4)
/-- All records of an image. -/
def imageAll (p : Bytes) : List (Bool × Key × Nat × Bytes) := (imageRecs (fieldAt p 16 4) (imageBody p)).getD []
/-- The records that hold values. -/
def imageRecords (p : Bytes) : List (Bool × Key × Nat × Bytes) := (imageAll p).filter fun r => r.2.1 / 256 != 0xF000
/-- Whether an image is FULL. -/
def imageFull (p : Bytes) : Bool := (byteAt p 6).testBit 0
/-- Whether an image is LIVE. -/
def imageLive (p : Bytes) : Bool := byteAt p 5 == 0

/-! ### OEM declarations (log entry 44) -/

/-- A declaration from the value of a record of index 0xF000. -/
def parseOem (v : Bytes) : Option (Key × OemDecl) :=
  let n := fieldAt v 8 2
  match tyOf (byteAt v 3) with
  | none => none
  | some ty =>
      let bound := fun (o : Nat) => if ty.isSigned then signed 8 (fieldAt v o 8) else ((fieldAt v o 8 : Nat) : Int)
      let d : OemDecl := { ty := byteAt v 3, access := byteAt v 4, readRole := roleOfNat (byteAt v 5), writeRole := roleOfNat (byteAt v 6)
                           dflt := decodeVal ty (slice v 10 n), lo := bound (10 + n), hi := bound (18 + n) }
      let fits : Bool := match oemDecl d with
        | some x => ty == .domain || (lengthError x (slice v 10 n) == 0 && inTableRange x (decodeVal ty (slice v 10 n)))
        | none => false
      if v.length = 26 + n ∧ isOem (fieldAt v 0 2) ∧ 1 ≤ byteAt v 2 ∧ byteAt v 2 < 255 ∧ byteAt v 4 ≤ 4 ∧ byteAt v 5 ≤ 4 ∧ byteAt v 6 ≤ 4 ∧ fits then
        some (fieldAt v 0 2 * 256 + byteAt v 2, d)
      else none

/-- The declarations that an image would leave: its own alone for a FULL one, otherwise beside those in force; none when one is not whole. -/
def imageOem (s : State) (p : Bytes) : Option (Tab OemDecl) :=
  let rs := (imageAll p).filter fun r => r.2.1 / 256 == 0xF000
  if !(byteAt p 6).testBit 1 then (if rs = [] then some s.mram.oem else none)
  else rs.foldl (fun t r => t.bind fun u => (parseOem r.2.2.2).map fun d => tabPut u d.1 d.2) (some (if imageFull p then [] else s.mram.oem))

/-- The bytes of a declared sub-index's value, at most. -/
def oemBytes (d : OemDecl) : Nat :=
  match tyOf d.ty with
  | some ty => (match ty.size with | some n => n | none => if ty = .domain then 0 else d.hi.toNat)
  | none => 0

/-- R101's limits. -/
def oemLimits (t : Tab OemDecl) : Bool :=
  let idxs := (t.map fun p => p.1 / 256).eraseDups
  idxs.length ≤ 1024 && (idxs.all fun i => (t.filter fun p => p.1 / 256 == i).length ≤ 64)
    && (t.map fun p => oemBytes p.2).foldl (· + ·) 0 ≤ 262144 && (t.filter fun p => p.2.ty == 14).length ≤ 64

/-! ### The checks (R102) -/

/-- Check 1: header fields, lengths, and the runtime version. -/
def imageHeaderOk (s : State) (p : Bytes) : Bool :=
  128 ≤ p.length && fieldAt p 0 4 == 0x32564844 && byteAt p 4 == 1 && byteAt p 5 ≤ 1 && p.length == 128 + fieldAt p 20 4
    && (imageRecs (fieldAt p 16 4) (imageBody p)).isSome && fieldAt p 12 2 ≤ nat s (kUpdate 1) && nat s (kUpdate 1) ≤ fieldAt p 14 2

/-- The values of an image as items, decoded under the declarations of `t`. -/
def imageItems (t : State) (p : Bytes) : List (Key × Val) :=
  (imageRecords p).map fun r => storedItem t (refOf r.2.1) r.2.2.2

/-- The state as the whole image would leave it: its declarations and values; of a FULL one, defaults elsewhere. -/
def imageState (s : State) (oem : Tab OemDecl) (p : Bytes) : State :=
  let s1 := { s with mram := { s.mram with oem := oem } }
  let s2 := if imageFull p then { s1 with regs := s1.regs.filter fun i => !isRwp s1 i.1 } else s1
  (imageItems s1 p).foldl withItem s2

/-- One record through checks 1, 4 and 5 of Table 4-5, the write role, and in LIVE mode check 6. A record of a sub-index that is not RWP, or of a
DOMAIN, is no value of an image (DEDUCED from R102). -/
def recordOk (s t : State) (sid : Nat) (live : Bool) (r : Bool × Key × Nat × Bytes) : Bool :=
  let idx := r.2.1 / 256
  let sub := r.2.1 % 256
  match declOf t idx sub with
  | none => false
  | some d =>
      let x := decodeVal d.ty r.2.2.2
      d.acc == .rwp && d.ty != .domain && d.ty.code == r.2.2.1 && lengthError d r.2.2.2 == 0 && inTableRange d x && inEntryRange t idx sub x
        && mayWrite s sid d idx sub r.2.2.2 && (!live || entryCondition t idx sub x == 0)

/-- R102: the checks of an image. -/
def imageOk (s : State) (sid : Nat) (p : Bytes) : Bool × State :=
  if !imageHeaderOk s p ∨ (fieldAt p 24 8 ≠ 0 ∧ fieldAt p 24 8 ≠ serial s) then (false, s)
  else
    let n := 64 + fieldAt p 20 4
    let (ok, s1) := signedBy s (byteAt p 32) 1 (p.take n) (slice p n 64)
    match imageOem s p with
    | none => (false, s1)
    | some oem =>
        let t := imageState s1 oem p
        (ok && (imageAll p).all (fun r => r.1) && oemLimits oem && (imageRecords p).all (recordOk s t sid (imageLive p)), s1)

/-! ### What an accepted image does (R103) -/

/-- The records of the inactive bank: the image's, merged with the active bank's others; of a FULL image the others are at their defaults, and the
records that name DOMAIN buffers stay. -/
def imageBank (s : State) (p : Bytes) : Tab HomeRec :=
  let kept := s.mram.store.home.filter fun i => !imageFull p || i.2.ty == Ty.domain.code
  (imageItems s p).foldl (fun t i => tabPut t i.1 (homeOf i.1 (typeOf s i.1) i.2)) kept

/-- The sub-indices that a FULL image returns to their defaults. -/
def imageDefaults (s t : State) (p : Bytes) : List (Key × Val) :=
  if imageFull p then
    (s.regs.filter fun i => isRwp t i.1 && !((imageRecords p).any fun r => r.2.1 == i.1)).map fun i =>
      (i.1, ((declOf t (i.1 / 256) (i.1 % 256)).map (·.dflt)).getD (.num 0))
  else []

/-- Put a bank's records in the inactive bank. -/
def Store.fillOther (t : Store) (b : Tab HomeRec) : Store := if t.bank then { t with bank0 := b } else { t with bank1 := b }

/-- An accepted image is stored (R103): LIVE switches the selector at once by one transaction, NEXT_START leaves the bank staged. Answers the values that
take effect now. What the journal slot of the switch holds is the model's choice: a transaction of no items, since the selector is no sub-index (DESIGN
CHOICE, log entry 66). -/
def takeImage (s : State) (p : Bytes) : List (Key × Val) × State :=
  let oem := (imageOem s p).getD s.mram.oem
  let t := { s with mram := { s.mram with oem := oem } }
  let bank := imageBank t p
  let st := s.mram.store.fillOther bank
  if imageLive p then
    let s1 := { t with mram := { t.mram with stagedOem := none, store := { st.putHeader (!st.bank) false with stagedKeys := [] } } }
    (imageItems t p ++ imageDefaults s t p, keepNum (keepNum (transact s1 []) 0x105002 1) 0x105003 (fieldAt p 8 4))
  else
    let keys := (imageRecords p).map fun r => r.2.1
    let s1 := { s with mram := { s.mram with stagedOem := some oem, store := { st.putHeader st.bank true with stagedKeys := keys, stagedId := fieldAt p 8 4 } } }
    ([], keepNum s1 0x105002 2)

end Sys2Proof.Machine
end

