-- ==== Sys2Proof/Machine/Server.lean ====
section
/-!
DEFINITION. The dictionary server (chapters 04 and 05): requests from their arrival in a session to their answer.
-/

namespace Sys2Proof.Machine

/-- What serving a request leaves: its status and body, or none while it is still being processed; and the state. -/
abbrev Served := Option (Byte × Bytes) × State

/-- A request turned away. -/
def refuse (s : State) (e : Byte) : Served := (some (e, []), s)

/-- The `LEN` limit of a session's transport (R105). -/
def lenLimit (sid : Nat) : Nat :=
  match transportOf sid with
  | .air => 56
  | .floor => 502
  | _ => 1280

/-- R105: an answer that the transport cannot carry is TOO_LARGE. -/
def fits (s : State) (sid : Nat) (body : Bytes) : Served := if lenLimit sid < body.length then refuse s eTooLarge else (some (0, body), s)

/-! ### Reads and writes (R85 to R88) -/

/-- READ. -/
def serveRead (s : State) (sid : Nat) (r : Ref) : Served :=
  let e := checkRead s sid r
  if e ≠ 0 then refuse s e
  else
    let (ty, v) := readItem s r
    fits s sid (BitVec.ofNat 8 ty :: valueBytes v)

/-- READ_MULTI (R88, R472). -/
def serveReadMulti (s : State) (sid : Nat) (rs : List Ref) : Served :=
  if rs = [] then refuse s eBadOp
  else if 32 < rs.length then refuse s eTooLarge
  else
    fits s sid (rs.flatMap fun r =>
      let e := checkRead s sid r
      if e ≠ 0 then [e, 0, 0, 0]
      else
        let (ty, v) := readItem s r
        [0, BitVec.ofNat 8 ty] ++ valueBytes v)

/-- Accepted items: durable first (R87, R90), then in force: at once, or in an input window where one is an engine input (R177). While an earlier change
waits for a window, later ones take their place behind it, so that each takes effect in the order in which it was accepted (R86). CLOSE_NOW is applied in a
window too, which its close needs (R465), and one that comes while a close runs closes nothing and is answered when that is done (R464). -/
def acceptItems (s : State) (sid : Nat) (tid : Half) (op : Byte) (asked : List (Key × Val)) (inner : Option (Byte × Half)) : Served :=
  let items := if closing s then asked.filter fun i => i.1 != kRec 2 else asked
  let s1 := makeDurable s items
  if s1.server.waiting != [] || (items.any (fun i => isInput i.1 || i.1 == kRec 2) && !noReaders s1) then
    let w : Waiting := { sid := sid, tid := tid, op := op, items := items, domain := none, inner := inner }
    (none, { s1 with server := { s1.server with waiting := s1.server.waiting ++ [w] } })
  else (some (0, []), applyItems s1 items)

/-- WRITE and COMMAND. A refused key command may still report a fault (R443, R445). -/
def serveWrite (s : State) (sid : Nat) (tid : Half) (op : Byte) (isCmd : Bool) (r : Ref) (v : Bytes) (inner : Option (Byte × Half)) : Served :=
  let item := storedItem s r v
  let e := checkWrite s (if isCmd then s else withItem s item) sid isCmd r v
  if e ≠ 0 then
    refuse (if isCmd ∧ (e = eState ∨ e = eAuth) ∧ condKeys s r.index.toNat r.sub.toNat v = e then refusedKeys s r.index.toNat r.sub.toNat v e else s) e
  else acceptItems s sid tid op [item] inner

/-- WRITE_MULTI (R87, R472): the body of a refusal is the number of the first item that fails. R87 does not say which error stands when an item that names a
CMD comes after one that fails another check: the model answers WRITE_ONLY, as for the count, before it checks any item (DESIGN CHOICE, log entry 68). -/
def serveWriteMulti (s : State) (sid : Nat) (tid : Half) (op : Byte) (is : List Item) (inner : Option (Byte × Half)) : Served :=
  let items := is.map fun i => storedItem s i.ref i.value
  let t := items.foldl withItem s
  let codes := is.map fun i => checkWrite s t sid false i.ref i.value
  let number := fun (n : Nat) => ([BitVec.ofNat 8 n] : Bytes)
  if is = [] then refuse s eBadOp
  else if 32 < is.length then refuse s eTooLarge
  else match items.findIdx? fun i => isCommand s i.1 with
    | some n => (some (eWriteOnly, number n), s)
    | none => match codes.findIdx? fun c => c != 0 with
      | some n => (some (codes.getD n 0, number n), s)
      | none =>
          if items.any (fun i => isRwp s i.1) ∧ 256 < (is.map fun i => i.value.length).foldl (· + ·) 0 then refuse s eTooLarge
          else acceptItems s sid tid op items inner

/-! ### Block transfers (R94 to R97, R107) -/

/-- The transfer that a handle names in a session. -/
def transferOf (s : State) (sid : Nat) (h : Byte) : Option Transfer := s.server.transfers.find? fun t => t.sid == sid && t.handle == h.toNat
/-- Put a transfer. -/
def putTransfer (s : State) (t : Transfer) : State :=
  { s with server := { s.server with transfers := s.server.transfers.map fun x => if x.sid == t.sid && x.handle == t.handle then t else x } }
/-- The transfer has just been asked for. -/
def touchTransfer (s : State) (t : Transfer) : State := putTransfer s { t with usedAt := s.clk }

/-- The largest content of an entry (R95). -/
def domainMax (r : Rng) : Nat :=
  match r with
  | .len n => n
  | .exact n => n
  | .lens _ n => n
  | _ => 16777216

/-- The active contents of the DOMAIN entries that `p` picks, together. -/
def contentBytes (s : State) (p : Key → Bool) : Nat := ((s.mram.store.domains.filter fun x => p x.1).map fun x => x.2.length).foldl (· + ·) 0

/-- The DOMAIN entries whose content lies in the two banks of the persistent dictionary region (Table 4-9). -/
def inBanks (k : Key) : Bool :=
  0x1000 ≤ k / 256 && k / 256 ≤ 0xCFFF && !isScene k && k != kZoneMap && k != kGroupMap && k != kSchedule && k != kGroups && k != kCalibration
    && k != kProgramSet && k != kPackage && k != kImage

/-- The free space of an entry's region for its inactive buffer (R95, Table 4-9, Table 6-14): each of the zone map, group map, schedule and safety groups has
its own two buffers; the scenes share 2,482,176 bytes, an inactive buffer included; a bank of 1,032,192 bytes holds home records and the contents of the
entries without a region of their own (how the two share it is in log entry 67); every other entry has room for its maximum. -/
def regionFree (s : State) (k : Key) : Nat :=
  if k = kZoneMap then 524288
  else if k = kGroupMap then 262144
  else if k = kSchedule then 65536
  else if k = kGroups then 4096
  else if isScene k then 2482176 - contentBytes s isScene
  else if inBanks k then 1032192 - bankUsed s - contentBytes s fun x => inBanks x && x != k
  else 16777216

/-- The number of a DOMAIN's active buffer; of BURN_HOURS, the newest burn slot, which the read pins (R471). -/
def activeBuffer (s : State) (k : Key) : Nat :=
  if k = kRec 0xE then (match newestBurn s with | some (n, _) => n | none => 0) else (tabFind s.mram.store.buffers k).getD 0

/-- Whether a transfer of the recorder is served from its region as it is read (R471). -/
def isRecDomain (k : Key) : Bool := k == kRec 0xC || k == kRec 0xD || k == kRec 0xE

/-- The checks of a BLOCK_BEGIN, in the order of Table 4-5. -/
def beginCheck (s : State) (sid : Nat) (r : Ref) (write : Bool) (size : Nat) : Byte :=
  let k := r.index.toNat * 256 + r.sub.toNat
  let opened := s.server.transfers.filter fun t => t.key == k
  match declOf s r.index.toNat r.sub.toNat with
  | none => eNoObject
  | some d =>
      if d.ty ≠ .domain then eBadOp
      else if write then
        (if d.acc = .ro then eReadOnly
         else if !permits s sid d.writeRole then eNoRight
         else if domainMax d.rng < size ∨ regionFree s k < size then eTooLarge
         else if isStandby s ∧ !standbyMayWrite r.index.toNat then eState
         else if opened.any (fun t => t.write || t.buffer != activeBuffer s k) then eState
         else if k = kPackage ∧ (nat s (kUpdate 0xB) = 2 ∨ nat s (kUpdate 7) = 3) then eState
         else if d.acc = .rwp ∧ storeDegraded s then eStore
         else 0)
      else
        (if d.acc = .wo ∨ d.acc = .cmd then eWriteOnly
         else if !permits s sid d.readRole then eNoRight
         else if 4 ≤ (opened.filter fun t => !t.write).length then eLimit
         else 0)

/-- BLOCK_BEGIN: a transfer opens under the first free handle of the session; in a session whose 256 handles are all open it is answered with LIMIT (DESIGN
CHOICE, log entry 69: R107 gives the handle one byte and states no error). A package that begins empties the quire (R449). -/
def serveBegin (s : State) (sid : Nat) (r : Ref) (write : Bool) (size crc : Nat) : Served :=
  let k := r.index.toNat * 256 + r.sub.toNat
  let e := beginCheck s sid r write size
  if e ≠ 0 then refuse s e
  else match (List.range 256).find? fun h => (transferOf s sid (BitVec.ofNat 8 h)).isNone with
    | none => refuse s eLimit
    | some h =>
        let content := if write ∨ isRecDomain k then [] else readDomain s r.index.toNat r.sub.toNat
        let max := ((declOf s r.index.toNat r.sub.toNat).map fun d => domainMax d.rng).getD 0
        let n := if write then size else if isRecDomain k then max else content.length
        let c := if write then crc else if isRecDomain k then 0 else crc32 content
        let t : Transfer := { handle := h, sid := sid, key := k, write := write, size := n, crc := c, content := content
                              buffer := activeBuffer s k, usedAt := s.clk }
        let s1 := { s with server := { s.server with transfers := s.server.transfers ++ [t] } }
        let s2 := if write ∧ k = kPackage then setQuire (putFolios s1 { s1.mram.folios with quire := [] }) 1 else s1
        (some (0, [BitVec.ofNat 8 h] ++ leBytes 4 n ++ leBytes 4 c ++ leBytes 2 (lenLimit sid - 13)), s2)

/-- Whether a transfer's content reaches MRAM (R91): a persistent DOMAIN, an image, a package. -/
def writesStore (s : State) (k : Key) : Bool := isRwp s k || k == kImage || k == kPackage

/-- BLOCK_DATA (R95, R97, R107). A read past the end of the content is answered with OUT_OF_RANGE (DESIGN CHOICE, log entry 69: R107 names no error). -/
def serveData (s : State) (sid : Nat) (h : Byte) (off : Nat) (arg : BlockArg) : Served :=
  match transferOf s sid h with
  | none => refuse s eNoTransfer
  | some t =>
      let s1 := touchTransfer s t
      let chunk := lenLimit sid - 13
      let put := fun (v : Bytes) =>
        if off ≠ t.content.length then refuse s1 eSequence
        else if chunk < v.length ∨ t.size < t.content.length + v.length then refuse s1 eTooLarge
        else if s.power.warning ∧ writesStore s t.key then refuse s1 ePower
        else (some ((0 : Byte), ([] : Bytes)), putTransfer s1 { t with content := t.content ++ v, usedAt := s.clk })
      match arg with
      | .write v => if t.write then put v else refuse s1 eBadOp
      | .read n =>
          if t.write then (if n = 0 then put [] else refuse s1 eBadOp)
          else if chunk < n.toNat then refuse s1 eTooLarge
          else if t.size < off + n.toNat then refuse s1 eRange
          else (some (0, valueBytes (if isRecDomain t.key then recBytes s (t.key % 256) t.buffer off n.toNat else slice t.content off n.toNat)), s1)

/-- The operation a request is answered as: PROXY where the request was enclosed in one. -/
def outerOp (op : Byte) (inner : Option (Byte × Half)) : Byte := match inner with | some _ => 0x40 | none => op

/-- New content of a persistent DOMAIN, durable, then in force: at once, or in an input window (R94, R177). -/
def acceptContent (s : State) (sid : Nat) (tid : Half) (k : Key) (b : Bytes) (inner : Option (Byte × Half)) : Served :=
  let old := domain s k
  let s1 := storeContent s k b
  if s1.server.waiting != [] || (isInputDomain k && !noReaders s1) then
    let w : Waiting := { sid := sid, tid := tid, op := outerOp 0x12 inner, items := [], domain := some (k, old), inner := inner }
    (none, { s1 with server := { s1.server with waiting := s1.server.waiting ++ [w] } })
  else (some (0, []), applyContent s1 k old)

/-- A transfer that has ended is open no more. -/
def closedTransfer (s : State) (t : Transfer) : State :=
  { s with server := { s.server with transfers := s.server.transfers.filter fun x => !(x.sid == t.sid && x.handle == t.handle) } }

/-- An image that has passed its checks takes effect (R103), in an input window where one of its values is an engine input. -/
def acceptImage (s : State) (sid : Nat) (tid : Half) (b : Bytes) (inner : Option (Byte × Half)) : Served :=
  let (items, s1) := takeImage s b
  if s1.server.waiting != [] || (items.any (fun i => isInput i.1) && !noReaders s1) then
    let w : Waiting := { sid := sid, tid := tid, op := outerOp 0x12 inner, items := items, domain := none, inner := inner }
    (none, { s1 with server := { s1.server with waiting := s1.server.waiting ++ [w] } })
  else (some (0, []), applyItems s1 items)

/-- BLOCK_END of an image (R102, R103), in the order of Table 4-5; a full image for the next start is stored even where the store is not loaded (R93). -/
def endImage (s : State) (t : Transfer) (sid : Nat) (tid : Half) (inner : Option (Byte × Half)) : Served :=
  let (ok, s1) := imageOk s sid t.content
  if !ok then refuse (keepNum (closedTransfer s1 t) 0x105002 3) eImage
  else if storeDegraded s1 ∧ !(imageFull t.content ∧ !imageLive t.content) then refuse (closedTransfer s1 t) eStore
  else if s1.power.warning then refuse (touchTransfer s1 t) ePower
  else acceptImage (closedTransfer s1 t) sid tid t.content inner

/-- BLOCK_END of a package (R450): staged or refused; a package that passes during a power-fail warning stays in its transfer (R97). -/
def endPackage (s : State) (t : Transfer) : Served :=
  let (ok, s1) := stagePackage (closedTransfer s t) t.content
  if !ok then refuse s1 eImage
  else if s.power.warning then refuse (touchTransfer s t) ePower
  else (some (0, []), s1)

/-- BLOCK_END of another entry (R94, R95), in the order of Table 4-5: the content, the store, the supply. -/
def endContent (s : State) (t : Transfer) (sid : Nat) (tid : Half) (inner : Option (Byte × Half)) : Served :=
  let (ok, s1) := checkContent s t.key t.content
  if !ok then refuse (closedTransfer s1 t) eRange
  else if storeDegraded s1 then refuse (closedTransfer s1 t) eStore
  else if s1.power.warning ∧ writesStore s1 t.key then refuse (touchTransfer s1 t) ePower
  else acceptContent (closedTransfer s1 t) sid tid t.key t.content inner

/-- BLOCK_END (R94, R95, R97): a read transfer closes; a write transfer's content is checked and taken. A transfer refused with POWER_FAIL stays open. -/
def serveEnd (s : State) (sid : Nat) (tid : Half) (h : Byte) (inner : Option (Byte × Half)) : Served :=
  match transferOf s sid h with
  | none => refuse s eNoTransfer
  | some t =>
      if !t.write then (some (0, []), closedTransfer s t)
      else if t.content.length ≠ t.size ∨ crc32 t.content ≠ t.crc then refuse (dropTransfer s t) eRange
      else if t.key = kImage then endImage s t sid tid inner
      else if t.key = kPackage then endPackage s t
      else endContent s t sid tid inner

/-! ### Subscriptions (R98) -/

/-- The next free subscription number, never 0xFFFF. -/
def freeSub (s : State) : Nat :=
  ((List.range 1025).map fun i => (s.server.nextSub + i) % 65535).find? (fun n => !s.server.subs.any fun b => b.num == n) |>.getD 0

/-- The checks of a SUBSCRIBE; sub-index 0xFF stands for the whole index. -/
def subscribeCheck (s : State) (sid : Nat) (r : Ref) (periodic : Bool) (interval : Nat) : Byte :=
  let late := if (!periodic && 65535 < interval) || (periodic && (interval < 10 || 3600000 < interval)) then eRange
    else if 64 ≤ (s.server.subs.filter fun b => b.sid == sid).length ∨ 1024 ≤ s.server.subs.length then eLimit
    else 0
  let sub := if r.sub = 0xFF then 0 else r.sub.toNat
  match declOf s r.index.toNat sub with
  | none => eNoObject
  | some d => if d.acc = .wo ∨ d.acc = .cmd then eWriteOnly else if !permits s sid d.readRole then eNoRight else late

/-- SUBSCRIBE, or its cancellation (mode 0). -/
def serveSubscribe (s : State) (sid : Nat) (r : Ref) (mode : Byte) (interval : Nat) : Served :=
  let here := fun (b : Sub) => b.sid == sid && b.index == r.index.toNat && b.sub == r.sub.toNat
  if mode = 0 then
    match s.server.subs.find? here with
    | none => (some (0, leBytes 2 0xFFFF), s)
    | some b => (some (0, leBytes 2 b.num), { s with server := { s.server with
        subs := s.server.subs.filter fun x => x.num != b.num, notices := s.server.notices.filter fun n => n.num != b.num } })
  else
    let periodic := mode == 2
    let e := subscribeCheck s sid r periodic interval
    if e ≠ 0 then refuse s e
    else
      let n := freeSub s
      let b : Sub := { num := n, sid := sid, index := r.index.toNat, sub := r.sub.toNat, periodic := periodic, interval := interval
                       sentAt := if periodic then some s.clk else none }
      let s1 := { s with server := { s.server with subs := s.server.subs ++ [b], nextSub := (n + 1) % 65535 } }
      let s2 := (coveredSubs s1 b.index b.sub).foldl (fun t x => liveNotice t b x) s1
      (some (0, leBytes 2 n), if periodic then s1 else { s2 with server :=
        ((s.time.dark.reverse.map fun a => kAlarm a 4).filter b.covers).foldl (fun v k => queueNotice v b k) s2.server })

/-! ### Authentication (R110) -/

/-- A transport's number in the record of failures. -/
def transportNo (t : Transport) : Nat :=
  match t with
  | .host => 0 | .console => 1 | .engine => 2 | .air => 3 | .floor => 4 | .ethernet => 5

/-- R110: a failure counts; the fifth within 60 s locks its transport. -/
def authFailed (s : State) (sid : Nat) : State :=
  let n := transportNo (transportOf sid)
  let l := (tabFind s.server.lockouts n).getD {}
  let fails := (s.clk :: l.fails).filter fun t => s.clk < t + secs 60
  let l1 : Lockout := if 5 ≤ fails.length then { fails := [], locked := true } else { l with fails := fails }
  bump { s with server := { s.server with lockouts := tabPut s.server.lockouts n l1 } } 0x210005

/-- AUTH_BEGIN. -/
def serveAuthBegin (s : State) (sid : Nat) (n : Nat) : Served :=
  if ((tabFind s.server.lockouts (transportNo (transportOf sid))).getD {}).locked then refuse s eLimit
  else
    let (ok, s1) := mayUse s n 0 [5, 6, 7]
    if !ok then refuse (authFailed s1 sid) eAuth
    else
      let (nonce, s2) := drbg s1 16
      (some (0, nonce), putSession s2 sid { session s2 sid with nonce := some (nonce, n, s2.clk) })

/-- AUTH_PROVE: a nonce serves one proof, within 10 s; checking a tag is one use of the shell's key (R441). -/
def serveAuthProve (s : State) (sid : Nat) (tid : Half) (tag : Bytes) : Served :=
  match (session s sid).nonce with
  | none => refuse (authFailed s sid) eAuth
  | some (nonce, n, at_) =>
      let s1 := putSession s sid { session s sid with nonce := none }
      if at_ + secs 10 ≤ s.clk then refuse (authFailed s1 sid) eAuth
      else
        let (ok, s2) := mayUse s1 n 0 [5, 6, 7]
        if !ok then refuse (authFailed s2 sid) eAuth
        else if (hmac (shell s2 n).key (nonce ++ leBytes 8 (serial s2) ++ leBytes 2 tid.toNat)).take 16 ≠ tag then
          refuse (authFailed (useShell s2 n) sid) eAuth
        else
          let role := shellGrant s2 n
          let s3 := putSession s2 sid { session s2 sid with role := role, shell := some (n, (shell s2 n).generation) }
          (some (0, [BitVec.ofNat 8 ((role.map Role.code).getD 0)]), useShell s3 n)

/-! ### One request -/

/-- The operations that a transport does not carry (R119 to R121, R117). -/
def notCarried (s : State) (sid : Nat) (o : MdpOp) : Bool :=
  let op := opCode o
  let domainNamed := fun (r : Ref) => ((declOf s r.index.toNat r.sub.toNat).map (·.ty)) == some .domain
  match transportOf sid with
  | .ethernet => op == 0x50 || op == 0x51
  | .floor => op == 0x20
  | .air => !(op == 1 || op == 2 || op == 0x20 || op == 0x30)
  | .console => (match o with
      | .read r => domainNamed r
      | .write r _ => domainNamed r
      | .command r _ => domainNamed r
      | .authBegin _ => false
      | .authProve _ => false
      | .close => false
      | _ => true)
  | _ => false

/-- R472: whether the body of an operation matches its layout, where the operation itself can hold one that does not. -/
def bodyOk (o : MdpOp) : Bool :=
  match o with
  | .subscribe _ m _ => m.toNat ≤ 2
  | .blockBegin _ dir size crc => dir || (size == 0 && crc == 0)
  | .authProve t => t.length == 16
  | .readMulti rs => rs != []
  | .writeMulti is => is != []
  | .other _ _ => false
  | .malformed _ _ => false
  | _ => true

/-- A request is carried out, after the checks of its session (R105, R472, then Table 4-5). -/
def perform (s : State) (sid : Nat) (tid : Half) (o : MdpOp) (inner : Option (Byte × Half)) : Served :=
  let outer := outerOp (opCode o) inner
  if !bodyOk o then refuse s eBadOp else
  match o with
  | .read r => serveRead s sid r
  | .write r v => serveWrite s sid tid outer false r v inner
  | .readMulti rs => serveReadMulti s sid rs
  | .writeMulti is => serveWriteMulti s sid tid outer is inner
  | .blockBegin r dir size crc => serveBegin s sid r dir size.toNat crc.toNat
  | .blockData h off arg => serveData s sid h off.toNat arg
  | .blockEnd h => serveEnd s sid tid h inner
  | .subscribe r m i => serveSubscribe s sid r m i.toNat
  | .command r v => serveWrite s sid tid outer true r v inner
  | .authBegin n => serveAuthBegin s sid n.toNat
  | .authProve t => serveAuthProve s sid tid t
  | .close => (some (0, []), s)
  | .other _ _ => refuse s eBadOp
  | .malformed _ _ => refuse s eBadOp

/-- MDP on Ethernet (R62, R72, Table 5-8): enabled, and step 8 has run. -/
def ethOpen (s : State) : Bool := flag s 0x210001 && !safeMode s && stepRan s 8

/-- Whether a session's transport takes requests now: the host port while enabled (Table 5-6), in SAFE_MODE local sessions only (R72). -/
def transportOpen (s : State) (sid : Nat) : Bool :=
  match transportOf sid with
  | .host => (s.start.loaded && (flag s 0x220001 || safeMode s)) || inRecovery s
  | .console => s.start.loaded || inRecovery s
  | .engine => false
  | .air => s.start.loaded && !safeMode s && radioRuns s && associated s (sid - 0x1000)
  | .floor => s.start.loaded && !safeMode s && busRuns s ((sid - 0x2000) / 64)
  | .ethernet => ethOpen s && (tabFind s.server.sessions sid).isSome

/-- Whether a request writes the persistent store (R431). -/
def writesPersistent (s : State) (sid : Nat) (o : MdpOp) : Bool :=
  match o with
  | .write r _ => isRwp s (r.index.toNat * 256 + r.sub.toNat)
  | .writeMulti is => is.any fun i => isRwp s (i.ref.index.toNat * 256 + i.ref.sub.toNat)
  | .blockEnd h => match transferOf s sid h with
      | some t => t.write && (isRwp s t.key || t.key == kImage)
      | none => false
  | _ => false

/-- The answer of a request served at once, with what follows it: a CLOSE ends its session (R111). A request not answered yet is outstanding. -/
def conclude (s : State) (sid : Nat) (tid : Half) (o : MdpOp) (r : Option (Byte × Bytes)) : State :=
  match r with
  | none => if sid = 1 then s else putSession s sid { session s sid with busy := (session s sid).busy ++ [tid], limit := none }
  | some (status, body) =>
      let s1 := if sid = 1 then emit s (.console (replyText o status body)) else if sessionOpen s sid then answer s sid tid (opCode o) status body else s
      match o with
      | .close => if status = 0 ∨ (session s sid).closed then endSession s1 sid else s1
      | _ => s1

/-- A PROXY answered with the enclosed response (Table 5-3), if the transport can carry it. -/
def proxyAnswer (s : State) (sid : Nat) (tid : Half) (enclosed : Bytes) : State :=
  if !sessionOpen s sid then s
  else if lenLimit sid < enclosed.length then answer s sid tid 0x40 eTooLarge []
  else answer s sid tid 0x40 0 enclosed

/-- R83: the request in hand runs under its origin's role at most. -/
def setLimit (s : State) (q : Req) : State :=
  putSession s q.sid { session s q.sid with usedAt := s.clk, limit := q.origin.map fun n => roleOfNat n }

/-- R108, R109: whether a request is taken up: not one whose answer is kept or that is still being processed, and not a ninth. On the console, which has no
identifiers, requests in processing are the changes and requests that wait. -/
def mayRun (s : State) (q : Req) (code : Byte) : Bool × State :=
  let x := session s q.sid
  if q.sid = 1 then
    (if 8 ≤ (s.server.waiting.filter fun w => w.sid == 1).length + (s.server.held.filter fun h => h.q.sid == 1).length then
      (false, emit s (.console (errorText eBusy)))
    else (true, s))
  else match x.kept.find? fun k => k.tid == q.tid && s.clk < k.at_ + secs 30 with
    | some k => (false, bump (sendTo (putSession s q.sid { x with usedAt := s.clk }) q.sid (responseMsg k.op k.tid k.status k.body)) 0x210004)
    | none =>
        if x.busy.contains q.tid then (false, bump s 0x210004)
        else if 8 ≤ x.busy.length then (false, answer s q.sid q.tid code eBusy [])
        else (true, setLimit s q)

/-- R29: an uncommissioned module answers no one below INTEGRATOR. -/
def mute (s : State) (sid : Nat) : Bool := uncommissioned s && !permits s sid .integrator

/-- Whether a request must wait (R109, R431): a change of its session waits for an input window, or the state copy is behind and it writes the persistent
store. -/
def mustWait (s : State) (sid : Nat) (writes : Bool) : Bool := (s.server.waiting.any fun w => w.sid == sid) || (carryOver s && writes)

/-- A request is held back. -/
def holdReq (s : State) (h : Held) : State :=
  let s1 := { s with server := { s.server with held := s.server.held ++ [h] } }
  if h.q.sid = 1 then s1 else putSession s1 h.q.sid { session s1 h.q.sid with busy := (session s1 h.q.sid).busy ++ [h.q.tid], limit := none }

/-- Whether earlier requests of a session are held back. -/
def holds (s : State) (sid : Nat) : Bool := s.server.held.any fun h => h.q.sid == sid

/-- A request is carried out and answered: not in a session closed under its client (R82). -/
def serveNow (s : State) (q : Req) (o : MdpOp) : State :=
  if (session s q.sid).closed then conclude s q.sid q.tid o (some (eNoRight, []))
  else if lenLimit q.sid < opLen o then conclude s q.sid q.tid o (some (eTooLarge, []))
  else if notCarried s q.sid o then conclude s q.sid q.tid o (some (eNotSupported, []))
  else
    let (r, s1) := perform s q.sid q.tid o none
    conclude s1 q.sid q.tid o r

/-- A request of a session is served, or held back until those before it are (R109, R431). -/
def serve (s : State) (q : Req) (o : MdpOp) : State :=
  if !transportOpen s q.sid ∨ mute s q.sid ∨ opCode o = 0x21 then s
  else
    let (go, s1) := mayRun s q (opCode o)
    if !go then s1
    else if holds s1 q.sid || mustWait s1 q.sid (writesPersistent s1 q.sid o) then holdReq s1 { q := q, ask := .op o }
    else serveNow s1 q o

/-! ### PROXY (R122, R123) -/

/-- Whether the manager's matrices show another module under a worker's address, or a rostered module of the worker under another address (R32, R36, R350;
DEDUCED, log entry 48). A NET_ONLY worker is on none of the manager's buses, and the spec names no way by which the manager learns of its flag: a free value. -/
def workerConflict (s : State) (w : Nat) : Bool :=
  let own := fun (n : Nat) => n == nat s (kRoster w 1) || n == nat s (kRoster w 2)
  w != 0 && (nat s (kRoster w 3) == 3 && Config.netConflict w s.clk
    || [0, 1].any fun k => (List.range 32).any fun n =>
      nodeSerial (matrix s k) n != 0 && ((nodeAddress (matrix s k) n == workerAddr s w) != own (nodeSerial (matrix s k) n)))

/-- R122's three checks; 0 accepts. -/
def proxyCheck (s : State) (p : ProxyReq) : Byte :=
  let w := p.target.toNat % 256
  let op := opCode p.inner
  if nat s kAddrActive % 256 ≠ 0 ∨ p.target.toNat / 256 ≠ nat s kAddrActive / 256 ∨ !(w == 0 || rostered s w) ∨ workerConflict s w then eNoRoute
  else if p.side = 2 ∧ !isPair s w then eNoRoute
  else if op = 0x40 ∨ op = 0x20 ∨ op = 0x50 ∨ op = 0x51 ∨ op = 0x52 then eNotSupported
  else 0

/-- A PROXY is served: here for side 0 of the own segment and the own side, at the worker or partner otherwise; at most 64 in flight. -/
def performProxy (s : State) (q : Req) (p : ProxyReq) : State :=
  let wait := fun (u : State) => putSession u q.sid { session u q.sid with busy := (session u q.sid).busy ++ [q.tid], limit := none }
  let fail := fun (e : Byte) => answer s q.sid q.tid 0x40 e []
  let timeout := if p.timeout = 0 then nat s 0x210006 else p.timeout.toNat
  if lenLimit q.sid < proxyLen p then fail eTooLarge
  else if 2 < p.side.toNat then fail eBadOp
  else if proxyCheck s p ≠ 0 then fail (proxyCheck s p)
  else if p.target.toNat % 256 = 0 ∧ (p.side = 0 ∨ p.side.toNat = ownSide s) then
    let (r, s1) := perform s q.sid q.tid p.inner (some (opCode p.inner, p.tid))
    match r with
    | none => wait s1
    | some (status, body) => proxyAnswer s1 q.sid q.tid (responseMsg (opCode p.inner) p.tid status body)
  else if 64 ≤ (s.server.flights.filter fun f => f.2.sid != waveSid && f.2.sid != dutySid).length then fail eBusy
  else wait (forwardOp s q.sid q.tid p.target.toNat p.side.toNat p.inner ((roleOf s q.sid).getD .observer) timeout p.tid)

/-- A PROXY is carried out and answered, where its transport carries it (R119 to R121) and its session is not closed (R82). -/
def proxyNow (s : State) (q : Req) (p : ProxyReq) : State :=
  match transportOf q.sid with
  | .console => emit s (.console (errorText eNotSupported))
  | .floor => answer s q.sid q.tid 0x40 (if (session s q.sid).closed then eNoRight else eNotSupported) []
  | .air => answer s q.sid q.tid 0x40 (if (session s q.sid).closed then eNoRight else eNotSupported) []
  | _ => if (session s q.sid).closed then answer s q.sid q.tid 0x40 eNoRight [] else performProxy s q p

/-- PROXY on a session's transport, or held back until the requests before it are served. -/
def serveProxy (s : State) (q : Req) (p : ProxyReq) : State :=
  if !transportOpen s q.sid ∨ mute s q.sid then s
  else
    let (go, s1) := mayRun s q 0x40
    if !go then s1
    else if holds s1 q.sid || mustWait s1 q.sid (p.target.toNat % 256 = 0 && writesPersistent s1 q.sid p.inner) then holdReq s1 { q := q, ask := .proxy p }
    else proxyNow s1 q p

/-! ### Requests held back, and changes in input windows -/

/-- A request that was held back is served after all. -/
def serveHeld (s : State) (h : Held) : State :=
  let x := session s h.q.sid
  let s1 := if h.q.sid = 1 then s else setLimit (putSession s h.q.sid { x with busy := x.busy.filter fun t => t != h.q.tid }) h.q
  if !sessionOpen s h.q.sid then s
  else match h.ask with
    | .op o => serveNow s1 h.q o
    | .proxy p => proxyNow s1 h.q p

/-- Whether a request held back must go on waiting. -/
def stillHeld (s : State) (h : Held) : Bool :=
  match h.ask with
  | .op o => mustWait s h.q.sid (writesPersistent s h.q.sid o)
  | .proxy p => mustWait s h.q.sid (p.target.toNat % 256 = 0 && writesPersistent s h.q.sid p.inner)

/-- The requests held back are served, each session's in order: a request goes on waiting behind one of its session that does (R109). -/
def drainHeld (hs : List Held) (s : State) : State :=
  hs.foldl (fun t h => if holds t h.q.sid || stillHeld t h then { t with server := { t.server with held := t.server.held ++ [h] } } else serveHeld t h)
    { s with server := { s.server with held := [] } }

/-- INPUT_CHANGE_APPLIED (R176, R177): in an input window, or while nothing reads the inputs, the oldest waiting change is applied; what its session asked
meanwhile follows (R109). -/
def execInputChangeApplied (s : State) : Host.Outcome State Fault Refusal :=
  .next (match s.server.waiting with
    | w :: rest =>
        if mayApply s then
          let s1 := finishChange { s with server := { s.server with waiting := rest } } w
          drainHeld s1.server.held s1
        else s
    | [] => s)

/-! ### The rows of the server -/

/-- READ (R85, Table 5-3). -/
def execRead (q : Req) (ref : Ref) (s : State) : Host.Outcome State Fault Refusal := .next (serve s q (.read ref))
/-- WRITE (R85, R86). -/
def execWrite (q : Req) (ref : Ref) (v : Bytes) (s : State) : Host.Outcome State Fault Refusal := .next (serve s q (.write ref v))
/-- READ_MULTI (R88). -/
def execReadMulti (q : Req) (refs : List Ref) (s : State) : Host.Outcome State Fault Refusal := .next (serve s q (.readMulti refs))
/-- WRITE_MULTI (R87). -/
def execWriteMulti (q : Req) (items : List Item) (s : State) : Host.Outcome State Fault Refusal := .next (serve s q (.writeMulti items))
/-- BLOCK_BEGIN for reading (R96). -/
def execBlockBeginRead (q : Req) (ref : Ref) (s : State) : Host.Outcome State Fault Refusal := .next (serve s q (.blockBegin ref false 0 0))
/-- BLOCK_BEGIN for writing (R94 to R96). -/
def execBlockBeginWrite (q : Req) (ref : Ref) (size crc : Word) (s : State) : Host.Outcome State Fault Refusal :=
  .next (serve s q (.blockBegin ref true size crc))
/-- BLOCK_DATA (R107). -/
def execBlockData (q : Req) (handle : Byte) (offset : Word) (arg : BlockArg) (s : State) : Host.Outcome State Fault Refusal :=
  .next (serve s q (.blockData handle offset arg))
/-- BLOCK_END (R94, R95). -/
def execBlockEnd (q : Req) (handle : Byte) (s : State) : Host.Outcome State Fault Refusal := .next (serve s q (.blockEnd handle))
/-- 10 s have passed without a request for a transfer (R97). -/
def execTransferTimeout (sid : Nat) (handle : Byte) (s : State) : Host.Outcome State Fault Refusal :=
  .next (match transferOf s sid handle with
    | some t => dropTransfer s t
    | none => s)
/-- BLOCK_END of the zone map (R19, R127, R159, R474): the BLOCK_END of the session's transfer of 0x4000.01. -/
def execZoneMap (q : Req) (handle : Byte) (s : State) : Host.Outcome State Fault Refusal := .next (serve s q (.blockEnd handle))
/-- BLOCK_END of the calibration domain (R158, R177). -/
def execCalibration (q : Req) (handle : Byte) (s : State) : Host.Outcome State Fault Refusal := .next (serve s q (.blockEnd handle))
/-- BLOCK_END of a dictionary image (R102, R103). -/
def execImageLoad (q : Req) (handle : Byte) (s : State) : Host.Outcome State Fault Refusal := .next (serve s q (.blockEnd handle))
/-- BLOCK_END of a program set (R169). -/
def execProgramSet (q : Req) (handle : Byte) (s : State) : Host.Outcome State Fault Refusal := .next (serve s q (.blockEnd handle))
/-- BLOCK_END of an imposition matrix (R349, R350); `k` names the bus of the transfer. -/
def execMatrix (q : Req) (_k : Fin 2) (handle : Byte) (s : State) : Host.Outcome State Fault Refusal := .next (serve s q (.blockEnd handle))
/-- BLOCK_END of the partner table (R372, Table 15-8). -/
def execPartnerTable (q : Req) (handle : Byte) (s : State) : Host.Outcome State Fault Refusal := .next (serve s q (.blockEnd handle))
/-- BLOCK_END of a package (R450). -/
def execPackage (q : Req) (handle : Byte) (s : State) : Host.Outcome State Fault Refusal := .next (serve s q (.blockEnd handle))
/-- SUBSCRIBE on change (R98). -/
def execSubscribeOnChange (q : Req) (ref : Ref) (interval : Word) (s : State) : Host.Outcome State Fault Refusal :=
  .next (serve s q (.subscribe ref 1 interval))
/-- SUBSCRIBE periodically (R98). -/
def execSubscribePeriodic (q : Req) (ref : Ref) (period : Word) (s : State) : Host.Outcome State Fault Refusal :=
  .next (serve s q (.subscribe ref 2 period))
/-- SUBSCRIBE with mode 0: a cancellation (R98). -/
def execSubscribeCancel (q : Req) (ref : Ref) (s : State) : Host.Outcome State Fault Refusal := .next (serve s q (.subscribe ref 0 0))
/-- AUTH_BEGIN (R110). -/
def execAuthBegin (q : Req) (shell : Byte) (s : State) : Host.Outcome State Fault Refusal := .next (serve s q (.authBegin shell))
/-- AUTH_PROVE (R110). -/
def execAuthProve (q : Req) (tag : Bytes) (s : State) : Host.Outcome State Fault Refusal := .next (serve s q (.authProve tag))
/-- The 60 s of a lockout are over (R110). -/
def execAuthLockoutEnd (t : Transport) (s : State) : Host.Outcome State Fault Refusal :=
  .next (match tabFind s.server.lockouts (transportNo t) with
    | some l => { s with server := { s.server with lockouts := tabPut s.server.lockouts (transportNo t) { l with locked := false } } }
    | none => s)
/-- CLOSE (R111). -/
def execClose (q : Req) (s : State) : Host.Outcome State Fault Refusal := .next (serve s q .close)

end Sys2Proof.Machine
end

