-- ==== Sys2Proof/Machine/Links.lean ====
section
/-!
DEFINITION. How requests reach the server (chapter 05): messages, PROXY (R122, R123), the host port (R112 to R115), the console (R121), the floor bus (R118, R362),
the air (R120), DTLS sessions (R116, R117) and engine mailboxes (R180).
-/

namespace Sys2Proof.Machine

/-! ### PROXY -/

/-- PROXY (R122). -/
def execProxy (q : Req) (p : ProxyReq) (s : State) : Host.Outcome State Fault Refusal := .next (serveProxy s q p)

/-- PROXY_RETRY (R123): a forwarded request is repeated with RETRY. -/
def execProxyRetry (n : Nat) (s : State) : Host.Outcome State Fault Refusal :=
  .next (match tabFind s.server.flights n with
    | some f =>
        emit { s with server := { s.server with flights := tabPut s.server.flights n { f with sends := f.sends + 1 } } }
          (.forward n f.target f.side f.role (requestMsg f.inner (BitVec.ofNat 16 n) true))
    | none => s)

/-- A request in flight is over. -/
def dropFlight (s : State) (n : Nat) : State := { s with server := { s.server with flights := tabDrop s.server.flights n } }

/-- PROXY_RESPONSE (R123): the worker's response is relayed, under the identifier of the message that the PROXY enclosed. One that is not whole or is no
response is discarded and counted (R104). -/
def execProxyResponse (n : Nat) (body : Bytes) (s : State) : Host.Outcome State Fault Refusal :=
  .next (if !messageWhole body ∨ byteAt body 1 < 128 then bump s kFrameErrors
    else match tabFind s.server.flights n with
      | none => bump s kFrameErrors
      | some f =>
          let s1 := dropFlight s n
          if f.sid = waveSid then waveResponse s1 (byteAt body 4) (body.drop 8)
          else if f.sid = dutySid then dutyResponse s1 f (byteAt body 4) (body.drop 8)
          else if !(session s1 f.sid).busy.contains f.tid then s1
          else proxyAnswer s1 f.sid f.tid (body.take 2 ++ leBytes 2 f.itid.toNat ++ body.drop 4))

/-- PROXY_TIMEOUT (R123). A wave goes on asking until its own time is over (R460; log entry 43). -/
def execProxyTimeout (n : Nat) (s : State) : Host.Outcome State Fault Refusal :=
  .next (match tabFind s.server.flights n with
    | none => s
    | some f =>
        let s1 := dropFlight s n
        if f.sid = waveSid then forwardOp s1 waveSid 0 f.target f.side f.inner f.role f.timeout
        else if f.sid = dutySid then dutyOver s1 f
        else if sessionOpen s1 f.sid ∧ (session s1 f.sid).busy.contains f.tid then answer s1 f.sid f.tid 0x40 eProxyTime [] else s1)

/-! ### Messages (R104) -/

/-- A message as a transport delivers it. What the spec leaves open in the order (DESIGN CHOICE, log entry 72): a message of another VERSION is answered and
kept without a look at kept or busy identifiers (R104, R108); an enclosed message of another VERSION is malformed, so its PROXY is BAD_OPERATION (R472); on
the floor bus a PROXY whose body is malformed is BAD_OPERATION, before NOT_SUPPORTED, and a SUBSCRIBE is NOT_SUPPORTED whatever its body (R119). -/
def takeMessage (s : State) (sid : Nat) (m : Bytes) : State :=
  if !transportOpen s sid then s
  else if !messageWhole m ∨ 128 ≤ byteAt m 1 then bump s kFrameErrors
  else
    let q : Req := { sid := sid, tid := msgTid m, retry := msgRetry m }
    if byteAt m 0 ≠ 3 then (if mute s sid then s else answer s sid (msgTid m) (msgOp m) eVersion [])
    else if msgOp m = 0x40 then
      match parseProxy (m.drop 8) with
      | some p => serveProxy s q p
      | none => serve s q (.malformed 0x40 (m.drop 8))
    else serve s q (parseOp (msgOp m) (m.drop 8))

/-! ### The host port -/

/-- A host frame in error (R115): counted; as many as the limit within 1 s raise source 49. -/
def hostError (s : State) : State :=
  let s1 := bump s 0x220002
  let errs := (s1.clk :: s1.server.hostErrs).filter fun t => s1.clk < t + secs 1
  let s2 := { s1 with server := { s1.server with hostErrs := errs } }
  if nat s2 0x220003 ≤ errs.length then raise s2 49 0 0 else s2

/-- HOST_SPI_TRANSACTION (R113 to R115): the queued frame leaves on HMISO, and stays queued when it is cut short; the host's frame is taken, unless the
clock-domain queue was full (R56). -/
def execHostSpiTransaction (xfer : HostTransfer) (s : State) : Host.Outcome State Fault Refusal :=
  .next (if !transportOpen s 0 then s
    else
      let mosi := xfer.mosi
      let frame := s.server.hostQueue.headD []
      let s1 := emit s (.host ((frame ++ List.replicate mosi.length 0).take mosi.length))
      let s2 := if frame.length ≤ mosi.length then { s1 with server := { s1.server with hostQueue := s1.server.hostQueue.drop 1 } } else s1
      let b := (mosi.dropWhile (· != 0xA5)).drop 1
      if xfer.queueFull then raise s2 56 0 0
      else if !mosi.contains 0xA5 then s2
      else
        let n := fieldAt b 0 2
        if b.length < 6 + n ∨ crc32 (b.take (2 + n)) ≠ fieldAt b (2 + n) 4 then hostError s2
        else takeMessage s2 0 (slice b 2 n))

/-! ### The console -/

/-- A value from a console line, in the type of its reference; text that is no such value fails as a wrong length does, after the checks before it
(log entry 47). -/
def consoleWrite (s : State) (isCmd : Bool) (r : Ref) (text : Bytes) : State :=
  let q : Req := { sid := 1, tid := 0, retry := false }
  let op := fun (v : Bytes) => if isCmd then MdpOp.command r v else MdpOp.write r v
  match (declOf s r.index.toNat r.sub.toNat).map (·.ty) with
  | none => serve s q (op [])
  | some ty =>
      match parseValue ty text with
      | some v => serve s q (op v)
      | none =>
          let e := checkWrite s s 1 isCmd r []
          emit s (.console (errorText (if ty = .domain then eNotSupported else if e = eNoObject ∨ e = eReadOnly ∨ e = eNoRight ∨ e = eBadOp then e else eType)))

/-- READ of every sub-index of an entry in turn. -/
def consoleList (s : State) (idx : Nat) : State :=
  match (if inRecovery s && !inSubset idx then none else highestOf s idx) with
  | none => emit s (.console (errorText eNoObject))
  | some h => ((List.range (h + 1)).filter fun x => (declOf s idx x).isSome).foldl (fun t x =>
      serve t { sid := 1, tid := 0, retry := false } (.read { index := BitVec.ofNat 16 idx, sub := BitVec.ofNat 8 x })) s

/-- One console command (Table 5-9); a line that is none of them is answered with BAD_OPERATION (log entry 47). -/
def consoleCommand (s : State) (line : Bytes) : State :=
  let q : Req := { sid := 1, tid := 0, retry := false }
  let (cmd, rest) := splitWord line
  let (arg, text) := splitWord rest
  let bad := emit s (.console (errorText eBadOp))
  let withRef := fun (f : Ref → State) => match parseRef arg with
    | some r => f r
    | none => bad
  if cmd = ascii "r" ∧ text = [] then withRef fun r => serve s q (.read r)
  else if cmd = ascii "w" then withRef fun r => consoleWrite s false r text
  else if cmd = ascii "c" then withRef fun r => consoleWrite s true r text
  else if cmd = ascii "l" ∧ text = [] then (match parseNat arg with
    | some i => if i < 65536 then consoleList s i else bad
    | none => bad)
  else if cmd = ascii "auth" ∧ text = [] then (match parseNat arg with
    | some n => if n < 256 then serve s q (.authBegin (BitVec.ofNat 8 n)) else bad
    | none => bad)
  else if cmd = ascii "prove" ∧ text = [] then (match parseOctets arg.length arg with
    | some t => if t.length = 16 then serve s q (.authProve t) else bad
    | none => bad)
  else if cmd = ascii "close" ∧ rest = [] then serve s q .close
  else bad

/-- CONSOLE_LINE (R121); an empty line is no command. -/
def execConsoleLine (line : Bytes) (s : State) : Host.Outcome State Fault Refusal :=
  .next (
    let b := line.filter fun c => c != 0x0D && c != 0x0A
    if !transportOpen s 1 ∨ b = [] then s
    else if 2200 < b.length then emit s (.console (errorText eTooLarge))
    else consoleCommand s b)

/-! ### The floor bus (R118, R362) -/

/-- A reassembly's number: bus, peer node and TAG. -/
def asmKey (k node tag : Nat) : Nat := k * 65536 + node * 256 + tag
/-- Put or drop a reassembly. -/
def putAsm (s : State) (key : Nat) (r : Option Reassembly) : State :=
  { s with server := { s.server with reassembly := match r with
      | some x => tabPut s.server.reassembly key x
      | none => tabDrop s.server.reassembly key } }
/-- A message is discarded and counted, once: what else arrives of it is dropped (R118). -/
def asmFail (s : State) (key : Nat) : State :=
  match tabFind s.server.reassembly key with
  | some r => if r.bad then s else bump (putAsm s key (some { r with bad := true })) kFrameErrors
  | none => bump (putAsm s key (some { nextSeg := 0, len := 0, got := [], bad := true })) kFrameErrors

/-- The node of a bus that carries MANAGER. -/
def managerNode (s : State) (k : Nat) : Nat :=
  ((List.range 32).find? fun n => nodeSerial (matrix s k) n != 0 && nodeManager (matrix s k) n).getD 0

/-- A message that has failed is forgotten with its LAST segment. -/
def asmClose (s : State) (key : Nat) (last : Bool) : State := if last then putAsm s key none else s

/-- A segment joins its message; the whole message is taken. -/
def joinSegment (s : State) (k node : Nat) (r : Reassembly) (tag seg : Nat) (last : Bool) (data : Bytes) : State :=
  let key := asmKey k node tag
  let got := r.got ++ data
  if last then
    (if r.got.length < r.len ∧ r.len ≤ got.length then takeMessage (putAsm s key none) (0x2000 + 64 * k + node) (got.take r.len)
     else asmClose (asmFail s key) key true)
  else if r.len ≤ got.length ∨ seg = 63 then asmFail s key
  else putAsm s key (some { r with nextSeg := seg + 1, got := got })

/-- One authentic segment of 10 bytes (R118). A FIRST segment begins a message anew; where one of its TAG was in hand that one is discarded. -/
def takeSegment (s : State) (k node : Nat) (d : Bytes) : State :=
  let b0 := byteAt d 0
  let tag := byteAt d 1
  let key := asmKey k node tag
  let seg := b0 % 64
  let last := b0.testBit 6
  let cur := tabFind s.server.reassembly key
  if b0.testBit 7 then
    let s1 := putAsm (if cur.isSome then asmFail s key else s) key none
    if seg ≠ 0 ∨ 510 < fieldAt d 2 2 then asmClose (asmFail s1 key) key last
    else joinSegment s1 k node { nextSeg := 0, len := fieldAt d 2 2, got := [] } tag 0 last (slice d 4 6)
  else match cur with
    | none => asmClose (asmFail s key) key last
    | some r =>
        if r.bad then asmClose s key last
        else if seg ≠ r.nextSeg then asmClose (asmFail s key) key last
        else joinSegment s k node r tag seg last (slice d 2 8)

/-- DICT_FRAME (R345, R362): to this node from the manager, or from a node to this manager. A frame that is not authentic is counted by the bus, and the message
that its TAG names is discarded (R118). -/
def execDictFrame (k : Fin 2) (toNode : Bool) (node : Fin 32) (data : Bytes) (s : State) : Host.Outcome State Fault Refusal :=
  .next (if !busRuns s k ∨ !(if toNode then ownNode s k == some node.val else isManagerOn s k) then s
    else
      let peer := if toNode then managerNode s k else node.val
      if !taken s k ((if toNode then 0x40 else 0x60) + node) data then
        let key := asmKey k peer (byteAt data 1)
        asmClose (asmFail (bump s (kBus k 0xF)) key) key ((byteAt data 0).testBit 6)
      else takeSegment s k peer (data.take 10))

/-- FLOOR_SEGMENT_TIMEOUT (R118): 100 ms have passed between two segments of a message; nothing more is awaited of it. -/
def execFloorSegmentTimeout (k : Fin 2) (node : Fin 32) (tag : Byte) (s : State) : Host.Outcome State Fault Refusal :=
  .next (if (tabFind s.server.reassembly (asmKey k node tag.toNat)).isSome then
      putAsm (asmFail s (asmKey k node tag.toNat)) (asmKey k node tag.toNat) none
    else s)

/-! ### The air (R120, R379) -/

/-- AIR_MDP: a partner's message, where its record lets it send one, in its own event. -/
def execAirMdp (h : Fin 1024) (rx : AirRx) (s : State) : Host.Outcome State Fault Refusal :=
  .next (match receiveAir s h 2 (fun m => recFlag (partnerRec s h) 2 && m.length ≤ 65) rx with
    | (none, s1) => s1
    | (some m, s1) => takeMessage (enhAck (putPartner s1 h { partner s1 h with urgent := none }) h rx) (0x1000 + h) (m.drop 1))

/-! ### Ethernet (R116, R117) -/

/-- A handshake fails with an alert (R116, R117), and counts. -/
def refuseHandshake (s : State) (sid alert : Nat) : State := bump (emit s (.alert sid alert)) 0x210005

/-- A handshake: a session opens under its PSK's shell, one use of it (R441). -/
def takeHandshake (s : State) (hs : Handshake) : State :=
  if !hs.offers then refuseHandshake s hs.sid 40
  else if 16 ≤ (s.server.sessions.filter fun x => transportOf x.1 == .ethernet && x.1 != hs.sid && !x.2.closed).length then refuseHandshake s hs.sid 80
  else
    let n := byteAt hs.identity 0
    let named := hs.identity.drop 1 == leBytes 8 (serial s)
    let (ok, s1) := if named then mayUse s n 0 [5, 6, 7] else (false, s)
    if !ok then refuseHandshake s1 hs.sid 115
    else
      let (psk, s2) := deriveKey s1 n "MDP-DTLS" 256
      if psk ≠ hs.proof then refuseHandshake s2 hs.sid 51
      else if (shell s2 n).generation ≠ (shell s1 n).generation then endSession s2 hs.sid
      else putSession (endSession s2 hs.sid) hs.sid { role := shellGrant s1 n, shell := some (n, (shell s1 n).generation), usedAt := s.clk }

/-- DTLS_HANDSHAKE: what arrives on MDP's UDP port. The table has one row for it, and the model takes it for every datagram: a handshake, a record with its
message (R104, R116), or one whose record protection fails, which is discarded and counted (R117; DESIGN CHOICE, log entry 73). -/
def execDtlsHandshake (d : Datagram) (s : State) : Host.Outcome State Fault Refusal :=
  .next (match d with
    | .lost => if ethOpen s then raise s 56 0 0 else s
    | .handshake hs => if !ethOpen s ∨ transportOf hs.sid ≠ .ethernet then s else takeHandshake s hs
    | .record sid plain =>
        if !ethOpen s ∨ transportOf sid ≠ .ethernet then s
        else match plain with
          | none => bump s kFrameErrors
          | some m =>
              if (tabFind s.server.sessions sid).isNone then s
              else takeMessage (putSession s sid { session s sid with usedAt := s.clk }) sid m)

/-- SESSION_TIMEOUT (R117): an Ethernet session that has carried no record closes. -/
def execSessionTimeout (sid : Nat) (s : State) : Host.Outcome State Fault Refusal :=
  .next (if transportOf sid = .ethernet then endSession s sid else s)

/-! ### Engine mailboxes (R180) -/

/-- The request in a mailbox block passes the checks under the program's role. -/
def serveMailbox (s : State) (k : Nat) : State :=
  let e := engine s k
  match e.mailbox with
  | none => s
  | some a =>
      let b := memBytes s.mem (localBase k + a) 256
      let r : Ref := refAt b 2
      let op := BitVec.ofNat 8 (byteAt b 0)
      let n := fieldAt b 6 2
      let sid := 0x100 + k
      let v := slice b 8 n
      let finish := fun (x : Served) => match x.1 with
        | some (status, body) => answerMailbox x.2 k op status body
        | none => x.2
      if s.server.waiting.any fun w => w.sid == sid then s
      else if e.program ≠ 0xFE ∧ (r.index.toNat < e.mbxFirst ∨ e.mbxLast < r.index.toNat) then answerMailbox s k op eNoRight []
      else if op = 1 then
        (let x := serveRead s sid r
         match x.1 with
         | some (status, body) => if 251 < body.length then answerMailbox s k op eTooLarge [] else answerMailbox x.2 k op status body
         | none => x.2)
      else if 248 < n ∨ !(op = 2 ∨ op = 0x30) then answerMailbox s k op eBadOp []
      else if carryOver s && isRwp s (r.index.toNat * 256 + r.sub.toNat) then s
      else finish (serveWrite s sid 0 op (op == 0x30) r v none)

/-- MAILBOX_RESPONSE (R180): the dictionary server answers an engine's pending request; an input change answers in its window (R177). -/
def execMailboxResponse (k : Fin 16) (s : State) : Host.Outcome State Fault Refusal := .next (serveMailbox s k)

end Sys2Proof.Machine
end

