-- ==== Sys2Proof/Machine/Pair.lean ====
section
/-!
DEFINITION. Redundant module pairs (chapter 17): roles, heartbeat, the stitch link, the state copy and the switch-over. The layout of the copy's blocks, where
the spec leaves it open, is in log entry 42.
-/

namespace Sys2Proof.Machine

/-! ### Registers -/

/-- `STITCH_STATE`: 0 DOWN, 1 UP, 2 RESYNC. -/
def stitch (s : State) : Nat := nat s (kRed 3)
/-- `ROLE` changes (R425, Table 17-8). -/
def setRole (s : State) (r : Nat) : State := if nat s kRole = r then s else setNum (bump (setNum s kRole r) (kRed 8)) (kRed 9) (now64 s)
/-- Whether the peer's last CYCLE_MARK claims ACTIVE. -/
def peerActive (s : State) : Bool := s.pair.peer.any fun p => p.role == 1
/-- The number of the generator's field now. -/
def fieldNow (s : State) : Nat := ((((fieldNs s : Int) * 65536 - s.time.off).fdiv ((fieldPeriod s : Int) * 65536)) % 2 ^ 32).toNat
/-- Whether the peer's stitch-state format is among those the running image accepts. -/
def formatOk (s : State) : Bool :=
  s.pair.peer.all fun p => fieldAt (pkgCompat s.update.running) 12 2 ≤ p.format && p.format ≤ fieldAt (pkgCompat s.update.running) 14 2

/-! ### Heartbeat (R426) -/

/-- `NOT_READY_CAUSE` (Table 17-8). -/
def notReady (s : State) : Nat :=
  let b := fun (v : Bool) (n : Nat) => if v then 2 ^ n else 0
  let standby := nat s kRole == 2
  b (!s.lanes.pll) 0 + b (s.safety.lost != []) 1 + b (standby && s.pair.running.any fun n => laneState s n != 2) 2
    + b (standby && !s.time.aligned) 3
    + b (standby && stitch s != 0 && peerActive s && (3 ≤ nat s (kRed 4) || stitch s == 2)) 4
    + b (standby && !formatOk s) 5

/-- The beat of a segment cycle: 0 none, 1 HEALTHY, 2 SWAP, 3 NOT_READY. A SINGLE module sends none (R424), nor does one in SAFE_MODE (R72). -/
def beatCode (s : State) : Nat :=
  if !s.safety.enabled ∨ nat s kRole = 0 ∨ safeMode s then 0
  else if nat s kModuleState ≠ 1 ∨ notReady s ≠ 0 ∨ s.pair.yielded then 3
  else if s.pair.swapLeft ≠ 0 then 2
  else 1

/-- The pulse on ARB_BEAT (Table 17-3). -/
def sendBeat (s : State) : State :=
  let c := beatCode s
  let s1 := setNum (setNum s (kRed 6) c) (kRed 7) (notReady s)
  let s2 := if c = 2 then { s1 with pair := { s1.pair with swapLeft := s1.pair.swapLeft - 1 } } else s1
  let us := if c = 1 then 100 else if c = 2 then 300 else 500
  if c = 0 then s2 else emit { s2 with pair := { s2.pair with beatUntil := s2.clk + usec us } } (.beat us)

/-- The CYCLE_MARK's payload (R428). -/
def markPayload (s : State) : Bytes :=
  leBytes 1 (nat s kRole) ++ leBytes 1 (nat s (kRed 6)) ++ leBytes 2 (fieldAt (pkgCompat s.update.running) 12 2) ++ leBytes 8 (serial s)
    ++ leBytes 4 (fieldNow s) ++ leBytes 4 s.engines.tick ++ leBytes 1 (nat s (kEmg 5)) ++ leBytes 1 (nat s (kEmg 4)) ++ List.replicate 42 0

/-- Every module sends a CYCLE_MARK at each segment-cycle start. -/
def sendMark (s : State) : State := emit s (.cycleMark (ownCycle s % 2 ^ 32) (markPayload s))

/-! ### Sending the state copy (R430, Table 17-5) -/

/-- The bytes of an item in its block (log entry 42). -/
def copySize : CopyItem → Nat
  | .safety _ _ _ _ _ _ => 22
  | .lane _ _ _ adv _ _ => 9 + 2 * adv.length
  | .cells _ _ d => d.length
  | .partner _ d => 2 + d.length
  | .reservation _ _ _ _ => 13
  | .journal _ i => journalSize i
  | .event d => d.length

/-- Block 1. -/
def copySafety (s : State) : CopyItem :=
  .safety (BitVec.ofNat 16 (nat s (kEmg 6))) (BitVec.ofNat 8 (nat s (kEmg 5))) (BitVec.ofNat 16 s.safety.cancel) (BitVec.ofNat 64 (nat s (kSafety 2)))
    (BitVec.ofNat 64 ((tabKeys s.safety.clearing).map (2 ^ ·) |>.foldl (· + ·) 0)) (BitVec.ofNat 8 (nat s (kSafety 0xA)))

/-- Block 2 of one lane. -/
def copyLane (s : State) (n : Fin 8) : CopyItem :=
  .lane n (BitVec.ofNat 8 (laneState s n)) (BitVec.ofNat 16 (nat s (kLane n 9))) ((List.range 16).map fun p => BitVec.ofNat 16 (pos s n p).advance)
    (BitVec.ofNat 32 (lane s n).stream) (BitVec.ofNat 8 s.engines.tick)

/-- A stretch of memory in frames of 4,096 bytes. -/
def copyCells (s : State) (block : Fin 4) (base off n : Nat) : List CopyItem :=
  (List.range (n / 4096)).map fun i => .cells block (off + 4096 * i) (memBytes s.mem (base + off + 4096 * i) 4096)

/-- Block 7. -/
def copyPartners (s : State) : List CopyItem :=
  ((List.finRange 1024).filter fun (h : Fin 1024) => recKind (partnerRec s h) != 0).map (fun (h : Fin 1024) => CopyItem.partner h (partnerState s h))
    ++ s.mram.airTx.map fun p => .reservation p.1 p.2.shell p.2.gen p.2.value

/-- The journal items that fit in block 8, and those carried over (R431). -/
def journalPart : Nat → List (Nat × JournalItem) → List (Nat × JournalItem) × List (Nat × JournalItem)
  | _, [] => ([], [])
  | room, i :: t =>
      if journalSize i.2 ≤ room then
        let r := journalPart (room - journalSize i.2) t
        (i :: r.1, r.2)
      else ([], i :: t)

/-- The STATE frames and the COPY_END of the cycle that has ended. -/
def sendCopy (s : State) : State :=
  let s1 := { s with pair := { s.pair with events := [] } }
  if !copying s then s1
  else
    let n := (ownCycle s + 2 ^ 32 - 1) % 2 ^ 32
    let j := journalPart 16384 s.pair.journal
    let half := s.engines.areaHalf
    let items := [copySafety s] ++ (List.finRange 8).map (copyLane s) ++ copyCells s 0 (aZoneState 0) (32768 * (n % 16)) 32768
      ++ copyCells s 1 (aArea half 0) 0 8192 ++ copyCells s 2 (aLum 0) 0 8192 ++ copyCells s 3 (aBurn 0) (8192 * (n % 64)) 8192
      ++ copyPartners s ++ j.1.map (fun i => .journal (BitVec.ofNat 32 i.1) i.2) ++ s.pair.events.map .event
    let s2 := { s1 with pair := { s1.pair with journal := j.2 } }
    emit (items.foldl (fun t i => emit t (.copyState n i)) s2) (.copyEnd n ((items.map copySize).foldl (· + ·) 0))

/-- R431: every persistent region, as journal items, for a peer whose link was down. -/
def regions (s : State) : List JournalItem :=
  (s.mram.store.home.flatMap fun p => match declOf s (p.1 / 256) (p.1 % 256) with
    | some d => if d.ty = .domain then [] else [.write (refOf p.1) (valBytes d.ty p.2.val)]
    | none => [])
    ++ s.mram.store.domains.flatMap fun p => journalChunks (refOf p.1) 16384 0 p.2

/-! ### The segment cycle -/

/-- What a cycle's start changes of the pair's own registers: the copy's age, the cycles of a resync, and the SWAP that reverts a swap whose
lanes fail within 1 s (R435). -/
def pairCycle (s : State) : State :=
  let s1 := if s.pair.peer.isSome then setNum s (kRed 4) (min 0xFFFF (nat s (kRed 4) + 1)) else s
  let s2 := if s1.pair.resync = 0 then s1
    else
      let t := { s1 with pair := { s1.pair with resync := s1.pair.resync - 1 } }
      if t.pair.resync = 0 ∧ stitch t = 2 then setNum t (kRed 3) 1 else t
  match s2.pair.becameAt, s2.pair.linkFault with
  | some t, some f =>
      if s2.pair.bySwap && nat s2 kRole == 1 && decide (t ≤ f ∧ f ≤ t + secs 1) then startSwap { s2 with pair := { s2.pair with bySwap := false } }
      else s2
  | _, _ => s2

/-- SEGMENT_CYCLE_START (R27, R392, R426, R428, R430): the base of the segment cycle has come to a whole millisecond: heartbeats, the buses, requests held back, the beat, the CYCLE_MARK and the state copy. -/
def execSegmentCycleStart (beat0 beat1 : Bool) (s : State) : Host.Outcome State Fault Refusal :=
  .next (if !s.time.loaded then s
    else
      let s0 := reachMultiple s (cycleBase s) 1000000 0 0
      let s1 := if s0.safety.enabled then heartbeat (heartbeat s0 0 beat0) 1 beat1 else s0
      let s2 := wavePoll (cycleBuses s1)
      let s3 := drainHeld s2.server.held s2
      sendCopy (sendMark (sendBeat (pairCycle s3))))

/-! ### Roles (R425, R432, R434) -/

/-- R432, R436: a lane of a module that takes the role: its own control records of before give way, what was mirrored and not acknowledged leaves again, and
RETURN_SCHEDULE follows after two FIELD_MARKs. -/
def takeLane (s : State) (n : Nat) : State :=
  let l := lane s n
  let s1 := putLane s n { l with buffer := l.buffer.filter fun r => !(isControl r.type) || r.stream.isSome }
  let s2 := if l.dual then (List.range 16).foldl (fun t p => if (pos t n p).sent = [] then t else resend t n p (pos t n p).sent) s1
    else (List.range 16).foldl (fun t p => putPos t n p { pos t n p with sent := [], request := none, advSet := false, advSent := false }) s1
  { s2 with pair := { s2.pair with marks := tabPut s2.pair.marks n 2 } }

/-- What of a copy a module must not lose (R431, R432): the journal's writes, and the reservations above which the air counters go on. -/
def keepCopied (s : State) : CopyItem → State
  | .reservation id sh gen top => { s with
      mram := { s.mram with airTx := tabPut s.mram.airTx id { shell := sh, gen := gen, value := top } }
      air := { s.air with counters := tabDrop s.air.counters id } }
  | .journal t i => { s with pair := { s.pair with due := s.pair.due ++ [(t.toNat, i)] } }
  | _ => s

/-- R432: the module takes the role, ACTIVE, or SINGLE where it has seen no peer. Of the copies that wait for a window it keeps what must not be lost. -/
def takeRole (s : State) : State :=
  let peer := s.pair.peer.isSome
  let swap := s.pair.peer.any fun p => p.beat == 2
  let s1 := setRole ((s.pair.ready.flatMap Prod.snd).foldl keepCopied s) (if peer then 1 else 0)
  let s2 := { s1 with pair := { s1.pair with
    becameAt := some s1.clk, linkFault := none, bySwap := swap, applied := 0, items := [], cycle := none, bytes := 0, ready := [], events := [] } }
  let s3 := if swap then setBit (setNum s2 (kRed 0xB) (now64 s2)) (kRed 0xD) 3 false else s2
  let s4 := if peer then raise s3 44 0 (if swap then 1 else 0) else s3
  let s5 := if flag s4 (kAir 3) && stepRan s4 10 && radioReady s4 then radioStart s4 else s4
  let s6 := if s5.safety.test.isNone && s5.safety.deferred.isNone then setNum s5 (kSafety 0xA) 0 else s5
  (List.range 8).foldl (fun t n => if laneRuns t n then takeLane t n else t) s6

/-- R432, R312: the module becomes STANDBY: radio off, pulse outputs low, sessions dropped but the local ones. -/
def leaveRole (s : State) : State :=
  let s1 := radioStop (setRole s 2)
  let s2 := endSessions s1 fun sid => 0x100 ≤ sid
  let s3 := if s2.pair.asked then setBit (setNum s2 (kRed 0xB) (now64 s2)) (kRed 0xD) 3 false else s2
  let s4 := { s3 with pair := { s3.pair with asked := false, swapLeft := 0, applied := 0, becameAt := none, bySwap := false, marks := [], journal := [] } }
  [0, 1].foldl (fun t o => setNum (putPulse t o { pulseOut t o with dues := [], high := false }) (kPulse o 5) 0) s4

/-- Step 14 (R425): the role is resolved. -/
def resolveRole (s : State) : State := setRole s (if !s.pair.grant then 2 else if s.pair.peer.isSome then 1 else 0)

/-- ARB_GRANT_RISE (R425): the filtered grant rises. -/
def execArbGrantRise (s : State) : Host.Outcome State Fault Refusal :=
  let s1 := { s with pair := { s.pair with grant := true, yielded := false } }
  .next (if nat s1 kRole = 2 ∧ !safeMode s1 then takeRole s1 else s1)

/-- ARB_GRANT_FALL (R425): the filtered grant falls. -/
def execArbGrantFall (s : State) : Host.Outcome State Fault Refusal :=
  let s1 := { s with pair := { s.pair with grant := false } }
  .next (if nat s1 kRole ≤ 1 then leaveRole s1 else s1)

/-! ### CYCLE_MARK (R425, R428, R429, R434) -/

/-- R429: a standby's field generator follows the active module's field starts and takes its field numbers. -/
def followFields (s : State) (m : CycleMark) : State :=
  if nat s kRole = 2 ∧ m.role = 1 then
    let d := ((m.field.toNat : Int) - fieldNow s + 2 ^ 31) % 2 ^ 32 - 2 ^ 31
    showField { s with time := { s.time with off := (d * (fieldPeriod s : Int) - m.skew) * 65536 } }
  else s

/-- R429: EMG inputs that differ between the modules for longer than EMG_DISCREPANCY. -/
def compareEmg (s : State) (emg : Nat) : State :=
  if nat s (kEmg 4) % 4 = emg % 4 then
    let s1 := { s with pair := { s.pair with differAt := none } }
    if bit s1 (kEmg 4) 0 == bit s1 (kEmg 4) 1 then endCondition s1 33 else s1
  else match s.pair.differAt with
    | none => { s with pair := { s.pair with differAt := some s.clk } }
    | some t => if t + msec (nat s (kEmg 3)) < s.clk ∧ !(faultSrc s 33).standing then raise s 33 0 2 else s

/-- R434: both modules claim ACTIVE; side B, or the one without a grant, yields. -/
def roleConflict (s : State) (peerClaims : Bool) : State :=
  if nat s kRole = 1 ∧ peerClaims then
    let s1 := setBit (if (faultSrc s 43).standing then s else raise s 43 0 0) (kRed 0xD) 2 true
    if !s1.pair.grant ∨ nat s1 kPairSide = 1 then { leaveRole s1 with pair := { (leaveRole s1).pair with yielded := true } } else s1
  else setBit (endCondition s 43) (kRed 0xD) 2 false

/-- A valid CYCLE_MARK: the peer is seen, the link is up, a link that was down resynchronises (R431). -/
def seePeer (s : State) (m : CycleMark) : State :=
  let s1 := { s with pair := { s.pair with
    peer := some { role := m.role.toNat, beat := m.beat.toNat, format := m.format.toNat, serial := m.serial.toNat, field := m.field.toNat
                   alarm := m.alarm.toNat, emg := m.emg.toNat }
    peerFormat := m.format.toNat
    applied := if nat s kRole = 1 then (if m.role = 2 ∧ m.beat = 1 then s.pair.applied + 1 else 0) else s.pair.applied } }
  let s2 := setNum (setNum s1 kPeerSerial m.serial.toNat) kPairSide (if serial s1 < m.serial.toNat then 0 else 1)
  let s3 := setBit (setBit s2 (kRed 0xD) 0 true) (kRed 0xD) 1 false
  let s4 := if stitch s3 ≠ 0 then s3
    else endCondition { setNum s3 (kRed 3) 2 with pair := { s3.pair with resync := 512 } } 42
  let s5 := if nat s4 kRole = 0 then setRole s4 1 else s4
  if stitch s3 = 0 ∧ nat s5 kRole = 1 then { s5 with pair := { s5.pair with journal := [] } } else s5

/-- CYCLE_MARK (R428, R429, R434). One whose CRC or code groups fail is counted; one lost at the clock-domain queue is source 56 (R56). -/
def execCycleMark (cycle : Word) (valid queueFull : Bool) (m : CycleMark) (s : State) : Host.Outcome State Fault Refusal :=
  .next (if queueFull then raise s 56 0 0
    else if !valid then bump s (kRed 0xA)
    else
      let down := stitch s == 0
      let s1 := seePeer s m
      let s2 := if down ∧ nat s1 kRole = 1 then journal s1 (regions s1) else s1
      let s3 := roleConflict (compareEmg (followFields s2 m) m.emg.toNat) (m.role == 1)
      if s3.pair.cycle.any fun c => (cycle.toNat + 2 ^ 32 - c) % 2 ^ 32 ≥ 3 ∧ (cycle.toNat + 2 ^ 32 - c) % 2 ^ 32 < 2 ^ 31 then
        { bump s3 (kRed 0xA) with pair := { s3.pair with items := [], cycle := none, bytes := 0, applied := 0 } }
      else s3)

/-- STITCH_LINK_DOWN (R428): three segment cycles have passed without a CYCLE_MARK. -/
def execStitchLinkDown (s : State) : Host.Outcome State Fault Refusal :=
  .next (if s.pair.peer.isNone ∨ stitch s = 0 then s
    else
      let s1 := setBit (setNum s (kRed 3) 0) (kRed 0xD) 1 true
      raise { s1 with pair := { s1.pair with applied := 0, items := [], cycle := none, bytes := 0, resync := 0, journal := [] } } 42 0 0)

/-! ### Receiving the state copy (R430, R431) -/

/-- A cycle's copy is not whole: it is discarded and counted. -/
def loseCopy (s : State) : State :=
  { bump s (kRed 0xA) with pair := { s.pair with items := [], cycle := none, bytes := 0, applied := 0 } }

/-- STATE_FRAME: a frame of the cycle being collected; a new cycle while one is not complete loses that one. -/
def execStateFrame (cycle : Word) (arrival : Arrival) (size : Fin 4097) (item : CopyItem) (s : State) : Host.Outcome State Fault Refusal :=
  .next (if arrival = .lost then raise s 56 0 0
    else if nat s kRole ≠ 2 then s
    else if arrival = .damaged then bump s (kRed 0xA)
    else
      let s1 := if s.pair.cycle.any fun c => c != cycle.toNat then loseCopy s else s
      { s1 with pair := { s1.pair with cycle := some cycle.toNat, items := s1.pair.items ++ [item], bytes := s1.pair.bytes + size } })

/-- COPY_END: the copy is complete when every counted byte has arrived. -/
def execCopyEnd (cycle : Word) (arrival : Arrival) (total : Word) (s : State) : Host.Outcome State Fault Refusal :=
  .next (if arrival = .lost then raise s 56 0 0
    else if nat s kRole ≠ 2 then s
    else if arrival = .damaged then bump s (kRed 0xA)
    else if s.pair.cycle = some cycle.toNat ∧ s.pair.bytes = total.toNat then
      { s with pair := { s.pair with ready := s.pair.ready ++ [(cycle.toNat, s.pair.items)], items := [], cycle := none, bytes := 0 } }
    else loseCopy s)

/-- Block 1 at a standby: alarms, cancels and the trip mask of the active module, beside an alarm of its own loop that still stands. -/
def applySafety (s : State) (zones alarm cancels trip clearing test : Nat) : State :=
  let own := s.safety.own && loopOpen s
  let state := if own then 1 else alarm
  let s1 := setNum (setNum s (kEmg 6) (zones ||| (if own then 2 ^ coreZone s 0 else 0) : Nat)) (kEmg 5) state
  let s2 := { s1 with safety := { s1.safety with own := own, cancel := cancels, cancelAt := if cancels = s1.safety.cancel then s1.safety.cancelAt else s1.clk } }
  let s3 := if state ≠ 0 ∧ !s2.safety.egress then beginEgress s2
    else if state = 0 ∧ s2.safety.egress ∧ s2.safety.test.isNone then endEgress s2 else s2
  let old := nat s3 (kSafety 2)
  let s4 := if trip = old then s3
    else
      let t := setNum s3 (kSafety 2) trip
      let t1 := (liveLanes t).foldl (fun u n =>
        let e := effectField u n
        inject (if old = 0 then putLane u n { lane u n with tripFrom := some e } else u) n 0x13 (tripPayload trip e)) t
      if trip = 0 then endCondition t1 9 else t1
  let cl := ((List.range 64).filter fun g => clearing.testBit g).map fun g => (g, (tabFind s4.safety.clearing g).getD (groupDrivers s4 g))
  let s5 := { s4 with safety := { s4.safety with clearing := cl } }
  showSafety (if s5.safety.test.isNone ∧ s5.safety.deferred.isNone then setNum s5 (kSafety 0xA) test else s5)

/-- Block 2 at a standby: which lanes run at the active module, and what its positions were told. -/
def applyLane (s : State) (n : Nat) (state present : Nat) (adv : List Half) (stream : Nat) : State :=
  let others := s.pair.running.filter (· != n)
  let s1 := { s with pair := { s.pair with running := if state = 2 then others ++ [n] else others } }
  if laneState s1 n = 0 then s1
  else
    let s2 := (List.range 16).foldl (fun t p => if present.testBit p then putPos t n p { pos t n p with advance := (adv.getD p 0).toNat, advSet := true } else t)
      (setNum s1 (kLane n 9) present)
    if (lane s2 n).dual then putLane s2 n { lane s2 n with stream := stream } else s2

/-- Block 7 at a standby: a partner's state (Table 15-9), its counter under its record's shell. -/
def applyPartner (s : State) (h : Nat) (b : Bytes) : State :=
  let p := { partner s h with
    st := byteAt b 0, slot := byteAt b 1, exp := byteAt b 2, phase := byteAt b 3, chOff := byteAt b 4, w := 100 * byteAt b 5
    rssi := signed 1 (byteAt b 6), missed := byteAt b 7
    lastRx := if fieldAt b 12 4 = 2 ^ 32 - 1 then none else some (s.clk - secs (fieldAt b 12 4)) }
  let n := byteAt (partnerRec s h) 10
  let s1 := showPartners (putPartner s h p)
  if fieldAt b 8 4 = 0 then s1
  else { s1 with mram := { s1.mram with airRx := tabPut s1.mram.airRx h { shell := n, gen := (shell s1 n).generation, value := fieldAt b 8 4 } } }

/-- One item of a complete copy. -/
def applyCopy (s : State) : CopyItem → State
  | .safety z a c t cl te => applySafety s z.toNat a.toNat c.toNat t.toNat cl.toNat te.toNat
  | .lane n st pr adv stream _ => applyLane s n st.toNat pr.toNat adv stream.toNat
  | .cells block off d =>
      store s ((if block = 0 then aZoneState 0 else if block = 1 then aArea s.engines.areaHalf 0 else if block = 2 then aLum 0 else aBurn 0) + off) d
  | .partner h b => applyPartner s h b
  | .reservation id sh gen top => keepCopied s (.reservation id sh gen top)
  | .journal t i => keepCopied s (.journal t i)
  | .event d => postRecord s (nat s (kProgramCtl 3)) d

/-- The complete copies that wait are applied, cycle by cycle; while the persistent regions of R431 are still to come they do not count as applied. -/
def applyCopies (s : State) : State :=
  let cs := s.pair.ready
  let s1 := (cs.flatMap Prod.snd).foldl applyCopy { s with pair := { s.pair with
    ready := [], applied := s.pair.applied + if stitch s = 2 then 0 else cs.length } }
  if stitch s = 2 then s1 else setNum s1 (kRed 4) 0

/-- COPY_APPLY (R430): in an input window the standby applies the complete copies. -/
def execCopyApply (s : State) : Host.Outcome State Fault Refusal :=
  .next (if s.pair.ready ≠ [] ∧ nat s kRole = 2 ∧ mayApply s then applyCopies s else s)

/-- The register or content that a journal item concerns. -/
def journalKey : JournalItem → Key
  | .write r _ => r.index.toNat * 256 + r.sub.toNat
  | .chunk r _ _ _ => r.index.toNat * 256 + r.sub.toNat

/-- R431: a journal item as the dictionary would have applied it: a durable value waits while a power-fail warning stands (R91), and is not taken while step 6 has
loaded defaults (R93). -/
def applyJournal (s : State) (i : JournalItem) : State :=
  if storeDegraded s && isRwp s (journalKey i) then s else
  match i with
  | .write r v =>
      let i := storedItem s r v
      let s1 := if isRwp s i.1 then (if s.power.warning then { s with deferred := s.deferred ++ [i] } else transact s [i]) else s
      applyItems s1 [i]
  | .chunk r off v last =>
      let k := r.index.toNat * 256 + r.sub.toNat
      let b := ((tabFind s.pair.chunks k).getD []).take off ++ v
      if last then
        let s1 := { s with pair := { s.pair with chunks := tabDrop s.pair.chunks k } }
        applyContent (storeContent s1 k b) k (domain s k)
      else { s with pair := { s.pair with chunks := tabPut s.pair.chunks k b } }

/-- Whether an item ends a content that goes into the persistent store. -/
def endsContent (s : State) : JournalItem → Bool
  | .write _ _ => false
  | .chunk r _ _ last => last && isRwp s (r.index.toNat * 256 + r.sub.toNat)

/-- The journal items whose tick has come, in order; a content that is to be stored waits for the end of a power-fail warning (R91). -/
def applyDue (s : State) : State :=
  let ready := fun (i : Nat × JournalItem) => !(s.power.warning && endsContent s i.2) && (s.time.nextTick % 2 ^ 32 + 2 ^ 32 - i.1) % 2 ^ 32 < (2 ^ 31 : Nat)
  (s.pair.due.takeWhile ready).foldl (fun t i => applyJournal t i.2) { s with pair := { s.pair with due := s.pair.due.dropWhile ready } }

/-- TICK_START (R173, R431). -/
def execTickStart (s : State) : Host.Outcome State Fault Refusal := .next (if !s.time.loaded then s else tickBody (applyDue s))

/-- MIRROR (R436): a record of the active module, sent unchanged with its STREAM. -/
def execMirror (arrival : Arrival) (n : Fin 8) (r : Bytes) (s : State) : Host.Outcome State Fault Refusal :=
  .next (if arrival = .lost then raise s 56 0 0
    else if arrival = .damaged then bump s (kRed 0xA)
    else if !mirrorOnly s n ∨ r.length < 14 then s
    else normalPath s n { type := byteAt r 4, dest := byteAt r 5, seq := some (fieldAt r 6 2), payload := slice r 10 (fieldAt r 8 2), stream := some (fieldAt r 0 4) })

/-- SWAP_OVERDUE (R435): `SWAP_REMINDER` days have passed without a completed swap. -/
def execSwapOverdue (s : State) : Host.Outcome State Fault Refusal :=
  .next (if nat s (kRed 0xC) ≠ 0 ∧ s.pair.peer.isSome then setBit s (kRed 0xD) 3 true else s)

end Sys2Proof.Machine
end

