-- ==== Sys2Proof/Machine/Start.lean ====
section
/-!
DEFINITION. Resets and the start sequence (chapter 03): the kinds of reset, the bookmark's accounting, each start step with its alternative, SAFE_MODE, and
the load of the persistent dictionary (R92).
-/

namespace Sys2Proof.Machine

/-! ### Resets (R58, R59) -/

/-- The registers that live in the backup domain: those of the calendar clock, its trim and offsets, the alarms, the backup scratch (R333, R334, R340). -/
def isBackup (k : Key) : Bool :=
  (k / 256 == 0x6100 && k % 256 != 4 && k % 256 != 5) || k / 256 == 0x6110 || k / 256 == 0x6111 || k / 256 == 0x6120

/-- Everything but the MRAM, as it was before a power-fail warning that lasts held its writes back, the backup domain and the levels at the pads is as after power-on, and the demand interval in progress waits to be closed (R306); the module is held in reset, or its start runs. -/
def resetState (s : State) (held : Bool) : State :=
  { pending := s.pending, clk := s.clk, fresh := s.fresh, out := s.out
    regs := s.regs.filter fun p => isBackup p.1
    mram := match s.durable with
      | some d => { s.mram with keys := d.1, airTx := d.2.1, airRx := d.2.2 }
      | none => s.mram
    durable := s.durable, backup := s.backup, power := s.power
    pads := s.pads.map fun p => (p.1, { raw := p.2.raw })
    pair := { grant := s.pair.grant }
    meter := { demand := s.meter.demand }
    start := { held := held, running := !held } }

/-- R58: a reset of the whole module with its cause and detail. Causes that coincide, before the module is released, leave the one with the lowest
value (R59). -/
def hardReset (s : State) (cause detail : Nat) (held : Bool) : State :=
  let c := if s.start.held then min cause (nat s 0x103001) else cause
  setNum (setNum (resetState s held) 0x103001 c) 0x103002 (if c = cause then detail else 0 : Nat)

/-! ### The bookmark (R66 to R69) -/

/-- The steps that may be skipped (Table 3-4). -/
def skippable (n : Nat) : Bool := 8 ≤ n && n ≤ 12
/-- The steps that have an alternative (Table 3-4). -/
def hasAlt (n : Nat) : Bool := n == 2 || n == 6 || n == 7 || n == 13 || skippable n

/-- FAIL_COUNTS of step `n`. -/
def failCount (b : Bookmark) (n : Nat) : Nat := b.failCounts.toNat / 4 ^ n % 4
/-- FAIL_COUNTS of step `n` becomes `c`. -/
def setCount (b : Bookmark) (n c : Nat) : Bookmark := { b with failCounts := BitVec.ofNat 32 (b.failCounts.toNat - 4 ^ n * failCount b n + 4 ^ n * c) }
/-- Bit `n` of a u16 of flags. -/
def putFlag (x : Half) (n : Nat) (v : Bool) : Half := BitVec.ofNat 16 (if v then x.toNat ||| 2 ^ n else x.toNat - (x.toNat &&& 2 ^ n))

/-- R69: a failure of step `n` is accounted: of its alternative (`alt`) or of its normal way. -/
def failBook (b : Bookmark) (n code : Nat) (alt : Bool) : Bookmark :=
  let c := min 3 (failCount b n + 1)
  let b1 := { setCount b n c with lastFailStep := BitVec.ofNat 8 n, lastFailCode := BitVec.ofNat 16 code }
  let b2 := if !alt && hasAlt n then { b1 with altNext := putFlag b1.altNext n true } else b1
  if c = 3 && !skippable n then { b2 with safeLatch := true } else b2

/-- The bookmark in hand changes, before it is written. -/
def holdBook (s : State) (b : Bookmark) : State := { s with start := { s.start with bookmark := b } }

/-- R66: the bookmark of a start that has ended joins the ring of 16, once the MRAM may be written (R67, R91). -/
def pushHistory (s : State) (b : Bookmark) : State :=
  if s.start.next ≤ 1 then s
  else if s.power.warning then { s with start := { s.start with historyDue := s.start.historyDue ++ [bookmarkBytes b] } }
  else { s with mram := { s.mram with history := (s.mram.history ++ [bookmarkBytes b]).drop (s.mram.history.length + 1 - 16) } }

/-- R68: the start ends with `CURRENT` = 0xFF in the bookmark. -/
def markEnd (s : State) : State :=
  let b := { s.start.bookmark with current := 0xFF }
  pushHistory (writeBookmark s b) b

/-- R67, R68, R71: a copy of the bookmark comes into use: a start that ended in a step counts as a failure of it, SAFE_LATCH, SAFE_REQUEST and
BOOT_ALT make a SAFE_MODE start. -/
def openBookmark (s : State) (b : Bookmark) (bootAlt : Bool) : State :=
  let n := b.current.toNat
  let ended := n ≤ 15
  let b1 := if ended then failBook b n 2 (b.altUsed.toNat.testBit n) else b
  let b2 := { b1 with safeRequest := false, bootAlt := bootAlt }
  let s1 := { s with start := { s.start with
    bookmark := b2, used := b2, safe := s.start.safe || b1.safeLatch || b1.safeRequest || bootAlt
    lastEnd := if ended then some b else none } }
  if ended then raise s1 57 n 2 else s1

/-- Step 0 selects the backup copy; without a valid one the module starts with a fresh bookmark until step 1 has read the MRAM copy (R67). -/
def bookmarkCheck (s : State) (bootAlt : Bool) : State :=
  match s.backup.bookmark with
  | some b => openBookmark s b bootAlt
  | none => openBookmark { s with start := { s.start with useMram := true } } {} bootAlt

/-- Step 1 has completed: the MRAM copy comes into use where step 0 found none, and the record of a start that ended in a step joins the ring. -/
def bookmarkFromMram (s : State) : State :=
  let s1 := if s.start.useMram then
      (match s.mram.bookmark with
        | some b => openBookmark s b s.start.bookmark.bootAlt
        | none => s)
    else s
  let s2 := { s1 with start := { s1.start with useMram := false, next := 2 } }
  match s2.start.lastEnd with
  | some b => pushHistory { s2 with start := { s2.start with lastEnd := none } } b
  | none => s2

/-! ### The persistent dictionary (R92, R93, R103) -/

/-- STORE_RESET at the next start (Table 4-10): both banks at defaults, the journal empty, no DOMAIN content, no OEM entry. -/
def storeReset (s : State) : State :=
  if s.mram.store.resetAsked then
    { s with mram := { s.mram with
        oem := [], stagedOem := none
        store := ({ nextSeq := s.mram.store.nextSeq } : Store).putHeader s.mram.store.bank false } }
  else s

/-- R103: the bank of a staged image becomes the active one. -/
def switchStaged (s : State) : State :=
  let t := s.mram.store
  if t.staged then
    let s1 := { s with mram := { s.mram with
      oem := s.mram.stagedOem.getD s.mram.oem, stagedOem := none
      store := { t.putHeader (!t.bank) false with stagedKeys := [] } } }
    keepNum (keepNum s1 0x105002 1) 0x105003 t.stagedId
  else s

/-- R92, part 1: the region header checks. -/
def headerOk (s : State) : Bool := s.mram.store.format == 1 && s.mram.store.headerCrc == headerCrcOf s.mram.store

/-- The value of journalled or home bytes of a sub-index, by its type. -/
def storedBytes (ty : Ty) (b : Bytes) : Val := if ty = .domain then .num (leNat b) else decodeVal ty b

/-- Whether a slot holds a committed transaction that can be read (R92, part 2). -/
def slotReadable (x : Slot) : Bool := x.st == .committed && x.crc == slotCrcOf x

/-- R92, part 2: committed slots whose SLOT_CRC holds are applied again in the order of their sequence, and retired. -/
def replaySlots (s : State) : State :=
  let t := s.mram.store
  let good := (t.slots.filter fun x => slotReadable x.2).insertionSort fun a b => a.2.seq ≤ b.2.seq
  let t1 := (good.flatMap fun x => x.2.items).foldl (fun u i => u.apply i.1 (homeOf i.1 (typeOf s i.1) (storedBytes (typeOf s i.1) i.2))) t
  let slots := t.slots.map fun x => if slotReadable x.2 then (x.1, { x.2 with st := SlotState.retired }) else x
  setNum { s with mram := { s.mram with store := { t1 with slots := slots } } } 0x105007 (min 255 good.length : Nat)

/-- R92, part 3: written slots become empty. -/
def dropWritten (s : State) : State :=
  { s with mram := { s.mram with store := { s.mram.store with
      slots := s.mram.store.slots.map fun x => if x.2.st = .written then (x.1, { x.2 with st := SlotState.empty }) else x } } }

/-- The state as the active bank's values would have it, for the rules that relate one sub-index to another. -/
def withHomes (s : State) : State := s.mram.store.home.foldl (fun t i => withItem t (i.1, i.2.val)) s

/-- R92, part 4: every home record's REC_CRC holds, and of a sub-index that the running image defines its type, its length and its value's range. -/
def homesOk (s : State) : Bool :=
  let t := withHomes s
  s.mram.store.home.all fun i =>
    i.2.crc == homeCrc i.1 i.2.ty i.2.value &&
      match declOf s (i.1 / 256) (i.1 % 256) with
      | some d => i.2.ty == d.ty.code
          && (d.ty == .domain || (lengthError d i.2.value == 0 && inTableRange d i.2.val && inEntryRange t (i.1 / 256) (i.1 % 256) i.2.val))
      | none => true

/-- The UTC offsets of the calendar clock (R333, R334): the backup domain's replace the stored ones where it is valid, else they take the stored
values. -/
def loadOffsets (s : State) : State :=
  let ks := [kRtc 7, kRtc 8, kRtc 9]
  if s.backup.valid then
    let apart := (ks.filter fun k => storedVal s k != reg s k).map fun k => (k, reg s k)
    if apart = [] then s else persist s apart
  else
    let s1 := ks.foldl (fun t k => setVal t k (storedVal t k)) s
    { s1 with backup := { s1.backup with valid := true } }

/-- The stored values take effect (R78). -/
def loadHomes (s : State) : State :=
  loadOffsets ((s.mram.store.home.filter fun i => i.1 != kRtc 7 && i.1 != kRtc 8 && i.1 != kRtc 9).foldl (fun t i =>
    match declOf t (i.1 / 256) (i.1 % 256) with
    | some d => if d.acc = .rwp ∧ d.ty ≠ .domain then setAny t i.1 i.2.val else t
    | none => t) s)

/-- What follows step 6 by either way: what the module keeps of its own, the address in force (R30), latched sources (R416), the colophon queue (Table 11-10),
the pads, the field base, cell memory and the safety core's copies. -/
def dictionaryLoaded (s : State) : State :=
  let s1 := s.mram.kept.foldl (fun t i => setVal t i.1 i.2) s
  let s2 := setBit (setNum s1 kAddrActive (num s1 0x101001)) kAddrStatus 1 false
  let s3 := (List.range 64).foldl (fun t n => if (faultKept t n).latched then setNum t (kFault n 7) 3 else t) s2
  let s4 := setNum { s3 with dma := { s3.dma with queueSize := nat s3 (kCol 1) } } (kCol 2) (16 * (Config.queueBase.toNat % 0x7F000) : Nat)
  let s5 := showPps (chooseBase ((List.range 8).foldl (fun t n => gpioModeSet t n) s4))
  let s6 := [0, 1, 2, 3].foldl handCopy (loadInputs s5)
  { s6 with start := { s6.start with loaded := true } }

/-- The normal way of step 6: none when it succeeds, else the result code of its failure. -/
def loadStore (s : State) (ok : Bool) (code : Nat) : Option Nat × State :=
  let s0 := storeReset s
  if !headerOk s0 then (some code, s0)
  else
    let s1 := replaySlots s0
    if s1.mram.store.slots.any fun x => x.2.st == .committed then (some 0x61, s1)
    else
      let s2 := switchStaged (dropWritten s1)
      if !ok || !homesOk s2 then (some code, s2) else (none, dictionaryLoaded (loadHomes s2))

/-! ### The steps (Table 3-4) -/

/-- R457: a part of the running folio of a kind is there and its hash fails. -/
def partBad (s : State) (kind : Nat) : Bool :=
  let p := s.update.running
  (allParts p).any fun e => byteAt e 0 == kind && sha256 (partBytes p e) != slice e 32 32

/-- The pulse outputs count from the reloaded accumulators (R307). -/
def loadPulses (s : State) : State :=
  [0, 1].foldl (fun t o =>
    let p : PulseOut := { source := nat t (kPulse o 2), const := nat t (kPulse o 3) }
    putPulse t o { p with passed := quantaPassed p ((tabFind t.meter.acc p.source).getD 0) }) s

/-- What step `n` sets going as it begins, by its normal way or its alternative: the lanes of step 7, the controllers of step 9, the offset check of step
12, the engines of step 13. -/
def beginBody (s : State) (n : Nat) (alt : Bool) : State :=
  if n = 1 then keepNum s 0x103003 (storedNum s 0x103003 + 1)
  else if n = 7 then (List.range 8).foldl (fun t m => if flag t (kLane m 3) && !rateConflict t m then startLane t m else t) (startGenerator s)
  else if n = 9 ∧ !alt then startBuses s
  else if n = 12 ∧ !alt then
    let s1 := loadPulses (loadEnergy s)
    let s2 := if s1.meter.demand.start = 0 then { s1 with meter := { s1.meter with demand := { s1.meter.demand with flags := 2 } } }
      else closeDemand { s1 with meter := { s1.meter with demand := { s1.meter.demand with flags := s1.meter.demand.flags ||| 2 } } }
    let s3 := if s2.power.vafeBad then raise s2 38 0 0 else s2
    if flag s3 (kMeter 3) then meterBegin s3 else s3
  else if n = 13 then
    let s1 := loadBurn { s with engines := { s.engines with enabled := true } }
    if alt then (List.range 8).foldl (fun t m => if laneState t m = 0 then t else queueState t m 0x11 0xFF []) s1
    else
      repartition ((List.range 16).foldl beginLoad (verifySet s1))
  else s

/-- The normal way of step `n` as its report tells it: none when it succeeds, else its result code. -/
def normalWay (s : State) (n : Nat) (r : StepReport) : Option Nat × State :=
  let code := r.code.toNat
  let plain := fun (ok : Bool) (t : State) => if r.ok && ok then (none, t) else (some code, s)
  let hashed := fun (kind : Nat) (x : Option Nat × State) => if partBad s kind then (some 0x10, raise s 46 3 0) else x
  if n = 1 then (if s.mram.keys.checks then plain true (unmaskKeys s) else (some code, raise s 48 0 0))
  else if n = 2 then
    let x := installStep s r.ok
    let y := folioSigned x.2 x.2.mram.folios.act
    let t := startFolio y.2 false
    if !x.1 then (some 0x11, x.2)
    else if !r.ok then (some code, y.2)
    else if !y.1 then (some 0x11, y.2)
    else if partBad t 1 then (some 0x10, raise y.2 46 3 0)
    else (none, t)
  else if n = 3 then hashed 2 (plain true { s with safety := { s.safety with enabled := true } })
  else if n = 5 then
    let s1 := loadBases { s with lanes := { s.lanes with pll := true } }
    plain true (if bit s1 (kRtc 6) 0 then raise s1 23 0 0 else s1)
  else if n = 6 then loadStore s r.ok code
  else if n = 7 then plain (lanesUp s) s
  else if n = 9 then plain (s.start.safe || busesJoined s) s
  else if n = 10 then
    if partBad s 4 then (some 0x10, raise (raise s 46 3 0) 35 3 0)
    else plain (radioReady s) (if flag s (kAir 3) then radioStart s else s)
  else if n = 11 then plain true ([0, 1].foldl restartPtp s)
  else if n = 12 then
    if !r.ok then (some code, s)
    else if meterState s = 3 then (let x := offsetCheck s; if x.1 then (none, x.2) else (some code, x.2))
    else plain (!s.power.vafeBad) s
  else if n = 13 then hashed 3 (plain (firstTickFenced s) s)
  else if n = 14 then
    let s1 := resolveRole s
    plain true (if isStandby s1 then radioStop s1 else s1)
  else plain true s

/-- The alternative of an essential step. -/
def otherWay (s : State) (n : Nat) (r : StepReport) : Option Nat × State :=
  let x := if n = 2 then altFolio s else if n = 6 then (true, dictionaryLoaded (loadOffsets s)) else if n = 7 then (lanesUp s, s) else (true, s)
  if x.1 && r.altOk then (none, x.2) else (some r.code.toNat, s)

/-- R62: the block of a step abandoned or skipped is held in reset until the next start. -/
def holdBlock (s : State) (n : Nat) : State :=
  let s1 := { s with start := { s.start with disabled := putFlag s.start.disabled n true } }
  if n = 9 then [0, 1].foldl (fun t k => resetRegs { t with bus := tabDrop t.bus k } (0x2400 + k)) s1
  else if n = 12 then setNum s1 (kMeter 2) 0
  else s1

/-! ### The sequence (R61, R68, R69, R71, R73) -/

/-- Step `n` becomes the step in progress: its flags and `CURRENT` are written before it does anything (R68, R69). -/
def beginStep (s : State) (n : Nat) : State :=
  let b := s.start.bookmark
  let plan := s.start.plan.getD b
  let skip := skippable n && failCount plan n == 3
  let alt := plan.altNext.toNat.testBit n || (s.start.safe && n == 7)
  let b1 := { b with
    current := BitVec.ofNat 8 n
    altUsed := putFlag b.altUsed n (skip || alt)
    altNext := if !skip && alt then putFlag b.altNext n false else b.altNext }
  let s1 := setNum { s with start := { s.start with next := n } } 0x101802 n
  let s2 := writeBookmark s1 b1
  beginBody (if n = 6 ∧ alt then setBit s2 0x101803 6 true else s2) n (skip || alt)

/-- The MODULE_STATE of a start's end; a reset already pending keeps RESET_PENDING (R60). -/
def showState (s : State) (v : Nat) : State := if nat s kModuleState = 3 then s else setNum s kModuleState v

/-- A SAFE_MODE start has run its steps (R71), or stops at one (R73). -/
def enterSafe (s : State) (stop : Option Nat) : State :=
  let s1 := markEnd (showState s 2)
  { s1 with start := { s1.start with running := false, safe := true, stoppedAt := stop } }

/-- Step 15 has completed: the module is OPERATIONAL. -/
def enterOperational (s : State) : State :=
  let s1 := markEnd (setNum (showState s 1) 0x101802 15)
  startRecorder { s1 with start := { s1.start with running := false, next := 16, doneAt := s1.clk } }

/-- A step has completed, by whichever way: the next one begins, or the start is over. DEGRADED shows how the step was done. -/
def completeStep (s : State) (n : Nat) : State :=
  let s1 := setBit s 0x101803 n (s.start.bookmark.altUsed.toNat.testBit n)
  let s2 := if n = 1 then bookmarkFromMram s1 else s1
  if s2.start.safe then
    if n < 7 then beginStep s2 (n + 1) else if n = 7 then beginStep s2 9 else enterSafe s2 none
  else if n = 15 then enterOperational s2
  else beginStep s2 (n + 1)

/-- R69, R73: step `n` has failed, by its alternative (`alt`) or by its normal way. -/
def failStep (s : State) (n code : Nat) (alt : Bool) (r : StepReport) : State :=
  let b := failBook s.start.bookmark n code alt
  let s1 := raise (holdBook s b) 57 n code
  if skippable n then completeStep (holdBlock (holdBook s1 { b with altUsed := putFlag b.altUsed n true }) n) n
  else if !s.start.safe then hardReset (markEnd s1) 4 n (n == 0)
  else if n = 0 then { markEnd s1 with start := { (markEnd s1).start with held := true, running := false } }
  else if n = 7 then completeStep ((List.range 8).foldl dropLane s1) n
  else if !alt && hasAlt n then
    let b1 := { b with altUsed := putFlag b.altUsed n true, altNext := putFlag b.altNext n false }
    let s2 := setBit (writeBookmark s1 b1) 0x101803 n true
    match otherWay s2 n r with
    | (none, s3) => completeStep s3 n
    | (some c, s3) => enterSafe (raise (holdBook s3 (failBook b1 n c true)) 57 n c) (some n)
  else enterSafe s1 (some n)

/-- START_STEP (R61 to R73): the step in progress is carried out and accounted. -/
def runStep (s : State) (r : StepReport) : State :=
  let n := s.start.next
  let s0 := if n = 0 then beginStep (bookmarkCheck s r.bootAlt) 0 else s
  let b := s0.start.bookmark
  let alt := b.altUsed.toNat.testBit n
  if skippable n && alt then completeStep (holdBlock s0 n) n
  else if alt then
    match otherWay s0 n r with
    | (none, s1) => completeStep s1 n
    | (some c, s1) => failStep s1 n c true r
  else
    match normalWay s0 n r with
    | (none, s1) => completeStep (holdBook s1 (setCount s1.start.bookmark n 0)) n
    | (some c, s1) => failStep s1 n c false r

/-- START_STEP (R69). -/
def execStartStep (rep : StepReport) (s : State) : Host.Outcome State Fault Refusal :=
  .next (if s.start.running then runStep s rep else s)

/-- START_STEP_TIMEOUT (R62): the hardware start watchdog resets in steps 0 to 2 without a write of the bookmark; later steps, and every step of a SAFE_MODE
start, fail with result code 0x00001. -/
def execStartStepTimeout (rep : StepReport) (s : State) : Host.Outcome State Fault Refusal :=
  let n := s.start.next
  let s0 := if n = 0 then beginStep (bookmarkCheck s rep.bootAlt) 0 else s
  let alt := s0.start.bookmark.altUsed.toNat.testBit n
  .next (if !s.start.running then s
    else if n ≤ 2 ∧ !s0.start.safe then hardReset s0 4 n false
    else if skippable n && alt then s
    else failStep s0 n 1 alt rep)

/-- MODULE_RESET (R58): the reset that is ordered takes effect, and the start begins at step 0. -/
def execModuleReset (s : State) : Host.Outcome State Fault Refusal :=
  .next (match s.start.ordered with
    | some (cause, detail) => hardReset s cause detail false
    | none => s)

end Sys2Proof.Machine
end

