-- ==== Sys2Proof/Machine/Supply.lean ====
section
/-!
DEFINITION. Supplies, reset inputs, pads and the fixed fault sources (chapter 02, R391, R392, R413, R418).
-/

namespace Sys2Proof.Machine

/-! ### Resets from outside (R49 to R51, R58) -/

/-- POWER_ON_RESET (R58): VSYS rises from below 1.0 V. -/
def execPowerOnReset (s : State) : Host.Outcome State Fault Refusal := .next (hardReset s 0 0 true)

/-- BROWN_OUT_RESET (R58): VSYS is below the brown-out threshold. -/
def execBrownOutReset (s : State) : Host.Outcome State Fault Refusal := .next (hardReset s 1 0 true)

/-- EXTERNAL_RESET (R51): RST_N has been low for `lowNs`. It is recognised from 10 µs on and ignored below 1 µs; between them the spec states neither. -/
def execExternalReset (lowNs : Nat) (s : State) : Host.Outcome State Fault Refusal :=
  .next (if 10000 ≤ lowNs then hardReset s 2 0 true
    else if lowNs < 1000 then s
    else
      let (n, s1) := takeFresh s
      if Config.shortReset n then hardReset s1 2 0 true else s1)

/-- RESET_RELEASE (R49): VSYS, VIO and RST_N release the module; the VIO level is latched, SRAM holds nothing for
the MRAM any more and the start begins at step 0. -/
def execResetRelease (vio33 : Bool) (s : State) : Host.Outcome State Fault Refusal :=
  .next (if s.start.held then
      { s with
        power := { s.power with warning := false, vio33 := vio33 }
        keptHeld := [], durable := none
        start := { s.start with held := false, running := true, next := 0, safe := false, stoppedAt := none, useMram := false, lastEnd := none } }
    else s)

/-- BACKUP_DOMAIN_LOSS (R58, R333): the calendar clock, the alarms, the backup scratch and the backup copy of the bookmark are lost; OSC_STOPPED and
TIME_INVALID are set. -/
def execBackupDomainLoss (s : State) : Host.Outcome State Fault Refusal :=
  let s1 := { s with
    regs := s.regs.filter fun p => !isBackup p.1
    backup := { bookmark := none, rtc := {}, valid := false } }
  .next (setBit (setBit s1 (kRtc 6) 0 true) (kRtc 6) 2 true)

/-! ### The power-fail warning (R50, R91) -/

/-- POWER_FAIL_WARNING (R50): source 24 is raised, and no new MRAM write transaction starts: the MRAM keeps what it holds of the key area and the air
counters (Table 2-8). -/
def execPowerFailWarning (s : State) : Host.Outcome State Fault Refusal :=
  .next (if s.start.held ∨ s.power.warning then s
    else showRecState (raise { s with power := { s.power with warning := true }, durable := some (s.mram.keys, s.mram.airTx, s.mram.airRx) } 24 0 0))

/-- The MRAM writes that waited for the end of the warning, in the order in which they were held: values of RWP sub-indices in transactions, what the module
keeps of its own, fault records, fault messages, the bookmark, start records. -/
def flushHeld (s : State) : State :=
  let s1 := s.deferred.foldl (fun t i =>
    if isRwp t i.1 then transact t [i] else { t with mram := { t.mram with kept := tabPut t.mram.kept i.1 i.2 } }) { s with deferred := [] }
  let log := s1.mram.faultLog ++ s1.logHeld
  let ring := s1.mram.history ++ s1.start.historyDue
  { s1 with
    mram := { s1.mram with
      faults := s1.keptHeld.foldl (fun t f => tabPut t f.1 f.2) s1.mram.faults
      faultLog := log.drop (log.length - 256)
      bookmark := if s1.bookmarkDue then some s1.start.bookmark else s1.mram.bookmark
      history := ring.drop (ring.length - 16) }
    keptHeld := [], logHeld := [], bookmarkDue := false
    start := { s1.start with historyDue := [] } }

/-- WARNING_CLEARED (R91): MRAM writes resume. -/
def execWarningCleared (s : State) : Host.Outcome State Fault Refusal :=
  .next (if s.power.warning then
      showRecState (endCondition (flushHeld { s with power := { s.power with warning := false }, durable := none }) 24)
    else s)

/-- MODULE_OVER_TEMPERATURE (R57). -/
def execModuleOverTemperature (s : State) : Host.Outcome State Fault Refusal := .next (if s.start.held then s else raise s 25 0 0)

/-- FAULT_N_MISMATCH (R42). -/
def execFaultNMismatch (s : State) : Host.Outcome State Fault Refusal := .next (if s.start.held then s else raise s 58 0 0)

/-! ### General-purpose pads and hub temperature (R45 to R47) -/

/-- The register `sub` of pad GPn (Table 2-4). -/
def kGpio (n sub : Nat) : Key := (0x1100 + n) * 256 + sub

/-- GPIO_LEVEL_CHANGE (R45): the pad's level changes, in modes 2 and 3 after its debounce, which counts it; a closure of a TEST_BUTTON requests the
function test (R409). -/
def execGpioLevelChange (pin : Fin 8) (level : Bool) (s : State) : Host.Outcome State Fault Refusal :=
  let m := nat s (kGpio pin 1)
  let s1 := putGpio s pin { gpio s pin with raw := level }
  .next (if s.start.held ∨ !s.start.loaded then s1
    else if flag s1 (kGpio pin 2) = level then s1
    else
      let s2 := setNum s1 (kGpio pin 2) (if level then 1 else 0)
      if m = 2 ∨ m = 3 then
        let s3 := bump s2 (kGpio pin 5)
        if m = 3 ∧ !level then requestTest s3 1 false else s3
      else s2)

/-- RELAY_SAMPLE (R46): the sample of a RELAY pad; three in a row that differ raise source 59. One within 1 ms after a write is not compared. A sample that
is not compared, or a write of GPIO_OUTPUT, neither counts nor breaks a run of differing samples (DESIGN CHOICE, log entry 63: R46 is silent). -/
def execRelaySample (pin : Fin 8) (level : Bool) (s : State) : Host.Outcome State Fault Refusal :=
  let g := gpio s pin
  let young := g.wroteAt.any fun t => s.clk < t + msec 1
  let s1 := setNum (putGpio s pin { g with raw := level }) (kGpio pin 2) (if level then 1 else 0)
  .next (if nat s (kGpio pin 1) ≠ 6 then s
    else if young then s1
    else if flag s (kGpio pin 3) = level then
      let s2 := putGpio s1 pin { gpio s1 pin with differ := 0 }
      if (List.range 8).all fun n => nat s2 (kGpio n 1) != 6 || (gpio s2 n).differ < 3 then endCondition s2 59 else s2
    else
      let s2 := putGpio s1 pin { gpio s1 pin with differ := min 3 (g.differ + 1) }
      if g.differ = 2 then raise s2 59 0 pin else s2)

/-- The terms t / (2 k + 1) of a series in the square `y2`, in units of 2⁻⁴⁸. -/
def oddSeries : Nat → Int → Int → Nat → Int
  | 0, _, _, _ => 0
  | f + 1, y2, t, k => t / (2 * k + 1 : Nat) + oddSeries f y2 (t * y2 / 2 ^ 48) (k + 1)

/-- The natural logarithm of a positive rational between 1/60 and 60, to 2⁻³² (log entry 33). -/
def ratLn (r : Rat) : Rat :=
  let x : Int := r.num * 2 ^ 48 / r.den
  let y := (x - 2 ^ 48) * 2 ^ 48 / (x + 2 ^ 48)
  mkRat (2 * oddSeries 600 (y * y / 2 ^ 48) y 0) (2 ^ 48)

/-- R47: the temperature in Q8.8 °C of a thermistor of B constant `beta` whose pad stands at `uV` µV: r is its resistance over 10 kΩ, and
1 / T = 1 / 298.15 K + ln r / B. -/
def ntcTemp (beta uV : Nat) : Int :=
  let r := mkRat uV (1250000 - uV)
  let inv : Rat := mkRat 20 5963 + ratLn r / (beta : Rat)
  quantize (-32768) 32767 256 (1 / inv - mkRat 5463 20)

/-- One input of the conversion: a pad above 1.22 V or below 20 mV is open or short. -/
def ntcInput (s : State) (i uV : Nat) : State :=
  let bad := 1220000 < uV || uV < 20000
  setBit (setNum s (0x110801 + i) (if bad then -32768 else ntcTemp (nat s 0x110803) uV)) 0x110804 i bad

/-- NTC_CONVERSION (R47): both inputs, once per second. No start step is named for these pads; the model converts them from the end of step 6 on, when the
B constants of the dictionary are there (DESIGN CHOICE, log entry 64). -/
def execNtcConversion (uV1 uV2 : Nat) (s : State) : Host.Outcome State Fault Refusal :=
  .next (if s.start.held ∨ !s.start.loaded then s else ntcInput (ntcInput s 0 uV1) 1 uV2)

/-! ### The safety core's own supervision (R391, R392, R413) -/

/-- R413: the reaction to a fixed source: the module resets at once with cause 3; its lanes are at high impedance, FAULT_N is low and ARB_BEAT has
stopped. -/
def fixedReaction (s : State) (src kind : Nat) : State :=
  if s.start.held then s
  else
    let s1 := raise s src kind 0
    hardReset (putKept s1 src { faultKept s1 src with reset := true }) 3 src false

/-- SAFETY_COPY (R391): the runtime hands the safety core a copy; one whose CRC fails is source 17, kind 2. -/
def execSafetyCopy (w : Fin 4) (crcOk : Bool) (s : State) : Host.Outcome State Fault Refusal :=
  .next (if !s.safety.enabled then s else if crcOk then handCopy s w else fixedReaction s 17 2)

/-- COPY_CHECK (R391): the check of every second. -/
def execCopyCheck (ok : Bool) (s : State) : Host.Outcome State Fault Refusal :=
  .next (if s.safety.enabled && !ok then fixedReaction s 17 2 else s)

/-- SAFETY_WATCHDOG_EXPIRY (R392). -/
def execSafetyWatchdogExpiry (s : State) : Host.Outcome State Fault Refusal := .next (if s.safety.enabled then fixedReaction s 19 0 else s)

/-- LOCKSTEP_MISMATCH (R413). -/
def execLockstepMismatch (s : State) : Host.Outcome State Fault Refusal := .next (if s.safety.enabled then fixedReaction s 17 1 else s)

/-- REF_LOSS (R413). -/
def execRefLoss (s : State) : Host.Outcome State Fault Refusal := .next (fixedReaction s 22 0)

/-- SYSTEM_PLL_UNLOCK (R413): after step 5 has locked it. -/
def execSystemPllUnlock (s : State) : Host.Outcome State Fault Refusal := .next (if s.time.loaded then fixedReaction s 20 0 else s)

/-- ETHERNET_LINK_LOSS (R418): a port's link goes down; the ports are configured from step 8 on. -/
def execEthernetLinkLoss (port : Fin 2) (s : State) : Host.Outcome State Fault Refusal := .next (if stepRan s 8 then raise s (26 + port) 0 0 port else s)

end Sys2Proof.Machine
end

