-- ==== Sys2Proof/Machine/Pads.lean ====
section
/-!
DEFINITION. What the module does at its pads (R40, R41, R53, R114, Table 2-3), as the state gives it between two commands. What passes on a pad while a command acts
(a frame, a record, a pulse) is in the state's `out`.
-/

namespace Sys2Proof.Machine

/-- A pad, or a pair of pads, of Table 2-3 that the module drives, pulls or terminates. -/
inductive Pad where
  | laneTx (n : Fin 8) | laneRx (n : Fin 8)
  | canTx (k : Fin 2) | canRx (k : Fin 2) | cstb
  | stitchTx | stitchRx
  | roleAct | arbGrant | arbBeat
  | faultN
  | emg (c : Fin 2)
  | ppsIn | ppsOut
  | pulse (o : Fin 2)
  | hsck | hmosi | hcsN | hmiso | hirqN
  | rstN | bootAlt
  | tck | tms | tdi | tdo
  | utx | urx
  | scl | sda
  | gp (n : Fin 8)
  | ethernet (port : Fin 2)
  | rfAnt
deriving DecidableEq, Repr

/-- The reset state of a pad (Table 2-3). -/
def resetPad : Pad → Drive
  | .laneTx _ | .stitchTx | .hmiso | .tdo | .scl | .sda | .gp _ | .ethernet _ | .rfAnt => .z
  | .laneRx _ | .stitchRx => .terminated
  | .canTx _ | .cstb | .utx => .high
  | .canRx _ | .hcsN | .hirqN | .rstN | .tms | .tdi | .urx => .pullUp
  | .roleAct | .arbBeat | .faultN | .ppsOut | .pulse _ => .low
  | .arbGrant | .emg _ | .ppsIn | .hsck | .hmosi | .bootAlt | .tck => .pullDown

/-- Whether one CAN FD controller is enabled (R53). -/
def anyBusOn (s : State) : Bool := busState s 0 != 0 || busState s 1 != 0

/-- What the module does at a pad: its reset state while it is held in reset, and of a pad that no start step has configured yet (R40); from then on what the
chapter of the pad's function gives (Table 2-3). `signal` stands for what a running transmitter sends. -/
def padDrive (s : State) (p : Pad) : Drive :=
  if s.start.held then resetPad p
  else match p with
  | .laneTx n => if laneState s n != 0 && laneDriven s n then .signal else .z
  | .canTx k => if busRuns s k then .signal else .high
  | .cstb => if anyBusOn s then .low else .high
  | .stitchTx => if s.time.loaded then .signal else .z
  | .roleAct => if roleAct s then .high else .low
  | .arbBeat => if s.clk < s.pair.beatUntil then .high else .low
  | .faultN => if faultPinLow s then .low else .z
  | .ppsOut => if s.clk < s.time.ppsUntil then .high else .low
  | .pulse o => if (pulseOut s o).high then .high else .low
  | .hirqN => if s.server.hostQueue = [] then .pullUp else .low
  | .gp n => if s.start.loaded then gpioDrive s n else .z
  | .ethernet _ => if stepRan s 8 then .signal else .z
  | .rfAnt => if radioRuns s then .signal else .z
  | q => resetPad q

end Sys2Proof.Machine
end

