-- ==== Sys2Proof/Machine/Rows.lean ====
section
/-!
DEFINITION. The commands that are a write or a command of one sub-index: each is served as a request of its session for that sub-index.
-/

namespace Sys2Proof.Machine

/-- A WRITE of one register, as the server serves it. -/
def serveWriteOf (s : State) (q : Req) (k : Key) (v : Bytes) : State := serve s q (.write (refOf k) v)
/-- A COMMAND of one register, as the server serves it. -/
def serveCommandOf (s : State) (q : Req) (k : Key) (v : Bytes) : State := serve s q (.command (refOf k) v)

/-- RESET_COMMAND 1 (R60). -/
def execRestart (q : Req) (s : State) : Host.Outcome State Fault Refusal := .next (serveCommandOf s q 0x104001 [1])
/-- RESET_COMMAND 2: one start into SAFE_MODE (R60). -/
def execRestartSafe (q : Req) (s : State) : Host.Outcome State Fault Refusal := .next (serveCommandOf s q 0x104001 [2])
/-- A write of GPIO_MODE (R45). -/
def execGpioMode (q : Req) (pin : Fin 8) (v : Bytes) (s : State) : Host.Outcome State Fault Refusal := .next (serveWriteOf s q ((0x1100 + pin) * 256 + 1) v)
/-- BOOKMARK_CLEAR (R70). -/
def execBookmarkClear (q : Req) (s : State) : Host.Outcome State Fault Refusal := .next (serveCommandOf s q 0x102005 [1])
/-- STORE_RESET (R93). -/
def execStoreReset (q : Req) (s : State) : Host.Outcome State Fault Refusal := .next (serveCommandOf s q 0x105004 [1])
/-- A write of MDP_ETH_ENABLE (R117). -/
def execMdpEthEnable (q : Req) (v : Bytes) (s : State) : Host.Outcome State Fault Refusal := .next (serveWriteOf s q 0x210001 v)
/-- A write of ZONE_TARGET (R128). -/
def execZoneTarget (q : Req) (zone : Fin 16384) (v : Bytes) (s : State) : Host.Outcome State Fault Refusal := .next (serveWriteOf s q ((0x4100 + zone / 64) * 256 + (zone % 64 + 1)) v)
/-- SCENE_RECALL (R131). -/
def execSceneRecall (q : Req) (v : Bytes) (s : State) : Host.Outcome State Fault Refusal := .next (serveCommandOf s q 0x430002 v)
/-- GROUP_TARGET (R130). -/
def execGroupTarget (q : Req) (v : Bytes) (s : State) : Host.Outcome State Fault Refusal := .next (serveCommandOf s q 0x430003 v)
/-- GROUP_RELEASE (R130). -/
def execGroupRelease (q : Req) (v : Bytes) (s : State) : Host.Outcome State Fault Refusal := .next (serveCommandOf s q 0x430004 v)
/-- A clear of TARGET_SKIPS (R127). -/
def execTargetSkipsClear (q : Req) (s : State) : Host.Outcome State Fault Refusal := .next (serveCommandOf s q (kFade 1) [1])
/-- BURN_RESET (R148). -/
def execBurnReset (q : Req) (lum : Byte) (s : State) : Host.Outcome State Fault Refusal := .next (serveCommandOf s q (kFade 0xA) [lum])
/-- ENGINE_CONTROL 1: STOP (R183). -/
def execEngineStop (q : Req) (k : Fin 16) (s : State) : Host.Outcome State Fault Refusal := .next (serveCommandOf s q (kEngine k 1) [1])
/-- ENGINE_CONTROL 2: START (R183). -/
def execEngineStart (q : Req) (k : Fin 16) (s : State) : Host.Outcome State Fault Refusal := .next (serveCommandOf s q (kEngine k 1) [2])
/-- ENGINE_CONTROL 3: RESTART (R183). -/
def execEngineRestart (q : Req) (k : Fin 16) (s : State) : Host.Outcome State Fault Refusal := .next (serveCommandOf s q (kEngine k 1) [3])
/-- A clear of an engine's counters (R183). -/
def execEngineStatsClear (q : Req) (k : Fin 16) (s : State) : Host.Outcome State Fault Refusal := .next (serveCommandOf s q (kEngine k 0xE) [1])
/-- REPARTITION (R171). -/
def execRepartition (q : Req) (s : State) : Host.Outcome State Fault Refusal := .next (serveCommandOf s q (kProgramCtl 5) [1])
/-- LANE_CONTROL 1: STOP (R239). -/
def execLaneStop (q : Req) (n : Fin 8) (s : State) : Host.Outcome State Fault Refusal := .next (serveCommandOf s q (kLane n 1) [1])
/-- LANE_CONTROL 2: START (R238). -/
def execLaneStart (q : Req) (n : Fin 8) (s : State) : Host.Outcome State Fault Refusal := .next (serveCommandOf s q (kLane n 1) [2])
/-- LANE_CONTROL 3: RESTART (R240). -/
def execLaneRestart (q : Req) (n : Fin 8) (s : State) : Host.Outcome State Fault Refusal := .next (serveCommandOf s q (kLane n 1) [3])
/-- A clear of a lane's counters (R237). -/
def execLaneStatsClear (q : Req) (n : Fin 8) (s : State) : Host.Outcome State Fault Refusal := .next (serveCommandOf s q (kLane n 0x11) [1])
/-- DISCOVER_LANE (R255). -/
def execDiscoverLane (q : Req) (v : Bytes) (s : State) : Host.Outcome State Fault Refusal := .next (serveCommandOf s q 0x320007 v)
/-- FAULT_CELL_CLEAR (R259). -/
def execFaultCellClear (q : Req) (v : Bytes) (s : State) : Host.Outcome State Fault Refusal := .next (serveCommandOf s q 0x330002 v)
/-- CHANNEL_CONTROL 1: STOP (R284). -/
def execDmaChannelStop (q : Req) (c : Fin 16) (s : State) : Host.Outcome State Fault Refusal := .next (serveCommandOf s q (kDma c 1) [1])
/-- CHANNEL_CONTROL 2: START (R284). -/
def execDmaChannelStart (q : Req) (c : Fin 16) (s : State) : Host.Outcome State Fault Refusal := .next (serveCommandOf s q (kDma c 1) [2])
/-- CHANNEL_CONTROL 3: RESTART (R284). -/
def execDmaChannelRestart (q : Req) (c : Fin 16) (s : State) : Host.Outcome State Fault Refusal := .next (serveCommandOf s q (kDma c 1) [3])
/-- A clear of a channel's counters (R284). -/
def execDmaStatsClear (q : Req) (c : Fin 16) (s : State) : Host.Outcome State Fault Refusal := .next (serveCommandOf s q (kDma c 0xB) [1])
/-- METER_CONTROL 1: STOP (R311). -/
def execMeterStop (q : Req) (s : State) : Host.Outcome State Fault Refusal := .next (serveCommandOf s q (kMeter 1) [1])
/-- METER_CONTROL 2: START (R288). -/
def execMeterStart (q : Req) (s : State) : Host.Outcome State Fault Refusal := .next (serveCommandOf s q (kMeter 1) [2])
/-- METER_CONTROL 3: RESTART (R311). -/
def execMeterRestart (q : Req) (s : State) : Host.Outcome State Fault Refusal := .next (serveCommandOf s q (kMeter 1) [3])
/-- CALIBRATE (R292). -/
def execCalibrate (q : Req) (v : Bytes) (s : State) : Host.Outcome State Fault Refusal := .next (serveCommandOf s q (kMeter 0xC) v)
/-- ENERGY_RESET (R302). -/
def execEnergyReset (q : Req) (s : State) : Host.Outcome State Fault Refusal := .next (serveCommandOf s q 0x520080 [1])
/-- MAX_CLEAR (R306). -/
def execMaxClear (q : Req) (s : State) : Host.Outcome State Fault Refusal := .next (serveCommandOf s q 0x56000B [1])
/-- A reset of luminaire energies (R310). -/
def execLumEnergyReset (q : Req) (lum : Byte) (s : State) : Host.Outcome State Fault Refusal := .next (serveCommandOf s q 0x55000C [lum])
/-- TB_SET (R319). -/
def execTbSet (q : Req) (n : Fin 4) (v : Bytes) (s : State) : Host.Outcome State Fault Refusal := .next (serveCommandOf s q (kTb n 0xC) v)
/-- A write of TO_MODE (R326). -/
def execToMode (q : Req) (c : Fin 16) (v : Bytes) (s : State) : Host.Outcome State Fault Refusal := .next (serveWriteOf s q (kTo c 1) v)
/-- A write of RTC_TIME: a set (R331). -/
def execRtcTime (q : Req) (v : Bytes) (s : State) : Host.Outcome State Fault Refusal := .next (serveWriteOf s q (kRtc 1) v)
/-- RTC_STEP (R331). -/
def execRtcStep (q : Req) (v : Bytes) (s : State) : Host.Outcome State Fault Refusal := .next (serveCommandOf s q (kRtc 2) v)
/-- ALARM_CONTROL 1: ARM (R336). -/
def execAlarmArm (q : Req) (a : Fin 2) (s : State) : Host.Outcome State Fault Refusal := .next (serveCommandOf s q (kAlarm a 3) [1])
/-- ALARM_CONTROL 2: DISARM (R336). -/
def execAlarmDisarm (q : Req) (a : Fin 2) (s : State) : Host.Outcome State Fault Refusal := .next (serveCommandOf s q (kAlarm a 3) [2])
/-- A clear of a bus controller's counters (R362). -/
def execBusStatsClear (q : Req) (k : Fin 2) (s : State) : Host.Outcome State Fault Refusal := .next (serveCommandOf s q (kBus k 0x12) [1])
/-- A write of CHANNEL_MAP (R371). -/
def execChannelMap (q : Req) (v : Bytes) (s : State) : Host.Outcome State Fault Refusal := .next (serveWriteOf s q (kAir 4) v)
/-- A write of MAP_PHASE (R371). -/
def execMapPhase (q : Req) (v : Bytes) (s : State) : Host.Outcome State Fault Refusal := .next (serveWriteOf s q (kAir 6) v)
/-- RADIO_CONTROL 1: STOP (R387). -/
def execRadioStop (q : Req) (s : State) : Host.Outcome State Fault Refusal := .next (serveCommandOf s q (kAir 1) [1])
/-- RADIO_CONTROL 2: START (R387). -/
def execRadioStart (q : Req) (s : State) : Host.Outcome State Fault Refusal := .next (serveCommandOf s q (kAir 1) [2])
/-- RADIO_CONTROL 3: RESTART (R387). -/
def execRadioRestart (q : Req) (s : State) : Host.Outcome State Fault Refusal := .next (serveCommandOf s q (kAir 1) [3])
/-- A clear of the radio's counters (R387). -/
def execRadioStatsClear (q : Req) (s : State) : Host.Outcome State Fault Refusal := .next (serveCommandOf s q (kAir 0x1B) [1])
/-- EMG_TEST 1: the loop test starts (R396). -/
def execEmgTestStart (q : Req) (s : State) : Host.Outcome State Fault Refusal := .next (serveCommandOf s q 0x730009 [1])
/-- EMG_TEST 2: the loop test ends (R396). -/
def execEmgTestEnd (q : Req) (s : State) : Host.Outcome State Fault Refusal := .next (serveCommandOf s q 0x730009 [2])
/-- EMG_CANCEL (R399). -/
def execEmgCancel (q : Req) (v : Bytes) (s : State) : Host.Outcome State Fault Refusal := .next (serveCommandOf s q 0x730007 v)
/-- EMG_ACKNOWLEDGE (R400). -/
def execEmgAcknowledge (q : Req) (s : State) : Host.Outcome State Fault Refusal := .next (serveCommandOf s q 0x730008 [1])
/-- GROUP_CLEAR (R405). -/
def execGroupClear (q : Req) (v : Bytes) (s : State) : Host.Outcome State Fault Refusal := .next (serveCommandOf s q 0x700003 v)
/-- TEST_START 1: the function test (R409). -/
def execFunctionTest (q : Req) (s : State) : Host.Outcome State Fault Refusal := .next (serveCommandOf s q 0x700009 [1])
/-- TEST_START 2: the duration test (R410). -/
def execDurationTest (q : Req) (s : State) : Host.Outcome State Fault Refusal := .next (serveCommandOf s q 0x700009 [2])
/-- TEST_START 3: the running test is aborted (R411). -/
def execTestAbort (q : Req) (s : State) : Host.Outcome State Fault Refusal := .next (serveCommandOf s q 0x700009 [3])
/-- FAULT_CLEAR (R416). -/
def execFaultClear (q : Req) (src : Fin 64) (s : State) : Host.Outcome State Fault Refusal := .next (serveCommandOf s q (kFault src 0xC) [1])
/-- SWAP (R435). -/
def execSwap (q : Req) (s : State) : Host.Outcome State Fault Refusal := .next (serveCommandOf s q (kRed 5) [1])
/-- SHELL_IMPORT (R443). -/
def execShellImport (q : Req) (v : Bytes) (s : State) : Host.Outcome State Fault Refusal := .next (serveCommandOf s q (kKeys 4) v)
/-- SHELL_DERIVE (R442). -/
def execShellDerive (q : Req) (v : Bytes) (s : State) : Host.Outcome State Fault Refusal := .next (serveCommandOf s q (kKeys 5) v)
/-- SHELL_DESTROY (R444). -/
def execShellDestroy (q : Req) (shell : Byte) (s : State) : Host.Outcome State Fault Refusal := .next (serveCommandOf s q ((0xA100 + shell.toNat) * 256 + 0xD) [1])
/-- CHALLENGE (R447). -/
def execAttestChallenge (q : Req) (v : Bytes) (s : State) : Host.Outcome State Fault Refusal := .next (serveCommandOf s q (kAttest 1) v)
/-- INSTALL 1: install at the next start (R452). -/
def execInstallAtStart (q : Req) (s : State) : Host.Outcome State Fault Refusal := .next (serveCommandOf s q (kUpdate 9) [1])
/-- INSTALL 2: install, and reset at once (R452). -/
def execInstallAndReset (q : Req) (s : State) : Host.Outcome State Fault Refusal := .next (serveCommandOf s q (kUpdate 9) [2])
/-- INSTALL 3: empty the quire (R452). -/
def execEmptyQuire (q : Req) (s : State) : Host.Outcome State Fault Refusal := .next (serveCommandOf s q (kUpdate 9) [3])
/-- HEALTH_CONFIRM (R455). -/
def execHealthConfirm (q : Req) (s : State) : Host.Outcome State Fault Refusal := .next (serveCommandOf s q 0xB01001 [1])
/-- WAVE_CONTROL 1: START (R459). -/
def execWaveStart (q : Req) (s : State) : Host.Outcome State Fault Refusal := .next (serveCommandOf s q (kWave 1) [1])
/-- WAVE_CONTROL 2: PAUSE (R460). -/
def execWavePause (q : Req) (s : State) : Host.Outcome State Fault Refusal := .next (serveCommandOf s q (kWave 1) [2])
/-- WAVE_CONTROL 3: RESUME (R460). -/
def execWaveResume (q : Req) (s : State) : Host.Outcome State Fault Refusal := .next (serveCommandOf s q (kWave 1) [3])
/-- WAVE_CONTROL 4: ABORT (R460). -/
def execWaveAbort (q : Req) (s : State) : Host.Outcome State Fault Refusal := .next (serveCommandOf s q (kWave 1) [4])
/-- CLOSE_NOW (R464). -/
def execCloseNow (q : Req) (s : State) : Host.Outcome State Fault Refusal := .next (serveCommandOf s q (kRec 2) [1])

end Sys2Proof.Machine
end

