-- ==== Sys2Proof/Machine/Dispatch.lean ====
section
/-!
DEFINITION. The dispatcher: one arm for each command, each one direct call of its meaning.
-/

namespace Sys2Proof.Machine

/-- The effect of a command on everything but the queue. -/
def exec (i : Instr) (s : State) : Host.Outcome State Fault Refusal :=
  match i with
  | .powerOnReset => Sys2Proof.Machine.execPowerOnReset s
  | .brownOutReset => Sys2Proof.Machine.execBrownOutReset s
  | .externalReset lowNs => Sys2Proof.Machine.execExternalReset lowNs s
  | .backupDomainLoss => Sys2Proof.Machine.execBackupDomainLoss s
  | .resetRelease vio33 => Sys2Proof.Machine.execResetRelease vio33 s
  | .powerFailWarning => Sys2Proof.Machine.execPowerFailWarning s
  | .warningCleared => Sys2Proof.Machine.execWarningCleared s
  | .vafeOutOfRange => Sys2Proof.Machine.execVafeOutOfRange s
  | .moduleOverTemperature => Sys2Proof.Machine.execModuleOverTemperature s
  | .faultNMismatch => Sys2Proof.Machine.execFaultNMismatch s
  | .gpioMode q pin v => Sys2Proof.Machine.execGpioMode q pin v s
  | .gpioLevelChange pin level => Sys2Proof.Machine.execGpioLevelChange pin level s
  | .relaySample pin level => Sys2Proof.Machine.execRelaySample pin level s
  | .ntcConversion uV1 uV2 => Sys2Proof.Machine.execNtcConversion uV1 uV2 s
  | .hostSpiTransaction xfer => Sys2Proof.Machine.execHostSpiTransaction xfer s
  | .consoleLine line => Sys2Proof.Machine.execConsoleLine line s
  | .startStep rep => Sys2Proof.Machine.execStartStep rep s
  | .startStepTimeout rep => Sys2Proof.Machine.execStartStepTimeout rep s
  | .restart q => Sys2Proof.Machine.execRestart q s
  | .restartSafe q => Sys2Proof.Machine.execRestartSafe q s
  | .moduleReset => Sys2Proof.Machine.execModuleReset s
  | .bookmarkClear q => Sys2Proof.Machine.execBookmarkClear q s
  | .read q ref => Sys2Proof.Machine.execRead q ref s
  | .write q ref v => Sys2Proof.Machine.execWrite q ref v s
  | .readMulti q refs => Sys2Proof.Machine.execReadMulti q refs s
  | .writeMulti q items => Sys2Proof.Machine.execWriteMulti q items s
  | .blockBeginRead q ref => Sys2Proof.Machine.execBlockBeginRead q ref s
  | .blockBeginWrite q ref size crc => Sys2Proof.Machine.execBlockBeginWrite q ref size crc s
  | .blockData q handle offset arg => Sys2Proof.Machine.execBlockData q handle offset arg s
  | .blockEnd q handle => Sys2Proof.Machine.execBlockEnd q handle s
  | .transferTimeout sid handle => Sys2Proof.Machine.execTransferTimeout sid handle s
  | .zoneMap q handle => Sys2Proof.Machine.execZoneMap q handle s
  | .calibration q handle => Sys2Proof.Machine.execCalibration q handle s
  | .imageLoad q handle => Sys2Proof.Machine.execImageLoad q handle s
  | .storeReset q => Sys2Proof.Machine.execStoreReset q s
  | .subscribeOnChange q ref interval => Sys2Proof.Machine.execSubscribeOnChange q ref interval s
  | .subscribePeriodic q ref period => Sys2Proof.Machine.execSubscribePeriodic q ref period s
  | .subscribeCancel q ref => Sys2Proof.Machine.execSubscribeCancel q ref s
  | .notifyOnChange sub => Sys2Proof.Machine.execNotifyOnChange sub s
  | .notifyPeriodic sub => Sys2Proof.Machine.execNotifyPeriodic sub s
  | .authBegin q shell => Sys2Proof.Machine.execAuthBegin q shell s
  | .authProve q tag => Sys2Proof.Machine.execAuthProve q tag s
  | .authLockoutEnd t => Sys2Proof.Machine.execAuthLockoutEnd t s
  | .close q => Sys2Proof.Machine.execClose q s
  | .dtlsHandshake d => Sys2Proof.Machine.execDtlsHandshake d s
  | .sessionTimeout sid => Sys2Proof.Machine.execSessionTimeout sid s
  | .mdpEthEnable q v => Sys2Proof.Machine.execMdpEthEnable q v s
  | .proxy q p => Sys2Proof.Machine.execProxy q p s
  | .proxyRetry n => Sys2Proof.Machine.execProxyRetry n s
  | .proxyResponse n body => Sys2Proof.Machine.execProxyResponse n body s
  | .proxyTimeout n => Sys2Proof.Machine.execProxyTimeout n s
  | .zoneTarget q zone v => Sys2Proof.Machine.execZoneTarget q zone v s
  | .sceneRecall q v => Sys2Proof.Machine.execSceneRecall q v s
  | .groupTarget q v => Sys2Proof.Machine.execGroupTarget q v s
  | .groupRelease q v => Sys2Proof.Machine.execGroupRelease q v s
  | .targetSkipsClear q => Sys2Proof.Machine.execTargetSkipsClear q s
  | .burnReset q lum => Sys2Proof.Machine.execBurnReset q lum s
  | .areaVacant area => Sys2Proof.Machine.execAreaVacant area s
  | .leadHoldEnd area => Sys2Proof.Machine.execLeadHoldEnd area s
  | .tickStart => Sys2Proof.Machine.execTickStart s
  | .engineOverrun k => Sys2Proof.Machine.execEngineOverrun k s
  | .inputChangeApplied => Sys2Proof.Machine.execInputChangeApplied s
  | .programSet q handle => Sys2Proof.Machine.execProgramSet q handle s
  | .engineLoaded k => Sys2Proof.Machine.execEngineLoaded k s
  | .engineStop q k => Sys2Proof.Machine.execEngineStop q k s
  | .engineStart q k => Sys2Proof.Machine.execEngineStart q k s
  | .engineRestart q k => Sys2Proof.Machine.execEngineRestart q k s
  | .engineStopComplete k => Sys2Proof.Machine.execEngineStopComplete k s
  | .engineStatsClear q k => Sys2Proof.Machine.execEngineStatsClear q k s
  | .repartition q => Sys2Proof.Machine.execRepartition q s
  | .mailboxResponse k => Sys2Proof.Machine.execMailboxResponse k s
  | .add k d a b => Sys2Proof.Machine.execAdd k d a b s
  | .sub k d a b => Sys2Proof.Machine.execSub k d a b s
  | .and k d a b => Sys2Proof.Machine.execAnd k d a b s
  | .or k d a b => Sys2Proof.Machine.execOr k d a b s
  | .xor k d a b => Sys2Proof.Machine.execXor k d a b s
  | .sll k d a b => Sys2Proof.Machine.execSll k d a b s
  | .srl k d a b => Sys2Proof.Machine.execSrl k d a b s
  | .sra k d a b => Sys2Proof.Machine.execSra k d a b s
  | .mul k d a b => Sys2Proof.Machine.execMul k d a b s
  | .mulh k d a b => Sys2Proof.Machine.execMulh k d a b s
  | .mulhu k d a b => Sys2Proof.Machine.execMulhu k d a b s
  | .slt k d a b => Sys2Proof.Machine.execSlt k d a b s
  | .sltu k d a b => Sys2Proof.Machine.execSltu k d a b s
  | .min k d a b => Sys2Proof.Machine.execMin k d a b s
  | .max k d a b => Sys2Proof.Machine.execMax k d a b s
  | .minu k d a b => Sys2Proof.Machine.execMinu k d a b s
  | .maxu k d a b => Sys2Proof.Machine.execMaxu k d a b s
  | .adds k d a b => Sys2Proof.Machine.execAdds k d a b s
  | .subs k d a b => Sys2Proof.Machine.execSubs k d a b s
  | .clz k d a => Sys2Proof.Machine.execClz k d a s
  | .addi k d a imm => Sys2Proof.Machine.execAddi k d a imm s
  | .andi k d a imm => Sys2Proof.Machine.execAndi k d a imm s
  | .ori k d a imm => Sys2Proof.Machine.execOri k d a imm s
  | .xori k d a imm => Sys2Proof.Machine.execXori k d a imm s
  | .slli k d a sh => Sys2Proof.Machine.execSlli k d a sh s
  | .srli k d a sh => Sys2Proof.Machine.execSrli k d a sh s
  | .srai k d a sh => Sys2Proof.Machine.execSrai k d a sh s
  | .slti k d a imm => Sys2Proof.Machine.execSlti k d a imm s
  | .sltiu k d a imm => Sys2Proof.Machine.execSltiu k d a imm s
  | .lui k d imm => Sys2Proof.Machine.execLui k d imm s
  | .beq k a b off => Sys2Proof.Machine.execBeq k a b off s
  | .bne k a b off => Sys2Proof.Machine.execBne k a b off s
  | .blt k a b off => Sys2Proof.Machine.execBlt k a b off s
  | .bge k a b off => Sys2Proof.Machine.execBge k a b off s
  | .bltu k a b off => Sys2Proof.Machine.execBltu k a b off s
  | .bgeu k a b off => Sys2Proof.Machine.execBgeu k a b off s
  | .jmp k off => Sys2Proof.Machine.execJmp k off s
  | .jal k d off => Sys2Proof.Machine.execJal k d off s
  | .jr k a => Sys2Proof.Machine.execJr k a s
  | .loop k unit count len => Sys2Proof.Machine.execLoop k unit count len s
  | .loopEnd k unit => Sys2Proof.Machine.execLoopEnd k unit s
  | .vadd k d a b g => Sys2Proof.Machine.execVadd k d a b g s
  | .vadds k d a b g => Sys2Proof.Machine.execVadds k d a b g s
  | .vaddus k d a b g => Sys2Proof.Machine.execVaddus k d a b g s
  | .vsub k d a b g => Sys2Proof.Machine.execVsub k d a b g s
  | .vsubs k d a b g => Sys2Proof.Machine.execVsubs k d a b g s
  | .vsubus k d a b g => Sys2Proof.Machine.execVsubus k d a b g s
  | .vand k d a b g => Sys2Proof.Machine.execVand k d a b g s
  | .vor k d a b g => Sys2Proof.Machine.execVor k d a b g s
  | .vxor k d a b g => Sys2Proof.Machine.execVxor k d a b g s
  | .vandn k d a b g => Sys2Proof.Machine.execVandn k d a b g s
  | .vsll k d a b g => Sys2Proof.Machine.execVsll k d a b g s
  | .vsrl k d a b g => Sys2Proof.Machine.execVsrl k d a b g s
  | .vsra k d a b g => Sys2Proof.Machine.execVsra k d a b g s
  | .vslli k d a sh g => Sys2Proof.Machine.execVslli k d a sh g s
  | .vsrli k d a sh g => Sys2Proof.Machine.execVsrli k d a sh g s
  | .vsrai k d a sh g => Sys2Proof.Machine.execVsrai k d a sh g s
  | .vrsrai k d a sh g => Sys2Proof.Machine.execVrsrai k d a sh g s
  | .vmul k d a b g => Sys2Proof.Machine.execVmul k d a b g s
  | .vmulq k d a b sh g => Sys2Proof.Machine.execVmulq k d a b sh g s
  | .vmulqu k d a b sh g => Sys2Proof.Machine.execVmulqu k d a b sh g s
  | .vmulqsu k d a b sh g => Sys2Proof.Machine.execVmulqsu k d a b sh g s
  | .vmulhu k d a b g => Sys2Proof.Machine.execVmulhu k d a b g s
  | .vmin k d a b g => Sys2Proof.Machine.execVmin k d a b g s
  | .vmax k d a b g => Sys2Proof.Machine.execVmax k d a b g s
  | .vminu k d a b g => Sys2Proof.Machine.execVminu k d a b g s
  | .vmaxu k d a b g => Sys2Proof.Machine.execVmaxu k d a b g s
  | .vabs k d a g => Sys2Proof.Machine.execVabs k d a g s
  | .vclz k d a g => Sys2Proof.Machine.execVclz k d a g s
  | .vmov k d a g => Sys2Proof.Machine.execVmov k d a g s
  | .vavgu k d a b g => Sys2Proof.Machine.execVavgu k d a b g s
  | .vsel k d a b pg => Sys2Proof.Machine.execVsel k d a b pg s
  | .vmovi k d imm g => Sys2Proof.Machine.execVmovi k d imm g s
  | .vaddi k d imm g => Sys2Proof.Machine.execVaddi k d imm g s
  | .vandi k d imm g => Sys2Proof.Machine.execVandi k d imm g s
  | .vori k d imm g => Sys2Proof.Machine.execVori k d imm g s
  | .vins k d a lane => Sys2Proof.Machine.execVins k d a lane s
  | .vext k d a lane => Sys2Proof.Machine.execVext k d a lane s
  | .vextu k d a lane => Sys2Proof.Machine.execVextu k d a lane s
  | .vsplat k d a g => Sys2Proof.Machine.execVsplat k d a g s
  | .vperm k d a b g => Sys2Proof.Machine.execVperm k d a b g s
  | .vsum k d a pg => Sys2Proof.Machine.execVsum k d a pg s
  | .vsumu k d a pg => Sys2Proof.Machine.execVsumu k d a pg s
  | .vmulA k d a b g => Sys2Proof.Machine.execVmulA k d a b g s
  | .vmuluA k d a b g => Sys2Proof.Machine.execVmuluA k d a b g s
  | .vmulsuA k d a b g => Sys2Proof.Machine.execVmulsuA k d a b g s
  | .vmac k d a b g => Sys2Proof.Machine.execVmac k d a b g s
  | .vmacu k d a b g => Sys2Proof.Machine.execVmacu k d a b g s
  | .vmacsu k d a b g => Sys2Proof.Machine.execVmacsu k d a b g s
  | .vmsb k d a b g => Sys2Proof.Machine.execVmsb k d a b g s
  | .vaccSet k d a sh g => Sys2Proof.Machine.execVaccSet k d a sh g s
  | .vaccuSet k d a sh g => Sys2Proof.Machine.execVaccuSet k d a sh g s
  | .vrdS k d a sh g => Sys2Proof.Machine.execVrdS k d a sh g s
  | .vrdU k d a sh g => Sys2Proof.Machine.execVrdU k d a sh g s
  | .vrdW k d a sh g => Sys2Proof.Machine.execVrdW k d a sh g s
  | .vceq k d a b g => Sys2Proof.Machine.execVceq k d a b g s
  | .vcne k d a b g => Sys2Proof.Machine.execVcne k d a b g s
  | .vclt k d a b g => Sys2Proof.Machine.execVclt k d a b g s
  | .vcle k d a b g => Sys2Proof.Machine.execVcle k d a b g s
  | .vcltu k d a b g => Sys2Proof.Machine.execVcltu k d a b g s
  | .vcleu k d a b g => Sys2Proof.Machine.execVcleu k d a b g s
  | .pand k d a b => Sys2Proof.Machine.execPand k d a b s
  | .por k d a b => Sys2Proof.Machine.execPor k d a b s
  | .pxor k d a b => Sys2Proof.Machine.execPxor k d a b s
  | .pandn k d a b => Sys2Proof.Machine.execPandn k d a b s
  | .pnot k d a => Sys2Proof.Machine.execPnot k d a s
  | .pcnt k d a => Sys2Proof.Machine.execPcnt k d a s
  | .pget k d a => Sys2Proof.Machine.execPget k d a s
  | .pset k d a => Sys2Proof.Machine.execPset k d a s
  | .vrcp k d a g => Sys2Proof.Machine.execVrcp k d a g s
  | .vrsqrt k d a g => Sys2Proof.Machine.execVrsqrt k d a g s
  | .vexp2 k d a g => Sys2Proof.Machine.execVexp2 k d a g s
  | .vlog2 k d a g => Sys2Proof.Machine.execVlog2 k d a g s
  | .vlut k d a b sh g => Sys2Proof.Machine.execVlut k d a b sh g s
  | .vlutl k d a b sh g => Sys2Proof.Machine.execVlutl k d a b sh g s
  | .ld k d a sz off => Sys2Proof.Machine.execLd k d a sz off s
  | .ldu k d a sz off => Sys2Proof.Machine.execLdu k d a sz off s
  | .st k d a sz off => Sys2Proof.Machine.execSt k d a sz off s
  | .vld k d a pg off => Sys2Proof.Machine.execVld k d a pg off s
  | .vst k d a pg off => Sys2Proof.Machine.execVst k d a pg off s
  | .vgath k d a b sh g => Sys2Proof.Machine.execVgath k d a b sh g s
  | .vscat k d a b sh pg => Sys2Proof.Machine.execVscat k d a b sh pg s
  | .ewait k d a => Sys2Proof.Machine.execEwait k d a s
  | .ewaitBlocking k d a => Sys2Proof.Machine.execEwaitBlocking k d a s
  | .ewaitWake k => Sys2Proof.Machine.execEwaitWake k s
  | .dpost k a ch => Sys2Proof.Machine.execDpost k a ch s
  | .dpostUnstall k => Sys2Proof.Machine.execDpostUnstall k s
  | .fence k => Sys2Proof.Machine.execFence k s
  | .mbox k a => Sys2Proof.Machine.execMbox k a s
  | .mboxUnstall k => Sys2Proof.Machine.execMboxUnstall k s
  | .mpostMessage k a => Sys2Proof.Machine.execMpostMessage k a s
  | .mpostFault k a => Sys2Proof.Machine.execMpostFault k a s
  | .stat k d => Sys2Proof.Machine.execStat k d s
  | .statclr k => Sys2Proof.Machine.execStatclr k s
  | .cyc k d => Sys2Proof.Machine.execCyc k d s
  | .tbns k d => Sys2Proof.Machine.execTbns k d s
  | .tbep k d => Sys2Proof.Machine.execTbep k d s
  | .eng k d => Sys2Proof.Machine.execEng k d s
  | .nop k => Sys2Proof.Machine.execNop k s
  | .fieldMark field => Sys2Proof.Machine.execFieldMark field s
  | .recordTransmit n eccFail => Sys2Proof.Machine.execRecordTransmit n eccFail s
  | .status n b => Sys2Proof.Machine.execStatus n b s
  | .configData n b => Sys2Proof.Machine.execConfigData n b s
  | .faultMap n b => Sys2Proof.Machine.execFaultMap n b s
  | .discoverReply n b => Sys2Proof.Machine.execDiscoverReply n b s
  | .firmwareAck n b => Sys2Proof.Machine.execFirmwareAck n b s
  | .controlResend n p => Sys2Proof.Machine.execControlResend n p s
  | .requestResend n p => Sys2Proof.Machine.execRequestResend n p s
  | .driverMissing n p => Sys2Proof.Machine.execDriverMissing n p s
  | .returnSilent n => Sys2Proof.Machine.execReturnSilent n s
  | .laneFaultCheck n => Sys2Proof.Machine.execLaneFaultCheck n s
  | .laneStart q n => Sys2Proof.Machine.execLaneStart q n s
  | .laneStartComplete n => Sys2Proof.Machine.execLaneStartComplete n s
  | .laneStop q n => Sys2Proof.Machine.execLaneStop q n s
  | .laneRestart q n => Sys2Proof.Machine.execLaneRestart q n s
  | .laneStopComplete n => Sys2Proof.Machine.execLaneStopComplete n s
  | .laneStatsClear q n => Sys2Proof.Machine.execLaneStatsClear q n s
  | .lanePllUnlock => Sys2Proof.Machine.execLanePllUnlock s
  | .lanePllLock => Sys2Proof.Machine.execLanePllLock s
  | .discoverLane q v => Sys2Proof.Machine.execDiscoverLane q v s
  | .searchWatchEnd n => Sys2Proof.Machine.execSearchWatchEnd n s
  | .driverConfigUpdate n p => Sys2Proof.Machine.execDriverConfigUpdate n p s
  | .storedSceneUpdate n p => Sys2Proof.Machine.execStoredSceneUpdate n p s
  | .faultCellClear q v => Sys2Proof.Machine.execFaultCellClear q v s
  | .descriptorStart c fetch => Sys2Proof.Machine.execDescriptorStart c fetch s
  | .descriptorDone c err => Sys2Proof.Machine.execDescriptorDone c err s
  | .dmaChannelStop q c => Sys2Proof.Machine.execDmaChannelStop q c s
  | .dmaChannelStart q c => Sys2Proof.Machine.execDmaChannelStart q c s
  | .dmaChannelRestart q c => Sys2Proof.Machine.execDmaChannelRestart q c s
  | .dmaStopComplete c => Sys2Proof.Machine.execDmaStopComplete c s
  | .dmaStatsClear q c => Sys2Proof.Machine.execDmaStatsClear q c s
  | .sampleSet codes queueFull => Sys2Proof.Machine.execSampleSet codes queueFull s
  | .pulseStart o => Sys2Proof.Machine.execPulseStart o s
  | .pulseEnd o => Sys2Proof.Machine.execPulseEnd o s
  | .windowEnd => Sys2Proof.Machine.execWindowEnd s
  | .meterStart q => Sys2Proof.Machine.execMeterStart q s
  | .meterStop q => Sys2Proof.Machine.execMeterStop q s
  | .meterRestart q => Sys2Proof.Machine.execMeterRestart q s
  | .offsetCheckDone => Sys2Proof.Machine.execOffsetCheckDone s
  | .calibrate q v => Sys2Proof.Machine.execCalibrate q v s
  | .calibrationDone => Sys2Proof.Machine.execCalibrationDone s
  | .energyReset q => Sys2Proof.Machine.execEnergyReset q s
  | .demandIntervalEnd => Sys2Proof.Machine.execDemandIntervalEnd s
  | .maxClear q => Sys2Proof.Machine.execMaxClear q s
  | .lumEnergyReset q lum => Sys2Proof.Machine.execLumEnergyReset q lum s
  | .ptpSync nif t1 corr => Sys2Proof.Machine.execPtpSync nif t1 corr s
  | .ptpAnnounce nif port a => Sys2Proof.Machine.execPtpAnnounce nif port a s
  | .delayResp nif seq t4 corr => Sys2Proof.Machine.execDelayResp nif seq t4 corr s
  | .ptpInputLost nif => Sys2Proof.Machine.execPtpInputLost nif s
  | .holdoverExpiry n => Sys2Proof.Machine.execHoldoverExpiry n s
  | .fieldBaseReturn => Sys2Proof.Machine.execFieldBaseReturn s
  | .tbSet q n v => Sys2Proof.Machine.execTbSet q n v s
  | .toMode q c v => Sys2Proof.Machine.execToMode q c v s
  | .comparatorFire c => Sys2Proof.Machine.execComparatorFire c s
  | .ppsInCapture => Sys2Proof.Machine.execPpsInCapture s
  | .rtcTime q v => Sys2Proof.Machine.execRtcTime q v s
  | .rtcStep q v => Sys2Proof.Machine.execRtcStep q v s
  | .rtcSecond => Sys2Proof.Machine.execRtcSecond s
  | .offsetChange => Sys2Proof.Machine.execOffsetChange s
  | .leapSecond => Sys2Proof.Machine.execLeapSecond s
  | .calendarSync => Sys2Proof.Machine.execCalendarSync s
  | .trimMeasurement r => Sys2Proof.Machine.execTrimMeasurement r s
  | .oscillatorStopped => Sys2Proof.Machine.execOscillatorStopped s
  | .alarmArm q a => Sys2Proof.Machine.execAlarmArm q a s
  | .alarmDisarm q a => Sys2Proof.Machine.execAlarmDisarm q a s
  | .segmentCycleStart beat0 beat1 => Sys2Proof.Machine.execSegmentCycleStart beat0 beat1 s
  | .windowStart k w free => Sys2Proof.Machine.execWindowStart k w free s
  | .reference k r data => Sys2Proof.Machine.execReference k r data s
  | .missingReference k won => Sys2Proof.Machine.execMissingReference k won s
  | .referenceLost k => Sys2Proof.Machine.execReferenceLost k s
  | .joinTimeout k => Sys2Proof.Machine.execJoinTimeout k s
  | .alarmFrame k z data => Sys2Proof.Machine.execAlarmFrame k z data s
  | .statusFrame k node data => Sys2Proof.Machine.execStatusFrame k node data s
  | .dictFrame k toNode node data => Sys2Proof.Machine.execDictFrame k toNode node data s
  | .floorSegmentTimeout k node tag => Sys2Proof.Machine.execFloorSegmentTimeout k node tag s
  | .errorPassive k tec rec_ => Sys2Proof.Machine.execErrorPassive k tec rec_ s
  | .busOff k => Sys2Proof.Machine.execBusOff k s
  | .busOffRecovery k => Sys2Proof.Machine.execBusOffRecovery k s
  | .matrix q k handle => Sys2Proof.Machine.execMatrix q k handle s
  | .busStatsClear q k => Sys2Proof.Machine.execBusStatsClear q k s
  | .superframeStart => Sys2Proof.Machine.execSuperframeStart s
  | .slotStart slot => Sys2Proof.Machine.execSlotStart slot s
  | .joinRequest ext rx => Sys2Proof.Machine.execJoinRequest ext rx s
  | .report h rx => Sys2Proof.Machine.execReport h rx s
  | .airMdp h rx => Sys2Proof.Machine.execAirMdp h rx s
  | .keepalive h rx => Sys2Proof.Machine.execKeepalive h rx s
  | .leave h rx => Sys2Proof.Machine.execLeave h rx s
  | .enhAck h rx => Sys2Proof.Machine.execEnhAck h rx s
  | .eventMissed h => Sys2Proof.Machine.execEventMissed h s
  | .supervisionLoss h => Sys2Proof.Machine.execSupervisionLoss h s
  | .meshBeacon ext rx => Sys2Proof.Machine.execMeshBeacon ext rx s
  | .flood ext rx => Sys2Proof.Machine.execFlood ext rx s
  | .neighbourExpiry a => Sys2Proof.Machine.execNeighbourExpiry a s
  | .floodExpiry => Sys2Proof.Machine.execFloodExpiry s
  | .channelMap q v => Sys2Proof.Machine.execChannelMap q v s
  | .mapPhase q v => Sys2Proof.Machine.execMapPhase q v s
  | .partnerTable q handle => Sys2Proof.Machine.execPartnerTable q handle s
  | .radioStart q => Sys2Proof.Machine.execRadioStart q s
  | .radioStop q => Sys2Proof.Machine.execRadioStop q s
  | .radioRestart q => Sys2Proof.Machine.execRadioRestart q s
  | .radioStopComplete => Sys2Proof.Machine.execRadioStopComplete s
  | .radioStatsClear q => Sys2Proof.Machine.execRadioStatsClear q s
  | .emgChannelOpen ch => Sys2Proof.Machine.execEmgChannelOpen ch s
  | .emgChannelClosed ch => Sys2Proof.Machine.execEmgChannelClosed ch s
  | .emgDiscrepancy => Sys2Proof.Machine.execEmgDiscrepancy s
  | .emgTestStart q => Sys2Proof.Machine.execEmgTestStart q s
  | .emgTestEnd q => Sys2Proof.Machine.execEmgTestEnd q s
  | .emgTestExpiry => Sys2Proof.Machine.execEmgTestExpiry s
  | .emgCancel q v => Sys2Proof.Machine.execEmgCancel q v s
  | .emgAcknowledge q => Sys2Proof.Machine.execEmgAcknowledge q s
  | .safetyCopy w crcOk => Sys2Proof.Machine.execSafetyCopy w crcOk s
  | .copyCheck ok => Sys2Proof.Machine.execCopyCheck ok s
  | .heartbeatLoss core => Sys2Proof.Machine.execHeartbeatLoss core s
  | .safetyWatchdogExpiry => Sys2Proof.Machine.execSafetyWatchdogExpiry s
  | .lockstepMismatch => Sys2Proof.Machine.execLockstepMismatch s
  | .refLoss => Sys2Proof.Machine.execRefLoss s
  | .systemPllUnlock => Sys2Proof.Machine.execSystemPllUnlock s
  | .groupClear q v => Sys2Proof.Machine.execGroupClear q v s
  | .groupClearComplete g => Sys2Proof.Machine.execGroupClearComplete g s
  | .guardHoldEnd z => Sys2Proof.Machine.execGuardHoldEnd z s
  | .functionTest q => Sys2Proof.Machine.execFunctionTest q s
  | .durationTest q => Sys2Proof.Machine.execDurationTest q s
  | .testAbort q => Sys2Proof.Machine.execTestAbort q s
  | .testSchedule => Sys2Proof.Machine.execTestSchedule s
  | .testEnd => Sys2Proof.Machine.execTestEnd s
  | .faultConditionEnd src => Sys2Proof.Machine.execFaultConditionEnd src s
  | .quietPeriodExpiry src => Sys2Proof.Machine.execQuietPeriodExpiry src s
  | .escalationExpiry src => Sys2Proof.Machine.execEscalationExpiry src s
  | .faultClear q src => Sys2Proof.Machine.execFaultClear q src s
  | .arbGrantRise => Sys2Proof.Machine.execArbGrantRise s
  | .arbGrantFall => Sys2Proof.Machine.execArbGrantFall s
  | .cycleMark cycle valid queueFull m => Sys2Proof.Machine.execCycleMark cycle valid queueFull m s
  | .stateFrame cycle arrival size item => Sys2Proof.Machine.execStateFrame cycle arrival size item s
  | .copyEnd cycle arrival total => Sys2Proof.Machine.execCopyEnd cycle arrival total s
  | .copyApply => Sys2Proof.Machine.execCopyApply s
  | .mirror arrival n rec => Sys2Proof.Machine.execMirror arrival n rec s
  | .stitchLinkDown => Sys2Proof.Machine.execStitchLinkDown s
  | .swap q => Sys2Proof.Machine.execSwap q s
  | .shellImport q v => Sys2Proof.Machine.execShellImport q v s
  | .shellDerive q v => Sys2Proof.Machine.execShellDerive q v s
  | .shellDestroy q shell => Sys2Proof.Machine.execShellDestroy q shell s
  | .shellCheck => Sys2Proof.Machine.execShellCheck s
  | .attestChallenge q v => Sys2Proof.Machine.execAttestChallenge q v s
  | .dbgChallenge => Sys2Proof.Machine.execDbgChallenge s
  | .dbgResponse shell tag => Sys2Proof.Machine.execDbgResponse shell tag s
  | .package q handle => Sys2Proof.Machine.execPackage q handle s
  | .installAtStart q => Sys2Proof.Machine.execInstallAtStart q s
  | .installAndReset q => Sys2Proof.Machine.execInstallAndReset q s
  | .emptyQuire q => Sys2Proof.Machine.execEmptyQuire q s
  | .healthConfirm q => Sys2Proof.Machine.execHealthConfirm q s
  | .autoConfirm => Sys2Proof.Machine.execAutoConfirm s
  | .trialExpiry => Sys2Proof.Machine.execTrialExpiry s
  | .waveStart q => Sys2Proof.Machine.execWaveStart q s
  | .wavePause q => Sys2Proof.Machine.execWavePause q s
  | .waveResume q => Sys2Proof.Machine.execWaveResume q s
  | .waveAbort q => Sys2Proof.Machine.execWaveAbort q s
  | .waveSettle => Sys2Proof.Machine.execWaveSettle s
  | .waveTimeout => Sys2Proof.Machine.execWaveTimeout s
  | .periodEnd => Sys2Proof.Machine.execPeriodEnd s
  | .closeNow q => Sys2Proof.Machine.execCloseNow q s
  | .headerWrite => Sys2Proof.Machine.execHeaderWrite s
  | .headerRebuildDone => Sys2Proof.Machine.execHeaderRebuildDone s
  | .ethernetLinkLoss port => Sys2Proof.Machine.execEthernetLinkLoss port s
  | .radioFault kind => Sys2Proof.Machine.execRadioFault kind s
  | .vafeReturn => Sys2Proof.Machine.execVafeReturn s
  | .delayReqSend nif => Sys2Proof.Machine.execDelayReqSend nif s
  | .swapOverdue => Sys2Proof.Machine.execSwapOverdue s

end Sys2Proof.Machine
end

