-- ==== Sys2Proof/WellFormed.lean ====
section
/-!
DEFINITION. Which commands are well formed: operands that the session numbers, the length fields, the converters and the encodings admit. What a request's
checks turn away (Table 4-5) is well formed: the module answers it.
-/

namespace Sys2Proof

/-- A session number of the model: host, console, an engine, a partner, a node of a floor bus, an Ethernet client. -/
def sidOk (sid : Nat) : Bool :=
  sid < 2 || (0x100 ≤ sid && sid < 0x110) || (0x1000 ≤ sid && sid < 0x1400) || (0x2000 ≤ sid && sid < 0x2080 && sid % 64 < 32) || 0x10000 ≤ sid

/-- A requester is a session. -/
def Req.ok (q : Req) : Bool := sidOk q.sid

/-- A value's length fits its u16 (Table 5-3). -/
def valueOk (v : Bytes) : Bool := v.length < 65536

/-- A write of a WRITE_MULTI. -/
def Item.ok (i : Item) : Bool := valueOk i.value

/-- The argument of BLOCK_DATA. -/
def BlockArg.ok : BlockArg → Bool
  | .write v => valueOk v
  | .read _ => true

/-- The operations of MDP. -/
def MdpOp.ok : MdpOp → Bool
  | .read _ => true
  | .write _ v => valueOk v
  | .readMulti _ => true
  | .writeMulti is => is.all Item.ok
  | .blockBegin _ _ _ _ => true
  | .blockData _ _ a => a.ok
  | .blockEnd _ => true
  | .subscribe _ _ _ => true
  | .command _ v => valueOk v
  | .authBegin _ => true
  | .authProve _ => true
  | .close => true
  | .other _ _ => true
  | .malformed _ _ => true

/-- A sample set: eleven codes of 24 bits (R285, R286). -/
def sampleOk (codes : List Int) : Bool := codes.length == 11 && codes.all fun c => decide (-8388608 ≤ c) && decide (c ≤ 8388607)

/-- A CAN FD data field holds at most 64 bytes. -/
def canOk (data : Bytes) : Bool := data.length ≤ 64

/-- An Ethernet session's number. -/
def Datagram.ok : Datagram → Bool
  | .lost => true
  | .handshake hs => decide (0x10000 ≤ hs.sid)
  | .record sid _ => decide (0x10000 ≤ sid)

/-- A radio frame's security level is a field of three bits. -/
def AirRx.ok (r : AirRx) : Bool := r.level.toNat < 8

/-- Whether a command is well formed. -/
def WellFormed (c : Instr) : Bool :=
  match c with
  | .powerOnReset => true
  | .brownOutReset => true
  | .externalReset _ => true
  | .backupDomainLoss => true
  | .resetRelease _ => true
  | .powerFailWarning => true
  | .warningCleared => true
  | .vafeOutOfRange => true
  | .moduleOverTemperature => true
  | .faultNMismatch => true
  | .gpioMode q _ v => q.ok && valueOk v
  | .gpioLevelChange _ _ => true
  | .relaySample _ _ => true
  | .ntcConversion _ _ => true
  | .hostSpiTransaction _ => true
  | .consoleLine _ => true
  | .startStep _ => true
  | .startStepTimeout _ => true
  | .restart q => q.ok
  | .restartSafe q => q.ok
  | .moduleReset => true
  | .bookmarkClear q => q.ok
  | .read q _ => q.ok
  | .write q _ v => q.ok && valueOk v
  | .readMulti q _ => q.ok
  | .writeMulti q items => q.ok && items.all Item.ok
  | .blockBeginRead q _ => q.ok
  | .blockBeginWrite q _ _ _ => q.ok
  | .blockData q _ _ arg => q.ok && arg.ok
  | .blockEnd q _ => q.ok
  | .transferTimeout sid _ => sidOk sid
  | .zoneMap q _ => q.ok
  | .calibration q _ => q.ok
  | .imageLoad q _ => q.ok
  | .storeReset q => q.ok
  | .subscribeOnChange q _ _ => q.ok
  | .subscribePeriodic q _ _ => q.ok
  | .subscribeCancel q _ => q.ok
  | .notifyOnChange _ => true
  | .notifyPeriodic _ => true
  | .authBegin q _ => q.ok
  | .authProve q _ => q.ok
  | .authLockoutEnd _ => true
  | .close q => q.ok
  | .dtlsHandshake d => d.ok
  | .sessionTimeout sid => sidOk sid
  | .mdpEthEnable q v => q.ok && valueOk v
  | .proxy q p => q.ok && p.inner.ok
  | .proxyRetry _ => true
  | .proxyResponse _ _ => true
  | .proxyTimeout _ => true
  | .zoneTarget q _ v => q.ok && valueOk v
  | .sceneRecall q v => q.ok && valueOk v
  | .groupTarget q v => q.ok && valueOk v
  | .groupRelease q v => q.ok && valueOk v
  | .targetSkipsClear q => q.ok
  | .burnReset q _ => q.ok
  | .areaVacant _ => true
  | .leadHoldEnd _ => true
  | .tickStart => true
  | .engineOverrun _ => true
  | .inputChangeApplied => true
  | .programSet q _ => q.ok
  | .engineLoaded _ => true
  | .engineStop q _ => q.ok
  | .engineStart q _ => q.ok
  | .engineRestart q _ => q.ok
  | .engineStopComplete _ => true
  | .engineStatsClear q _ => q.ok
  | .repartition q => q.ok
  | .mailboxResponse _ => true
  | .add _ _ _ _ => true
  | .sub _ _ _ _ => true
  | .and _ _ _ _ => true
  | .or _ _ _ _ => true
  | .xor _ _ _ _ => true
  | .sll _ _ _ _ => true
  | .srl _ _ _ _ => true
  | .sra _ _ _ _ => true
  | .mul _ _ _ _ => true
  | .mulh _ _ _ _ => true
  | .mulhu _ _ _ _ => true
  | .slt _ _ _ _ => true
  | .sltu _ _ _ _ => true
  | .min _ _ _ _ => true
  | .max _ _ _ _ => true
  | .minu _ _ _ _ => true
  | .maxu _ _ _ _ => true
  | .adds _ _ _ _ => true
  | .subs _ _ _ _ => true
  | .clz _ _ _ => true
  | .addi _ _ _ _ => true
  | .andi _ _ _ _ => true
  | .ori _ _ _ _ => true
  | .xori _ _ _ _ => true
  | .slli _ _ _ _ => true
  | .srli _ _ _ _ => true
  | .srai _ _ _ _ => true
  | .slti _ _ _ _ => true
  | .sltiu _ _ _ _ => true
  | .lui _ _ _ => true
  | .beq _ _ _ _ => true
  | .bne _ _ _ _ => true
  | .blt _ _ _ _ => true
  | .bge _ _ _ _ => true
  | .bltu _ _ _ _ => true
  | .bgeu _ _ _ _ => true
  | .jmp _ _ => true
  | .jal _ _ _ => true
  | .jr _ _ => true
  | .loop _ _ _ len => (len != 0)
  | .loopEnd _ _ => true
  | .vadd _ _ _ _ _ => true
  | .vadds _ _ _ _ _ => true
  | .vaddus _ _ _ _ _ => true
  | .vsub _ _ _ _ _ => true
  | .vsubs _ _ _ _ _ => true
  | .vsubus _ _ _ _ _ => true
  | .vand _ _ _ _ _ => true
  | .vor _ _ _ _ _ => true
  | .vxor _ _ _ _ _ => true
  | .vandn _ _ _ _ _ => true
  | .vsll _ _ _ _ _ => true
  | .vsrl _ _ _ _ _ => true
  | .vsra _ _ _ _ _ => true
  | .vslli _ _ _ _ _ => true
  | .vsrli _ _ _ _ _ => true
  | .vsrai _ _ _ _ _ => true
  | .vrsrai _ _ _ _ _ => true
  | .vmul _ _ _ _ _ => true
  | .vmulq _ _ _ _ _ _ => true
  | .vmulqu _ _ _ _ _ _ => true
  | .vmulqsu _ _ _ _ _ _ => true
  | .vmulhu _ _ _ _ _ => true
  | .vmin _ _ _ _ _ => true
  | .vmax _ _ _ _ _ => true
  | .vminu _ _ _ _ _ => true
  | .vmaxu _ _ _ _ _ => true
  | .vabs _ _ _ _ => true
  | .vclz _ _ _ _ => true
  | .vmov _ _ _ _ => true
  | .vavgu _ _ _ _ _ => true
  | .vsel _ _ _ _ _ => true
  | .vmovi _ _ _ _ => true
  | .vaddi _ _ _ _ => true
  | .vandi _ _ _ _ => true
  | .vori _ _ _ _ => true
  | .vins _ _ _ _ => true
  | .vext _ _ _ _ => true
  | .vextu _ _ _ _ => true
  | .vsplat _ _ _ _ => true
  | .vperm _ _ _ _ _ => true
  | .vsum _ _ _ _ => true
  | .vsumu _ _ _ _ => true
  | .vmulA _ _ _ _ _ => true
  | .vmuluA _ _ _ _ _ => true
  | .vmulsuA _ _ _ _ _ => true
  | .vmac _ _ _ _ _ => true
  | .vmacu _ _ _ _ _ => true
  | .vmacsu _ _ _ _ _ => true
  | .vmsb _ _ _ _ _ => true
  | .vaccSet _ _ _ _ _ => true
  | .vaccuSet _ _ _ _ _ => true
  | .vrdS _ _ _ _ _ => true
  | .vrdU _ _ _ _ _ => true
  | .vrdW _ _ _ _ _ => true
  | .vceq _ _ _ _ _ => true
  | .vcne _ _ _ _ _ => true
  | .vclt _ _ _ _ _ => true
  | .vcle _ _ _ _ _ => true
  | .vcltu _ _ _ _ _ => true
  | .vcleu _ _ _ _ _ => true
  | .pand _ _ _ _ => true
  | .por _ _ _ _ => true
  | .pxor _ _ _ _ => true
  | .pandn _ _ _ _ => true
  | .pnot _ _ _ => true
  | .pcnt _ _ _ => true
  | .pget _ _ _ => true
  | .pset _ _ _ => true
  | .vrcp _ _ _ _ => true
  | .vrsqrt _ _ _ _ => true
  | .vexp2 _ _ _ _ => true
  | .vlog2 _ _ _ _ => true
  | .vlut _ _ _ _ _ _ => true
  | .vlutl _ _ _ _ _ _ => true
  | .ld _ _ _ _ _ => true
  | .ldu _ _ _ _ _ => true
  | .st _ _ _ _ _ => true
  | .vld _ _ _ _ _ => true
  | .vst _ _ _ _ _ => true
  | .vgath _ _ _ _ _ _ => true
  | .vscat _ _ _ _ _ _ => true
  | .ewait _ _ _ => true
  | .ewaitBlocking _ _ _ => true
  | .ewaitWake _ => true
  | .dpost _ _ _ => true
  | .dpostUnstall _ => true
  | .fence _ => true
  | .mbox _ _ => true
  | .mboxUnstall _ => true
  | .mpostMessage _ _ => true
  | .mpostFault _ _ => true
  | .stat _ _ => true
  | .statclr _ => true
  | .cyc _ _ => true
  | .tbns _ _ => true
  | .tbep _ _ => true
  | .eng _ _ => true
  | .nop _ => true
  | .fieldMark _ => true
  | .recordTransmit _ _ => true
  | .status _ _ => true
  | .configData _ _ => true
  | .faultMap _ _ => true
  | .discoverReply _ _ => true
  | .firmwareAck _ _ => true
  | .controlResend _ _ => true
  | .requestResend _ _ => true
  | .driverMissing _ _ => true
  | .returnSilent _ => true
  | .laneFaultCheck _ => true
  | .laneStart q _ => q.ok
  | .laneStartComplete _ => true
  | .laneStop q _ => q.ok
  | .laneRestart q _ => q.ok
  | .laneStopComplete _ => true
  | .laneStatsClear q _ => q.ok
  | .lanePllUnlock => true
  | .lanePllLock => true
  | .discoverLane q v => q.ok && valueOk v
  | .searchWatchEnd _ => true
  | .driverConfigUpdate _ _ => true
  | .storedSceneUpdate _ _ => true
  | .faultCellClear q v => q.ok && valueOk v
  | .descriptorStart _ _ => true
  | .descriptorDone _ _ => true
  | .dmaChannelStop q _ => q.ok
  | .dmaChannelStart q _ => q.ok
  | .dmaChannelRestart q _ => q.ok
  | .dmaStopComplete _ => true
  | .dmaStatsClear q _ => q.ok
  | .sampleSet codes _ => sampleOk codes
  | .pulseStart _ => true
  | .pulseEnd _ => true
  | .windowEnd => true
  | .meterStart q => q.ok
  | .meterStop q => q.ok
  | .meterRestart q => q.ok
  | .offsetCheckDone => true
  | .calibrate q v => q.ok && valueOk v
  | .calibrationDone => true
  | .energyReset q => q.ok
  | .demandIntervalEnd => true
  | .maxClear q => q.ok
  | .lumEnergyReset q _ => q.ok
  | .ptpSync _ _ _ => true
  | .ptpAnnounce _ _ _ => true
  | .delayResp _ _ _ _ => true
  | .ptpInputLost _ => true
  | .holdoverExpiry _ => true
  | .fieldBaseReturn => true
  | .tbSet q _ v => q.ok && valueOk v
  | .toMode q _ v => q.ok && valueOk v
  | .comparatorFire _ => true
  | .ppsInCapture => true
  | .rtcTime q v => q.ok && valueOk v
  | .rtcStep q v => q.ok && valueOk v
  | .rtcSecond => true
  | .offsetChange => true
  | .leapSecond => true
  | .calendarSync => true
  | .trimMeasurement _ => true
  | .oscillatorStopped => true
  | .alarmArm q _ => q.ok
  | .alarmDisarm q _ => q.ok
  | .segmentCycleStart _ _ => true
  | .windowStart _ _ _ => true
  | .reference _ _ data => canOk data
  | .missingReference _ _ => true
  | .referenceLost _ => true
  | .joinTimeout _ => true
  | .alarmFrame _ _ data => canOk data
  | .statusFrame _ _ data => canOk data
  | .dictFrame _ _ _ data => canOk data
  | .floorSegmentTimeout _ _ _ => true
  | .errorPassive _ _ _ => true
  | .busOff _ => true
  | .busOffRecovery _ => true
  | .matrix q _ _ => q.ok
  | .busStatsClear q _ => q.ok
  | .superframeStart => true
  | .slotStart _ => true
  | .joinRequest _ rx => rx.ok
  | .report _ rx => rx.ok
  | .airMdp _ rx => rx.ok
  | .keepalive _ rx => rx.ok
  | .leave _ rx => rx.ok
  | .enhAck _ rx => rx.ok
  | .eventMissed _ => true
  | .supervisionLoss _ => true
  | .meshBeacon _ rx => rx.ok
  | .flood _ rx => rx.ok
  | .neighbourExpiry _ => true
  | .floodExpiry => true
  | .channelMap q v => q.ok && valueOk v
  | .mapPhase q v => q.ok && valueOk v
  | .partnerTable q _ => q.ok
  | .radioStart q => q.ok
  | .radioStop q => q.ok
  | .radioRestart q => q.ok
  | .radioStopComplete => true
  | .radioStatsClear q => q.ok
  | .emgChannelOpen _ => true
  | .emgChannelClosed _ => true
  | .emgDiscrepancy => true
  | .emgTestStart q => q.ok
  | .emgTestEnd q => q.ok
  | .emgTestExpiry => true
  | .emgCancel q v => q.ok && valueOk v
  | .emgAcknowledge q => q.ok
  | .safetyCopy _ _ => true
  | .copyCheck _ => true
  | .heartbeatLoss _ => true
  | .safetyWatchdogExpiry => true
  | .lockstepMismatch => true
  | .refLoss => true
  | .systemPllUnlock => true
  | .groupClear q v => q.ok && valueOk v
  | .groupClearComplete _ => true
  | .guardHoldEnd _ => true
  | .functionTest q => q.ok
  | .durationTest q => q.ok
  | .testAbort q => q.ok
  | .testSchedule => true
  | .testEnd => true
  | .faultConditionEnd _ => true
  | .quietPeriodExpiry _ => true
  | .escalationExpiry _ => true
  | .faultClear q _ => q.ok
  | .arbGrantRise => true
  | .arbGrantFall => true
  | .cycleMark _ _ _ _ => true
  | .stateFrame _ _ _ _ => true
  | .copyEnd _ _ _ => true
  | .copyApply => true
  | .mirror _ _ _ => true
  | .stitchLinkDown => true
  | .swap q => q.ok
  | .shellImport q v => q.ok && valueOk v
  | .shellDerive q v => q.ok && valueOk v
  | .shellDestroy q _ => q.ok
  | .shellCheck => true
  | .attestChallenge q v => q.ok && valueOk v
  | .dbgChallenge => true
  | .dbgResponse _ tag => (tag.length == 16)
  | .package q _ => q.ok
  | .installAtStart q => q.ok
  | .installAndReset q => q.ok
  | .emptyQuire q => q.ok
  | .healthConfirm q => q.ok
  | .autoConfirm => true
  | .trialExpiry => true
  | .waveStart q => q.ok
  | .wavePause q => q.ok
  | .waveResume q => q.ok
  | .waveAbort q => q.ok
  | .waveSettle => true
  | .waveTimeout => true
  | .periodEnd => true
  | .closeNow q => q.ok
  | .headerWrite => true
  | .headerRebuildDone => true
  | .ethernetLinkLoss _ => true
  | .radioFault _ => true
  | .vafeReturn => true
  | .delayReqSend _ => true
  | .swapOverdue => true

end Sys2Proof
end

