-- ==== Sys2Proof/Safety.lean ====
section
/-!
DEFINITION. What counts as a safe run: the step goes on, and memory keeps its canonical form.
-/

namespace Sys2Proof.Machine

/-- The form that memory keeps: strictly rising addresses, no entry equal to what an unlisted address reads as. -/
def MemoryOk (s : State) : Prop := Memory.wf s.mem = true

/-- A command that is well formed where it acts: its operands are (WellFormed), and a branch, jump or loop stays in its engine's code image (R188), as
the loading of a program has checked (R169). -/
def Legal (c : Instr) (s : State) : Prop := WellFormed c = true ∧ exec c s ≠ .refused .illegalEncoding

/-- A safe step: the machine goes on, in a state whose memory is in canonical form. -/
def SafeStep (s : State) : Prop := ∃ t, step s = .next t ∧ MemoryOk t

end Sys2Proof.Machine
end

