-- ==== Sys2Proof/Certificates/Slice0/Obligations.lean ====
section
/-!
DEFINITION. What the provers are asked: statements about the commands, one `Obligations.<Name>` each, with the vocabulary they share. A statement about
an engine instruction assumes that the engine executes it (`issues`: in its tick, not stalled, its program counter inside the code); a
statement about a request assumes that the server accepts it.
-/

open Sys2Proof Sys2Proof.Machine

namespace Sys2Proof.Claim

/-! ### Vocabulary -/

/-- A command answers the next state `t`. -/
def Goes (c : Instr) (s t : State) : Prop := exec c s = .next t

/-- Everything but the engines stands, and of the engines everything but engine `k`. -/
def OnlyEngine (s t : State) (k : Nat) : Prop :=
  { t with engines := s.engines } = s ∧ { t.engines with list := s.engines.list } = s.engines ∧ ∀ j, j ≠ k → engine t j = engine s j

/-- Everything but memory and the engines stands, and of the engines everything but engine `k`. -/
def OnlyEngineAndMemory (s t : State) (k : Nat) : Prop :=
  { t with engines := s.engines, mem := s.mem } = s ∧ { t.engines with list := s.engines.list } = s.engines ∧
    ∀ j, j ≠ k → engine t j = engine s j

/-- The program counter and the loop units stand where the end of an instruction puts them (R194). -/
def Advanced (e f : Engine) : Prop := f.pc = (advance e).pc ∧ f.lu0 = (advance e).lu0 ∧ f.lu1 = (advance e).lu1

/-- What a register names reads as after a write of `w` to scalar register `d`: S0 reads 0 and takes no write (R185). -/
def ScalarWritten (e f : Engine) (d : Nat) (w : Word) : Prop :=
  ∀ r, sReg f r = if r = 0 then 0 else if r = d then w else sReg e r

/-- An instruction that writes scalar register `d` with `w`, sets `flags` in ESTAT, and changes nothing else. -/
def ScalarDone (s t : State) (k d : Nat) (w flags : Word) : Prop :=
  OnlyEngine s t k ∧ Advanced (engine s k) (engine t k) ∧ ScalarWritten (engine s k) (engine t k) d w ∧
    (engine t k).estat = (engine s k).estat ||| flags ∧
    { engine t k with s := (engine s k).s, estat := (engine s k).estat, pc := (engine s k).pc,
                      lu0 := (engine s k).lu0, lu1 := (engine s k).lu1 } = engine s k

/-- A truth value as a 32-bit word. -/
def one (p : Prop) [Decidable p] : Word := if p then 1 else 0

/-- x / 2ⁿ rounded to nearest, ties away from zero (R125). -/
def nearest (x : Int) (n : Nat) : Int :=
  if 0 ≤ x then (2 * x + 2 ^ n) / 2 ^ (n + 1) else -((2 * (-x) + 2 ^ n) / 2 ^ (n + 1))

/-- A value saturated to a range, in 16 bits, and whether it lay outside. -/
def saturated (lo hi x : Int) : Half × Bool := (BitVec.ofInt 16 (max lo (min hi x)), decide (x < lo ∨ hi < x))

/-- The sum of a function over the active lanes. -/
def sumLanes (e : Engine) (pg : Nat) (f : Nat → Int) : Int := (((List.range 8).filter (laneOn e pg)).map f).sum

end Sys2Proof.Claim

open Sys2Proof.Claim

/-! ## The kernel engines' instructions (chapter 08) -/

namespace Sys2Proof.Claim

/-- The instructions with a scalar result and no flag, each with its value (R191, R192, R196, R198, R208). -/
def scalarForms (s : State) (k d a b : Fin 16) (imm : BitVec 18) (hi : BitVec 22) (sh : Fin 32) (lane p : Fin 8) : List (Instr × Word) :=
  let e := engine s k
  let x := sReg e a
  let y := sReg e b
  [ (.add k d a b, BitVec.ofInt 32 (x.toInt + y.toInt)),
    (.sub k d a b, BitVec.ofInt 32 (x.toInt - y.toInt)),
    (.and k d a b, x &&& y),
    (.or k d a b, x ||| y),
    (.xor k d a b, x ^^^ y),
    (.sll k d a b, BitVec.ofNat 32 (x.toNat * 2 ^ (y.toNat % 32))),
    (.srl k d a b, BitVec.ofNat 32 (x.toNat / 2 ^ (y.toNat % 32))),
    (.sra k d a b, BitVec.ofInt 32 (x.toInt / 2 ^ (y.toNat % 32))),
    (.mul k d a b, BitVec.ofInt 32 (x.toInt * y.toInt)),
    (.mulh k d a b, BitVec.ofInt 32 (x.toInt * y.toInt / 2 ^ 32)),
    (.mulhu k d a b, BitVec.ofNat 32 (x.toNat * y.toNat / 2 ^ 32)),
    (.slt k d a b, one (x.toInt < y.toInt)),
    (.sltu k d a b, one (x.toNat < y.toNat)),
    (.min k d a b, BitVec.ofInt 32 (min x.toInt y.toInt)),
    (.max k d a b, BitVec.ofInt 32 (max x.toInt y.toInt)),
    (.minu k d a b, BitVec.ofNat 32 (min x.toNat y.toNat)),
    (.maxu k d a b, BitVec.ofNat 32 (max x.toNat y.toNat)),
    (.clz k d a, BitVec.ofNat 32 ((List.range 32).countP fun i => x.toNat < 2 ^ (31 - i))),
    (.addi k d a imm, BitVec.ofInt 32 (x.toInt + imm.toInt)),
    (.andi k d a imm, x &&& BitVec.ofNat 32 imm.toNat),
    (.ori k d a imm, x ||| BitVec.ofNat 32 imm.toNat),
    (.xori k d a imm, x ^^^ BitVec.ofNat 32 imm.toNat),
    (.slli k d a sh, BitVec.ofNat 32 (x.toNat * 2 ^ sh.val)),
    (.srli k d a sh, BitVec.ofNat 32 (x.toNat / 2 ^ sh.val)),
    (.srai k d a sh, BitVec.ofInt 32 (x.toInt / 2 ^ sh.val)),
    (.slti k d a imm, one (x.toInt < imm.toInt)),
    (.sltiu k d a imm, one (x.toNat < (BitVec.ofInt 32 imm.toInt).toNat)),
    (.lui k d hi, BitVec.ofNat 32 (hi.toNat * 1024)),
    (.vext k d a lane, BitVec.ofInt 32 (vLane e a lane).toInt),
    (.vextu k d a lane, BitVec.ofNat 32 (vLane e a lane).toNat),
    (.vsum k d a p, BitVec.ofInt 32 (sumLanes e p fun i => (vLane e a i).toInt)),
    (.vsumu k d a p, BitVec.ofInt 32 (sumLanes e p fun i => (vLane e a i).toNat)),
    (.pcnt k d p, BitVec.ofNat 32 ((List.range 8).countP fun i => (pReg e p).getLsbD i)),
    (.pget k d p, BitVec.ofNat 32 (pReg e p).toNat),
    (.stat k d, e.estat),
    (.cyc k d, BitVec.ofNat 32 (min (2 ^ 32 - 1) (4 * (s.clk - e.tickAt)))),
    (.tbns k d, BitVec.ofNat 32 (fieldStamp s).1),
    (.tbep k d, BitVec.ofNat 32 (fieldStamp s).2),
    (.eng k d, BitVec.ofNat 32 k.val) ]

/-- The saturating scalar instructions, each with its exact result (R191). -/
def saturatingForms (s : State) (k d a b : Fin 16) : List (Instr × Int) :=
  [ (.adds k d a b, (sReg (engine s k) a).toInt + (sReg (engine s k) b).toInt),
    (.subs k d a b, (sReg (engine s k) a).toInt - (sReg (engine s k) b).toInt) ]

/-- The conditional branches, each with its condition (R193). -/
def branchForms (s : State) (k a b : Fin 16) (off : BitVec 18) : List (Instr × Bool) :=
  let x := sReg (engine s k) a
  let y := sReg (engine s k) b
  [ (.beq k a b off, x == y),
    (.bne k a b off, x != y),
    (.blt k a b off, decide (x.toInt < y.toInt)),
    (.bge k a b off, decide (y.toInt ≤ x.toInt)),
    (.bltu k a b off, decide (x.toNat < y.toNat)),
    (.bgeu k a b off, decide (y.toNat ≤ x.toNat)) ]

/-- A jump of engine `k` to `target`: each loop unit whose body does not hold the target is left inactive (R194); scalar register `d` may be
linked to `w`; nothing else changes. -/
def Jumped (s t : State) (k d : Nat) (w : Word) (target : Nat) : Prop :=
  let e := engine s k
  let f := engine t k
  OnlyEngine s t k ∧ ScalarWritten e f d w ∧ f.pc = target ∧
    (∀ u v, (u, v) ∈ [(e.lu0, f.lu0), (e.lu1, f.lu1)] →
      v = { u with active := u.active && (decide (u.start ≤ target) && decide (target ≤ u.last)) }) ∧
    { f with s := e.s, pc := e.pc, lu0 := e.lu0, lu1 := e.lu1 } = e

/-- A predicated vector result (R189, R190): in V[D] an active lane takes its value, an inactive one 0 or what it held; a clamp in an active lane sets
VSAT; nothing else changes. -/
def VectorDone (s t : State) (k d : Nat) (g : Pred) (f : Nat → Half × Bool) : Prop :=
  let e := engine s k
  let h := engine t k
  OnlyEngine s t k ∧ Advanced e h ∧
    (∀ r i, i < 8 → vLane h r i =
      if r = d then (if laneOn e g.pg i then (f i).1 else if g.pz then 0 else vLane e d i) else vLane e r i) ∧
    h.estat = e.estat ||| (if (List.range 8).any (fun i => laneOn e g.pg i && (f i).2) then 2 else 0) ∧
    { h with v := e.v, estat := e.estat, pc := e.pc, lu0 := e.lu0, lu1 := e.lu1 } = e

/-- A lane value that never clamps. -/
def exact (x : Int) : Half × Bool := (BitVec.ofInt 16 x, false)

/-- The vector instructions whose second operand is a vector or a scalar in every lane, with each lane's value and whether it was clamped (R195). -/
def vectorForms (s : State) (k d a : Fin 16) (b : VB) (sh : Fin 32) (g : Pred) : List (Instr × (Nat → Half × Bool)) :=
  let e := engine s k
  let us := fun i => ((vLane e a i).toNat : Int)
  let ss := fun i => (vLane e a i).toInt
  let ub := fun i => ((vbLane e b i).toNat : Int)
  let sb := fun i => (vbLane e b i).toInt
  [ (.vadd k d a b g, fun i => exact (us i + ub i)),
    (.vadds k d a b g, fun i => saturated (-32768) 32767 (ss i + sb i)),
    (.vaddus k d a b g, fun i => saturated 0 65535 (us i + ub i)),
    (.vsub k d a b g, fun i => exact (us i - ub i)),
    (.vsubs k d a b g, fun i => saturated (-32768) 32767 (ss i - sb i)),
    (.vsubus k d a b g, fun i => saturated 0 65535 (us i - ub i)),
    (.vand k d a b g, fun i => (vLane e a i &&& vbLane e b i, false)),
    (.vor k d a b g, fun i => (vLane e a i ||| vbLane e b i, false)),
    (.vxor k d a b g, fun i => (vLane e a i ^^^ vbLane e b i, false)),
    (.vandn k d a b g, fun i => (vLane e a i &&& ~~~ vbLane e b i, false)),
    (.vsll k d a b g, fun i => exact (us i * 2 ^ ((vbLane e b i).toNat % 16))),
    (.vsrl k d a b g, fun i => exact (us i / 2 ^ ((vbLane e b i).toNat % 16))),
    (.vsra k d a b g, fun i => exact (ss i / 2 ^ ((vbLane e b i).toNat % 16))),
    (.vmul k d a b g, fun i => exact (us i * ub i)),
    (.vmulq k d a b sh g, fun i => saturated (-32768) 32767 (nearest (ss i * sb i) sh)),
    (.vmulqu k d a b sh g, fun i => saturated 0 65535 (nearest (us i * ub i) sh)),
    (.vmulqsu k d a b sh g, fun i => saturated (-32768) 32767 (nearest (ss i * ub i) sh)),
    (.vmulhu k d a b g, fun i => exact (us i * ub i / 65536)),
    (.vmin k d a b g, fun i => exact (min (ss i) (sb i))),
    (.vmax k d a b g, fun i => exact (max (ss i) (sb i))),
    (.vminu k d a b g, fun i => exact (min (us i) (ub i))),
    (.vmaxu k d a b g, fun i => exact (max (us i) (ub i))),
    (.vavgu k d a b g, fun i => exact ((us i + ub i + 1) / 2)) ]

/-- The vector instructions with one vector source, an immediate, a scalar or an accumulator, likewise (R195 to R197). -/
def laneForms (s : State) (k d a b : Fin 16) (acc : Fin 4) (imm : Half) (n : Fin 16) (sh : Fin 32) (g : Pred) :
    List (Instr × (Nat → Half × Bool)) :=
  let e := engine s k
  let us := fun i => ((vLane e a i).toNat : Int)
  let ss := fun i => (vLane e a i).toInt
  [ (.vslli k d a n g, fun i => exact (us i * 2 ^ n.val)),
    (.vsrli k d a n g, fun i => exact (us i / 2 ^ n.val)),
    (.vsrai k d a n g, fun i => exact (ss i / 2 ^ n.val)),
    (.vrsrai k d a n g, fun i => exact (nearest (ss i) n)),
    (.vabs k d a g, fun i => saturated (-32768) 32767 (max (ss i) (-(ss i)))),
    (.vclz k d a g, fun i => (BitVec.ofNat 16 ((List.range 16).countP fun j => (vLane e a i).toNat < 2 ^ (15 - j)), false)),
    (.vmov k d a g, fun i => (vLane e a i, false)),
    (.vmovi k d imm g, fun _ => (imm, false)),
    (.vaddi k d imm g, fun i => exact ((vLane e d i).toNat + imm.toNat)),
    (.vandi k d imm g, fun i => (vLane e d i &&& imm, false)),
    (.vori k d imm g, fun i => (vLane e d i ||| imm, false)),
    (.vsplat k d a g, fun _ => exact ((sReg e a).toNat : Int)),
    (.vperm k d a b g, fun i => (vLane e a ((vLane e b i).toNat % 8), false)),
    (.vrdS k d acc sh g, fun i => saturated (-32768) 32767 (nearest (aLane e acc i) sh)),
    (.vrdU k d acc sh g, fun i => saturated 0 65535 (nearest (aLane e acc i) sh)),
    (.vrdW k d acc sh g, fun i => exact (nearest (aLane e acc i) sh)) ]

/-- The accumulator instructions with each lane's exact value (R197). -/
def accForms (s : State) (k : Fin 16) (d : Fin 4) (a b : Fin 16) (sh : Fin 24) (g : Pred) : List (Instr × (Nat → Int)) :=
  let e := engine s k
  let ua := fun i => ((vLane e a i).toNat : Int)
  let sa := fun i => (vLane e a i).toInt
  let ub := fun i => ((vLane e b i).toNat : Int)
  let sb := fun i => (vLane e b i).toInt
  let acc := fun i => aLane e d i
  [ (.vmulA k d a b g, fun i => sa i * sb i),
    (.vmuluA k d a b g, fun i => ua i * ub i),
    (.vmulsuA k d a b g, fun i => sa i * ub i),
    (.vmac k d a b g, fun i => acc i + sa i * sb i),
    (.vmacu k d a b g, fun i => acc i + ua i * ub i),
    (.vmacsu k d a b g, fun i => acc i + sa i * ub i),
    (.vmsb k d a b g, fun i => acc i - sa i * sb i),
    (.vaccSet k d a sh g, fun i => sa i * 2 ^ sh.val),
    (.vaccuSet k d a sh g, fun i => ua i * 2 ^ sh.val) ]

/-- A predicated accumulator result (R189, R197): an active lane takes the value clamped to signed 40 bits, and a clamp sets ASAT. -/
def AccDone (s t : State) (k d : Nat) (g : Pred) (f : Nat → Int) : Prop :=
  let e := engine s k
  let h := engine t k
  OnlyEngine s t k ∧ Advanced e h ∧
    (∀ r i, i < 8 → aLane h r i =
      if r = d then (if laneOn e g.pg i then max (-549755813888) (min 549755813887 (f i)) else if g.pz then 0 else aLane e d i)
      else aLane e r i) ∧
    h.estat = e.estat ||| (if (List.range 8).any (fun i => laneOn e g.pg i && (decide (f i < -549755813888) || decide (549755813887 < f i)))
      then 4 else 0) ∧
    { h with a := e.a, estat := e.estat, pc := e.pc, lu0 := e.lu0, lu1 := e.lu1 } = e

/-- A write of predicate register `d`, bit by bit: P0 reads 0xFF and takes no write (R185); nothing else changes. -/
def PredDone (s t : State) (k d : Nat) (f : Nat → Bool) : Prop :=
  let e := engine s k
  let h := engine t k
  OnlyEngine s t k ∧ Advanced e h ∧
    (∀ r i, i < 8 → (pReg h r).getLsbD i = if r = 0 then true else if r = d then f i else (pReg e r).getLsbD i) ∧
    { h with p := e.p, pc := e.pc, lu0 := e.lu0, lu1 := e.lu1 } = e

/-- The compares with each lane's outcome (R198). -/
def compareForms (s : State) (k : Fin 16) (d : Fin 8) (a : Fin 16) (b : VB) (g : Pred) : List (Instr × (Nat → Bool)) :=
  let e := engine s k
  [ (.vceq k d a b g, fun i => vLane e a i == vbLane e b i),
    (.vcne k d a b g, fun i => vLane e a i != vbLane e b i),
    (.vclt k d a b g, fun i => decide ((vLane e a i).toInt < (vbLane e b i).toInt)),
    (.vcle k d a b g, fun i => decide ((vLane e a i).toInt ≤ (vbLane e b i).toInt)),
    (.vcltu k d a b g, fun i => decide ((vLane e a i).toNat < (vbLane e b i).toNat)),
    (.vcleu k d a b g, fun i => decide ((vLane e a i).toNat ≤ (vbLane e b i).toNat)) ]

/-- The predicate instructions with each bit (R198). -/
def predForms (s : State) (k : Fin 16) (d a b : Fin 8) (x : Fin 16) : List (Instr × (Nat → Bool)) :=
  let e := engine s k
  let p := fun i => (pReg e a).getLsbD i
  let q := fun i => (pReg e b).getLsbD i
  [ (.pand k d a b, fun i => p i && q i),
    (.por k d a b, fun i => p i || q i),
    (.pxor k d a b, fun i => p i != q i),
    (.pandn k d a b, fun i => p i && !q i),
    (.pnot k d a, fun i => !p i),
    (.pset k d x, fun i => (sReg e x).getLsbD i) ]

end Sys2Proof.Claim

/-- R185, R191, R192, R196, R198, R208: where the engine executes it, each instruction with a scalar result writes its value to S[D] (S0 takes no write) and goes on to the
next instruction. No flag, no other register, no memory and no other engine changes. -/
def Sys2Proof.Claim.ScalarResults : Prop :=
  ∀ (s : State) (k d a b : Fin 16) (imm : BitVec 18) (hi : BitVec 22) (sh : Fin 32) (lane p : Fin 8), issues s k = true →
    ∀ f ∈ scalarForms s k d a b imm hi sh lane p, ∃ t, Goes f.1 s t ∧ ScalarDone s t k d f.2 0

/-- R190, R191: `adds` and `subs` give the exact result clamped to −2³¹ to 2³¹ − 1, and SSAT, bit 0 of ESTAT, is set where it was clamped and
otherwise stands. -/
def Sys2Proof.Claim.ScalarSaturation : Prop :=
  ∀ (s : State) (k d a b : Fin 16), issues s k = true → ∀ f ∈ saturatingForms s k d a b, ∃ t, Goes f.1 s t ∧
    ScalarDone s t k d (BitVec.ofInt 32 (max (-2147483648) (min 2147483647 f.2)))
      (if f.2 < -2147483648 ∨ 2147483647 < f.2 then 1 else 0)

/-- R193, R194: a conditional branch whose target lies in the code goes to PC + OFF where its condition holds, and otherwise on; only the program counter and the loop
units change. -/
def Sys2Proof.Claim.Branches : Prop :=
  ∀ (s : State) (k a b : Fin 16) (off : BitVec 18), issues s k = true → 0 ≤ ((engine s k).pc : Int) + off.toInt → ((engine s k).pc : Int) + off.toInt < codeSize (engine s k) →
    ∀ f ∈ branchForms s k a b off, ∃ t, Goes f.1 s t ∧
      if f.2 then Jumped s t k 0 0 (((engine s k).pc : Int) + off.toInt).toNat
      else OnlyEngine s t k ∧ Advanced (engine s k) (engine t k) ∧
        { engine t k with pc := (engine s k).pc, lu0 := (engine s k).lu0, lu1 := (engine s k).lu1 } = engine s k

/-- R193, R194: `jmp` and `jal` go to PC + OFF, `jal` linking PC + 1 into S[D], and `jr` goes to S[A], inside the code or not. -/
def Sys2Proof.Claim.Jumps : Prop :=
  ∀ (s : State) (k d a : Fin 16) (off : BitVec 26) (off2 : BitVec 22), issues s k = true →
    (0 ≤ ((engine s k).pc : Int) + off.toInt → ((engine s k).pc : Int) + off.toInt < codeSize (engine s k) →
      ∃ t, Goes (.jmp k off) s t ∧ Jumped s t k 0 0 (((engine s k).pc : Int) + off.toInt).toNat) ∧
    (0 ≤ ((engine s k).pc : Int) + off2.toInt → ((engine s k).pc : Int) + off2.toInt < codeSize (engine s k) →
      ∃ t, Goes (.jal k d off2) s t ∧
        Jumped s t k d (BitVec.ofNat 32 ((engine s k).pc + 1)) (((engine s k).pc : Int) + off2.toInt).toNat) ∧
    ∃ t, Goes (.jr k a) s t ∧ Jumped s t k 0 0 (sReg (engine s k) a).toNat

/-- R194: `loop` sets up its unit over the next LEN instructions with the immediate or register count, or skips them where the count is 0; LOOP_END leaves a unit
inactive once its count has reached 0. The other unit and everything else stands. -/
def Sys2Proof.Claim.Loops : Prop :=
  (∀ (s : State) (k : Fin 16) (unit : Bool) (count : LoopCount) (len : BitVec 12), issues s k = true → len ≠ 0 →
    (engine s k).pc + len.toNat < codeSize (engine s k) →
      let e := engine s k
      let n := match count with | .imm c => c.toNat | .reg a => (sReg e a).toNat
      let u : LoopUnit := if n = 0 then {} else { active := true, start := e.pc + 1, last := e.pc + len.toNat, count := n }
      ∃ t, Goes (.loop k unit count len) s t ∧ OnlyEngine s t k ∧
        engine t k = { e with lu0 := if unit then e.lu0 else u, lu1 := if unit then u else e.lu1,
                              pc := if n = 0 then e.pc + len.toNat + 1 else e.pc + 1 }) ∧
  ∀ (s : State) (k : Fin 16) (unit : Bool), ∃ t, Goes (.loopEnd k unit) s t ∧ OnlyEngine s t k ∧
    engine t k =
      let e := engine s k
      let off := fun (u : LoopUnit) => { u with active := u.active && u.count != 0 }
      { e with lu0 := if unit then e.lu0 else off e.lu0, lu1 := if unit then off e.lu1 else e.lu1 }

/-- R194: at the end of an instruction that is the last of an active unit's body, the count falls by 1, and the unit's first instruction follows while it stays above
0; LU1 comes first, and LU0 is looked at only once LU1 has ended. Elsewhere the next instruction follows. -/
def Sys2Proof.Claim.EndOfInstruction : Prop :=
  ∀ e : Engine, advance e =
    let at1 := e.lu1.active ∧ 0 < e.lu1.count ∧ e.lu1.last = e.pc
    let at0 := e.lu0.active ∧ 0 < e.lu0.count ∧ e.lu0.last = e.pc
    let l1 : LoopUnit := if at1 then { e.lu1 with count := e.lu1.count - 1 } else e.lu1
    let l0 : LoopUnit := { e.lu0 with count := e.lu0.count - 1 }
    if at1 ∧ 1 < e.lu1.count then { e with lu1 := l1, pc := e.lu1.start }
    else if at0 ∧ 1 < e.lu0.count then { e with lu1 := l1, lu0 := l0, pc := e.lu0.start }
    else { e with lu1 := l1, lu0 := if at0 then l0 else e.lu0, pc := e.pc + 1 }

/-- R188, R193: an instruction whose target or body lies outside the code is an illegal encoding, which the engine refuses. -/
def Sys2Proof.Claim.TargetsOutside : Prop :=
  ∀ (s : State) (k d a b : Fin 16) (off : BitVec 18) (off1 : BitVec 26) (off2 : BitVec 22) (unit : Bool) (count : LoopCount) (len : BitVec 12),
    issues s k = true →
    let outside := fun x : Int => (engine s k).pc + x < 0 ∨ codeSize (engine s k) ≤ (engine s k).pc + x
    (outside off.toInt → ∀ f ∈ branchForms s k a b off, exec f.1 s = .refused .illegalEncoding) ∧
    (outside off1.toInt → exec (.jmp k off1) s = .refused .illegalEncoding) ∧
    (outside off2.toInt → exec (.jal k d off2) s = .refused .illegalEncoding) ∧
    (len = 0 ∨ outside len.toNat → exec (.loop k unit count len) s = .refused .illegalEncoding)

/-- R193: a fetch at or beyond the end of the code raises PC_RANGE, whatever instruction was given. -/
def Sys2Proof.Claim.FetchesOutside : Prop :=
  ∀ (s : State) (k d a b : Fin 16) (imm : BitVec 18) (off : BitVec 26), (engine s k).active = true → (engine s k).stall = none →
    codeSize (engine s k) ≤ (engine s k).pc →
    ∀ c ∈ [Instr.nop k, .add k d a b, .addi k d a imm, .beq k a b imm, .jmp k off, .jr k a, .fence k, .statclr k],
      ∃ t, Goes c s t ∧ t.mem = s.mem ∧ engine t k = { engine s k with active := false, stall := none, fenced := false } ∧
        num t (kEngine k 7) = (7 * 2 ^ 24 + (engine s k).pc % 2 ^ 14 : Nat)

/-- R186, R194: a `fence` inside a body ends the tick, and the next begins at the entry with both units inactive. -/
def Sys2Proof.Claim.FenceInBody : Prop :=
  ∀ (s : State) (k : Fin 16), issues s k = true →
    ∃ t, Goes (.fence k) s t ∧ (engine t k).active = false ∧ ∀ u, (∀ j, engine u j = engine t j) → engineState u k = 2 →
      let e := engine (startTick u k) k
      e.active = true ∧ e.pc = (engine s k).entry ∧ e.lu0.active = false ∧ e.lu1.active = false

/-- R185, R189, R190, R195: the vector instructions of two sources, in vector and scalar form: each lane of V[D], and VSAT. -/
def Sys2Proof.Claim.VectorResults : Prop :=
  ∀ (s : State) (k d a : Fin 16) (b : VB) (sh : Fin 32) (g : Pred), issues s k = true → ∀ f ∈ vectorForms s k d a b sh g, ∃ t, Goes f.1 s t ∧ VectorDone s t k d g f.2

/-- R189, R190, R195, R196, R197: the vector instructions of one source, an immediate, a scalar or an accumulator; `vsel` writes every lane. -/
def Sys2Proof.Claim.LaneResults : Prop :=
  (∀ (s : State) (k d a b : Fin 16) (acc : Fin 4) (imm : Half) (n : Fin 16) (sh : Fin 32) (g : Pred), issues s k = true →
    ∀ f ∈ laneForms s k d a b acc imm n sh g, ∃ t, Goes f.1 s t ∧ VectorDone s t k d g f.2) ∧
  (∀ (s : State) (k d a : Fin 16) (b : VB) (pg : Fin 8), issues s k = true →
    ∃ t, Goes (.vsel k d a b pg) s t ∧ VectorDone s t k d { pg := 0, pz := false }
      fun i => (if laneOn (engine s k) pg i then vLane (engine s k) a i else vbLane (engine s k) b i, false)) ∧
  ∀ (s : State) (k d a : Fin 16) (lane : Fin 8), issues s k = true →
    ∃ t, Goes (.vins k d a lane) s t ∧ OnlyEngine s t k ∧ Advanced (engine s k) (engine t k) ∧
      (∀ r i, i < 8 → vLane (engine t k) r i =
        if r = d ∧ i = lane then BitVec.ofNat 16 (sReg (engine s k) a).toNat else vLane (engine s k) r i) ∧
      { engine t k with v := (engine s k).v, pc := (engine s k).pc, lu0 := (engine s k).lu0, lu1 := (engine s k).lu1 } = engine s k

/-- R189, R197: the accumulator instructions: each lane of A[D] clamped to signed 40 bits, and ASAT. -/
def Sys2Proof.Claim.Accumulators : Prop :=
  ∀ (s : State) (k : Fin 16) (d : Fin 4) (a b : Fin 16) (sh : Fin 24) (g : Pred), issues s k = true → ∀ f ∈ accForms s k d a b sh g, ∃ t, Goes f.1 s t ∧ AccDone s t k d g f.2

/-- R185, R189, R198: a compare gives each active bit of P[D] its lane's outcome, an inactive bit 0 or what it held; the predicate instructions and `pset` write every
bit; `pcnt` and `pget` give a scalar. -/
def Obligations.Predicates : Prop :=
  (∀ (s : State) (k : Fin 16) (d : Fin 8) (a : Fin 16) (b : VB) (g : Pred), issues s k = true → ∀ f ∈ compareForms s k d a b g, ∃ t, Goes f.1 s t ∧
    PredDone s t k d fun i => if laneOn (engine s k) g.pg i then f.2 i else if g.pz then false else (pReg (engine s k) d).getLsbD i) ∧
  (∀ (s : State) (k : Fin 16) (d a b : Fin 8) (x : Fin 16), issues s k = true → ∀ f ∈ predForms s k d a b x, ∃ t, Goes f.1 s t ∧ PredDone s t k d f.2) ∧
  ∀ (s : State) (k d : Fin 16) (p : Fin 8), issues s k = true →
    (∃ t, Goes (.pcnt k d p) s t ∧ ScalarDone s t k d (BitVec.ofNat 32 ((List.range 8).countP fun i => (pReg (engine s k) p).getLsbD i)) 0) ∧
    ∃ t, Goes (.pget k d p) s t ∧ ScalarDone s t k d (BitVec.ofNat 32 (pReg (engine s k) p).toNat) 0

/-- R199: outside the input range of Table 8-8 a lane is 0xFFFF (0x8000 for `vlog2`) with VSAT; inside, the function of the module's own: non-increasing for `vrcp` and `vrsqrt`,
non-decreasing for `vexp2` and `vlog2`. The deviation from the exact value is free (log entry 21). -/
def Obligations.Approximations : Prop :=
  (∀ (s : State) (k d a : Fin 16) (g : Pred), issues s k = true →
    ∀ f ∈ [(Instr.vrcp k d a g, 0), (.vrsqrt k d a g, 1), (.vexp2 k d a g, 2), (.vlog2 k d a g, 3)],
      ∃ t, Goes f.1 s t ∧ VectorDone s t k d g fun i =>
        let x := (vLane (engine s k) a i).toNat
        if x < [32768, 16384, 0, 32768].getD f.2 0 then (if f.2 = 3 then 0x8000 else 0xFFFF, true) else exact (approx f.2 x)) ∧
  (∀ fn x y, fn < 2 → firstOf fn ≤ x → x ≤ y → approx fn y ≤ approx fn x) ∧
  (∀ fn x y, (fn = 2 ∨ fn = 3) → firstOf fn ≤ x → x ≤ y → approx fn x ≤ approx fn y) ∧
  ∀ x : Nat, 32768 ≤ x → x ≤ 65535 → exactRcp x - 1 ≤ approx 0 x ∧ approx 0 x ≤ exactRcp x + 1

/-- R208: `statclr` clears ESTAT and `nop` has no effect; both go on. -/
def Sys2Proof.Claim.StatusClear : Prop :=
  ∀ (s : State) (k : Fin 16), issues s k = true →
    (∃ t, Goes (.statclr k) s t ∧ OnlyEngine s t k ∧ engine t k = advance { engine s k with estat := 0 }) ∧
    ∃ t, Goes (.nop k) s t ∧ OnlyEngine s t k ∧ engine t k = advance (engine s k)

/-- R185, R190 to R192, R196, R198, R208: the instructions with a scalar result, `adds` and `subs` with their saturation flag, `statclr` and `nop`. -/
def Obligations.ScalarInstructions : Prop := ScalarResults ∧ ScalarSaturation ∧ StatusClear

/-- R186, R188, R193, R194: the branches and jumps, the loop units, and where a target, a body or a fetch lies outside the code. -/
def Obligations.ControlFlow : Prop := Branches ∧ Jumps ∧ Loops ∧ EndOfInstruction ∧ TargetsOutside ∧ FetchesOutside ∧ FenceInBody

/-- R185, R189, R190, R195 to R197: every instruction with a vector or accumulator result but the loads, lookups and approximations. -/
def Obligations.VectorInstructions : Prop := VectorResults ∧ LaneResults ∧ Accumulators
/-! ## Loads, stores, exceptions, events, posts (R164, R178 to R182, R200 to R207) -/

namespace Sys2Proof.Claim

/-- `n` bytes of memory from `p` as a number, least significant first (R5). -/
def bytesAt (s : State) (p n : Nat) : Nat := ((List.range n).map fun i => (memRead s.mem (p + i)).toNat * 256 ^ i).sum

/-- The same as two's complement. -/
def signedAt (s : State) (p n : Nat) : Int := if 2 * bytesAt s p n < 256 ^ n then bytesAt s p n else (bytesAt s p n : Int) - 256 ^ n

/-- Byte `i` of a number, least significant first. -/
def byteOf (x i : Nat) : Byte := BitVec.ofNat 8 (x / 256 ^ i)

/-- The engine address of a scalar load or store: S[A] plus a signed 16-bit offset, modulo 2³² (R201). -/
def loadAddr (s : State) (k a : Fin 16) (off : BitVec 16) : Nat := (((sReg (engine s k) a).toNat : Int) + off.toInt).emod (2 ^ 32) |>.toNat

/-- The engine address of lane `i` of a vector load or store: S[A] plus twice a signed 15-bit offset, plus 2 i, modulo 2³² (R201). -/
def laneAddr (s : State) (k a : Fin 16) (off : BitVec 15) (i : Nat) : Nat :=
  (((sReg (engine s k) a).toNat : Int) + 2 * off.toInt + 2 * i).emod (2 ^ 32) |>.toNat

/-- The engine address of lane `i` of a gather or scatter: S[A] + (u(V[B].i) << SH), modulo 2³² (R202). -/
def indexAddr (s : State) (k a b : Fin 16) (sh : Nat) (i : Nat) : Nat :=
  ((sReg (engine s k) a).toNat + (vLane (engine s k) b i).toNat * 2 ^ sh) % 2 ^ 32

/-- An access of `n` bytes at an engine address that raises nothing (R164, R204). -/
def Allowed (s : State) (k : Fin 16) (isStore : Bool) (a n : Nat) : Prop := accessError k (engine s k) isStore a n n = none

/-- A halfword access of a gather or scatter that raises nothing: inside cell memory, even, and allowed (R202, R204). -/
def CellAllowed (s : State) (k : Fin 16) (isStore : Bool) (a : Nat) : Prop :=
  0x10000000 ≤ a ∧ a < 0x10400000 ∧ a % 2 = 0 ∧ Allowed s k isStore a 2

/-- A store of bytes: byte `x` of memory becomes `b (x - p)` for the `n` addresses from `p` on, and every other byte stands. -/
def Stored (s t : State) (p n : Nat) (b : Nat → Byte) : Prop :=
  ∀ x, memRead t.mem x = if p ≤ x ∧ x < p + n then b (x - p) else memRead s.mem x

/-- The halfwords of the active lanes stored at the physical addresses `p i`, a higher lane over a lower one, and every other byte standing. -/
def LanesStored (s t : State) (e : Engine) (d pg : Nat) (p : Nat → Nat) : Prop :=
  ∀ x, memRead t.mem x =
    match [7, 6, 5, 4, 3, 2, 1, 0].find? (fun i => laneOn e pg i && decide (p i ≤ x) && decide (x < p i + 2)) with
    | some i => byteOf (vLane e d i).toNat (x - p i)
    | none => memRead s.mem x

/-- Nothing of the engine changes but its program counter and loop units, which go on. -/
def OnlyAdvanced (s t : State) (k : Nat) : Prop := engine t k = advance (engine s k)

/-- The descriptor that engine `k` posts from a local address: its 32 bytes, with the half that the engine writes (R179, R206). -/
def postedBy (s : State) (k : Fin 16) (a : Nat) : Posted where
  owner := k
  addr := a
  desc := memBytes s.mem (0x20000000 + 0x20000 * k.val + a) 32
  select := (engine s k).select

end Sys2Proof.Claim

/-- R164, Table 7-2: where an engine's access lies: local data memory is its own; the BACK and FRONT halves of the code buffer follow its select bit; FRONT and
every range that the module owns take no store (code 4); outside both memories is code 1; a misaligned access that is not outside is code 3. -/
def Obligations.AddressMap : Prop :=
  ∀ (s : State) (k : Fin 16) (st : Bool) (a n : Nat), 0 < n →
    let e := engine s k
    (a + n ≤ 0x20000 → accessError k e st a n n = (if a % n = 0 then none else some 3) ∧ physical k e st a n = 0x20000000 + 0x20000 * k.val + a) ∧
    (0x20000 < a + n → a < 0x10000000 → accessError k e st a n n = some 1) ∧
    (0x10400000 < a + n → accessError k e st a n n = some 1) ∧
    (0x10000000 ≤ a → a < 0x10020000 → n ≤ 4 → accessError k e st a n n = (if a % n = 0 then none else some 3) ∧
      physical k e st a n = a + (if e.select then 0x20000 else 0)) ∧
    (0x10020000 ≤ a → a < 0x10040000 → n ≤ 4 →
      accessError k e false a n n = (if a % n = 0 then none else some 3) ∧
      physical k e false a n = a - (if e.select then 0x20000 else 0) ∧
      accessError k e true a n n = (if a % n = 0 then some 4 else some 3)) ∧
    (0x10040000 ≤ a → a + n ≤ 0x10400000 →
      accessError k e false a n n = (if a % n = 0 then none else some 3) ∧ physical k e false a n = a ∧
      accessError k e true a n n = (if a % n ≠ 0 then some 3 else if ownArea (a - 0x10000000) then none else some 4) ∧
      (ownArea (a - 0x10000000) = true → physical k e true a n = a))

/-- R201, R202, R5: a load that raises nothing writes its register and nothing else: `ld` sign-extended, `ldu` zero-extended; `vld` and `vgath` the halfword of each
active lane. -/
def Sys2Proof.Claim.Loads : Prop :=
  (∀ (s : State) (k d a : Fin 16) (sz : Fin 3) (off : BitVec 16), issues s k = true → Allowed s k false (loadAddr s k a off) (2 ^ sz.val) →
    let p := physical k (engine s k) false (loadAddr s k a off) (2 ^ sz.val)
    (∃ t, Goes (.ld k d a sz off) s t ∧ ScalarDone s t k d (BitVec.ofInt 32 (signedAt s p (2 ^ sz.val))) 0) ∧
    ∃ t, Goes (.ldu k d a sz off) s t ∧ ScalarDone s t k d (BitVec.ofNat 32 (bytesAt s p (2 ^ sz.val))) 0) ∧
  (∀ (s : State) (k d a : Fin 16) (pg : Fin 8) (off : BitVec 15), issues s k = true →
    (∀ i < 8, laneOn (engine s k) pg i = true → Allowed s k false (laneAddr s k a off i) 2) →
    ∃ t, Goes (.vld k d a pg off) s t ∧ VectorDone s t k d { pg := pg, pz := false }
      fun i => exact (bytesAt s (physical k (engine s k) false (laneAddr s k a off i) 2) 2)) ∧
  ∀ (s : State) (k d a b : Fin 16) (sh : Fin 6) (g : Pred), issues s k = true →
    (∀ i < 8, laneOn (engine s k) g.pg i = true → CellAllowed s k false (indexAddr s k a b sh i)) →
    ∃ t, Goes (.vgath k d a b sh g) s t ∧ VectorDone s t k d g
      fun i => exact (bytesAt s (physical k (engine s k) false (indexAddr s k a b sh i) 2) 2)

/-- R200: `vlut` reads entry x >> SH of the table at local address S[A] in each active lane; `vlutl` adds the rounded SH-bit fraction of the step to the next entry. -/
def Sys2Proof.Claim.Lookups : Prop :=
  ∀ (s : State) (k d a b : Fin 16) (sh : Fin 16) (g : Pred), issues s k = true →
    let e := engine s k
    let base := (sReg e a).toNat
    let j := fun i => (vLane e b i).toNat / 2 ^ sh.val
    let f := fun i => (vLane e b i).toNat % 2 ^ sh.val
    let entry := fun n => (bytesAt s (0x20000000 + 0x20000 * k.val + base + 2 * n) 2 : Int)
    ((∀ i < 8, laneOn e g.pg i = true → base % 2 = 0 ∧ base + 2 * (j i + 1) ≤ 0x20000) →
      ∃ t, Goes (.vlut k d a b sh g) s t ∧ VectorDone s t k d g fun i => exact (entry (j i))) ∧
    ((∀ i < 8, laneOn e g.pg i = true → base % 2 = 0 ∧ base + 2 * (j i + 2) ≤ 0x20000) →
      ∃ t, Goes (.vlutl k d a b sh g) s t ∧ VectorDone s t k d g
        fun i => exact (entry (j i) + nearest ((entry (j i + 1) - entry (j i)) * f i) sh))

/-- R201, R202: a store that raises nothing writes the low bytes of S[D], or the halfword of each active lane of V[D], at its address and no other byte; no register, no flag and no
other engine changes. -/
def Sys2Proof.Claim.Stores : Prop :=
  (∀ (s : State) (k d a : Fin 16) (sz : Fin 3) (off : BitVec 16), issues s k = true → Allowed s k true (loadAddr s k a off) (2 ^ sz.val) →
    ∃ t, Goes (.st k d a sz off) s t ∧ OnlyEngineAndMemory s t k ∧ OnlyAdvanced s t k ∧
      Stored s t (physical k (engine s k) true (loadAddr s k a off) (2 ^ sz.val)) (2 ^ sz.val) (byteOf (sReg (engine s k) d).toNat)) ∧
  (∀ (s : State) (k d a : Fin 16) (pg : Fin 8) (off : BitVec 15), issues s k = true →
    (∀ i < 8, laneOn (engine s k) pg i = true → Allowed s k true (laneAddr s k a off i) 2) →
    ∃ t, Goes (.vst k d a pg off) s t ∧ OnlyEngineAndMemory s t k ∧ OnlyAdvanced s t k ∧
      LanesStored s t (engine s k) d pg fun i => physical k (engine s k) true (laneAddr s k a off i) 2) ∧
  ∀ (s : State) (k d a b : Fin 16) (sh : Fin 6) (pg : Fin 8), issues s k = true →
    (∀ i < 8, laneOn (engine s k) pg i = true → CellAllowed s k true (indexAddr s k a b sh i)) →
    ∃ t, Goes (.vscat k d a b sh pg) s t ∧ OnlyEngineAndMemory s t k ∧ OnlyAdvanced s t k ∧
      LanesStored s t (engine s k) d pg fun i => physical k (engine s k) true (indexAddr s k a b sh i) 2

/-- R5, R201: what an engine stores with `st` into its own local data memory it loads back with `ldu` from the same address. -/
def Sys2Proof.Claim.StoreThenLoad : Prop :=
  ∀ (s t : State) (k d d2 a : Fin 16) (sz : Fin 3) (off : BitVec 16), issues s k = true → d2 ≠ 0 →
    loadAddr s k a off + 2 ^ sz.val ≤ 0x20000 → loadAddr s k a off % 2 ^ sz.val = 0 →
    Goes (.st k d a sz off) s t → issues t k = true →
    ∃ u, Goes (.ldu k d2 a sz off) t u ∧ (sReg (engine u k) d2).toNat = (sReg (engine s k) d).toNat % 256 ^ 2 ^ sz.val

/-- R182, R193, R204: an instruction that raises an exception has no other effect: the engine leaves its tick at the faulting instruction with its registers as they were, memory
stands, the exception is counted and its code and program counter kept, and an engine that was running or stopping is FAULTED unless source 12's reaction resets it. -/
def Sys2Proof.Claim.EngineExceptions : Prop :=
  ∀ (s : State) (k d a : Fin 16) (sz : Fin 3) (off : BitVec 16) (c : Instr) (code : Nat),
    (engine s k).active = true → (engine s k).stall = none →
    ((c, code) = (.nop k, 7) ∧ codeSize (engine s k) ≤ (engine s k).pc ∨
      issues s k = true ∧ (c = .ld k d a sz off ∨ c = .ldu k d a sz off) ∧
        accessError k (engine s k) false (loadAddr s k a off) (2 ^ sz.val) (2 ^ sz.val) = some code ∨
      issues s k = true ∧ c = .st k d a sz off ∧
        accessError k (engine s k) true (loadAddr s k a off) (2 ^ sz.val) (2 ^ sz.val) = some code) →
    ∃ t, Goes c s t ∧ t.mem = s.mem ∧
      engine t k = { engine s k with active := false, stall := none, fenced := false, startAsked := false } ∧
      (∀ j, j ≠ k.val → engine t j = engine s j) ∧
      num t (kEngine k 6) = (num s (kEngine k 6) + 1) % 2 ^ 32 ∧
      num t (kEngine k 7) = (code * 2 ^ 24 + (engine s k).pc % 2 ^ 14 : Nat) ∧
      (nat s (kFault 12 1) ≠ 3 → engineState t k = if engineState s k = 3 ∨ engineState s k = 4 then 5 else engineState s k)

/-- R173, R174, R182: an engine that is not in its tick executes nothing, and a stalled one neither. -/
def Sys2Proof.Claim.IdleEngineStands : Prop :=
  ∀ (s : State) (k d a b : Fin 16) (sz : Fin 3) (off : BitVec 16) (imm : BitVec 18) (off2 : BitVec 26),
    (engine s k).active = false ∨ (engine s k).stall ≠ none →
    ∀ c ∈ [Instr.add k d a b, .addi k d a imm, .jmp k off2, .beq k a b imm, .jr k a, .ld k d a sz off, .st k d a sz off, .ewait k d a,
      .dpost k a b, .mbox k a, .mpostMessage k a, .fence k, .nop k], Goes c s s

/-- R205: `ewait` copies the oldest event to local memory at S[A] and gives the number that remain in S[D]; with an empty queue the non-blocking form gives 0xFFFFFFFF and the blocking
one stalls; EWAIT_WAKE does what the blocking one waits for, once an event has
arrived; a stall that reaches the fence deadline is an overrun. -/
def Sys2Proof.Claim.Events : Prop :=
  (∀ (s : State) (k d a : Fin 16) (ev : Bytes) (rest : List Bytes), issues s k = true →
    (sReg (engine s k) a).toNat % 16 = 0 → (sReg (engine s k) a).toNat + 16 ≤ 0x20000 → (engine s k).queue = ev :: rest →
    ∀ c ∈ [Instr.ewait k d a, .ewaitBlocking k d a], ∃ t, Goes c s t ∧ OnlyEngineAndMemory s t k ∧
      Stored s t (0x20000000 + 0x20000 * k.val + (sReg (engine s k) a).toNat) ev.length (fun i => ev.getD i 0) ∧
      engine t k = advance (setS { engine s k with queue := rest } d (BitVec.ofNat 32 rest.length))) ∧
  (∀ (s : State) (k d a : Fin 16), issues s k = true →
    (sReg (engine s k) a).toNat % 16 = 0 → (sReg (engine s k) a).toNat + 16 ≤ 0x20000 → (engine s k).queue = [] →
    (∃ t, Goes (.ewait k d a) s t ∧ ScalarDone s t k d 0xFFFFFFFF 0) ∧
    ∃ t, Goes (.ewaitBlocking k d a) s t ∧ OnlyEngine s t k ∧
      engine t k = { engine s k with stall := some (.event d (sReg (engine s k) a).toNat) }) ∧
  (∀ (s : State) (k : Fin 16) (d addr : Nat), (engine s k).active = true → (engine s k).stall = some (.event d addr) →
    ((engine s k).queue = [] → Goes (.ewaitWake k) s s) ∧
    ∃ t, Goes (.engineOverrun k) s t ∧ { engine t k with startAsked := (engine s k).startAsked } =
      { engine s k with active := false, stall := none, overran := true, fenced := false }) ∧
  ∀ (s : State) (k : Fin 16) (d addr : Nat) (ev : Bytes) (rest : List Bytes), (engine s k).active = true →
    (engine s k).stall = some (.event d addr) → (engine s k).queue = ev :: rest →
    ∃ t, Goes (.ewaitWake k) s t ∧ OnlyEngineAndMemory s t k ∧
      Stored s t (0x20000000 + 0x20000 * k.val + addr) ev.length (fun i => ev.getD i 0) ∧
      engine t k = advance (setS { engine s k with queue := rest, stall := none } d (BitVec.ofNat 32 rest.length))

/-- R179, R206, R284: a descriptor at an aligned local address joins a channel's queue while fewer than four places are in use, else the engine stalls on it; DPOST_UNSTALL posts it
once a place is free; a channel that is STOPPING or STOPPED retires it at once, and the engine goes on. -/
def Sys2Proof.Claim.DescriptorPosts : Prop :=
  (∀ (s : State) (k a ch : Fin 16), issues s k = true → (sReg (engine s k) a).toNat % 32 = 0 → (sReg (engine s k) a).toNat + 32 ≤ 0x20000 →
    8 ≤ ch.val → (engine s k).dmaMask.testBit (ch.val - 8) = true →
    (placesUsed s ch < 4 → channelState s ch < 2 → ∃ t, Goes (.dpost k a ch) s t ∧ t.mem = s.mem ∧ engine t k = advance (engine s k) ∧
      (channel t ch).posted = (channel s ch).posted ++ [postedBy s k (sReg (engine s k) a).toNat]) ∧
    (4 ≤ placesUsed s ch → channelState s ch < 2 → ∃ t, Goes (.dpost k a ch) s t ∧ OnlyEngine s t k ∧
      engine t k = { engine s k with stall := some (.post ch (sReg (engine s k) a).toNat) }) ∧
    (2 ≤ channelState s ch → ∃ t, Goes (.dpost k a ch) s t ∧ (engine t k).pc = (advance (engine s k)).pc ∧ (engine t k).stall = none ∧
      (channel t ch).posted = (channel s ch).posted)) ∧
  ∀ (s : State) (k : Fin 16) (ch addr : Nat), (engine s k).active = true → (engine s k).stall = some (.post ch addr) →
    placesUsed s ch < 4 → channelState s ch < 2 → ∃ t, Goes (.dpostUnstall k) s t ∧ t.mem = s.mem ∧
      engine t k = advance { engine s k with stall := none } ∧
      (channel t ch).posted = (channel s ch).posted ++ [postedBy s k addr]

/-- R180, R207: `mbox` hands an aligned block to the server with STATUS 0xFF, or stalls while a request is pending; MBOX_UNSTALL hands it over once that one is answered. -/
def Sys2Proof.Claim.MailboxPosts : Prop :=
  (∀ (s : State) (k a : Fin 16), issues s k = true → (sReg (engine s k) a).toNat % 8 = 0 → (sReg (engine s k) a).toNat + 256 ≤ 0x20000 →
    ((engine s k).mailbox = none → ∃ t, Goes (.mbox k a) s t ∧ OnlyEngineAndMemory s t k ∧
      Stored s t (0x20000000 + 0x20000 * k.val + (sReg (engine s k) a).toNat + 1) 1 (fun _ => 0xFF) ∧
      engine t k = advance { engine s k with mailbox := some (sReg (engine s k) a).toNat }) ∧
    ((engine s k).mailbox ≠ none → ∃ t, Goes (.mbox k a) s t ∧ OnlyEngine s t k ∧
      engine t k = { engine s k with stall := some (.mailbox (sReg (engine s k) a).toNat) })) ∧
  ∀ (s : State) (k : Fin 16) (addr : Nat), (engine s k).active = true → (engine s k).stall = some (.mailbox addr) → (engine s k).mailbox = none →
    ∃ t, Goes (.mboxUnstall k) s t ∧ OnlyEngineAndMemory s t k ∧
      Stored s t (0x20000000 + 0x20000 * k.val + addr + 1) 1 (fun _ => 0xFF) ∧
      engine t k = advance { engine s k with mailbox := some addr, stall := none }

/-- R181, R207: `mpost` of form 0 makes the 16 bytes at S[A] the engine's MESSAGE, or is discarded and counted when the ring is full of messages still to be sent; of form 1 it raises the OEM source it names, where
`FAULT_MASK` permits it; any other form is discarded and counted. -/
def Sys2Proof.Claim.MessagePosts : Prop :=
  ∀ (s : State) (k a : Fin 16), issues s k = true → (sReg (engine s k) a).toNat % 4 = 0 → (sReg (engine s k) a).toNat + 16 ≤ 0x20000 →
    let m := memBytes s.mem (0x20000000 + 0x20000 * k.val + (sReg (engine s k) a).toNat) 16
    ((m.getD 0 0).toNat = 0 → s.engines.ring.length < 256 → ∃ t, Goes (.mpostMessage k a) s t ∧ t.mem = s.mem ∧
      engine t k = advance (engine s k) ∧ reg t (kEngine k 0xC) = .bytes m ∧ ∀ j, j ≠ kEngine k 0xC → reg t j = reg s j) ∧
    ((m.getD 0 0).toNat = 0 → 256 ≤ (s.engines.ring.filter fun x => s.server.notices.any fun n => n.msg == some x.1).length → ∃ t, Goes (.mpostMessage k a) s t ∧ t.mem = s.mem ∧
      engine t k = advance (engine s k) ∧ num t (kEngine k 0xD) = (num s (kEngine k 0xD) + 1) % 2 ^ 32) ∧
    (2 ≤ (m.getD 0 0).toNat → ∃ t, Goes (.mpostMessage k a) s t ∧ t.mem = s.mem ∧
      engine t k = advance (engine s k) ∧ num t (kEngine k 0xD) = (num s (kEngine k 0xD) + 1) % 2 ^ 32) ∧
    ∀ j : Fin 4, (m.getD 0 0).toNat = 1 → (m.getD 1 0).toNat = 60 + j.val → (engine s k).faultMask.testBit j.val = true →
      ∃ t, Goes (.mpostFault k a) s t ∧ t.mem = s.mem ∧ engine t k = advance (engine s k) ∧
        num t (kFault (60 + j.val) 8) = (num s (kFault (60 + j.val) 8) + 1) % 2 ^ 32

/-- R174, R207: `fence` ends the engine's tick: its codes wait to be published, the cycles since the tick start and their greatest value are kept, and the engine is IDLE, or STOPPING where a stop waits. -/
def Sys2Proof.Claim.Fence : Prop :=
  ∀ (s : State) (k : Fin 16), issues s k = true →
    let n : Nat := min (2 ^ 32 - 1) (4 * (s.clk - (engine s k).tickAt))
    ∃ t, Goes (.fence k) s t ∧ t.mem = s.mem ∧ engine t k = { engine s k with active := false, stall := none, fenced := true, ran := true } ∧
      (∀ j, j ≠ k.val → engine t j = engine s j) ∧ nat t (kEngine k 8) = n ∧ nat t (kEngine k 9) = max (nat s (kEngine k 9)) n ∧
      engineState t k = if engineState s k = 3 then 2 else engineState s k

/-- R200 to R202, R5: the loads, the gather and the table lookups. -/
def Obligations.LoadsAndLookups : Prop := Loads ∧ Lookups

/-- R201, R202, R5: the stores and the scatter, and that a load reads back what a store wrote. -/
def Obligations.EngineStores : Prop := Stores ∧ StoreThenLoad

/-- R173, R174, R182, R193, R204: what raises an exception has no other effect, and an engine outside its tick executes nothing. -/
def Obligations.ExceptionsAndIdleness : Prop := EngineExceptions ∧ IdleEngineStands

/-- R179 to R181, R206, R207: the posts of descriptors, mailbox requests and messages.
Where the spec leaves it open, the model's own reading enters: log entry 24. -/
def Obligations.EnginePosts : Prop := DescriptorPosts ∧ MailboxPosts ∧ MessagePosts

/-- R174, R205, R207: `ewait`, its wake, and `fence`. -/
def Obligations.EventsAndFence : Prop := Events ∧ Fence
/-! ## The machine as a whole -/

namespace Sys2Proof.Claim

/-- The operations of Table 5-3 as a sender builds them: lengths that their fields hold, and no BLOCK_DATA with an empty value, whose bytes are those of a read of
length 0. -/
def Sendable : MdpOp → Prop
  | .read _ => True
  | .write _ v => v.length < 2 ^ 16
  | .readMulti rs => rs.length < 2 ^ 8
  | .writeMulti is => is.length < 2 ^ 8 ∧ ∀ i ∈ is, i.value.length < 2 ^ 16
  | .blockBegin _ dir size crc => dir = true ∨ (size = 0 ∧ crc = 0)
  | .blockData _ _ (.write v) => v ≠ [] ∧ v.length < 2 ^ 16
  | .blockData _ _ (.read _) => True
  | .blockEnd _ => True
  | .subscribe _ m _ => m.toNat ≤ 2
  | .command _ v => v.length < 2 ^ 16
  | .authBegin _ => True
  | .authProve t => t.length = 16
  | .close => True
  | .other _ _ => False
  | .malformed _ _ => False

end Sys2Proof.Claim

/-- A step with a command at the front of the queue runs exactly that command on the state with the queue's rest. -/
def Sys2Proof.Claim.StepRunsFront : Prop :=
  ∀ (c : Instr) (rest : List Instr) (s : State), step { s with pending := c :: rest } = exec c { s with pending := rest }

/-- The model's choice of log entry 1: with no command waiting one cycle of TIME passes, and nothing but the time bases, the calendar clock and the count of cycles changes. -/
def Sys2Proof.Claim.StepIdle : Prop :=
  ∀ s : State, s.pending = [] → ∃ t, step s = .next t ∧ t.clk = s.clk + 1 ∧
    { t with clk := s.clk, time := s.time, backup := s.backup } = s ∧ { t.time with bases := s.time.bases } = s.time ∧
    { t.backup with rtc := s.backup.rtc } = s.backup

/-- The model's representation of memory (log entry 2): every step keeps it in canonical form, addresses strictly rising and no entry equal to what an unlisted address reads as. -/
def Obligations.MemoryFormKept : Prop :=
  ∀ s t : State, MemoryOk s → step s = .next t → MemoryOk t

/-- The reset state has that form, and an empty queue. -/
def Sys2Proof.Claim.ResetForm : Prop := MemoryOk State.reset ∧ State.reset.pending = [] ∧ ∀ a, memRead State.reset.mem a = 0

/-- R58, R78, R185: after the first power-on the module is held in reset, starting; every register holds its default; no engine is in its tick, and every engine register reads 0, P0
all ones. -/
def Sys2Proof.Claim.ResetRegisters : Prop :=
  State.reset.start.held = true ∧ num State.reset kModuleState = 0 ∧ (∀ k, reg State.reset k = dfltOf k) ∧
  ∀ k < 16, ∀ r < 16, ∀ i < 8,
    let e := engine State.reset k
    e.active = false ∧ sReg e r = 0 ∧ vLane e r i = 0 ∧ aLane e r i = 0 ∧ pReg e r = (if r = 0 then 0xFF else 0) ∧ e.estat = 0

/-- R104, R472, Tables 5-1 to 5-3: a request written as a message is read back as the same operation, identifier and RETRY flag, for every operation with every operand. -/
def Obligations.MessageRoundTrip : Prop :=
  ∀ (o : MdpOp) (tid : Half) (retry : Bool), Sendable o → opLen o < 2 ^ 16 →
    let m := requestMsg o tid retry
    messageWhole m = true ∧ msgOp m = opCode o ∧ msgTid m = tid ∧ msgRetry m = retry ∧ parseOp (msgOp m) (m.drop 8) = o

/-- R99: giving a register a value makes it read that value, leaves every other register, and reaches each ON_CHANGE subscription to it; giving it the value it holds changes nothing. -/
def Obligations.RegisterWritten : Prop :=
  ∀ (s : State) (k : Key) (v : Val),
    (reg s k = v → setVal s k v = s) ∧
    (reg s k ≠ v → (∀ j, reg (setVal s k v) j = if j = k then v else reg s j) ∧
      { setVal s k v with regs := s.regs, server := s.server } = s ∧
      ∀ b ∈ s.server.subs, b.periodic = false → b.covers k = true →
        (s.server.notices.filter (fun n => n.sid == b.sid)).length + s.server.subs.length ≤ 32 →
          ∃ n ∈ (setVal s k v).server.notices, n.num = b.num ∧ n.key = k)

/-- A step runs the command at the front of the queue on the queue's rest; with none waiting a cycle of TIME passes (the model's choice, log entry 1). -/
def Obligations.StepOfTheQueue : Prop := StepRunsFront ∧ StepIdle

/-- R58, R78, R185: the state after the first power-on; that memory lists nothing and reads 0 is the model's choice (log entry 2). -/
def Obligations.ResetState : Prop := ResetForm ∧ ResetRegisters
/-! ## The dictionary server and its transports (chapters 04 and 05) -/

namespace Sys2Proof.Claim

/-- The state in which a session's request is carried out: its record notes the use (R97, R117) and the role of the request's origin, where a manager forwards
it (R83). -/
def begun (s : State) (q : Req) : State :=
  putSession s q.sid { session s q.sid with usedAt := s.clk, limit := q.origin.map fun n => roleOfNat n }

/-- A request that its session takes up (R29, R108, R109, Tables 5-6 and 5-8): the transport is open; the transaction identifier names no response still kept and no
request still in progress; fewer than eight are outstanding; the session is not closed under its client (R82). Console sessions have statements of their own. -/
def Admitted (s : State) (q : Req) : Prop :=
  q.sid ≠ 1 ∧ transportOpen s q.sid = true ∧ mute s q.sid = false ∧ (session s q.sid).closed = false ∧
  (∀ r ∈ (session s q.sid).kept, r.tid = q.tid → r.at_ + secs 30 ≤ s.clk) ∧
  q.tid ∉ (session s q.sid).busy ∧ (session s q.sid).busy.length < 8

/-- Nothing holds a request back (R109, R431): no earlier request of its session is held, none of its changes waits for an input window, and the state copy
is not behind if it writes the persistent store. -/
def Free (s : State) (q : Req) (writes : Bool) : Prop :=
  (∀ h ∈ s.server.held, h.q.sid ≠ q.sid) ∧ (∀ w ∈ s.server.waiting, w.sid ≠ q.sid) ∧ (carryOver (begun s q) = false ∨ writes = false)

/-- An admitted request that is carried out now (R105): nothing holds it back, it fits the transport and is one it carries. -/
def Taken (s : State) (q : Req) (o : MdpOp) : Prop :=
  Admitted s q ∧ Free s q (writesPersistent (begun s q) q.sid o) ∧
  opLen o ≤ lenLimit q.sid ∧ notCarried (begun s q) q.sid o = false

/-- A request has been answered with a status and a body: the response is kept (R108), and on the host port its frame is the last queued (R112). -/
def Answered (s t : State) (q : Req) (op status : Byte) (body : Bytes) : Prop :=
  (session t q.sid).kept.head? = some { tid := q.tid, op := op, status := status, body := body, at_ := s.clk } ∧
  (q.sid = 0 → t.server.hostQueue.getLast? = some (hostFrame (responseMsg op q.tid status body)))

/-- Nothing but the server, what leaves the block, a floor bus's segments and FRAME_ERRORS changes. -/
def OnlyServer (s t : State) : Prop :=
  { t with server := s.server, regs := s.regs, bus := s.bus, out := s.out } = s ∧ ∀ k, k ≠ kFrameErrors → reg t k = reg s k

/-- The item that a write or command stores: its key, and its value decoded with reserved bits 0 (R9, R76). -/
def itemOf (s : State) (q : Req) (k : Key) (v : Bytes) : Key × Val := storedItem (begun s q) (refOf k) v

/-- An item is applied at once (R86, R177): no earlier change waits for an input window, and it needs none itself, as an engine input and CLOSE_NOW (R465) do,
or nothing reads the inputs. -/
def AtOnce (s : State) (k : Key) : Prop :=
  s.server.waiting = [] ∧ ((isInput k = false ∧ k ≠ kRec 2) ∨ noReaders s = true)

/-- A COMMAND of register `k` that is taken and passes the checks of Table 4-5, and need not wait for an input window (R177). -/
def Commanded (s : State) (q : Req) (k : Key) (v : Bytes) : Prop :=
  Taken s q (.command (refOf k) v) ∧ checkWrite (begun s q) (begun s q) q.sid true (refOf k) v = 0 ∧
    AtOnce s (itemOf s q k v).1

/-- A WRITE of register `k`, likewise. -/
def Written (s : State) (q : Req) (k : Key) (v : Bytes) : Prop :=
  Taken s q (.write (refOf k) v) ∧ checkWrite (begun s q) (withItem (begun s q) (itemOf s q k v)) q.sid false (refOf k) v = 0 ∧
    AtOnce s (itemOf s q k v).1

/-- A property of every command row with its register and value (the entry tables of chapters 03 to 19). -/
def ForCommandRows (q : Req) (v : Bytes) (lum shell : Byte) (k c : Fin 16) (n : Fin 8) (b : Fin 4) (a : Fin 2) (src : Fin 64)
    (P : Instr → Key → Bytes → Prop) : Prop :=
  (∀ f ∈ ([ (.restart q, 0x104001, [1]), (.restartSafe q, 0x104001, [2]), (.bookmarkClear q, 0x102005, [1]), (.storeReset q, 0x105004, [1]),
      (.sceneRecall q v, 0x430002, v), (.groupTarget q v, 0x430003, v), (.groupRelease q v, 0x430004, v),
      (.targetSkipsClear q, 0x480001, [1]), (.burnReset q lum, 0x48000A, [lum]),
      (.engineStop q k, 0x800001 + 256 * k, [1]), (.engineStart q k, 0x800001 + 256 * k, [2]), (.engineRestart q k, 0x800001 + 256 * k, [3]),
      (.engineStatsClear q k, 0x80000E + 256 * k, [1]), (.repartition q, 0x810005, [1]),
      (.laneStop q n, 0x300001 + 256 * n, [1]), (.laneStart q n, 0x300001 + 256 * n, [2]), (.laneRestart q n, 0x300001 + 256 * n, [3]),
      (.laneStatsClear q n, 0x300011 + 256 * n, [1]), (.discoverLane q v, 0x320007, v), (.faultCellClear q v, 0x330002, v) ] : List (Instr × Key × Bytes)), P f.1 f.2.1 f.2.2) ∧
  (∀ f ∈ ([ (.dmaChannelStop q c, 0x820001 + 256 * c, [1]), (.dmaChannelStart q c, 0x820001 + 256 * c, [2]),
      (.dmaChannelRestart q c, 0x820001 + 256 * c, [3]), (.dmaStatsClear q c, 0x82000B + 256 * c, [1]),
      (.meterStop q, 0x500001, [1]), (.meterStart q, 0x500001, [2]), (.meterRestart q, 0x500001, [3]), (.calibrate q v, 0x50000C, v),
      (.energyReset q, 0x520080, [1]), (.maxClear q, 0x56000B, [1]), (.lumEnergyReset q lum, 0x55000C, [lum]),
      (.tbSet q b v, 0x60000C + 256 * b, v), (.rtcStep q v, 0x610002, v),
      (.alarmArm q a, 0x611003 + 256 * a, [1]), (.alarmDisarm q a, 0x611003 + 256 * a, [2]),
      (.busStatsClear q a, 0x240012 + 256 * a, [1]),
      (.radioStop q, 0x260001, [1]), (.radioStart q, 0x260001, [2]), (.radioRestart q, 0x260001, [3]), (.radioStatsClear q, 0x26001B, [1]) ] : List (Instr × Key × Bytes)), P f.1 f.2.1 f.2.2) ∧
  ∀ f ∈ ([ (.emgTestStart q, 0x730009, [1]), (.emgTestEnd q, 0x730009, [2]), (.emgCancel q v, 0x730007, v), (.emgAcknowledge q, 0x730008, [1]),
      (.groupClear q v, 0x700003, v), (.functionTest q, 0x700009, [1]), (.durationTest q, 0x700009, [2]), (.testAbort q, 0x700009, [3]),
      (.faultClear q src, 0x71000C + 256 * src, [1]), (.swap q, 0x740005, [1]),
      (.shellImport q v, 0xA00004, v), (.shellDerive q v, 0xA00005, v), (.shellDestroy q shell, 0xA1000D + 256 * shell.toNat, [1]),
      (.attestChallenge q v, 0xA01001, v),
      (.installAtStart q, 0xB00009, [1]), (.installAndReset q, 0xB00009, [2]), (.emptyQuire q, 0xB00009, [3]), (.healthConfirm q, 0xB01001, [1]),
      (.waveStart q, 0xC01001, [1]), (.wavePause q, 0xC01001, [2]), (.waveResume q, 0xC01001, [3]), (.waveAbort q, 0xC01001, [4]),
      (.closeNow q, 0x900002, [1]) ] : List (Instr × Key × Bytes)), P f.1 f.2.1 f.2.2

/-- A property of every row that is the write of one register, with its register. -/
def ForWriteRows (q : Req) (v : Bytes) (ref : Ref) (pin : Fin 8) (zone : Fin 16384) (c : Fin 16) (P : Instr → Key → Prop) : Prop :=
  ∀ f ∈ ([ (.write q ref v, ref.index.toNat * 256 + ref.sub.toNat), (.gpioMode q pin v, 0x110001 + 256 * pin), (.mdpEthEnable q v, 0x210001),
      (.zoneTarget q zone v, 0x410001 + 256 * (zone / 64 : Nat) + (zone % 64 : Nat)), (.toMode q c v, 0x630001 + 256 * c), (.rtcTime q v, 0x610001),
      (.channelMap q v, 0x260004), (.mapPhase q v, 0x260006) ] : List (Instr × Key)), P f.1 f.2

/-- What a served command or write leaves: its items applied, and its answer. -/
def served (s : State) (q : Req) (o : MdpOp) (items : List (Key × Val)) : State :=
  conclude (applyItems (makeDurable (begun s q) items) items) q.sid q.tid o (some (0, []))

/-- A property of every row that is the BLOCK_END of a transfer. -/
def ForEndRows (q : Req) (h : Byte) (k : Fin 2) (P : Instr → Prop) : Prop :=
  ∀ c ∈ ([.blockEnd q h, .zoneMap q h, .calibration q h, .imageLoad q h, .programSet q h, .matrix q k h, .partnerTable q h, .package q h] : List Instr),
    P c

/-- A whole BLOCK_END of a write transfer: every byte received, the CRC right, and no power-fail warning in its way (R95, R97, R91). -/
def Whole (s : State) (q : Req) (h : Byte) (x : Transfer) : Prop :=
  Taken s q (.blockEnd h) ∧ transferOf (begun s q) q.sid h = some x ∧ x.write = true ∧ x.content.length = x.size ∧ crc32 x.content = x.crc ∧
    (s.power.warning = true → writesStore (begun s q) x.key = false)

end Sys2Proof.Claim

/-- R85, R88, R76: READ answers the type code, the length and the value of its sub-index, READ_MULTI one result per reference in order, a failed one with its status; a
read changes nothing but its session. The value of a plain register is what it holds. -/
def Obligations.Reads : Prop :=
  (∀ (s : State) (q : Req) (ref : Ref), Taken s q (.read ref) → checkRead (begun s q) q.sid ref = 0 →
    let v := readItem (begun s q) ref
    3 + v.2.length ≤ lenLimit q.sid →
      ∃ t, Goes (.read q ref) s t ∧ OnlyServer s t ∧ Answered s t q 0x01 0 (BitVec.ofNat 8 v.1 :: leBytes 2 v.2.length ++ v.2)) ∧
  (∀ (s : State) (q : Req) (refs : List Ref), Taken s q (.readMulti refs) → refs ≠ [] → refs.length ≤ 32 →
    let body := refs.flatMap fun r =>
      let e := checkRead (begun s q) q.sid r
      let v := readItem (begun s q) r
      if e = 0 then 0 :: BitVec.ofNat 8 v.1 :: leBytes 2 v.2.length ++ v.2 else [e, 0, 0, 0]
    body.length ≤ lenLimit q.sid → ∃ t, Goes (.readMulti q refs) s t ∧ OnlyServer s t ∧ Answered s t q 0x03 0 body) ∧
  ∀ (s : State) (ref : Ref) (d : Decl), declOf s ref.index.toNat ref.sub.toNat = some d → ref.sub ≠ 0 → isOem ref.index.toNat = false →
    liveVal s ref.index.toNat ref.sub.toNat = none →
    readItem s ref = (d.ty.code, valBytes d.ty (reg s (ref.index.toNat * 256 + ref.sub.toNat)))

/-- R78, R85, R86: each command row is the COMMAND of one register with its value; one that is taken and passes the checks of Table 4-5 takes effect at once and is answered with status 0. -/
def Sys2Proof.Claim.CommandsServed : Prop :=
  ∀ (s : State) (q : Req) (v : Bytes) (lum shell : Byte) (k c : Fin 16) (n : Fin 8) (b : Fin 4) (a : Fin 2) (src : Fin 64),
    ForCommandRows q v lum shell k c n b a src fun i key w =>
      Commanded s q key w → Goes i s (served s q (.command (refOf key) w) [itemOf s q key w])

/-- R85 to R87, R90: each write row is the WRITE of one register; one that is taken and passes the checks is durable first where its register is RWP, takes effect at once and is answered with status 0; a
WRITE_MULTI whose items all pass applies them together. -/
def Sys2Proof.Claim.WritesServed : Prop :=
  (∀ (s : State) (q : Req) (v : Bytes) (ref : Ref) (pin : Fin 8) (zone : Fin 16384) (c : Fin 16), 
    ForWriteRows q v ref pin zone c fun i key =>
      Written s q key v → Goes i s (served s q (.write (refOf key) v) [itemOf s q key v])) ∧
  ∀ (s : State) (q : Req) (is : List Item), Taken s q (.writeMulti is) → is ≠ [] → is.length ≤ 32 →
    let items := is.map fun i => storedItem (begun s q) i.ref i.value
    (∀ i ∈ is, checkWrite (begun s q) (items.foldl withItem (begun s q)) q.sid false i.ref i.value = 0) →
    (∀ i ∈ items, isInput i.1 = false ∧ isCommand (begun s q) i.1 = false) → s.server.waiting = [] →
    ((∀ i ∈ items, isRwp (begun s q) i.1 = false) ∨ (is.map fun i => i.value.length).sum ≤ 256) →
    Goes (.writeMulti q is) s (served s q (.writeMulti is) items)

/-- R78, R90: an accepted write of a plain RWP register, one to which its entry adds nothing, gives it the value, makes that its stored value in MRAM, and leaves every other register
but TXN_COUNT and FRAME_ERRORS. -/
def Sys2Proof.Claim.WriteIsDurable : Prop :=
  ∀ (s : State) (q : Req) (k : Key) (v : Bytes), Written s q k v →
    isRwp (begun s q) k = true → isInput k = false → storeDegraded s = false →
    ((0x1050 ≤ k / 256 ∧ k / 256 < 0x1100) ∨ (0x2200 ≤ k / 256 ∧ k / 256 < 0x2400) ∨ (0x3000 ≤ k / 256 ∧ k / 256 < 0x4000) ∨
      (0x8000 ≤ k / 256 ∧ k / 256 < 0xC000)) →
    ∃ t, Goes (.write q (refOf k) v) s t ∧ reg t k = (itemOf s q k v).2 ∧ homeVal t k = some (itemOf s q k v).2 ∧
      ∀ j, j ≠ k → j ≠ kTxnCount → j ≠ kFrameErrors → reg t j = reg s j

/-- R86, R176, R177: a change of an engine input that passes its checks while an engine reads them waits for an input window, unanswered, and so does a change that
comes while another waits; INPUT_CHANGE_APPLIED applies the oldest in its window, answers it, and serves what its session asked meanwhile. -/
def Obligations.InputChangesWait : Prop :=
  (∀ (s : State) (q : Req) (v : Bytes) (lum shell : Byte) (k c : Fin 16) (n : Fin 8) (b : Fin 4) (a : Fin 2) (src : Fin 64),
    ForCommandRows q v lum shell k c n b a src fun i key w =>
      Taken s q (.command (refOf key) w) → checkWrite (begun s q) (begun s q) q.sid true (refOf key) w = 0 →
      (isInput (itemOf s q key w).1 = true ∧ noReaders s = false) ∨ s.server.waiting ≠ [] → (itemOf s q key w).1 ≠ kRec 2 →
      ∃ t, Goes i s t ∧ { t with server := s.server } = s ∧
        t.server.waiting = s.server.waiting ++ [{ sid := q.sid, tid := q.tid, op := 0x30, items := [itemOf s q key w], domain := none, inner := none }] ∧
        (session t q.sid).busy = (session s q.sid).busy ++ [q.tid]) ∧
  ∀ (s : State) (w : Waiting) (rest : List Waiting), s.server.waiting = w :: rest →
    (mayApply s = false → Goes .inputChangeApplied s s) ∧
    (mayApply s = true → w.domain = none → w.task = none →
      let t := respond (applyItems { s with server := { s.server with waiting := rest } } w.items) w.sid w.tid w.op 0 [] w.inner
      Goes .inputChangeApplied s (drainHeld t.server.held t)) ∧
    ∀ x, mayApply s = true → w.task = some x →
      let t := runTask { s with server := { s.server with waiting := rest } } x
      Goes .inputChangeApplied s (drainHeld t.server.held t)

/-- R94 to R97, R107: BLOCK_BEGIN opens a transfer under a free handle of its session, and answers the handle, size, CRC and greatest chunk; BLOCK_DATA appends a
chunk in sequence to a write transfer, and answers a piece of a read transfer's content.
Where the spec leaves it open, the model's own reading enters: log entries 29 and 69. -/
def Obligations.Transfers : Prop :=
  (∀ (s : State) (q : Req) (ref : Ref) (size crc : Word) (write : Bool), Taken s q (.blockBegin ref write size crc) →
    (write = false → size = 0 ∧ crc = 0) →
    beginCheck (begun s q) q.sid ref write size.toNat = 0 → (∃ h : Byte, transferOf (begun s q) q.sid h = none) →
    ∃ t h x, Goes (if write then .blockBeginWrite q ref size crc else .blockBeginRead q ref) s t ∧
      transferOf (begun s q) q.sid h = none ∧ transferOf t q.sid h = some x ∧
      x.key = ref.index.toNat * 256 + ref.sub.toNat ∧ x.write = write ∧
      (write = true → x.size = size.toNat ∧ x.crc = crc.toNat ∧ x.content = []) ∧
      (write = false → isRecDomain x.key = false → x.content = readDomain (begun s q) ref.index.toNat ref.sub.toNat ∧
        x.size = x.content.length ∧ x.crc = crc32 x.content) ∧
      Answered s t q 0x10 0 ([h] ++ leBytes 4 x.size ++ leBytes 4 x.crc ++ leBytes 2 (lenLimit q.sid - 13))) ∧
  (∀ (s : State) (q : Req) (h : Byte) (off : Word) (v : Bytes) (x : Transfer), Taken s q (.blockData h off (.write v)) →
    transferOf (begun s q) q.sid h = some x → x.write = true → off.toNat = x.content.length → v.length + 13 ≤ lenLimit q.sid →
    x.content.length + v.length ≤ x.size → (s.power.warning = true → writesStore (begun s q) x.key = false) →
    ∃ t, Goes (.blockData q h off (.write v)) s t ∧ OnlyServer s t ∧
      transferOf t q.sid h = some { x with content := x.content ++ v, usedAt := s.clk } ∧ Answered s t q 0x11 0 []) ∧
  ∀ (s : State) (q : Req) (h : Byte) (off : Word) (n : Half) (x : Transfer), Taken s q (.blockData h off (.read n)) →
    transferOf (begun s q) q.sid h = some x → x.write = false → isRecDomain x.key = false → n.toNat + 13 ≤ lenLimit q.sid → off.toNat + n.toNat ≤ x.size →
    ∃ t, Goes (.blockData q h off (.read n)) s t ∧ OnlyServer s t ∧
      Answered s t q 0x11 0 (leBytes 2 (slice x.content off.toNat n.toNat).length ++ slice x.content off.toNat n.toNat)

/-- R94, R95, R97, R102, R450: BLOCK_END, under any of its rows: a read transfer closes; a write transfer's content that is whole and passes its entry's rules is durable in one transaction and takes effect; an image is
taken; a package is staged.
Where the spec leaves it open, the model's own reading enters: log entries 29, 52 and 67. -/
def Obligations.TransferEnds : Prop :=
  ∀ (s : State) (q : Req) (h : Byte) (k : Fin 2), ForEndRows q h k fun c =>
    (∀ x, Taken s q (.blockEnd h) → transferOf (begun s q) q.sid h = some x → x.write = false →
      Goes c s (conclude (closedTransfer (begun s q) x) q.sid q.tid (.blockEnd h) (some (0, [])))) ∧
    (∀ x, Whole s q h x → x.key ≠ kImage → x.key ≠ kPackage →
      isInputDomain x.key = false → s.server.waiting = [] → (checkContent (begun s q) x.key x.content).1 = true →
      let u := closedTransfer (checkContent (begun s q) x.key x.content).2 x
      storeDegraded u = false → u.server.waiting = [] → Goes c s (conclude (applyContent (storeContent u x.key x.content) x.key (domain u x.key)) q.sid q.tid (.blockEnd h) (some (0, [])))) ∧
    (∀ x, Whole s q h x → (x.key = kZoneMap ∨ x.key = kCalibration ∨ x.key = kAreas) → noReaders s = true → s.server.waiting = [] →
      (checkContent (begun s q) x.key x.content).1 = true → storeDegraded s = false →
      let u := closedTransfer (begun s q) x
      Goes c s (conclude (applyContent (storeContent u x.key x.content) x.key (domain u x.key)) q.sid q.tid (.blockEnd h) (some (0, [])))) ∧
    (∀ x, Whole s q h x → x.key = kImage → (imageOk (begun s q) q.sid x.content).1 = true →
      let u := closedTransfer (imageOk (begun s q) q.sid x.content).2 x
      let r := takeImage u x.content
      storeDegraded u = false ∨ (imageFull x.content = true ∧ imageLive x.content = false) → u.power.warning = false → r.2.server.waiting = [] →
      (∀ i ∈ r.1, isInput i.1 = false) →
      Goes c s (conclude (applyItems r.2 r.1) q.sid q.tid (.blockEnd h) (some (0, [])))) ∧
    ∀ x, Whole s q h x → x.key = kPackage → (stagePackage (closedTransfer (begun s q) x) x.content).1 = true →
      ∃ t, Goes c s t ∧ nat t (kUpdate 7) = 2 ∧ t.mram.folios.quire = x.content ∧ num t (kUpdate 8) = pkgVersion x.content ∧ Answered s t q 0x12 0 []

/-- R94: content stored for an entry is what the entry holds afterwards, in the other of its two buffers, and one transaction is counted; no other entry's content changes. -/
def Sys2Proof.Claim.ContentStored : Prop :=
  ∀ (s : State) (k : Key) (b : Bytes), storeDegraded s = false →
    let t := storeContent s k b
    domain t k = b ∧ (∀ j, j ≠ k → domain t j = domain s j) ∧ num t kTxnCount = num s kTxnCount + 1 ∧
      tabFind t.mram.store.buffers k = some (1 - (tabFind s.mram.store.buffers k).getD 0) ∧ t.mem = s.mem

/-- R78, R85 to R87, R90: every row that is the COMMAND or the WRITE of a register, and WRITE_MULTI. -/
def Obligations.RequestsServed : Prop := CommandsServed ∧ WritesServed

/-- R78, R90, R94: what an accepted write of an RWP register, and content stored for an entry, leave in MRAM. -/
def Obligations.Durability : Prop := WriteIsDurable ∧ ContentStored
/-! ## Subscriptions, authentication, sessions, PROXY, the host port and the console -/

/-- R98: a SUBSCRIBE that passes its checks adds a subscription under a free number and answers the number; with mode 0 the session's subscription to the reference and its queued notifications go. -/
def Sys2Proof.Claim.Subscriptions : Prop :=
  (∀ (s : State) (q : Req) (ref : Ref) (n : Word) (periodic : Bool), Taken s q (.subscribe ref (if periodic then 2 else 1) n) →
    subscribeCheck (begun s q) q.sid ref periodic n.toNat = 0 →
    let num := freeSub (begun s q)
    ∃ t, Goes (if periodic then .subscribePeriodic q ref n else .subscribeOnChange q ref n) s t ∧
      Answered s t q 0x20 0 (leBytes 2 num) ∧ t.server.subs.length = s.server.subs.length + 1 ∧
      ∃ b ∈ t.server.subs, b.num = num ∧ b.sid = q.sid ∧ b.index = ref.index.toNat ∧ b.sub = ref.sub.toNat ∧ b.periodic = periodic ∧
        b.interval = n.toNat) ∧
  ∀ (s : State) (q : Req) (ref : Ref) (b : Sub), Taken s q (.subscribe ref 0 0) →
    s.server.subs.find? (fun x => x.sid == q.sid && x.index == ref.index.toNat && x.sub == ref.sub.toNat) = some b →
    ∃ t, Goes (.subscribeCancel q ref) s t ∧ OnlyServer s t ∧ Answered s t q 0x20 0 (leBytes 2 b.num) ∧
      t.server.subs = s.server.subs.filter (fun x => x.num != b.num) ∧ t.server.notices = s.server.notices.filter (fun n => n.num != b.num)

/-- R98 to R100: an ON_CHANGE subscription to a register sends its oldest notification, in its turn and once durable, with its change count, and then holds it no more; a PERIODIC one sends the value with count 0. Both note the time. -/
def Sys2Proof.Claim.Notifications : Prop :=
  (∀ (s : State) (n : Half) (b : Sub) (x : Notice), subNumbered s n.toNat = some b → b.sid = 0 → b.sub ≠ 0xFF → b.periodic = false →
    liveVal s b.index b.sub = none → s.server.notices.find? (fun y => y.num == b.num) = some x → mayNotify s x = true →
    let u := { s with server := { s.server with notices := s.server.notices.erase x } }
    ∃ t, Goes (.notifyOnChange n) s t ∧ t.server.notices = s.server.notices.erase x ∧ t.regs = s.regs ∧
      t.server.hostQueue = s.server.hostQueue ++ [hostFrame (mdpMsg 0x21 0 0 0 (notifyBody u b.num x.key x.count (noticeValue u x)))] ∧
      (subNumbered t n.toNat).bind (·.sentAt) = some s.clk) ∧
  ∀ (s : State) (n : Half) (b : Sub), subNumbered s n.toNat = some b → b.sid = 0 → b.sub ≠ 0xFF → b.periodic = true →
    ∃ t, Goes (.notifyPeriodic n) s t ∧ { t with server := s.server } = s ∧
      t.server.hostQueue = s.server.hostQueue ++ [hostFrame (mdpMsg 0x21 0 0 0 (notifyBody s b.num (b.index * 256 + b.sub) 0 none))] ∧
      (subNumbered t n.toNat).bind (·.sentAt) = some s.clk

/-- R110, R82, R441: AUTH_BEGIN for a shell that may be used answers a fresh 16-byte nonce; AUTH_PROVE with the right tag within 10 s gives the session the shell's role and takes the nonce; one with no
nonce standing is a counted failure; a lockout ends. -/
def Sys2Proof.Claim.Authentication : Prop :=
  (∀ (s : State) (q : Req) (n : Byte), Taken s q (.authBegin n) → q.sid < 0x2000 →
    ((tabFind s.server.lockouts (transportNo (transportOf q.sid))).getD {}).locked = false →
    (mayUse (begun s q) n.toNat 0 [5, 6, 7]).1 = true →
    ∃ t nonce, nonce.length = 16 ∧ Goes (.authBegin q n) s t ∧ (session t q.sid).nonce = some (nonce, n.toNat, s.clk) ∧
      t.fresh = s.fresh + 16 ∧ Answered s t q 0x50 0 nonce) ∧
  (∀ (s : State) (q : Req) (tag nonce : Bytes) (n at_ : Nat), Taken s q (.authProve tag) → q.sid < 0x2000 →
    (session s q.sid).nonce = some (nonce, n, at_) → s.clk < at_ + secs 10 → tag.length = 16 →
    let u := mayUse (putSession (begun s q) q.sid { session (begun s q) q.sid with nonce := none }) n 0 [5, 6, 7]
    u.1 = true → (shell u.2 n).usesLeft ≠ 1 →
    tag = (hmac (shell u.2 n).key (nonce ++ leBytes 8 (serial u.2) ++ leBytes 2 q.tid.toNat)).take 16 →
    ∃ t, Goes (.authProve q tag) s t ∧ (session t q.sid).role = shellGrant u.2 n ∧ (session t q.sid).nonce = none ∧
      (session t q.sid).shell = some (n, (shell u.2 n).generation)) ∧
  (∀ (s : State) (q : Req) (tag : Bytes), Taken s q (.authProve tag) → tag.length = 16 → (session s q.sid).nonce = none →
    ∃ t, Goes (.authProve q tag) s t ∧ num t 0x210005 = (num s 0x210005 + 1) % 2 ^ 32 ∧ (session t q.sid).role = (session s q.sid).role) ∧
  ∀ (s : State) (tr : Transport) (l : Lockout), tabFind s.server.lockouts (transportNo tr) = some l →
    ∃ t, Goes (.authLockoutEnd tr) s t ∧ tabFind t.server.lockouts (transportNo tr) = some { l with locked := false } ∧ { t with server := s.server } = s

/-- R97, R111, R117: when a session closes, by CLOSE or by the timeout of an Ethernet session, its record, its subscriptions, its notifications and its transfers are gone, and no other session's are; a transfer that
times out is gone. -/
def Obligations.SessionEnds : Prop :=
  (∀ (s t : State) (sid : Nat) (q : Req),
    (Goes (.sessionTimeout sid) s t ∧ transportOf sid = .ethernet) ∨ (Taken s q .close ∧ sid = q.sid ∧ Goes (.close q) s t) →
    tabFind t.server.sessions sid = none ∧ (∀ b ∈ t.server.subs, b.sid ≠ sid) ∧ (∀ n ∈ t.server.notices, n.sid ≠ sid) ∧
      (∀ x ∈ t.server.transfers, x.sid ≠ sid) ∧
      (∀ b ∈ s.server.subs, b.sid ≠ sid → b ∈ t.server.subs) ∧ ∀ x ∈ s.server.transfers, x.sid ≠ sid → x ∈ t.server.transfers) ∧
  (∀ (s : State) (sid : Nat), ∃ t, Goes (.sessionTimeout sid) s t) ∧ (∀ (s : State) (q : Req), ∃ t, Goes (.close q) s t) ∧
  ∀ (s : State) (sid : Nat) (h : Byte), ∃ t, Goes (.transferTimeout sid h) s t ∧ transferOf t sid h = none ∧
    ∀ x ∈ s.server.transfers, (x.sid ≠ sid ∨ x.handle ≠ h.toNat) → x ∈ t.server.transfers

/-- R116, R117: a DTLS handshake that offers the suite, names a usable shell of this module and proves the PSK opens a session with the shell's role; one that does not offer it is refused with alert 40 and
counted. A record of an open session brings its message; one that fails the record protection is counted. -/
def Sys2Proof.Claim.Handshakes : Prop :=
  (∀ (s : State) (hs : Handshake), ethOpen s = true → transportOf hs.sid = .ethernet → hs.offers = false →
    ∃ t, Goes (.dtlsHandshake (.handshake hs)) s t ∧ t.out = .alert hs.sid 40 :: s.out ∧ num t 0x210005 = (num s 0x210005 + 1) % 2 ^ 32 ∧
      tabFind t.server.sessions hs.sid = tabFind s.server.sessions hs.sid) ∧
  (∀ (s : State) (sid : Nat) (m : Bytes), ethOpen s = true → transportOf sid = .ethernet →
    Goes (.dtlsHandshake (.record sid none)) s (bump s kFrameErrors) ∧
    ((tabFind s.server.sessions sid).isSome = true →
      Goes (.dtlsHandshake (.record sid (some m))) s (takeMessage (putSession s sid { session s sid with usedAt := s.clk }) sid m))) ∧
  ∀ (s : State) (hs : Handshake) (n : Byte), ethOpen s = true → transportOf hs.sid = .ethernet → hs.offers = true →
    (s.server.sessions.filter fun x => transportOf x.1 == .ethernet && x.1 != hs.sid && !x.2.closed).length < 16 →
    hs.identity = n :: leBytes 8 (serial s) → (mayUse s n.toNat 0 [5, 6, 7]).1 = true →
    let u := (mayUse s n.toNat 0 [5, 6, 7]).2
    (shell u n.toNat).usesLeft ≠ 1 → hs.proof = kdf (shell u n.toNat).key (ascii "MDP-DTLS") (shell u n.toNat).context 256 →
    ∃ t, Goes (.dtlsHandshake (.handshake hs)) s t ∧
      session t hs.sid = { role := shellGrant u n.toNat, shell := some (n.toNat, (shell u n.toNat).generation), usedAt := s.clk }

/-- R122, R123: a PROXY that the checks turn away is answered with their code; one for another module is forwarded under a number of its own and stays outstanding; one for this module is answered with
the enclosed response; a retry repeats it; the worker's response, or the timeout, answers it and ends it. -/
def Obligations.ProxyRequests : Prop :=
  (∀ (s : State) (q : Req) (p : ProxyReq), Admitted s q → transportOf q.sid ≠ .floor → transportOf q.sid ≠ .air →
    Free s q (p.target.toNat % 256 = 0 && writesPersistent (begun s q) q.sid p.inner) → proxyLen p ≤ lenLimit q.sid → p.side.toNat ≤ 2 →
    (proxyCheck (begun s q) p ≠ 0 → ∃ t, Goes (.proxy q p) s t ∧ OnlyServer s t ∧ Answered s t q 0x40 (proxyCheck (begun s q) p) []) ∧
    (proxyCheck (begun s q) p = 0 → ¬ (p.target.toNat % 256 = 0 ∧ (p.side = 0 ∨ p.side.toNat = ownSide s)) →
      (s.server.flights.filter fun f => f.2.sid != waveSid && f.2.sid != dutySid).length < 64 →
      ∃ t f, Goes (.proxy q p) s t ∧ tabFind t.server.flights s.server.nextFlight = some f ∧ f.sid = q.sid ∧ f.tid = q.tid ∧ f.target = p.target.toNat ∧
        f.side = p.side.toNat ∧ f.inner = p.inner ∧ f.itid = p.tid ∧ f.sends = 1 ∧
        f.timeout = (if p.timeout = 0 then nat s 0x210006 else p.timeout.toNat) ∧
        t.out = .forward s.server.nextFlight p.target.toNat p.side.toNat ((roleOf (begun s q) q.sid).getD .observer) (requestMsg p.inner (BitVec.ofNat 16 s.server.nextFlight) false) :: s.out ∧
        (session t q.sid).busy = (session s q.sid).busy ++ [q.tid]) ∧
    ∀ r v, proxyCheck (begun s q) p = 0 → p.target.toNat % 256 = 0 → (p.side = 0 ∨ p.side.toNat = ownSide s) → p.inner = .read r →
      checkRead (begun s q) q.sid r = 0 → readItem (begun s q) r = v → 3 + v.2.length + 8 ≤ lenLimit q.sid →
      ∃ t, Goes (.proxy q p) s t ∧ OnlyServer s t ∧
        Answered s t q 0x40 0 (responseMsg 0x01 p.tid 0 (BitVec.ofNat 8 v.1 :: leBytes 2 v.2.length ++ v.2))) ∧
  (∀ (s : State) (n : Nat) (f : Flight), tabFind s.server.flights n = some f →
    (∃ t, Goes (.proxyRetry n) s t ∧ tabFind t.server.flights n = some { f with sends := f.sends + 1 } ∧
      t.out = .forward n f.target f.side f.role (requestMsg f.inner (BitVec.ofNat 16 n) true) :: s.out) ∧
    (f.sid ≠ waveSid → f.sid ≠ dutySid → f.sid < 0x2000 → f.tid ∈ (session s f.sid).busy → ∃ t, Goes (.proxyTimeout n) s t ∧ tabFind t.server.flights n = none ∧
      (session t f.sid).kept.head? = some { tid := f.tid, op := 0x40, status := 0x12, body := [], at_ := s.clk }) ∧
    ∀ body : Bytes, messageWhole body = true → 128 ≤ (body.getD 1 0).toNat → f.sid ≠ waveSid → f.sid ≠ dutySid → f.sid < 0x2000 → f.tid ∈ (session s f.sid).busy → body.length ≤ lenLimit f.sid →
      ∃ t, Goes (.proxyResponse n body) s t ∧ tabFind t.server.flights n = none ∧
        (session t f.sid).kept.head? = some { tid := f.tid, op := 0x40, status := 0, body := body.take 2 ++ leBytes 2 f.itid.toNat ++ body.drop 4, at_ := s.clk })

/-- R113 to R115: in a host transaction the queued frame leaves on HMISO, padded with zeros, and is queued no more unless it was cut short; a frame of the host whose CRC-32 is right delivers its message; one whose CRC is
wrong, or that is cut short, is counted. -/
def Sys2Proof.Claim.HostTransactions : Prop :=
  (∀ (s : State) (mosi : Bytes), transportOpen s 0 = true → mosi.contains 0xA5 = false →
    let frame := s.server.hostQueue.headD []
    ∃ t, Goes (.hostSpiTransaction ⟨mosi, false⟩) s t ∧ { t with server := s.server, out := s.out } = s ∧
      t.out = .host ((frame ++ List.replicate mosi.length 0).take mosi.length) :: s.out ∧
      t.server = { s.server with hostQueue := if frame.length ≤ mosi.length then s.server.hostQueue.drop 1 else s.server.hostQueue }) ∧
  (∀ (s : State) (msg pad : Bytes), transportOpen s 0 = true → s.server.hostQueue = [] → msg.length < 2 ^ 16 →
    let mosi := hostFrame msg ++ pad
    Goes (.hostSpiTransaction ⟨mosi, false⟩) s (takeMessage (emit s (.host (List.replicate mosi.length 0))) 0 msg)) ∧
  ∀ (s : State) (b : Bytes), transportOpen s 0 = true → (b.length < 6 + fieldAt b 0 2 ∨ crc32 (b.take (2 + fieldAt b 0 2)) ≠ fieldAt b (2 + fieldAt b 0 2) 4) →
    ∃ t, Goes (.hostSpiTransaction ⟨0xA5 :: b, false⟩) s t ∧ num t 0x220002 = (num s 0x220002 + 1) % 2 ^ 32

/-- R104, R114: a request that reaches the server as a message is the request that was sent; one that is not whole is counted. -/
def Sys2Proof.Claim.MessagesTaken : Prop :=
  (∀ (s : State) (sid : Nat) (o : MdpOp) (tid : Half) (retry : Bool), transportOpen s sid = true → Sendable o → opLen o < 2 ^ 16 →
    takeMessage s sid (requestMsg o tid retry) = serve s { sid := sid, tid := tid, retry := retry } o) ∧
  ∀ (s : State) (sid : Nat) (m : Bytes), transportOpen s sid = true → messageWhole m = false → takeMessage s sid m = bump s kFrameErrors

/-- R121: a console line that is too long or no command of Table 5-9 is answered with its error on one line; `close` and `auth` are requests of the console's session. -/
def Sys2Proof.Claim.ConsoleLines : Prop :=
  (∀ (s : State) (line : Bytes), transportOpen s 1 = true → (∀ b ∈ line, b ≠ 0x0D ∧ b ≠ 0x0A) → 2200 < line.length →
    ∃ t, Goes (.consoleLine line) s t ∧ t = emit s (.console (errorText 0xD))) ∧
  (∀ (s : State), transportOpen s 1 = true →
    Goes (.consoleLine (ascii "close")) s (serve s { sid := 1, tid := 0, retry := false } .close) ∧
    Goes (.consoleLine (ascii "auth 7")) s (serve s { sid := 1, tid := 0, retry := false } (.authBegin 7)) ∧
    Goes (.consoleLine (ascii "reboot")) s (emit s (.console (errorText 0xE)))) ∧
  ∀ (s : State) (ref : Ref), transportOpen s 1 = true → mute s 1 = false → s.server.held = [] → checkRead s 1 ref = 0 →
    notCarried s 1 (.read ref) = false → 3 + (readItem s ref).2.length ≤ 1280 →
    (session s 1).closed = false → (∀ w ∈ s.server.waiting, w.sid ≠ 1) →
    serve s { sid := 1, tid := 0, retry := false } (.read ref) =
      emit s (.console (replyText (.read ref) 0 (BitVec.ofNat 8 (readItem s ref).1 :: leBytes 2 (readItem s ref).2.length ++ (readItem s ref).2)))

/-- R180: a mailbox request to read is answered in its block: STATUS, the type and the value; the mailbox is free again and a MAILBOX event joins the engine's queue. -/
def Sys2Proof.Claim.MailboxResponses : Prop :=
  ∀ (s : State) (k : Fin 16) (a : Nat), (engine s k).mailbox = some a → (engine s k).queue.length < 64 → (s.server.waiting.any fun w => w.sid == 0x100 + k) = false →
    let b := memBytes s.mem (localBase k + a) 256
    let ref := refAt b 2
    (b.getD 0 0).toNat = 1 → ((engine s k).program = 0xFE ∨ ((engine s k).mbxFirst ≤ ref.index.toNat ∧ ref.index.toNat ≤ (engine s k).mbxLast)) →
    checkRead s (0x100 + k) ref = 0 → (readItem s ref).2.length ≤ 248 →
    ∃ t, Goes (.mailboxResponse k) s t ∧ (engine t k).mailbox = none ∧ (engine t k).queue.length = (engine s k).queue.length + 1 ∧ t.regs = s.regs ∧
      memRead t.mem (localBase k + a + 1) = 0 ∧ memRead t.mem (localBase k + a + 5) = BitVec.ofNat 8 (readItem s ref).1 ∧
      memBytes t.mem (localBase k + a + 8) (readItem s ref).2.length = (readItem s ref).2

/-- R98, R100: the four subscription rows and the two notification rows.
Where the spec leaves it open, the model's own reading enters: log entries 39, 70 and 71. -/
def Obligations.SubscriptionsAndNotifications : Prop := Subscriptions ∧ Notifications

/-- R82, R110, R116, R117, R441: the ways in which a session gains the role of a shell.
Where the spec leaves it open, the model's own reading enters: log entries 30 and 31. -/
def Obligations.AuthenticationAndHandshakes : Prop := Authentication ∧ Handshakes

/-- R104, R113 to R115: the host port's transactions, and what a message that arrives does. -/
def Obligations.HostMessages : Prop := HostTransactions ∧ MessagesTaken

/-- R121, R180: the console's lines, and the answer to an engine's mailbox request.
Where the spec leaves it open, the model's own reading enters: log entry 47. -/
def Obligations.ConsoleAndMailbox : Prop := ConsoleLines ∧ MailboxResponses
/-! ## Supplies, resets, the start (chapters 02 and 03) -/

namespace Sys2Proof.Claim

/-- The MRAM after a reset of the whole module: what it holds, but that a power-fail warning in force has kept the key area and the air counters as they were
before it (R49, Table 2-8). -/
def mramKept (s : State) : Mram :=
  match s.durable with
  | some d => { s.mram with keys := d.1, airTx := d.2.1, airRx := d.2.2 }
  | none => s.mram

/-- The module after a reset of the whole module with a cause and a detail (R58): MRAM, backup domain and supplies stand; memory, engines, lanes, channels, buses, the radio, the meter, the
server and every register outside the backup domain but RESET_CAUSE and its detail are as after power-on. `held` says whether it waits for its release. -/
def ResetTo (s t : State) (cause detail : Nat) (held : Bool) : Prop :=
  t.mram = mramKept s ∧ t.backup = s.backup ∧ t.power = s.power ∧ t.pending = s.pending ∧ t.clk = s.clk ∧
  t.mem = [] ∧ t.engines = {} ∧ t.lanes = {} ∧ t.dma = {} ∧ t.bus = [] ∧ t.air = {} ∧ t.meter = {} ∧ t.time = {} ∧ t.faults = [] ∧
  t.server = {} ∧ t.safety = {} ∧ t.update = {} ∧ t.recorder = {} ∧ t.zones = {} ∧ t.deferred = [] ∧ t.keptHeld = [] ∧ t.logHeld = [] ∧
  t.bookmarkDue = false ∧ t.pair = { grant := s.pair.grant } ∧ (∀ n, (gpio t n) = { raw := (gpio s n).raw }) ∧
  t.start.held = held ∧ t.start.running = !held ∧ t.start.next = 0 ∧ t.start.ordered = none ∧
  (∀ k, isBackup k = true → reg t k = reg s k) ∧
  (∀ k, isBackup k = false → k ≠ 0x103001 → k ≠ 0x103002 → reg t k = dfltOf k) ∧
  num t 0x103001 = (if s.start.held then min cause (nat s 0x103001) else cause : Nat) ∧
  (s.start.held = false → num t 0x103002 = (detail : Int))

/-- A raise counts the source (R412, Table 16-8) and leaves memory and what the MRAM stores of the dictionary. -/
def Raised (s t : State) (src : Nat) : Prop :=
  num t (kFault src 8) = (num s (kFault src 8) + 1) % 2 ^ 32 ∧ t.mem = s.mem ∧ t.mram.store = s.mram.store

end Sys2Proof.Claim

/-- R51, R58, R59: POWER_ON_RESET, BROWN_OUT_RESET and a low pulse of 10 µs or more on RST_N reset the module and hold it, with causes 0, 1 and 2, the lowest of causes that coincide; a pulse below 1 µs is ignored. MODULE_RESET takes the
reset that is ordered, and nothing where none is. RESET_RELEASE lets the start begin at step 0. -/
def Sys2Proof.Claim.Resets : Prop :=
  (∀ s : State, (∃ t, Goes .powerOnReset s t ∧ ResetTo s t 0 0 true) ∧ (∃ t, Goes .brownOutReset s t ∧ ResetTo s t 1 0 true)) ∧
  (∀ (s : State) (ns : Nat), (10000 ≤ ns → ∃ t, Goes (.externalReset ns) s t ∧ ResetTo s t 2 0 true) ∧
    (ns < 1000 → Goes (.externalReset ns) s s) ∧ (∃ t, Goes (.externalReset ns) s t)) ∧
  (∀ (s : State) (c d : Nat), s.start.ordered = some (c, d) → ∃ t, Goes .moduleReset s t ∧ ResetTo s t c d false) ∧
  (∀ s : State, s.start.ordered = none → Goes .moduleReset s s) ∧
  ∀ (s : State) (v : Bool), (s.start.held = true → ∃ t, Goes (.resetRelease v) s t ∧ t.start.held = false ∧ t.start.running = true ∧ t.start.next = 0 ∧
      t.power.vio33 = v ∧ t.power.warning = false ∧ t.keptHeld = [] ∧ t.durable = none ∧
      { t with start := s.start, power := s.power, keptHeld := s.keptHeld, durable := s.durable } = s) ∧
    (s.start.held = false → Goes (.resetRelease v) s s)

/-- R58, R333: the loss of the backup domain loses the calendar clock, the alarms, the scratch and the backup copy of the bookmark, and sets OSC_STOPPED and TIME_INVALID; MRAM and every
other register stand. -/
def Sys2Proof.Claim.BackupLoss : Prop :=
  ∀ s : State, ∃ t, Goes .backupDomainLoss s t ∧ t.mram = s.mram ∧ t.mem = s.mem ∧ t.backup.bookmark = none ∧ t.backup.valid = false ∧
    bit t (kRtc 6) 0 = true ∧ bit t (kRtc 6) 2 = true ∧ (∀ k, isBackup k = false → reg t k = reg s k) ∧
    ∀ k, isBackup k = true → k ≠ kRtc 6 → reg t k = dfltOf k

/-- R50, R91, R416, R466: a power-fail warning raises source 24 and stands, the recorder's records wait, and the MRAM keeps what it holds of the key area and the air
counters; once it clears every MRAM write that waited has been made, none waits any more, a recorder in BACKLOG has written its records and runs, and the warning is over. -/
def Obligations.PowerFail : Prop :=
  (∀ s : State, s.start.held = false → s.power.warning = false →
    ∃ t, Goes .powerFailWarning s t ∧ t.power.warning = true ∧ Raised s t 24 ∧ t.durable = some (s.mram.keys, s.mram.airTx, s.mram.airRx) ∧
      recState t = if recState s = 1 then 3 else recState s) ∧
  (∀ s : State, s.start.held = true ∨ s.power.warning = true → Goes .powerFailWarning s s) ∧
  (∀ s : State, s.power.warning = false → Goes .warningCleared s s) ∧
  ∀ s : State, s.power.warning = true →
    ∃ t, Goes .warningCleared s t ∧ recState t = (if recState s = 3 then 1 else recState s) ∧ (recState s = 3 → t.recorder.backlog = []) ∧ t.power.warning = false ∧ t.deferred = [] ∧ t.keptHeld = [] ∧ t.logHeld = [] ∧ t.bookmarkDue = false ∧
      t.start.historyDue = [] ∧ t.durable = none ∧ t.mem = s.mem ∧ (∀ p, s.keptHeld = [p] → tabFind t.mram.faults p.1 = some p.2) ∧
      (s.bookmarkDue = true → t.mram.bookmark = some s.start.bookmark) ∧ (s.bookmarkDue = false → t.mram.bookmark = s.mram.bookmark)

/-- R42, R56, R57, R241, R385, R418: the events that raise a fault source count it; what is lost at a full clock-domain queue raises source 56. -/
def Sys2Proof.Claim.FaultEvents : Prop :=
  ∀ (s : State) (kind : Fin 3) (port : Fin 2),
    (s.start.held = false → (∃ t, Goes .moduleOverTemperature s t ∧ Raised s t 25) ∧ ∃ t, Goes .faultNMismatch s t ∧ Raised s t 58) ∧
    (stepRan s 8 = true → ∃ t, Goes (.ethernetLinkLoss port) s t ∧ Raised s t (26 + port.val)) ∧
    (∃ t, Goes (.radioFault kind) s t ∧ Raised s t 35) ∧
    (∀ mosi : Bytes, transportOpen s 0 = true → ∃ t, Goes (.hostSpiTransaction ⟨mosi, true⟩) s t ∧ Raised s t 56) ∧
    (ethOpen s = true → ∃ t, Goes (.dtlsHandshake .lost) s t ∧ Raised s t 56) ∧
    (∀ (n : Fin 8) (r : Bytes), ∃ t, Goes (.mirror .lost n r) s t ∧ Raised s t 56) ∧
    ∃ t, Goes .lanePllUnlock s t ∧ Raised s t 21 ∧ t.lanes.pll = false ∧ ∀ n, (lane t n).marks = true → (tabFind s.lanes.list n).isNone

/-- R391, R392, R413: while the safety core is enabled, a copy whose CRC fails, a failed check, the watchdog and a lockstep mismatch reset the module at once with cause 3 and the source as detail; so do the loss of REF and, once step 5
has run, of the system PLL. A copy whose CRC is right is handed to the safety core and nothing else changes. -/
def Sys2Proof.Claim.FixedSources : Prop :=
  (∀ (s : State) (w : Fin 4), s.start.held = false →
    (s.safety.enabled = true → ∀ f ∈ ([(.safetyCopy w false, 17), (.copyCheck false, 17), (.safetyWatchdogExpiry, 19), (.lockstepMismatch, 17)] : List (Instr × Nat)),
      ∃ t, Goes f.1 s t ∧ num t 0x103001 = 3 ∧ num t 0x103002 = f.2 ∧ t.start.running = true ∧ t.mem = [] ∧ t.engines = {} ∧ t.lanes = {}) ∧
    (∃ t, Goes .refLoss s t ∧ num t 0x103001 = 3 ∧ num t 0x103002 = 22 ∧ t.start.running = true ∧ t.mem = []) ∧
    (s.time.loaded = true → ∃ t, Goes .systemPllUnlock s t ∧ num t 0x103001 = 3 ∧ num t 0x103002 = 20 ∧ t.start.running = true ∧ t.mem = [])) ∧
  ∀ (s : State) (w : Fin 4), s.safety.enabled = true → Goes (.copyCheck true) s s ∧
    ∃ t, Goes (.safetyCopy w true) s t ∧ { t with safety := s.safety } = s ∧ tabFind t.safety.handed w = some (copyContent s w)

/-- R61, R68, R69, R73: while the module starts, START_STEP carries out the step in progress: one whose normal way succeeds clears its count of failures and the next
begins with CURRENT naming it; one that fails without an alternative restarts the module with cause 4 and the step as detail. After step 15 the module is OPERATIONAL. Outside a
start nothing happens. -/
def Sys2Proof.Claim.StartSteps : Prop :=
  (∀ (s : State) (r : StepReport), s.start.running = false → Goes (.startStep r) s s) ∧
  (∀ (s s1 : State) (r : StepReport), s.start.running = true → s.start.next ≠ 0 → s.start.bookmark.altUsed.toNat.testBit s.start.next = false →
    normalWay s s.start.next r = (none, s1) →
      Goes (.startStep r) s (completeStep (holdBook s1 (setCount s1.start.bookmark s.start.next 0)) s.start.next)) ∧
  (∀ (s : State) (r : StepReport), s.start.running = true → s.start.held = false → s.start.safe = false → s.start.next = 4 →
    s.start.bookmark.altUsed.toNat.testBit 4 = false →
    (r.ok = true → ∃ t, Goes (.startStep r) s t ∧ t.start.running = true ∧ t.start.next = 5 ∧ num t 0x101802 = 5 ∧ t.start.bookmark.current = 5 ∧
      failCount t.start.bookmark 4 = 0 ∧ t.mem = s.mem) ∧
    (r.ok = false → ∃ t, Goes (.startStep r) s t ∧ num t 0x103001 = 4 ∧ num t 0x103002 = 4 ∧ t.start.running = true ∧ t.start.next = 0 ∧ t.mem = [])) ∧
  ∀ (s : State) (r : StepReport), s.start.running = true → s.start.safe = false → s.start.next = 15 → s.start.bookmark.altUsed.toNat.testBit 15 = false →
    r.ok = true → nat s kModuleState ≠ 3 → ∃ t, Goes (.startStep r) s t ∧ t.start.running = false ∧ t.start.next = 16 ∧ num t kModuleState = 1 ∧
      t.start.bookmark.current = 0xFF

/-- R61, R62, R69: a step of the start that exceeds its limit: outside a start nothing happens; in steps 1 and 2 the hardware watchdog resets the module with cause 4 and the step
as detail, without a write of the bookmark; a step from 3 on that must not be skipped and has no alternative fails and restarts the module likewise; step 8 or 11 is abandoned, its
block is held in reset, and the next step begins. -/
def Sys2Proof.Claim.StartTimeouts : Prop :=
  ∀ (s : State) (r : StepReport),
    (s.start.running = false → Goes (.startStepTimeout r) s s) ∧
    (s.start.running = true → s.start.held = false → s.start.safe = false →
      (s.start.next = 1 ∨ s.start.next = 2 → ∃ t, Goes (.startStepTimeout r) s t ∧ ResetTo s t 4 s.start.next false) ∧
      (s.start.next = 3 ∨ s.start.next = 4 ∨ s.start.next = 5 ∨ s.start.next = 14 ∨ s.start.next = 15 →
        ∃ t, Goes (.startStepTimeout r) s t ∧ num t 0x103001 = 4 ∧ num t 0x103002 = s.start.next ∧ t.start.running = true ∧ t.start.next = 0 ∧ t.mem = [] ∧
          t.lanes = {} ∧ t.engines = {}) ∧
      ((s.start.next = 8 ∨ s.start.next = 11) → s.start.bookmark.altUsed.toNat.testBit s.start.next = false →
        ∃ t, Goes (.startStepTimeout r) s t ∧ t.start.running = true ∧ t.start.next = s.start.next + 1 ∧
          t.start.disabled.toNat.testBit s.start.next = true ∧ bit t 0x101803 s.start.next = true ∧
          failCount t.start.bookmark s.start.next = min 3 (failCount s.start.bookmark s.start.next + 1)))

/-- R60, R70, R93: RESTART and RESTART_SAFE leave RESET_PENDING with a reset of cause 5 ordered, the latter with SAFE_REQUEST in the bookmark; BOOKMARK_CLEAR clears every count, ALT_NEXT and SAFE_LATCH, and a start in progress goes on by what they said; STORE_RESET is asked for. -/
def Obligations.ModuleCommands : Prop :=
  ∀ (s : State) (q : Req),
    (Commanded s q 0x104001 [1] → s.start.ordered = none → ∃ t, Goes (.restart q) s t ∧ num t kModuleState = 3 ∧ recState t = 0 ∧ t.start.ordered = some (5, 1)) ∧
    (Commanded s q 0x104001 [2] → s.start.ordered = none → ∃ t, Goes (.restartSafe q) s t ∧ num t kModuleState = 3 ∧ recState t = 0 ∧ t.start.ordered = some (5, 2) ∧
      t.start.bookmark.safeRequest = true) ∧
    (Commanded s q 0x102005 [1] → ∃ t, Goes (.bookmarkClear q) s t ∧ t.start.bookmark.failCounts = 0 ∧ t.start.bookmark.altNext = 0 ∧
      t.start.bookmark.safeLatch = false ∧
      t.start.plan = if s.start.running = true then some (s.start.plan.getD s.start.bookmark) else s.start.plan) ∧
    (Commanded s q 0x105004 [1] → ∃ t, Goes (.storeReset q) s t ∧ t.mram.store.resetAsked = true ∧ t.mram.store.home = s.mram.store.home)

/-- R40, R45 to R47: a change of level in mode 2 shows at GPIO_LEVEL and is counted; a relay pad that differs from its output in three samples raises source 59; an NTC pad above 1.22 V or below 20 mV reads -32,768 with its
fault bit set, otherwise its temperature. A write of GPIO_MODE gives the pad what its
mode gives (Table 2-5); a pad of a module held in reset has its reset state (R40).
Where the spec leaves it open, the model's own reading enters: log entries 63 and 64. -/
def Obligations.Pads : Prop :=
  (∀ (s : State) (pin : Fin 8) (level : Bool), s.start.held = false → s.start.loaded = true → nat s (kGpio pin 1) = 2 → flag s (kGpio pin 2) ≠ level →
    ∃ t, Goes (.gpioLevelChange pin level) s t ∧ num t (kGpio pin 2) = (if level then 1 else 0) ∧
      num t (kGpio pin 5) = (num s (kGpio pin 5) + 1) % 2 ^ 32 ∧ (gpio t pin).raw = level) ∧
  (∀ (s : State) (pin : Fin 8) (level : Bool), nat s (kGpio pin 1) = 6 → (∀ t ∈ (gpio s pin).wroteAt, t + msec 1 ≤ s.clk) → flag s (kGpio pin 3) ≠ level →
    ∃ t, Goes (.relaySample pin level) s t ∧ num t (kGpio pin 2) = (if level then 1 else 0) ∧ (gpio t pin).differ = min 3 ((gpio s pin).differ + 1) ∧
      num t (kFault 59 8) = if (gpio s pin).differ = 2 then (num s (kFault 59 8) + 1) % 2 ^ 32 else num s (kFault 59 8)) ∧
  (∀ (s : State) (p : Pad), s.start.held = true → padDrive s p = resetPad p) ∧
  (∀ (s : State) (q : Req) (pin : Fin 8) (v : Bytes), Written s q (kGpio pin 1) v → s.start.held = false → s.start.loaded = true →
    let m := (itemOf s q (kGpio pin 1) v).2.toInt
    ∃ t, Goes (.gpioMode q pin v) s t ∧ num t (kGpio pin 1) = m ∧
      padDrive t (.gp pin) = if m = 2 ∨ m = 3 then .pullUp else if m = 4 ∨ m = 6 then (if flag s (kGpio pin 3) then .high else .low)
        else if m = 5 then (if flag s (kGpio pin 3) then .z else .low) else .z) ∧
  ∀ (s : State) (a b : Nat), s.start.held = false → s.start.loaded = true →
    ∃ t, Goes (.ntcConversion a b) s t ∧
      num t 0x110801 = (if 1220000 < a ∨ a < 20000 then -32768 else ntcTemp (nat s 0x110803) a) ∧ bit t 0x110804 0 = decide (1220000 < a ∨ a < 20000) ∧
      num t 0x110802 = (if 1220000 < b ∨ b < 20000 then -32768 else ntcTemp (nat s 0x110803) b) ∧ bit t 0x110804 1 = decide (1220000 < b ∨ b < 20000)

/-- R49, R51, R58, R59, R333: the resets of the whole module, the release, and the loss of the backup domain.
Where the spec leaves it open, the model's own reading enters: log entry 50. -/
def Obligations.ResetsAndBackupLoss : Prop := Resets ∧ BackupLoss

/-- R42, R57, R241, R385, R391, R392, R413, R418: the events that raise a fault source, and those whose reaction is fixed.
Where the spec leaves it open, the model's own reading enters: log entry 19. -/
def Obligations.SourcesRaised : Prop := FaultEvents ∧ FixedSources

/-- R61, R62, R68, R69, R73: START_STEP carries out the step in progress of the start, and START_STEP_TIMEOUT ends one that exceeds its limit.
Where the spec leaves it open, the model's own reading enters: log entries 16 and 17. -/
def Obligations.TheStart : Prop := StartSteps ∧ StartTimeouts
/-! ## The engines' control, the tick, the drive colours (chapters 06 and 07) -/

/-- R163, R170: a loading engine that has loaded is IDLE with FIRST set, its registers 0, its code the program's, its local data memory the data image followed by zeros, and no other byte of memory changed; one
that is not loading stands.
Where the spec leaves it open, the model's own reading enters: log entry 28. -/
def Obligations.EngineLoads : Prop :=
  ∀ (s : State) (k : Fin 16),
    (engineState s k ≠ 1 → Goes (.engineLoaded k) s s) ∧
    (engineState s k = 1 → ∃ t, Goes (.engineLoaded k) s t ∧ engineState t k = 2 ∧
      (∀ r i, sReg (engine t k) r = 0 ∧ vLane (engine t k) r i = 0 ∧ aLane (engine t k) r i = 0 ∧ pReg (engine t k) r = (if r = 0 then 0xFF else 0)) ∧
      (engine t k).estat = 0 ∧ (engine t k).first = true ∧ (engine t k).active = false ∧ (engine t k).program = assignment s k ∧
      (engine t k).queue = (engine s k).queue ∧ (∀ j, j ≠ k.val → engine t j = engine s j) ∧
      let b := domain s kProgramSet
      let data := if assignment s k = 0xFE then [] else slice b (fieldAt (progHeader b (assignment s k)) 28 4) (fieldAt (progHeader b (assignment s k)) 8 4)
      data.length ≤ 130816 → ∀ x, memRead t.mem x =
        if localBase k ≤ x ∧ x < localBase k + 130816 then data.getD (x - localBase k) 0 else memRead s.mem x)

namespace Sys2Proof.Claim

/-- What a START makes of an engine that is not stopping: LOADING where the set in force gives it a program that has passed its verification (R170), else STOPPED. -/
def loadTarget (s : State) (k : Nat) : Nat := if assignment s k = 0xFF ∨ s.engines.unverified.contains k = true then 0 else 1

end Sys2Proof.Claim

/-- R74, R72, R171, R183, Tables 7-11 and 7-12: STOP of a running or idle engine leaves it STOPPING, of a loading one STOPPED; START of a stopped or faulted one leaves it LOADING where the set gives it a program that has passed its verification; during STOPPING a START is
pending and a STOP cancels it; in SAFE_MODE a START has no effect on the engine, which stays off; a clear zeroes the counters; REPARTITION computes a partition that waits for a tick start. -/
def Sys2Proof.Claim.EngineControl : Prop :=
  ∀ (s : State) (q : Req) (k : Fin 16),
    (Commanded s q (kEngine k 1) [1] → ∃ t, Goes (.engineStop q k) s t ∧
      engineState t k = (if engineState s k = 2 ∨ engineState s k = 3 then 4 else if engineState s k = 1 then 0 else engineState s k) ∧
      (engineState s k = 4 → (engine t k).startAsked = false) ∧ ∀ j, j ≠ k.val → engine t j = engine s j) ∧
    (Commanded s q (kEngine k 1) [2] → ∃ t, Goes (.engineStart q k) s t ∧
      (s.start.safe = true → engine t k = engine s k ∧ engineState t k = engineState s k) ∧
      (s.start.safe = false →
        engineState t k = (if engineState s k = 0 ∨ engineState s k = 5 then loadTarget s k else engineState s k) ∧
        (engineState s k = 4 → (engine t k).startAsked = true)) ∧ ∀ j, j ≠ k.val → engine t j = engine s j) ∧
    (Commanded s q (kEngine k 1) [3] → s.start.safe = false → ∃ t, Goes (.engineRestart q k) s t ∧
      ((engineState s k = 2 ∨ engineState s k = 3 ∨ engineState s k = 4) → engineState t k = 4 ∧ (engine t k).startAsked = true) ∧
      ((engineState s k = 0 ∨ engineState s k = 1 ∨ engineState s k = 5) → engineState t k = loadTarget s k) ∧ ∀ j, j ≠ k.val → engine t j = engine s j) ∧
    (Commanded s q (kEngine k 0xE) [1] → ∃ t, Goes (.engineStatsClear q k) s t ∧
      (∀ sub ∈ [5, 6, 9, 0xA, 0xD], num t (kEngine k sub) = 0) ∧ t.engines = s.engines) ∧
    (Commanded s q (kProgramCtl 5) [1] → ∃ t, Goes (.repartition q) s t ∧ t.engines = { s.engines with newPartition := some (partitionOf (begun s q)) })

/-- R175, R183: an engine still in its tick at the fence deadline is stopped there, its tick's codes not to be published, and the overrun is counted with source 11; a stopping engine with nothing of its own left outstanding is STOPPED, or
loads again where a START is pending. -/
def Sys2Proof.Claim.EngineEnds : Prop :=
  (∀ (s : State) (k : Fin 16), (engine s k).active = true → ∃ t, Goes (.engineOverrun k) s t ∧
    { engine t k with startAsked := (engine s k).startAsked } = { engine s k with active := false, stall := none, overran := true, fenced := false } ∧
    num t (kEngine k 5) = (num s (kEngine k 5) + 1) % 2 ^ 32 ∧ Raised s t 11) ∧
  (∀ (s : State) (k : Fin 16), (engine s k).active = false → Goes (.engineOverrun k) s s) ∧
  ∀ (s : State) (k : Fin 16),
    (engineState s k = 4 → (engine s k).active = false → hasPosted s k = false → (engine s k).mailbox = none →
      ∃ t, Goes (.engineStopComplete k) s t ∧ engineState t k = (if (engine s k).startAsked then loadTarget s k else 0) ∧
        (engine t k).startAsked = false ∧ t.mem = s.mem) ∧
    (engineState s k ≠ 4 ∨ (engine s k).active = true ∨ hasPosted s k = true ∨ (engine s k).mailbox ≠ none → Goes (.engineStopComplete k) s s)

/-- R166, R173: at a tick start the select bit of every engine that fenced is inverted and CODE_HALF names the half now in front; an idle engine starts at its entry with its flags of Table 7-5 taken, and its tick block is written. Before
step 5 of the start there is no tick.
Where the spec leaves it open, the model's own reading enters: log entries 7 and 9. -/
def Obligations.TickStarts : Prop :=
  (∀ s : State, s.time.loaded = false → Goes .tickStart s s) ∧
  (∀ s : State, s.time.loaded = true → ∃ t, Goes .tickStart s t ∧ num t (kCol 4) = num t (kCol 3)) ∧
  (∀ (s : State) (k : Nat), k < 16 →
    engine (flipHalves s) k = (if (engine s k).fenced then { engine s k with select := !(engine s k).select, fenced := false } else engine s k) ∧
    ((engine s k).fenced = true → nat (flipHalves s) (kEngine k 4) = if (engine s k).select then 1 else 0) ∧
    (flipHalves s).mem = s.mem) ∧
  ∀ (s : State) (k : Nat), k < 16 →
    (engineState s k = 2 → engineState (startTick s k) k = 3 ∧
      engine (startTick s k) k = { engine s k with active := true, pc := (engine s k).entry, lu0 := {}, lu1 := {}, first := false,
                                                    inputsChanged := false, overran := false, tickAt := s.clk }) ∧
    (engineState s k ≠ 2 → engine (startTick s k) k = engine s k) ∧
    memBytes (startTick s k).mem (0x20000000 + 0x20000 * k + 0x1FF00) 20 = (tickBlock s k).take 20 ∧
    ∀ x, (x < 0x20000000 + 0x20000 * k + 0x1FF00 ∨ 0x20000000 + 0x20000 * k + 0x1FF00 + 28 ≤ x) → memRead (startTick s k).mem x = memRead s.mem x

/-- R128, R130, R131, R148, R127: a taken write of ZONE_TARGET becomes the zone's layer 3 in cell memory; a clear of TARGET_SKIPS zeroes it in its register and in the settings; a BURN_RESET zeroes the burn accumulators of its
luminaire's cells; the group commands act on the present zones of their group. -/
def Sys2Proof.Claim.ColourInputs : Prop :=
  (∀ (s : State) (q : Req) (zone : Fin 16384) (v : Bytes), Written s q (0x410001 + 256 * (zone / 64 : Nat) + (zone % 64 : Nat)) v →
    ∃ t, Goes (.zoneTarget q zone v) s t ∧
      memBytes t.mem (aLayer zone 3) 16 = (if (v.getD 0 0).toNat = 0 then List.replicate 16 0 else v.set 1 (BitVec.ofNat 8 ((v.getD 1 0).toNat % 4))) ∧
      (∀ x, x < aLayer zone 3 ∨ aLayer zone 3 + 16 ≤ x → memRead t.mem x = memRead s.mem x) ∧ t.engines = s.engines) ∧
  (∀ (s : State) (q : Req), Commanded s q 0x480001 [1] → ∃ t, Goes (.targetSkipsClear q) s t ∧ num t kTargetSkips = 0 ∧ bytesAt t (aSettings + 12) 4 = 0) ∧
  (∀ (s : State) (q : Req) (lum : Byte) (d i : Nat), Commanded s q 0x48000A [lum] → d < 128 → num s (kDriver d 1) ≠ 0 → nat s (kDriver d 2) = lum.toNat →
    i < 8 * nat s (kDriver d 4) → ∃ t, Goes (.burnReset q lum) s t ∧ memRead t.mem (aBurn (nat s (kDriver d 3)) + i) = 0) ∧
  ∀ (s : State) (q : Req) (v : Bytes),
    (Commanded s q 0x430002 v → (storedItem (begun s q) (refOf 0x430002) v).2 = .bytes v → Goes (.sceneRecall q v) s
      (conclude (journal (recallScene (begun s q) (fieldAt v 0 2) (byteAt v 2) (byteAt v 3) (fieldAt v 4 2)) (journalOf (begun s q) (0x430002, .bytes v)))
        q.sid q.tid (.command (refOf 0x430002) v) (some (0, [])))) ∧
    (Commanded s q 0x430003 v → (storedItem (begun s q) (refOf 0x430003) v).2 = .bytes v → Goes (.groupTarget q v) s
      (conclude (journal (groupTarget (begun s q) (fieldAt v 0 2) (byteAt v 2) (slice v 4 16)) (journalOf (begun s q) (0x430003, .bytes v)))
        q.sid q.tid (.command (refOf 0x430003) v) (some (0, [])))) ∧
    (Commanded s q 0x430004 v → (storedItem (begun s q) (refOf 0x430004) v).2 = .bytes v → Goes (.groupRelease q v) s
      (conclude (journal (groupRelease (begun s q) (fieldAt v 0 2) (byteAt v 2)) (journalOf (begun s q) (0x430004, .bytes v)))
        q.sid q.tid (.command (refOf 0x430004) v) (some (0, []))))

namespace Sys2Proof.Claim

/-- Nothing but what the sensor function keeps of the areas changes, and of those only area `a`'s. -/
def OnlyArea (s t : State) (a : Nat) : Prop :=
  { t with zones := s.zones } = s ∧ { t.zones with areas := s.zones.areas } = s.zones ∧ ∀ b, b ≠ a → area t b = area s b

end Sys2Proof.Claim

/-- R135: AREA_VACANT (VACANT_DELAY has run with no presence report) leaves its area vacant, unless an occupancy partner of it is under supervision loss or it has none;
LEAD_HOLD_END leaves its area led no more. A presence report makes its area occupied, and one that becomes occupied by it leads each of its neighbours. Nothing else changes. -/
def Sys2Proof.Claim.OccupancyTimers : Prop :=
  (∀ (s : State) (a : Fin 1024), ∃ t, Goes (.areaVacant a) s t ∧ OnlyArea s t a ∧ area t a = { area s a with occupied := false } ∧
    areaOccupied t a = (s.zones.lost.any (isOccPartner (areaRec s a)) || !hasOcc (areaRec s a)) ∧
    areaLed t a = ((area s a).led && !areaOccupied t a)) ∧
  (∀ (s : State) (a : Fin 1024), ∃ t, Goes (.leadHoldEnd a) s t ∧ OnlyArea s t a ∧ area t a = { area s a with led := false } ∧
    areaLed t a = false ∧ ∀ b, areaOccupied t b = areaOccupied s b) ∧
  ∀ (s : State) (a : Nat),
    let t := areaPresent s a
    let led := fun b => areaOccupied s a = false ∧ b ≠ 0xFFFF ∧ ∃ i < 4, fieldAt (areaRec s a) (8 + 2 * i) 2 = b
    areaOccupied t a = true ∧ { t with zones := s.zones } = s ∧ { t.zones with areas := s.zones.areas } = s.zones ∧
    ∀ b, (area t b).occupied = (if b = a then true else (area s b).occupied) ∧ (led b → (area t b).led = true) ∧
      (¬ led b → (area t b).led = (area s b).led) ∧ (area t b).g = (area s b).g

/-- R127, R128, R130, R131, R135, R148: the commands that change what the colour pipeline reads, and the timers of the sensor areas.
Where the spec leaves it open, the model's own reading enters: log entry 80. -/
def Obligations.ColourAndOccupancy : Prop := ColourInputs ∧ OccupancyTimers

/-- R74, R171, R175, R183: the engines' commands, the overrun and the end of a stop. -/
def Obligations.EngineCommands : Prop := EngineControl ∧ EngineEnds
/-! ## Lanes and drivers (chapters 09 and 10) -/

namespace Sys2Proof.Claim

/-- The SEQ under which a record leaves lane `n` (R214, R217): of its position's data numbering, its own, or the number of the field. -/
def recordSeq (s : State) (n : Nat) (r : TxRec) : Nat :=
  if r.feed then (pos s n r.dest).dseq else r.seq.getD (((lane s n).next + 65535) % 65536)

/-- The bytes of a record as it leaves a lane that is not in dual-stream mode (Table 9-3). -/
def wireOf (s : State) (n : Nat) (r : TxRec) : Bytes := wireRecord none r.type r.dest (recordSeq s n r) r.payload

/-- The code groups of characters that leave lane `n` now, in the running disparity that what has been sent and the IDLEs since have left (R210). -/
def codeOf (s : State) (n : Nat) (cs : List LaneChar) : List (BitVec 10) :=
  (lineCode ((lane s n).rd != ((fieldUsed s n - (lane s n).used) % 2 == 1)) cs).1

/-- What leaves the block when lane `n` sends characters: their code groups, or nothing while the pair is not driven (R72). -/
def sent (s : State) (n : Nat) (cs : List LaneChar) : List Out :=
  if laneDriven s n then Out.lane n (codeOf s n cs) :: s.out else s.out

/-- Some code groups that spell a record left lane `n`. -/
def Left (t : State) (n : Nat) (wire : Bytes) : Prop := ∃ rd, Out.lane n (lineCode rd (recordCode wire false)).1 ∈ t.out

/-- A burst of a type that is accepted: the lane runs, the window of its slot holds, the slot is owned, and its code groups, type, length and CRC are right (R226 to R230). -/
def BurstTaken (s : State) (n type : Nat) (b : Burst) : Prop :=
  laneState s n ≠ 0 ∧ b.queueFull = false ∧ (slotWindow s n b.slot).1 ≤ b.at_ ∧ b.at_ ≤ (slotWindow s n b.slot).2 ∧
    slotOwned s n b.slot = true ∧ burstOk s n type b = true

/-- A lane's condition is not met yet (R242). -/
def NotMet (s : State) (n kind addr : Nat) : Prop := ∀ c ∈ (lane s n).met, c.1 ≠ condOf kind addr

/-- The payload of a burst. -/
def burstPayload (b : Burst) : Bytes := (b.bytes.drop 2).take (byteAt b.bytes 1)

/-- The return-record rows, each with its type (Table 9-8). -/
def ForBurstRows (n : Fin 8) (b : Burst) (P : Instr → Nat → Prop) : Prop :=
  P (.status n b) 0x81 ∧ P (.configData n b) 0x82 ∧ P (.faultMap n b) 0x83 ∧ P (.discoverReply n b) 0x84 ∧ P (.firmwareAck n b) 0x85

/-- The payloads of the records that carry a configuration table of 1,024 bytes to a driver, at most 1,022 bytes each (Table 9-6). -/
def tablePieces (addr : Nat) (b : Bytes) : List Bytes := [leBytes 2 addr ++ b.take 1022, leBytes 2 (addr + 1022) ++ b.drop 1022]

/-- The payloads of the records that carry a stored scene of 1,024 codes to a driver, at most 510 codes each, the last with LAST (R261, R262). -/
def scenePieces (scene : Nat) (b : Bytes) : List Bytes :=
  [[BitVec.ofNat 8 scene, 0, 0, 0] ++ slice b 0 1020, [BitVec.ofNat 8 scene, 0] ++ leBytes 2 510 ++ slice b 1020 1020,
    [BitVec.ofNat 8 scene, 1] ++ leBytes 2 1020 ++ slice b 2040 8]

/-- A lane's buffer gains records of one type to one position, with these payloads. -/
def Queued (s t : State) (n p type : Nat) (payloads : List Bytes) : Prop :=
  ∃ new, (lane t n).buffer = (lane s n).buffer ++ new ∧ new.map (·.payload) = payloads ∧ ∀ r ∈ new, r.type = type ∧ r.dest = p

end Sys2Proof.Claim

/-- R55, R210, R212, R214, R220, R222, R234, R241: FIELD_MARK sends the code groups of the mark of the next field, K28.5 first, and moves the numbering on; the priority records that waited follow it, and in the
last field of a tick of a RUNNING lane that is fed, COMMIT leaves behind the records of its buffer, and data records not sent are dropped. While the transmitter is off the fields are counted all the same; a lane whose transmitter has
not yet sent IDLE for 100 µs sends none. A mark lost at the clock-domain queue raises source 56. PRESENT over, the positions that did not answer are cleared (R254). -/
def Sys2Proof.Claim.LaneFields : Prop :=
  (∀ (s : State) (n : Fin 8) (full : Bool),
    let l := lane s n
    let off := l.marks = false ∨ s.clk < l.marksFrom
    (laneState s n = 0 ∨ (l.begun = false ∧ off) → Goes (.fieldMark ⟨n, full⟩) s s) ∧
    (laneState s n ≠ 0 → l.begun = true → off → Goes (.fieldMark ⟨n, full⟩) s (beginField s n l.next)) ∧
    (laneState s n ≠ 0 → ¬ off →
      let k := if l.begun then l.next else fieldHere s l.phase
      (∃ t, Goes (.fieldMark ⟨n, true⟩) s t ∧ Raised s t 56) ∧
      ∃ t, Goes (.fieldMark ⟨n, full⟩) s t ∧ (lane t n).begun = true ∧ (lane t n).next = k + 1 ∧ (lane t n).markAt = s.clk ∧ (lane t n).prio = [] ∧
        (lastOfTick s k = true → ∀ r ∈ (lane t n).buffer, r.feed = false) ∧
        (full = false → t.mem = s.mem ∧ t.engines = s.engines) ∧
        (laneDriven s n = true →
          Out.lane n (codeOf s n (.k285 :: (fieldMarkBytes s l k).map .d)) ∈ t.out ∧
          (∀ r ∈ l.prio, r.feed = false →
            Left t n (wireRecord (if l.dual then some 0xFFFFFFFF else none) r.type r.dest (r.seq.getD (k % 65536)) r.payload)) ∧
          (lastOfTick s k = true → laneState s n = 2 → l.feeding = true → l.dual = false → l.prio = [] → l.buffer = [] → l.due = [] →
            s.safety.egress = false → l.endScene = 0 → nat s 0x700002 = 0 → 100 ≤ fieldPeriod s / 40 →
            Left t n (wireRecord none 3 (if l.lock = 0xFF then 0xFF else 0xF0 + l.lock) (k % 65536)
              ([BitVec.ofNat 8 (s.engines.tick % 256), 0, 0, 0] ++ leBytes 4 (namedField s (k + 1)))))))) ∧
  ∀ (s : State) (n : Fin 8) (d : Disc) (p : Fin 16),
    present (presentEnds s n d) n p = (present s n p && d.answered.contains p.val)

/-- R55, R72, R210, R215, R217, R219, R220: RECORD_TRANSMIT sends the code groups of what is next, a priority record first, if it fits before the next field start; nothing where there is none or it does not fit. It counts in the lane's records, and
a unicast control record joins those undelivered. A record whose buffer has an uncorrectable ECC error ends with ABORT, and source 16 is raised. -/
def Sys2Proof.Claim.RecordsLeave : Prop :=
  ∀ (s : State) (n : Fin 8) (ecc : Bool),
    ((lane s n).marks = false → Goes (.recordTransmit n ecc) s s) ∧
    ((lane s n).marks = true → (lane s n).dual = false →
      (∀ r rest, (lane s n).prio = r :: rest →
        (fieldUsed s n + recordChars false r ≤ fieldPeriod s / 40 → ∃ t, Goes (.recordTransmit n ecc) s t ∧ (lane t n).prio = rest ∧
          t.out = sent s n (recordCode (wireOf s n r) false)) ∧
        (fieldPeriod s / 40 < fieldUsed s n + recordChars false r → Goes (.recordTransmit n ecc) s s)) ∧
      ((lane s n).prio = [] → nextRecord s n = none → Goes (.recordTransmit n ecc) s s) ∧
      ∀ r rest, (lane s n).prio = [] → nextRecord s n = some (r, rest) →
        (fieldPeriod s / 40 < fieldUsed s n + recordChars false r + 32 → Goes (.recordTransmit n ecc) s s) ∧
        (fieldUsed s n + recordChars false r + 32 ≤ fieldPeriod s / 40 →
          (∃ t, Goes (.recordTransmit n false) s t ∧ t.out = sent s n (recordCode (wireOf s n r) false) ∧
            (lane t n).buffer = rest ∧ (lane t n).used = fieldUsed s n + recordChars false r ∧ num t (kLane n 0xB) = (num s (kLane n 0xB) + 1) % 2 ^ 32 ∧
            (r.dest < 16 → isControl r.type = true → r.again = false → (pos t n r.dest).sent = (pos s n r.dest).sent ++ [{ txr := r }]) ∧ t.mem = s.mem) ∧
          ∃ t, Goes (.recordTransmit n true) s t ∧ Raised s t 16 ∧
            (laneDriven s n = true → Out.lane n (codeOf s n (recordCode (wireOf s n r) true)) ∈ t.out)))

/-- R63, R74, R236 to R241: START of a STOPPED lane leaves it STARTING with what is in force for it taken from its registers, STOP of another STOPPING with what its buffer holds still to be sent, RESTART both; a START during STOPPING is pending until the stop is
complete, and a STOP cancels it. A STARTING lane whose drivers have all answered runs, in stored-scene-only mode as SCENE_ONLY; after 64 fields one whose driver has not is raised. A stopping lane whose STOPs are sent and reported is STOPPED, or starts again;
a present driver that has not reported is missing. With the lane PLL locked the transmitters that are enabled send FIELD_MARKs after 100 µs. -/
def Obligations.LaneControl : Prop :=
  (∀ (s : State) (q : Req) (n : Fin 8),
    (Commanded s q (kLane n 1) [1] → ∃ t, Goes (.laneStop q n) s t ∧ laneState t n = (if laneState s n = 0 then 0 else 4) ∧
      (laneState s n ≠ 0 → laneState s n ≠ 4 → (lane t n).stops = 3 ∧ (lane t n).feeding = false ∧ (lane t n).buffer = (lane s n).buffer ++ (lane s n).due) ∧
      (laneState s n = 4 → (lane t n).startAsked = false) ∧ t.mem = s.mem ∧ ∀ m, m ≠ n.val → lane t m = lane s m) ∧
    (Commanded s q (kLane n 1) [2] → ∃ t, Goes (.laneStart q n) s t ∧ laneState t n = (if laneState s n = 0 then 1 else laneState s n) ∧
      (laneState s n = 0 → (lane t n).sceneOnly = storedOnly s ∧ (lane t n).stopMode = nat s (kLane n 6) ∧ (lane t n).dual = flag s (kLane n 7) ∧
        (lane t n).version = nat s (kLane n 8) ∧ (lane t n).marks = s.lanes.pll ∧
        (nat s (kLane n 8) = 1 → (lane t n).lock = 0xFF ∧ (lane t n).phase = 0) ∧
        (nat s (kLane n 8) ≠ 1 → (lane t n).lock = nat s (kLane n 4) ∧ (lane t n).phase = nat s (kLane n 5))) ∧
      (laneState s n = 4 → (lane t n).startAsked = true) ∧ t.mem = s.mem ∧ (storedOnly s = false → ∀ m, m ≠ n.val → lane t m = lane s m)) ∧
    (Commanded s q (kLane n 1) [3] → ∃ t, Goes (.laneRestart q n) s t ∧ laneState t n = (if laneState s n = 0 then 1 else 4) ∧
      (laneState s n ≠ 0 → (lane t n).startAsked = true) ∧ t.mem = s.mem ∧ (storedOnly s = false → ∀ m, m ≠ n.val → lane t m = lane s m)) ∧
    (Commanded s q (kLane n 0x11) [1] → ∃ t, Goes (.laneStatsClear q n) s t ∧ (∀ sub ∈ [0xB, 0xC, 0xD, 0xE, 0xF], num t (kLane n sub) = 0) ∧ t.lanes = s.lanes)) ∧
  (∀ (s : State) (n : Fin 8),
    let all := ∀ p, p < 16 → inTable s n p = true → (pos s n p).arrived = true
    (laneState s n ≠ 1 ∨ ((lane s n).fields < 64 ∧ ¬ all) → Goes (.laneStartComplete n) s s) ∧
    (laneState s n = 1 → all → (lane s n).met = [] → Goes (.laneStartComplete n) s (setNum s (kLane n 2) (if (lane s n).sceneOnly then 3 else 2))) ∧
    (∀ p, laneState s n = 1 → 64 ≤ (lane s n).fields → (lane s n).met = [] → p < 16 → inTable s n p = true → (pos s n p).arrived = false →
      (∀ j, j < 16 → j ≠ p → inTable s n j = true → (pos s n j).arrived = true) → nat s (kFault n 1) ≠ 3 →
      ∃ t, Goes (.laneStartComplete n) s t ∧ laneState t n = (if (lane s n).sceneOnly then 3 else 2) ∧ Raised s t n ∧ missing t n p = true)) ∧
  (∀ (s : State) (n : Fin 8),
    (¬(laneState s n = 4 ∧ stopDone s n = true) → Goes (.laneStopComplete n) s s) ∧
    (laneState s n = 4 → stopDone s n = true →
      ∃ t, Goes (.laneStopComplete n) s t ∧ laneState t n = (if (lane s n).startAsked then 1 else 0) ∧ num t (kLane n 9) = 0 ∧ bit t (kLane n 0xA) 5 = false ∧
        (∀ p, p < 16 → mirrorOnly s n = false → present s n p = true → (pos s n p).stopOk = false → missing t n p = true) ∧
        ((∀ p, p < 16 → present s n p = true → (pos s n p).stopOk = true) → (lane s n).startAsked = false → lane t n = laneRest (lane s n)) ∧
        (storedOnly s = false ∨ (lane s n).startAsked = false → ∀ m, m ≠ n.val → lane t m = lane s m)) ∧
    (stopDone s n = true ↔ mirrorOnly s n = true ∨ ((lane s n).stops = 0 ∧
      (16 ≤ (lane s n).stopFields ∨ ∀ p, p < 16 → present s n p = true → (pos s n p).stopOk = true)))) ∧
  ∀ s : State, ∃ t, Goes .lanePllLock s t ∧ t.lanes.pll = true ∧ (faultSrc t 21).standing = false ∧ t.mem = s.mem ∧
    ∀ n, (lane t n).marks = ((lane s n).marks || (tabFind s.lanes.list n).isSome && laneState s n != 0) ∧ (lane t n).next = (lane s n).next ∧
      ((lane s n).marks = false → (lane t n).marks = true → (lane t n).marksFrom = s.clk + usec 100)

/-- R219, R242, R253, R262: undelivered control records, and a delivered request without a reply, leave again under their own SEQ; after the fourth resend, and for a present driver that is missing and a silent return of a
running lane, the lane's source is raised. A check of the second just ended keeps the conditions that were met in it and ends the others. A driver's changed tables and scenes are sent to it. -/
def Obligations.LaneDelivery : Prop :=
  (∀ (s : State) (n : Fin 8) (p : Fin 16),
    ((lane s n).marks = false ∨ (pos s n p).sent = [] ∨ nat s kRole = 2 → Goes (.controlResend n p) s s) ∧
    ((lane s n).marks = true → (pos s n p).sent ≠ [] → nat s kRole ≠ 2 → nat s (kFault n 1) ≠ 3 →
      ∃ t, Goes (.controlResend n p) s t ∧
        (lane t n).buffer = (lane s n).buffer ++ (pos s n p).sent.map (fun c => { c.txr with again := true, stream := none }) ∧
        (pos t n p).sent = (pos s n p).sent.map (fun c => { c with resends := c.resends + 1 }) ∧
        num t (kLane n 0xF) = (num s (kLane n 0xF) + (pos s n p).sent.length) % 2 ^ 32 ∧
        ((∃ c ∈ (pos s n p).sent, 3 ≤ c.resends) → laneRuns s n = true → NotMet s n 6 p → Raised s t n)) ∧
    (∀ c, (pos s n p).request = some c → (lane s n).marks = true → c.delivered = true → nat s kRole ≠ 2 → nat s (kFault n 1) ≠ 3 →
      ∃ t, Goes (.requestResend n p) s t ∧ (pos t n p).request = some { c with resends := c.resends + 1 } ∧
        (lane t n).buffer = (lane s n).buffer ++ [{ c.txr with again := true, stream := none }] ∧
        (3 ≤ c.resends → laneRuns s n = true → NotMet s n 6 p → Raised s t n)) ∧
    ((pos s n p).request = none → Goes (.requestResend n p) s s)) ∧
  (∀ (s : State) (n : Fin 8) (p : Fin 16),
    (laneRuns s n = true → present s n p = true → NotMet s n 1 p → nat s (kFault n 1) ≠ 3 → (∀ j, j < 16 → (pos s n j).work ≠ .ready) →
      ∃ t, Goes (.driverMissing n p) s t ∧ Raised s t n ∧ missing t n p = true) ∧
    (laneRuns s n = false ∨ present s n p = false → Goes (.driverMissing n p) s s) ∧
    (laneRuns s n = true → nat s (kLane n 9) ≠ 0 → NotMet s n 2 0 → nat s (kFault n 1) ≠ 3 →
      ∃ t, Goes (.returnSilent n) s t ∧ Raised s t n ∧ (2 * 256, true) ∈ (lane t n).met ∧ (lane t n).silent = true) ∧
    (laneRuns s n = false ∨ nat s (kLane n 9) = 0 → Goes (.returnSilent n) s s)) ∧
  (∀ (s : State) (n : Fin 8),
    (∃ t, Goes (.laneFaultCheck n) s t ∧ (lane t n).discards = (lane s n).discards.filter (fun x => s.clk < x + secs 1) ∧ t.mem = s.mem ∧
      (∀ m, m ≠ n.val → lane t m = lane s m) ∧
      ((∀ c ∈ (lane s n).met, c.2 = true ∨ lasting c.1 = true) → (lane t n).met = (lane s n).met.map fun c => (c.1, heldNow s n c.1))) ∧
    ∀ kind p, 2 ≤ kind → kind ≠ 3 → kind ≠ 6 → p < 256 → (lane s n).met = [(kind * 256 + p, false)] →
      ∃ t, Goes (.laneFaultCheck n) s t ∧ (lane t n).met = [] ∧ (faultSrc t n).standing = false) ∧
  ∀ (s : State) (n : Fin 8) (p : Fin 16),
    (∃ t, Goes (.driverConfigUpdate n p) s t ∧ (pos t n p).cfgDue = 0 ∧ t.mem = s.mem ∧ Queued s t n p 0x20
      ((if (pos s n p).cfgDue.testBit 0 then tablePieces 0x400 (limitTable s (domain s kCalibration) (16 * n + p)) else [])
        ++ if (pos s n p).cfgDue.testBit 1 then tablePieces 0x800 (groupTable s (domain s kZoneMap) (16 * n + p)) else [])) ∧
    ∃ t, Goes (.storedSceneUpdate n p) s t ∧ (pos t n p).scenesDue = 0 ∧ t.mem = s.mem ∧ Queued s t n p 0x23
      ((if (pos s n p).scenesDue.testBit 0 then scenePieces 1 (sceneCodes s 1 (16 * n + p)) else [])
        ++ if (pos s n p).scenesDue.testBit 1 then scenePieces 2 (sceneCodes s 2 (16 * n + p)) else [])

/-- R56, R226 to R230, R254, R255, R257, R259, R266, R267, R310: a burst outside its window, or one that fails its checks, its type among them, is counted and dropped, one lost at the clock-domain queue raises source 56; an accepted one is counted and its driver is present.
STATUS becomes the driver's last status; a reply that matches ends its request; FAULT_MAP rewrites its part of the fault map; RESULT 3 ends a driver's firmware load. Discovery searches on by halving what collided.
Where the spec leaves it open, the model's own reading enters: log entry 6. -/
def Obligations.Bursts : Prop :=
  (∀ (s : State) (n : Fin 8) (b : Burst), nat s (kFault n 1) ≠ 3 → ForBurstRows n b fun c type =>
    (laneState s n = 0 → Goes c s s) ∧
    (laneState s n ≠ 0 → b.queueFull = true → ∃ t, Goes c s t ∧ Raised s t 56 ∧ num t (kLane n 0xD) = (num s (kLane n 0xD) + 1) % 2 ^ 32) ∧
    (laneState s n ≠ 0 → b.queueFull = false → (b.at_ < (slotWindow s n b.slot).1 ∨ (slotWindow s n b.slot).2 < b.at_) →
      ∃ t, Goes c s t ∧ num t (kLane n 0xE) = (num s (kLane n 0xE) + 1) % 2 ^ 32 ∧ (pos t n b.slot).late = (pos s n b.slot).late + 1) ∧
    (laneState s n ≠ 0 → b.queueFull = false → (slotWindow s n b.slot).1 ≤ b.at_ → b.at_ ≤ (slotWindow s n b.slot).2 →
      (slotOwned s n b.slot = false ∨ burstOk s n type b = false) → ∃ t, Goes c s t ∧ num t (kLane n 0xD) = (num s (kLane n 0xD) + 1) % 2 ^ 32) ∧
    (BurstTaken s n type b → ∃ t, Goes c s t ∧ num t (kLane n 0xC) = (num s (kLane n 0xC) + 1) % 2 ^ 32 ∧
      (searchSlot s n ≠ some b.slot.val → bit t (kLane n 9) b.slot = true))) ∧
  (∀ (s : State) (n : Fin 8) (b : Burst), nat s (kFault n 1) ≠ 3 →
    let p := burstPayload b
    let d := 16 * n.val + b.slot.val
    (BurstTaken s n 0x81 b → ∃ t, Goes (.status n b) s t ∧ reg t (kDriver d 0xB) = .bytes (p ++ List.replicate (24 - p.length) 0) ∧
      (pos t n b.slot).statusAt = some s.clk ∧ (pos t n b.slot).trip = fieldAt p 14 8 ∧
      ((byteAt p 10).testBit 5 = false ∨ (lane s n).version = 1 → (pos t n b.slot).sent =
        (pos s n b.slot).sent.filter fun c => decide (32768 ≤ (fieldAt p 8 2 + 65536 - c.txr.seq.getD 0) % 65536)) ∧
      ∀ t0, (pos s n b.slot).statusAt = some t0 → nat s (kDriver d 2) ≤ 127 →
        tabFind t.meter.lum (nat s (kDriver d 2)) = some ((tabFind s.meter.lum (nat s (kDriver d 2))).getD 0 +
          mkRat (fieldAt p 4 2 * fieldAt p 6 2 * min (s.clk - t0) (msec 10) : Nat) (125000000 * 3600))) ∧
    (∀ r, BurstTaken s n 0x82 b → awaited s n b.slot 0x21 = some r → p.take 2 = r.payload.take 2 →
      ∃ t, Goes (.configData n b) s t ∧ (pos t n b.slot).request = none) ∧
    (∀ r, BurstTaken s n 0x83 b → awaited s n b.slot 0x22 = some r → p.take 3 = r.payload.take 3 →
      ∃ t, Goes (.faultMap n b) s t ∧ (pos t n b.slot).request = none ∧
        (∀ i, i < 8 * byteAt p 2 → fieldAt p 0 2 + i < nat s (kDriver d 4) →
          (nat s (kDriver d 3) + fieldAt p 0 2 + i ∈ t.lanes.opens ↔ (byteAt p (4 + i / 8)).testBit (i % 8) = true) ∧
          (nat s (kDriver d 3) + fieldAt p 0 2 + i ∈ t.lanes.shorts ↔ (byteAt p (4 + byteAt p 2 + i / 8)).testBit (i % 8) = true)) ∧
        ∀ c, (c < nat s (kDriver d 3) + fieldAt p 0 2 ∨ nat s (kDriver d 3) + fieldAt p 0 2 + 8 * byteAt p 2 ≤ c ∨ nat s (kDriver d 3) + nat s (kDriver d 4) ≤ c) →
          (c ∈ t.lanes.opens ↔ c ∈ s.lanes.opens) ∧ (c ∈ t.lanes.shorts ↔ c ∈ s.lanes.shorts)) ∧
    (BurstTaken s n 0x84 b → searchSlot s n = some b.slot.val → ∃ t, Goes (.discoverReply n b) s t ∧ ((lane t n).disc.bind (·.reply)) = some p) ∧
    (∀ r, BurstTaken s n 0x85 b → awaited s n b.slot 0x31 = some r → byteAt p 2 = 3 →
      ∃ t, Goes (.firmwareAck n b) s t ∧ num t (kDriver d 0xA) = 3 ∧ (pos t n b.slot).work = .done ∧ (pos t n b.slot).request = none)) ∧
  (∀ (s : State) (n : Fin 8),
    ((lane s n).disc = none → Goes (.searchWatchEnd n) s s) ∧
    (∀ d, (lane s n).disc = some d → d.search = none → Goes (.searchWatchEnd n) s s) ∧
    ∀ d x len, (lane s n).disc = some d → d.search = some (x, len) →
      (d.reply = none → d.collided = true → len < 64 → ∃ t, Goes (.searchWatchEnd n) s t ∧
        (lane t n).disc = some { d with search := some (x, len + 1), stack := (x + 2 ^ (63 - len), len + 1) :: d.stack, reply := none, collided := false } ∧
        Queued s t n 0xFF 0x40 [[1, BitVec.ofNat 8 d.slot, BitVec.ofNat 8 (len + 1), 0] ++ leBytes 8 x]) ∧
      (∀ r y m rest, d.reply = some r → d.stack = (y, m) :: rest → ∃ t, Goes (.searchWatchEnd n) s t ∧
        (lane t n).disc = some { d with search := some (y, m), stack := rest, reply := none, collided := false, found := d.found ++ [r] }) ∧
      (d.stack = [] → ((∃ r, d.reply = some r) ∨ d.collided = false ∨ 64 ≤ len) → ∃ t, Goes (.searchWatchEnd n) s t ∧ (lane t n).disc = none)) ∧
  ∀ (s : State) (q : Req),
    (∀ n : Fin 8, Commanded s q 0x320007 [BitVec.ofNat 8 n] → ∃ t, Goes (.discoverLane q [BitVec.ofNat 8 n]) s t ∧
      ((lane t n).disc.map (·.wait)) = some 5 ∧ Queued s t n 0xFF 0x40 [List.replicate 12 0]) ∧
    ∀ v, Commanded s q 0x330002 v → ∃ t, Goes (.faultCellClear q v) s t ∧
      t.lanes.opens = (if fieldAt v 0 2 = 0xFFFF then [] else s.lanes.opens.filter (· != fieldAt v 0 2)) ∧
      t.lanes.shorts = (if fieldAt v 0 2 = 0xFFFF then [] else s.lanes.shorts.filter (· != fieldAt v 0 2))

/-- R55, R212, R214, R215, R217, R219, R220, R222, R234: what a lane sends. -/
def Obligations.FieldsAndRecords : Prop := LaneFields ∧ RecordsLeave
/-! ## The DMA engine (chapter 11) -/

/-- R74, R269, R270, R272, R273, R276, R279, R280, R282 to R284: DESCRIPTOR_START begins the next descriptor of the channel whose turn it is, of the highest level with work and in the round robin of its level, and
holds its buffer blocks; one that is invalid ends at once with its status. DESCRIPTOR_DONE of a plain copy, which no channel of a higher level holds up, has moved
its bytes and no others, and counts them. STOP leaves a channel STOPPING and, once nothing is left, STOPPED; a START during the stop is pending. -/
def Obligations.DmaChannels : Prop :=
  (∀ (s : State) (c : Fin 16) (fetch : Fetch),
    (isServed s c = false → Goes (.descriptorStart c fetch) s s) ∧
    ∀ p rest, isServed s c = true → (channel s c).chain = none → (channel s c).posted = p :: rest →
      let r : Running := { owner := p.owner, addr := p.addr, desc := p.desc, select := p.select, n := 1, blocks := 0, feed := p.feed }
      (checked r = none → ∃ t, Goes (.descriptorStart c fetch) s t ∧ (channel t c).posted = rest ∧ channelState t c = 1 ∧ t.mem = s.mem ∧
        tabFind t.dma.served (level s c) = some c.val ∧ (∀ d, d ≠ c.val → channel t d = channel s d) ∧
        (channel t c).current = some { r with blocks := if c.val = 0 then 0 else min (min 16 ((dLen p.desc + 255) / 256)) (192 - blocksHeld s) }) ∧
      ∀ st detail, checked r = some (st, detail) → st ≠ 2 → dChain p.desc = false →
        ∃ t, Goes (.descriptorStart c fetch) s t ∧ (channel t c).current = none ∧ (channel t c).posted = rest ∧
          num t (kDma c 5) = (num s (kDma c 5) + 1) % 2 ^ 32 ∧ num t (kDma c 7) = (num s (kDma c 7) + 1) % 2 ^ 32 ∧
          reg t (kDma c 8) = .bytes (colophon s p.addr 0 st c detail true (dNotify p.desc))) ∧
  (∀ (s : State) (c d : Fin 16), isServed s c = true →
    startable s c = true ∧ (level s c < level s d → (channel s d).current = none ∧ startable s d = false) ∧
    ((∀ l x, tabFind s.dma.served l = some x → x < 16) → isServed s d = true → c = d)) ∧
  (∀ (s : State) (c : Fin 16) (err : Option BusError), (channel s c).current = none ∨ mayAdvance s c = false → Goes (.descriptorDone c err) s s) ∧
  (∀ (s : State) (c : Fin 16) (r : Running), (channel s c).current = some r → mayAdvance s c = true → r.feed = none → channelState s c < 2 →
    precheck r.desc r.owner = none →
    dXform r.desc = 0 → dSrcMode r.desc = 0 → dDstMode r.desc = 0 → dChain r.desc = false → dNotify r.desc = false → fieldAt r.desc 8 4 < 0x30000000 →
    let src := fun i => dmaAddr r.owner r.select (fieldAt r.desc 4 4 + i)
    let dst := fun i => dmaAddr r.owner r.select (fieldAt r.desc 8 4 + i)
    ∃ t, Goes (.descriptorDone c none) s t ∧ (channel t c).current = none ∧
      (∀ i, i < dLen r.desc → memRead t.mem (dst i) = memRead s.mem (src i)) ∧
      (∀ a, (∀ i, i < dLen r.desc → a ≠ dst i) → memRead t.mem a = memRead s.mem a) ∧
      num t (kDma c 5) = (num s (kDma c 5) + 1) % 2 ^ 32 ∧ num t (kDma c 6) = (num s (kDma c 6) + dLen r.desc) % 2 ^ 64) ∧
  (∀ (s : State) (c : Fin 16),
    (channelState s c = 2 → (channel s c).current = none → (channel s c).posted = [] → (channel s c).chain = none →
      ∃ t, Goes (.dmaStopComplete c) s t ∧ channelState t c = (if (channel s c).startAsked then 0 else 3) ∧ (channel t c).startAsked = false ∧
        num t (kDma c 0xA) = 0 ∧ t.mem = s.mem) ∧
    (channelState s c ≠ 2 ∨ (channel s c).current ≠ none ∨ (channel s c).posted ≠ [] ∨ (channel s c).chain ≠ none → Goes (.dmaStopComplete c) s s)) ∧
  ∀ (s : State) (q : Req) (c : Fin 16),
    (Commanded s q (kDma c 1) [1] → ∃ t, Goes (.dmaChannelStop q c) s t ∧ channelState t c = (if channelState s c = 3 then 3 else 2) ∧
      (channelState s c = 2 → (channel t c).startAsked = false)) ∧
    (Commanded s q (kDma c 1) [2] → ∃ t, Goes (.dmaChannelStart q c) s t ∧ channelState t c = (if channelState s c = 3 then 0 else channelState s c) ∧
      (channelState s c = 2 → (channel t c).startAsked = true) ∧ t.mem = s.mem) ∧
    (Commanded s q (kDma c 1) [3] → ∃ t, Goes (.dmaChannelRestart q c) s t ∧ channelState t c = (if channelState s c = 3 then 0 else 2) ∧
      (channelState s c ≠ 3 → (channel t c).startAsked = true)) ∧
    (Commanded s q (kDma c 0xB) [1] → ∃ t, Goes (.dmaStatsClear q c) s t ∧ (∀ sub ∈ [5, 6, 7], num t (kDma c sub) = 0) ∧
      reg t (kDma c 8) = .bytes (List.replicate 16 0) ∧ t.dma = s.dma)

/-- R278: INTERLEAVE puts element i of block j of its source at element i × K + j, and DEINTERLEAVE puts element i × K + j at element i of block j, of K blocks of M = LEN / (K × E) elements,
whatever the modes of the two sides; DESCRIPTOR_DONE of such a descriptor with linear sides has moved every byte so, and no other byte of memory changes. -/
def Obligations.Interleaving : Prop :=
  (∀ (d b : Bytes) (engine : Bool), descOk d engine = true → dXform d = 3 ∨ dXform d = 4 → b.length = dLen d →
    let m := dLen d / (dWays d * dElem d)
    (transformed d b).length = dLen d ∧ dLen d = dWays d * m * dElem d ∧
    ∀ i j n, i < m → j < dWays d → n < dElem d →
      let mixed := (i * dWays d + j) * dElem d + n
      let block := j * m * dElem d + i * dElem d + n
      (dXform d = 3 → (mixed, b.getD block 0) ∈ transformed d b) ∧ (dXform d = 4 → (block, b.getD mixed 0) ∈ transformed d b)) ∧
  ∀ (s : State) (c : Fin 16) (r : Running), (channel s c).current = some r → mayAdvance s c = true → r.feed = none → channelState s c < 2 →
    precheck r.desc r.owner = none →
    dXform r.desc = 3 ∨ dXform r.desc = 4 → dSrcMode r.desc = 0 → dDstMode r.desc = 0 → dChain r.desc = false → dNotify r.desc = false → fieldAt r.desc 8 4 < 0x30000000 →
    let m := dLen r.desc / (dWays r.desc * dElem r.desc)
    let src := fun i => dmaAddr r.owner r.select (fieldAt r.desc 4 4 + i)
    let dst := fun i => dmaAddr r.owner r.select (fieldAt r.desc 8 4 + i)
    ∃ t, Goes (.descriptorDone c none) s t ∧
      (∀ i j n, i < m → j < dWays r.desc → n < dElem r.desc →
        let mixed := (i * dWays r.desc + j) * dElem r.desc + n
        let block := j * m * dElem r.desc + i * dElem r.desc + n
        (dXform r.desc = 3 → memRead t.mem (dst mixed) = memRead s.mem (src block)) ∧
        (dXform r.desc = 4 → memRead t.mem (dst block) = memRead s.mem (src mixed))) ∧
      ∀ a, (∀ i, i < dLen r.desc → a ≠ dst i) → memRead t.mem a = memRead s.mem a
/-! ## Metering (chapter 12) -/

namespace Sys2Proof.Claim

/-- The offsets measured pass the check (R288): none above 0.5 % of full scale. -/
def OffsetsOk (s : State) : Prop := ∀ c, c < 11 → (roundDiv (s.meter.offSum.getD c 0) (max 1 s.meter.offN)).natAbs ≤ 41943

end Sys2Proof.Claim

/-- R49, R56, R62, R285 to R288, R294, R301, R302, R311: START begins the offset check, which sums sample sets; when it passes the block runs, otherwise it is stopped. A sample set joins the window in progress; one lost raises source 56
and the set before it takes its place. A block held off since an abandoned start step does not start (R62). A window's end numbers
and times its quantities (a set beyond the crossing that ends it opens the next) and makes the energies durable; a reset that was asked for takes effect there. STOP ends the window and, once no pulse is high, stops the block; VAFE out of range stops it and raises source 38.
Where the spec leaves it open, the model's own reading enters: log entries 32 and 59. -/
def Obligations.Metering : Prop :=
  (∀ (s : State) (codes : List Int),
    (∃ t, Goes (.sampleSet codes true) s t ∧ Raised s t 56) ∧
    (s.meter.last ≠ [] →
      (meterState s = 3 → ∃ t, Goes (.sampleSet codes true) s t ∧ t.meter.offN = s.meter.offN + 1 ∧
        ∀ c, c < 11 → t.meter.offSum.getD c 0 = s.meter.offSum.getD c 0 + s.meter.last.getD c 0) ∧
      (meterState s = 1 → ∃ t, Goes (.sampleSet codes true) s t ∧ t.meter.raw = s.meter.last ∧ (flagsOf t.meter.win).testBit 1 = true)) ∧
    (meterState s ≠ 1 → meterState s ≠ 3 → Goes (.sampleSet codes false) s s) ∧
    (meterState s = 3 → ∃ t, Goes (.sampleSet codes false) s t ∧ t.meter.offN = s.meter.offN + 1 ∧ { t with meter := s.meter } = s ∧ t.meter.last = codes ∧
      ∀ c, c < 11 → t.meter.offSum.getD c 0 = s.meter.offSum.getD c 0 + codes.getD c 0) ∧
    (meterState s = 1 → ∃ t, Goes (.sampleSet codes false) s t ∧ t.meter.raw = codes ∧ t.meter.win.length = s.meter.win.length + 1 ∧
      t.meter.demand.n = s.meter.demand.n + 1 ∧ t.mem = s.mem ∧ ((∃ c ∈ codes, c ≤ -8388607 ∨ 8388607 ≤ c) → (flagsOf t.meter.win).testBit 0 = true))) ∧
  (∀ s : State, (meterState s ≠ 3 → Goes .offsetCheckDone s s) ∧
    (meterState s = 3 → OffsetsOk s → ∃ t, Goes .offsetCheckDone s t ∧ meterState t = 1 ∧ num t (kInst 1) = 0 ∧ t.meter.win = []) ∧
    (meterState s = 3 → ¬OffsetsOk s → ∃ t, Goes .offsetCheckDone s t ∧ meterState t = 0)) ∧
  (∀ s : State, (meterState s ≠ 1 → Goes .windowEnd s s) ∧
    (meterState s = 1 → ∃ t, Goes .windowEnd s t ∧ t.meter.win = (splitWindow s.meter false).2.1 ∧ num t (kInst 1) = (num s (kInst 1) + 1) % 2 ^ 32 ∧
      num t (kInst 2) = windowEnd s (splitWindow s.meter false) ∧ t.mem = s.mem ∧
      (s.power.warning = false → storeDegraded s = false → ∀ r, r < 24 → homeVal t (kEnergy (0x41 + r)) = some (.num (num t (kEnergy (0x41 + r)) % 2 ^ 64))) ∧
      (s.meter.resetAsked = true → num t (kEnergy 0x81) = (num s (kEnergy 0x81) + 1) % 2 ^ 32 ∧ t.meter.resetAsked = false ∧
        ∀ r, r < 24 → num t (kEnergy (0x41 + r)) = 0))) ∧
  (∀ s : State, (∃ t, Goes .vafeReturn s t ∧ t = { s with power := { s.power with vafeBad := false } }) ∧
    ∃ t, Goes .vafeOutOfRange s t ∧ t.power.vafeBad = true ∧ num t (kFault 38 8) = (num s (kFault 38 8) + 1) % 2 ^ 32 ∧ t.mem = s.mem ∧
      (meterState s ≤ 3 → meterState t ≠ 1 ∧ meterState t ≠ 3)) ∧
  ∀ (s : State) (q : Req),
    (Commanded s q (kMeter 1) [2] → ∃ t, Goes (.meterStart q) s t ∧
      (heldOff s 12 = true → meterState t = meterState s ∧ t.meter = s.meter) ∧
      (heldOff s 12 = false → (meterState s = 0 → s.power.vafeBad = false → meterState t = 3 ∧ t.meter.offN = 0) ∧ (meterState s = 2 → t.meter.startAsked = true ∧ meterState t = 2))) ∧
    (Commanded s q (kMeter 1) [1] → ∃ t, Goes (.meterStop q) s t ∧
      (meterState s = 1 → (pulseOut s 0).high = false → (pulseOut s 1).high = false → s.meter.startAsked = false → meterState t = 0 ∧ t.meter.win = []) ∧
      (meterState s = 1 → ((pulseOut s 0).high = true ∨ (pulseOut s 1).high = true) → meterState t = 2) ∧
      (meterState s = 2 → t.meter.startAsked = false ∧ meterState t = 2)) ∧
    (Commanded s q (kMeter 1) [3] → ∃ t, Goes (.meterRestart q) s t ∧
      (s.power.vafeBad = false → heldOff s 12 = false → (meterState s = 0 ∨ (meterState s = 1 ∧ (pulseOut s 0).high = false ∧ (pulseOut s 1).high = false)) → meterState t = 3)) ∧
    (Commanded s q (kEnergy 0x80) [1] → ∃ t, Goes (.energyReset q) s t ∧ t.meter = { s.meter with resetAsked := true })

/-- R292, R305 to R308, R310: a pulse starts from the head of its output's backlog, while the pad is low, the role is held and the block runs, and ends; CALIBRATE begins a calibration, whose result at its end is written durable or fails; a demand interval's end publishes its mean
power and flags and begins the next; the demand maxima and a luminaire's energy are cleared by their commands.
Where the spec leaves it open, the model's own reading enters: log entry 59. -/
def Obligations.MeterOutputs : Prop :=
  (∀ (s : State) (o : Fin 2),
    ((pulseOut s o).dues = [] ∨ (pulseOut s o).high = true ∨ roleAct s = false ∨ meterState s ≠ 1 → Goes (.pulseStart o) s s) ∧
    (∀ d rest, (pulseOut s o).dues = d :: rest → (pulseOut s o).high = false → (pulseOut s o).startAt = none → roleAct s = true → meterState s = 1 →
      ∃ t, Goes (.pulseStart o) s t ∧
        pulseOut t o = { pulseOut s o with dues := rest, startAt := some s.clk, high := true,
                                           width := if rest ≠ [] then 62500 else if 2 * pulseWidth s o ≤ d.2 then pulseWidth s o else max 62500 (d.2 / 2) } ∧
        num t (kPulse o 5) = rest.length ∧ num t (kPulse o 6) = (num s (kPulse o 6) + 1) % 2 ^ 32) ∧
    (meterState s ≠ 2 → Goes (.pulseEnd o) s (putPulse s o { pulseOut s o with high := false })) ∧
    (meterState s = 2 → (pulseOut s (1 - o.val)).high = false → ∃ t, Goes (.pulseEnd o) s t ∧ (pulseOut t o).high = false ∧
      meterState t = (if s.meter.startAsked ∧ s.power.vafeBad = false then 3 else 0) ∧ t.meter.startAsked = false)) ∧
  (∀ s : State, (s.meter.cal = none → Goes .calibrationDone s s) ∧
    ∀ c, s.meter.cal = some c → (c.n < byteAt c.body 3 → Goes .calibrationDone s s) ∧
      (byteAt c.body 3 ≤ c.n →
        (∀ items, calResults s c = some items → ∃ t, Goes .calibrationDone s t ∧ t.meter.cal = none ∧ num t (kMeter 0xD) = 2 ∧ ∀ i ∈ items, reg t i.1 = i.2) ∧
        (calResults s c = none → ∃ t, Goes .calibrationDone s t ∧ t.meter.cal = none ∧ num t (kMeter 0xD) = 3 ∧ ∀ k, k ≠ kMeter 0xD → reg t k = reg s k))) ∧
  (∀ s : State, ∃ t, Goes .demandIntervalEnd s t ∧ num t (kDemand 2) = s.meter.demand.start ∧
    num t (kDemand 3) = quantize (-2147483648) 2147483647 1 (s.meter.demand.p / ((max 1 s.meter.demand.n : Nat) : Rat) / 1000) ∧
    num t (kDemand 6) = (s.meter.demand.flags ||| (if s.time.stepped then 1 else 0) : Nat) ∧ t.meter.demand.n = 0 ∧ t.mem = s.mem) ∧
  ∀ (s : State) (q : Req) (lum : Byte) (v : Bytes),
    (Commanded s q (kMeter 0xC) v → (itemOf s q (kMeter 0xC) v).2 = .bytes v → ∃ t, Goes (.calibrate q v) s t ∧ num t (kMeter 0xD) = 1 ∧ t.meter.cal = some { body := v }) ∧
    (Commanded s q (kDemand 0xB) [1] → ∃ t, Goes (.maxClear q) s t ∧ ∀ sub ∈ [7, 8, 9, 0xA], num t (kDemand sub) = 0) ∧
    (Commanded s q (kDc 0xC) [lum] → ∃ t, Goes (.lumEnergyReset q lum) s t ∧
      ∀ l, l < 128 → tabFind t.meter.lum l = if lum = 0xFF ∨ l = lum.toNat then none else tabFind s.meter.lum l)
/-! ## Time (chapter 13) -/

namespace Sys2Proof.Claim

/-- A value limited to ± `lim`. -/
def limited (lim x : Rat) : Rat := if x < -lim then -lim else if lim < x then lim else x

/-- θ per second of the servo's update interval, which is at most 4 s, and 4 s for the first update (R317). -/
def thetaRate (s : State) (n : Nat) (theta : Int) : Rat :=
  (theta : Rat) / mkRat (max 1 (match (base s n).lastAt with | some a => min (s.clk - a) (secs 4) | none => secs 4) : Nat) 125000000

/-- The servo's integral after an update in ppb (R317). -/
def servoIntegral (s : State) (n : Nat) (theta : Int) : Rat :=
  limited ((nat s (kTb n 9) : Nat) : Rat) ((base s n).integ + mkRat (num s (kTb n 6)) 65536 * thetaRate s n theta)

/-- `FREQ_ADJ` after an update, in units of 10⁻³ ppb (R317). -/
def servoAdjust (s : State) (n : Nat) (theta : Int) : Int :=
  -roundRat (1000 * limited ((nat s (kTb n 9) : Nat) : Rat) (mkRat (num s (kTb n 5)) 65536 * thetaRate s n theta + servoIntegral s n theta))

/-- θ of a Sync that was sent at `t1` with correction `corr` and arrives now (R317, R320). -/
def syncOffset (s : State) (i : Nat) (t1 corr : Int) : Int := (tbNs s i : Int) - (ptpToT t1 + corr + num s (kPtp i 7)) - num s (kPtp i 0xB)

/-- Whether a PTP instance has a master in use (Table 13-6). -/
def Mastered (s : State) (i : Nat) : Prop := nat s (kPtp i 8) = 2 ∨ nat s (kPtp i 8) = 3

end Sys2Proof.Claim

/-- R317 to R322: an instance that hears an Announce uses its master; a Sync updates its base by the servo, or steps it when the offset is past the threshold; DELAY_REQ and DELAY_RESP give the mean path delay. A lost input leaves the instance LISTENING, a LOCKED base in HOLDOVER and, if it was ever LOCKED,
its source raised; HOLDOVER ends FREE; the field base returns to TB0. Without a master nothing happens.
Where the spec leaves it open, the model's own reading enters: log entry 11. -/
def Obligations.TimeBases : Prop :=
  (∀ (s : State) (i port : Fin 2) (a : Announce),
    (ptpOn s i port = false → Goes (.ptpAnnounce i port a) s s) ∧
    (ptpOn s i port = true → ∃ t, Goes (.ptpAnnounce i port a) s t ∧ tabFind (ptp t i).heard port = some a ∧
      ((ptp s i).heard = [] → num t (kPtp i 9) = a.gm.toNat ∧ num t (kPtp i 0xA) = port.val))) ∧
  (∀ (s : State) (i : Fin 2) (t1 corr : Int),
    (¬Mastered s i → Goes (.ptpSync i t1 corr) s s) ∧
    (Mastered s i →
      let theta := syncOffset s i t1 corr
      ∃ t, Goes (.ptpSync i t1 corr) s t ∧ num t (kPtp i 8) = 3 ∧ num t (kTb i 4) = clampInt (-2147483648) 2147483647 theta ∧
        (((tbState s i ≠ 1 ∧ tbState s i ≠ 2) ∨ nat s (kTb i 7) = 0 ∨ theta.natAbs ≤ nat s (kTb i 7)) →
          num t (kTb i 3) = servoAdjust s i theta ∧ (base t i).integ = servoIntegral s i theta ∧ tbNs t i = tbNs s i) ∧
        ((tbState s i = 1 ∨ tbState s i = 2) → nat s (kTb i 7) ≠ 0 → nat s (kTb i 7) < theta.natAbs →
          tbNs t i = ((tbNs s i : Int) - theta).toNat % 2 ^ 64 ∧ num t (kTb i 0xB) = (num s (kTb i 0xB) + 1) % 2 ^ 32 ∧ tbState t i = 1))) ∧
  (∀ (s : State) (i : Fin 2),
    (¬Mastered s i → Goes (.delayReqSend i) s s ∧ Goes (.ptpInputLost i) s s) ∧
    (Mastered s i → (∃ t, Goes (.delayReqSend i) s t ∧ t.out = Out.delayReq i (nat s (kPtp i 0xA)) (ptp s i).seq :: s.out ∧
        (ptp t i).delayReq = some ((ptp s i).seq, (tbNs s i : Int)) ∧ (ptp t i).seq = ((ptp s i).seq + 1) % 65536) ∧
      ∃ t, Goes (.ptpInputLost i) s t ∧ (ptp t i).heard = [] ∧ num t (kPtp i 8) = 1 ∧
        (tbState s i = 1 → tbState t i = 0) ∧ (tbState s i = 2 → tbState t i = 3) ∧
        ((ptp s i).locked = true → num t (kFault (28 + i) 8) = (num s (kFault (28 + i) 8) + 1) % 2 ^ 32)) ∧
    ∀ (seq : Half) (t4 corr : Int),
      ((ptp s i).delayReq = none ∨ (ptp s i).sync = none → Goes (.delayResp i seq t4 corr) s s) ∧
      ∀ t3 sent t2, (ptp s i).delayReq = some (seq.toNat, t3) → (ptp s i).sync = some (sent, t2) →
        ∃ t, Goes (.delayResp i seq t4 corr) s t ∧ (ptp t i).delayReq = none ∧
          num t (kPtp i 0xB) = clampInt 0 4294967295 (roundRat (mkRat ((t2 - sent) + (ptpToT t4 - corr - t3 + num s (kPtp i 7))) 2))) ∧
  (∀ (s : State) (n : Fin 3), (tbState s n = 3 → ∃ t, Goes (.holdoverExpiry n) s t ∧ tbState t n = 0 ∧ t.mem = s.mem) ∧
    (tbState s n ≠ 3 → Goes (.holdoverExpiry n) s s)) ∧
  ∀ s : State, (nat s (kFt 1) = 0 → fieldBase s = 1 → tbState s 0 = 2 → ∃ t, Goes .fieldBaseReturn s t ∧ fieldBase t = 0) ∧
    (nat s (kFt 1) ≠ 0 ∨ fieldBase s ≠ 1 ∨ tbState s 0 ≠ 2 → Goes .fieldBaseReturn s s)

/-- R319, R326, R327, R329: an armed comparator fires as its base reaches the target: its count and status show it, a periodic one takes its next target, another is disarmed; that of PPS_OUT gives its edge. An edge of PPS_IN latches the four bases unless one came within 100 ms. TB_SET steps TB3.
Where the spec leaves it open, the model's own reading enters: log entry 5. -/
def Obligations.Comparators : Prop :=
  (∀ (s : State) (c : Fin 16), (toArmed s c = false → Goes (.comparatorFire c) s s) ∧
    (toArmed s c = true → ∃ t, Goes (.comparatorFire c) s t ∧ num t (kTo c 5) = (num s (kTo c 5) + 1) % 2 ^ 32 ∧ num t (kTo c 4) = 0 ∧
      (toPeriodic s c = true → num t (kTo c 2) = (nat s (kTo c 2) + toPeriod s c : Nat)) ∧ (toPeriodic s c = false → num t (kTo c 1) = 0) ∧
      (c.val % 4 = 1 → t.out = Out.pps :: s.out) ∧ t.mem = s.mem)) ∧
  (∀ s : State, ∃ t, Goes .ppsInCapture s t ∧ t.time.ppsEdge = some s.clk ∧ reg t 0x632001 = .bytes
    (leBytes 4 ((leNat ((reg s 0x632001).toBytes.take 4) + 1) % 2 ^ 32) ++
      if (s.time.ppsEdge.any fun e => decide (s.clk < e + msec 100)) then (reg s 0x632001).toBytes.drop 4
      else [0, 0, 0, 0] ++ leBytes 8 (tbNs s 0) ++ leBytes 8 (tbNs s 1) ++ leBytes 8 (tbNs s 2) ++ leBytes 8 (tbNs s 3))) ∧
  ∀ (s : State) (q : Req) (v : Bytes), Commanded s q (kTb 3 0xC) v → ∃ t, Goes (.tbSet q 3 v) s t ∧ tbNs t 3 = fieldAt v 0 8 ∧
    num t (kTb 3 0xB) = (num s (kTb 3 0xB) + 1) % 2 ^ 32 ∧ t.mem = s.mem

/-- R331 to R338: the calendar clock enters its next second, and an ARMED alarm that matches it fires; NEXT_OFFSET takes over; a leap second, a sync to a LOCKED field base and RTC_STEP adjust the count; a day's measurement corrects the trim, but not a day of mains cycles that metering did not count whole; a stopped oscillator disarms the alarms and shows the
time as invalid. ARM and DISARM set an alarm's state.
Where the spec leaves it open, the model's own reading enters: log entries 5 and 88. -/
def Obligations.Calendar : Prop :=
  (∀ s : State, ∃ t, Goes .rtcSecond s t ∧ t.mem = s.mem ∧
    (s.backup.rtc.still = true → t.backup.rtc.second = s.backup.rtc.second) ∧
    (s.backup.rtc.still = false → t.backup.rtc.second = s.backup.rtc.second + 1 ∧ ∀ a : Fin 2,
      (nat s (kAlarm a 4) = 1 ∧ alarmMatches s a (localSecond s (s.backup.rtc.second + 1)) = true → num t (kAlarm a 4) = 2) ∧
      (¬(nat s (kAlarm a 4) = 1 ∧ alarmMatches s a (localSecond s (s.backup.rtc.second + 1)) = true) → num t (kAlarm a 4) = num s (kAlarm a 4)))) ∧
  (∀ s : State, (nat s (kRtc 9) = 0 → Goes .offsetChange s s) ∧
    (nat s (kRtc 9) ≠ 0 → ∃ t, Goes .offsetChange s t ∧ num t (kRtc 7) = num s (kRtc 8) ∧ num t (kRtc 9) = 0)) ∧
  (∀ s : State, (utcInstance s = none → Goes .leapSecond s s) ∧
    ∀ (i : Nat) (port : Nat) (a : Announce), utcInstance s = some i → (ptp s i).heard = [(port, a)] →
      (a.leap61 = false → a.leap59 = false → Goes .leapSecond s s) ∧
      (a.leap61 = true → a.utcValid = true → 10 ≤ a.utcOffset.toInt → a.utcOffset.toInt ≤ 100 → ∃ t, Goes .leapSecond s t ∧
        num t (kPtp i 0xC) = a.utcOffset.toInt + 1 ∧ t.backup.rtc.ticks = (((s.backup.rtc.ticks : Int) - 65536) % 2 ^ 64).toNat)) ∧
  (∀ s : State,
    let apart := ((now64 s : Int) - s.backup.rtc.ticks).natAbs
    (flag s (kRtc 5) = true → fieldLocked s = true → (65536 < apart * 1000 ∨ bit s (kRtc 6) 0 = true) →
      ∃ t, Goes .calendarSync s t ∧ t.backup.rtc.ticks = now64 s % 2 ^ 64 ∧ bit t (kRtc 6) 0 = false ∧ bit t (kRtc 6) 2 = false) ∧
    (flag s (kRtc 5) = false ∨ fieldLocked s = false ∨ (apart * 1000 ≤ 65536 ∧ bit s (kRtc 6) 0 = false) → Goes .calendarSync s s)) ∧
  (∀ (s : State) (ppb : Int),
    (nat s (kRtc 4) = 1 → fieldLocked s = true → ∃ t, Goes (.trimMeasurement (.ptp ppb)) s t ∧
      num t (kRtc 3) = clampInt (-5120) 5120 (num s (kRtc 3) - roundRat (mkRat ppb 100)) ∧ bit t (kRtc 6) 1 = true) ∧
    (nat s (kRtc 4) ≠ 1 ∨ fieldLocked s = false → Goes (.trimMeasurement (.ptp ppb)) s s) ∧
    (nat s (kRtc 4) = 2 → meterState s = 1 → s.meter.dayBad = false → ∃ t, Goes (.trimMeasurement .mains) s t ∧ bit t (kRtc 6) 1 = true ∧
      t.meter.cycles = 0 ∧ num t (kRtc 3) = clampInt (-5120) 5120 (num s (kRtc 3) -
        roundRat (mkRat ((num s kNominalFreq * 86400 - s.meter.cycles) * 10000000) (num s kNominalFreq * 86400).toNat))) ∧
    (nat s (kRtc 4) = 2 → meterState s ≠ 1 ∨ s.meter.dayBad = true → ∃ t, Goes (.trimMeasurement .mains) s t ∧ t.meter.cycles = 0 ∧ t.regs = s.regs) ∧
    (nat s (kRtc 4) ≠ 2 → Goes (.trimMeasurement .mains) s s)) ∧
  (∀ s : State, ∃ t, Goes .oscillatorStopped s t ∧ bit t (kRtc 6) 0 = true ∧ bit t (kRtc 6) 2 = true ∧ t.backup.rtc.still = true ∧
    num t (kAlarm 0 4) = 0 ∧ num t (kAlarm 1 4) = 0 ∧ (s.start.held = false → num t (kFault 23 8) = (num s (kFault 23 8) + 1) % 2 ^ 32)) ∧
  ∀ (s : State) (q : Req) (a : Fin 2) (v : Bytes),
    (Commanded s q 0x610002 v → ∃ t, Goes (.rtcStep q v) s t ∧
      t.backup.rtc.ticks = (((s.backup.rtc.ticks : Int) + (itemOf s q 0x610002 v).2.toInt) % 2 ^ 64).toNat) ∧
    (Commanded s q (kAlarm a 3) [1] → ∃ t, Goes (.alarmArm q a) s t ∧ num t (kAlarm a 4) = 1) ∧
    (Commanded s q (kAlarm a 3) [2] → ∃ t, Goes (.alarmDisarm q a) s t ∧ num t (kAlarm a 4) = 0)
/-! ## The floor safety bus (chapter 14) -/

namespace Sys2Proof.Claim

/-- A frame that controller `k` sends now with 10 bytes of data: CYCLE and the MAC under the bus key follow (Table 14-4, R344). -/
def framed (s : State) (key : Bytes) (id : Nat) (data : Bytes) : Bytes :=
  data ++ leBytes 2 (ownCycle s % 65536) ++ canMac key id (ownCycle s) data

/-- The state in which TB2 has come to window `w` of its basic cycle (R341, R346). -/
def windowAt (s : State) (w : Nat) : State := reachMultiple s 2 1000000 (250000 * w) 15

/-- The cycle number over which a REFERENCE's MAC is computed (R345, R351). -/
def referenceCycle (s : State) (data : Bytes) : Nat :=
  if fieldAt data 0 8 = 2 ^ 64 - 1 then nearCycle (ownCycle s) (fieldAt data 10 2) else fieldAt data 0 8 / 1000000 + 1

end Sys2Proof.Claim

/-- R27, R346 to R348, R351 to R354, R360, R361, R428: at a segment cycle's start a CYCLE_MARK leaves and the beat shows; a core that has missed its third heartbeat raises source 18. In an arbitration window, to which TB2 comes first, a queued ALARM is sent, authenticated, or waits; the master sends REFERENCE, the owner of an exclusive
window its STATUS or a DICT segment. A controller that hears no REFERENCE takes mastership, joins on one, is UNSCHEDULED when they stop, and is off after bus-off until it rejoins.
Where the spec leaves it open, the model's own reading enters: log entry 37. -/
def Obligations.BusCycle : Prop :=
  (∀ (s : State) (b0 b1 : Bool),
    (s.time.loaded = false → Goes (.segmentCycleStart b0 b1) s s) ∧
    (s.time.loaded = true → ∃ t, Goes (.segmentCycleStart b0 b1) s t ∧ (∃ c m, Out.cycleMark c m ∈ t.out) ∧
      (num t (kRed 6) = 1 → Out.beat 100 ∈ t.out) ∧ (num t (kRed 6) = 2 → Out.beat 300 ∈ t.out) ∧ (num t (kRed 6) = 3 → Out.beat 500 ∈ t.out) ∧
      (s.safety.enabled = true → s.server.held = [] → b0 = false → b1 = true → tabFind s.safety.lost 0 = some 2 →
        num t (kFault 18 8) = (num s (kFault 18 8) + 1) % 2 ^ 32))) ∧
  (∀ (s : State) (k : Fin 2) (w : Fin 4) (free : Nat),
    let u := windowAt s w
    let cleared := putBus u k { bus u k with seen := [] }
    (busRuns s k = false → Goes (.windowStart k w free) s s) ∧
    (busRuns s k = true → maySend s k = false → Goes (.windowStart k w free) s cleared) ∧
    (∀ z a b key, maySend s k = true → busState s k ≠ 5 → w.val % 2 = 0 → (bus s k).alarms = [z] → (bus s k).key = some (a, b, key) →
      (free < lastStart (bus s k).rates → ∃ t, Goes (.windowStart k w free) s t ∧ t.out = Out.can k z (framed u key z (alarmData z)) :: s.out ∧ (bus t k).alarms = []) ∧
      (lastStart (bus s k).rates ≤ free → 320 < free + frameMax (bus s k).rates → ∃ t, Goes (.windowStart k w free) s t ∧ t.out = s.out ∧
        (bus t k).alarms = [z] ∧ num t (kBus k 0x11) = (num s (kBus k 0x11) + 1) % 2 ^ 32)) ∧
    (∀ r a b key, maySend s k = true → busState s k = 4 → w.val = 1 → ownRank s k = some r → (bus s k).key = some (a, b, key) → free < lastStart (bus s k).rates →
      ∃ t, Goes (.windowStart k w free) s t ∧ (bus t k).sentSof = some (tbNs u 2) ∧
        t.out = Out.can k (0x10 + r) (framed u key (0x10 + r) (((bus s k).sentSof.elim (List.replicate 8 0xFF) (leBytes 8)) ++
          leBytes 2 (matrixTag (domain s (kMatrix k))))) :: s.out) ∧
    ∀ n a b key, maySend s k = true → busState s k ≠ 5 → w.val = 3 → ownNode s k = some n → (bus s k).key = some (a, b, key) →
      entryDue (matrix s k) (ownCycle u % 16) (ownCycle u / 16) = true → entryNode (matrix s k) (ownCycle u % 16) = n → free < lastStart (bus s k).rates →
      (entryKind (matrix s k) (ownCycle u % 16) = 1 → ∃ t d, Goes (.windowStart k w free) s t ∧ t.out = Out.can k (0x20 + n) (framed u key (0x20 + n) d) :: s.out ∧
        fieldAt d 0 2 = statusZones s k % 65536 ∧ fieldAt d 6 4 = serial s % 2 ^ 32) ∧
      ∀ dst seg rest, entryKind (matrix s k) (ownCycle u % 16) = 2 → (bus s k).segments = (dst, seg) :: rest → ∃ t, Goes (.windowStart k w free) s t ∧
        (bus t k).segments = rest ∧
        t.out = Out.can k (if isManagerOn s k then 0x40 + dst else 0x60 + n) (framed u key (if isManagerOn s k then 0x40 + dst else 0x60 + n) seg) :: s.out) ∧
  ∀ (s : State) (k : Fin 2),
    (busState s k = 1 → (bus s k).heard = false → restrictedCase s k = false → ∀ r, ownRank s k = some r →
      ∃ t, Goes (.joinTimeout k) s t ∧ (bus t k).heard = true ∧ num t (kBus k 0xC) = r) ∧
    (busState s k ≠ 1 ∨ (bus s k).heard = true ∨ restrictedCase s k = true → Goes (.joinTimeout k) s s) ∧
    (potentialMaster s k = none → ∀ won, Goes (.missingReference k won) s s) ∧
    (∀ r, potentialMaster s k = some r → busState s k = 4 →
      (∃ t d, Goes (.missingReference k true) s t ∧ t.out = Out.can k (0x10 + r) d :: s.out) ∧ ∃ t, Goes (.missingReference k false) s t ∧ busState t k = 3) ∧
    (busState s k = 3 → ∃ t, Goes (.referenceLost k) s t ∧ busState t k = 5 ∧ num t (kBus k 0xC) = 0xFF ∧ num t (kFault 32 8) = (num s (kFault 32 8) + 1) % 2 ^ 32) ∧
    (busState s k = 2 → ∃ t, Goes (.referenceLost k) s t ∧ busState t k = 2 ∧ num t (kBus k 0xC) = 0xFF) ∧
    (∀ tec rec_, busRuns s k = false → Goes (.errorPassive k tec rec_) s s ∧ Goes (.busOff k) s s) ∧
    (∀ tec rec_ : Byte, busRuns s k = true → nat s (kFault 30 1) ≠ 3 → ∃ t, Goes (.errorPassive k tec rec_) s t ∧
      num t (kBus k 0xD) = (tec.toNat * 256 + rec_.toNat : Nat) ∧ (bus t k).passive = decide (128 ≤ tec.toNat ∨ 128 ≤ rec_.toNat) ∧
      ((bus t k).passive = true → Raised s t 30)) ∧
    (busRuns s k = true → nat s (kFault 31 1) ≠ 3 → ∃ t, Goes (.busOff k) s t ∧ Raised s t 31 ∧ busState t k = 6 ∧ (bus t k).passive = false ∧
      num t (kBus k 0xD) = (255 * 256 + nat s (kBus k 0xD) % 256 : Nat)) ∧
    (busState s k = 6 → ∃ t, Goes (.busOffRecovery k) s t ∧ busState t k = 1 ∧ (bus t k).heard = false ∧ t.mem = s.mem) ∧
    (busState s k ≠ 6 → Goes (.busOffRecovery k) s s)

/-- R64, R118, R344, R345, R350, R353, R355 to R358, R362: a REFERENCE whose MAC holds names the master; an ALARM of an accepted zone raises the alarm whether or not it is authentic; the zones that an authentic STATUS of another node alarms do so too. A frame that is not authentic is counted; a message of segments that fails
is discarded and counted once, and one that waits too long is dropped. Before the end of step 9 no ALARM is heard (R64). A controller that does not run takes none.
Where the spec leaves it open, the model's own reading enters: log entry 37. -/
def Obligations.BusFrames : Prop :=
  (∀ (s : State) (k : Fin 2) (r : Fin 8) (z : Fin 16) (node : Fin 32) (down : Bool) (data : Bytes), busRuns s k = false →
    Goes (.reference k r data) s s ∧ Goes (.alarmFrame k z data) s s ∧ Goes (.statusFrame k node data) s s ∧ Goes (.dictFrame k down node data) s s) ∧
  (∀ (s : State) (k : Fin 2) (r : Fin 8) (data : Bytes), busRuns s k = true → (busState s k ≠ 4 ∨ r.val ≤ nat s (kBus k 0xC)) →
    (macOk s k (0x10 + r) (referenceCycle s data) data = false → ∃ t, Goes (.reference k r data) s t ∧ t.bus = s.bus ∧
      num t (kBus k 0xF) = (num s (kBus k 0xF) + 1) % 2 ^ 32) ∧
    (macOk s k (0x10 + r) (referenceCycle s data) data = true → ∃ t, Goes (.reference k r data) s t ∧ (bus t k).heard = true ∧
      (bus t k).tag = some (fieldAt data 8 2) ∧ num t (kBus k 0xC) = r.val)) ∧
  (∀ (s : State) (k : Fin 2) (z : Fin 16) (data : Bytes), busRuns s k = true →
    (alarmsHeard s = false → Goes (.alarmFrame k z data) s s) ∧
    (alarmsHeard s = true → (byteAt data 0 ≠ 1 ∨ byteAt data 1 ≠ z.val) → ∃ t, Goes (.alarmFrame k z data) s t ∧ t.bus = s.bus ∧ num t (kBus k 0xF) = (num s (kBus k 0xF) + 1) % 2 ^ 32) ∧
    (alarmsHeard s = true → byteAt data 0 = 1 → byteAt data 1 = z.val → s.safety.enabled = true → (coreAccept s k).testBit z = true → ∃ t, Goes (.alarmFrame k z data) s t ∧
      bit t (kEmg 6) z = true ∧ num t (kEmg 5) = 1 ∧ num t (kBus k 0x10) = (num s (kBus k 0x10) + 1) % 2 ^ 32) ∧
    (byteAt data 0 = 1 → byteAt data 1 = z.val → (s.safety.enabled = false ∨ (coreAccept s k).testBit z = false) → ∃ t, Goes (.alarmFrame k z data) s t ∧
      reg t (kEmg 5) = reg s (kEmg 5) ∧ reg t (kEmg 6) = reg s (kEmg 6))) ∧
  (∀ (s : State) (k : Fin 2) (node : Fin 32) (data : Bytes), busRuns s k = true →
    (taken s k (0x20 + node) data = false → ∃ t, Goes (.statusFrame k node data) s t ∧ t.bus = s.bus ∧ num t (kBus k 0xF) = (num s (kBus k 0xF) + 1) % 2 ^ 32) ∧
    (taken s k (0x20 + node) data = true → ownNode s k ≠ some node.val → fieldAt data 2 2 = 0 → alarmsHeard s = true → ∃ t, Goes (.statusFrame k node data) s t ∧ t.mem = s.mem ∧
      ∀ z, z < 16 → (fieldAt data 0 2).testBit z = true → s.safety.enabled = true → (coreAccept s k).testBit z = true → bit t (kEmg 6) z = true) ∧
    (taken s k (0x20 + node) data = true → ownNode s k = some node.val → fieldAt data 6 4 ≠ serial s % 2 ^ 32 → ∃ t, Goes (.statusFrame k node data) s t ∧
      (bus t k).dupNode = true)) ∧
  ∀ (s : State) (k : Fin 2) (node : Fin 32) (tag : Byte) (data : Bytes),
    (busRuns s k = true → ownNode s k = some node.val → taken s k (0x40 + node) data = false → ∃ t, Goes (.dictFrame k true node data) s t ∧
      num t (kBus k 0xF) = (num s (kBus k 0xF) + 1) % 2 ^ 32 ∧ t.server.sessions = s.server.sessions ∧
      let key := asmKey k (managerNode s k) (byteAt data 1)
      num t kFrameErrors = (if (tabFind s.server.reassembly key).any (·.bad) then num s kFrameErrors else (num s kFrameErrors + 1) % 2 ^ 32) ∧
      ((byteAt data 0).testBit 6 = true → tabFind t.server.reassembly key = none) ∧
      ((byteAt data 0).testBit 6 = false → ∃ x, tabFind t.server.reassembly key = some x ∧ x.bad = true)) ∧
    (busRuns s k = true → isManagerOn s k = true → taken s k (0x60 + node) data = true → byteAt data 0 = 0x80 → fieldAt data 2 2 ≤ 510 → 6 < fieldAt data 2 2 →
      ∃ t, Goes (.dictFrame k false node data) s t ∧
        tabFind t.server.reassembly (asmKey k node (byteAt data 1)) = some { nextSeg := 1, len := fieldAt data 2 2, got := slice (data.take 10) 4 6 }) ∧
    (tabFind s.server.reassembly (asmKey k node tag.toNat) = none → Goes (.floorSegmentTimeout k node tag) s s) ∧
    (∀ x, tabFind s.server.reassembly (asmKey k node tag.toNat) = some x → ∃ t, Goes (.floorSegmentTimeout k node tag) s t ∧
      tabFind t.server.reassembly (asmKey k node tag.toNat) = none ∧
      num t kFrameErrors = if x.bad then num s kFrameErrors else (num s kFrameErrors + 1) % 2 ^ 32)
/-! ## The wireless partner interface (chapter 15) -/

namespace Sys2Proof.Claim

/-- A frame with plaintext `m` that an associated partner sends first in its own event and that is taken: for this segment, in the receive window while the one receiver is there, secured at level 5 under its link key, its counter above the last one
(R365, R374, R375, R382, R383). -/
def AirTaken (s : State) (h type : Nat) (rx : AirRx) (m : Bytes) : Prop :=
  radioRuns s = true ∧ rx.queueFull = false ∧ rx.known = true ∧ associated s h = true ∧ rx.slot = none ∧ followsAck s h rx = false ∧ forUs s rx = true ∧ hears s h rx = true ∧
    rx.counter.toNat < 2 ^ 32 - 1 ∧ byteAt m 0 = type ∧ (openPartner s h 5 rx).1 = some m

/-- A slot begins in which nothing leaves (R366). -/
def inSlot (s : State) (i : Nat) : State := { s with air := { s.air with slot := i } }

/-- What the reception of such a frame leaves of a partner (R374, R379, R383), and its count. -/
def Heard (s t : State) (h : Nat) (rx : AirRx) : Prop :=
  num t (kAir 0x10) = (num s (kAir 0x10) + 1) % 2 ^ 32 ∧ (partner t h).missed = 0 ∧ (partner t h).lastRx = some s.clk ∧ (partner t h).rssi = rx.rssi.toInt ∧
    (partner t h).w = min 2500 (500 + 2 * ((rx.delta.natAbs :: (partner s h).deltas).take 8).foldl max 0) ∧
    (tabFind t.mram.airRx h).map (·.value) = some rx.counter.toNat

end Sys2Proof.Claim

/-- R366, R371, R372, R378, R379, R384, R387: START opens the radio's first superframe and the next start of one leaves it RUNNING with its map; each numbers itself, and an announced change applies from its superframe on. A slot in which nothing is due sends nothing; joins are answered once. STOP leaves it STOPPING and then STOPPED,
its relay queue empty and its associations kept, or starts again. A missed event widens the window, and a downlink frame unacknowledged three times is discarded; a radio that is held off does not start; a partner lost to supervision is DROPPED, raises source 36 and posts an event.
Where the spec leaves it open, the model's own reading enters: log entry 26. -/
def Obligations.RadioRuns : Prop :=
  (∀ s : State,
    (radioState s = 1 → ∃ t, Goes .superframeStart s t ∧ radioState t = 2 ∧ reg t (kAir 5) = .bytes (reg s (kAir 4)).toBytes ∧ t.air.phase = nat s (kAir 6) ∧
      t.air.offset = nat s (kAir 7) ∧ t.air.order = nat s (kAir 8) ∧ t.air.announce = none ∧ t.mem = s.mem) ∧
    (radioState s = 2 → s.air.announce = none → Goes .superframeStart s { s with air := { s.air with
        sf := superframeNo s, slot := 0, busyTo := if superframeNo s = s.air.sf + 1 then s.air.busyTo else 0 } }) ∧
    (∀ map phase at_, radioState s = 2 → s.air.announce = some (map, phase, at_) → at_ ≤ superframeNo s → ∃ t, Goes .superframeStart s t ∧
      reg t (kAir 5) = .bytes map ∧ t.air.phase = phase ∧ t.air.announce = none ∧ t.air.sf = superframeNo s) ∧
    (radioState s = 3 → Goes .superframeStart s { s with air := { s.air with isOpen := false } }) ∧
    (radioState s ≠ 1 → radioState s ≠ 2 → radioState s ≠ 3 → Goes .superframeStart s s)) ∧
  (∀ (s : State) (i : Fin 50),
    (radioRuns s = false → Goes (.slotStart i) s s) ∧
    (radioState s = 3 → s.air.isOpen = true → i.val = 0 → Goes (.slotStart i) s (inSlot s i)) ∧
    (radioState s = 2 → i.val = 0 → eventNo s % 2 ^ s.air.order ≠ 0 → Goes (.slotStart i) s (inSlot s i)) ∧
    (∀ ctr key, radioState s = 2 → i.val = 0 → eventNo s % 2 ^ s.air.order = 0 → (beaconKey s).1 = some key → (nextCounter (beaconKey s).2 beaconId key).1 = some ctr →
      ∃ t b, Goes (.slotStart i) s t ∧ Out.air (mapChannel s (eventNo s)) b ∈ t.out) ∧
    (radioState s = 2 → 1 ≤ i.val → i.val < 4 → ∃ t, Goes (.slotStart i) s t ∧
      t.air.joins = s.air.joins.filter fun j => !(j.2.1 == i.val && decide (j.2.2 ≤ s.air.sf))) ∧
    (radioState s = 2 → 4 ≤ i.val → i.val < 47 → (∀ p ∈ s.air.partners, p.2.slot ≠ i.val ∨ p.2.downlink = false) → Goes (.slotStart i) s (inSlot s i)) ∧
    (radioState s = 2 → 47 ≤ i.val → flag s (kAir 0xB) = false → Goes (.slotStart i) s (inSlot s i)) ∧
    (∀ f rest, radioState s = 2 → 48 ≤ i.val → flag s (kAir 0xB) = true → s.air.relay = f :: rest → ∃ t, Goes (.slotStart i) s t ∧ t.air.relay = rest)) ∧
  (∀ s : State,
    (radioState s = 3 → ∃ t, Goes .radioStopComplete s t ∧ radioState t = (if s.air.startAsked then 1 else 0) ∧ t.air.relay = [] ∧ t.air.joins = [] ∧
      t.air.announce = none ∧ t.air.partners = s.air.partners ∧ t.air.startAsked = false) ∧
    (radioState s ≠ 3 → Goes .radioStopComplete s s)) ∧
  (∀ (s : State) (q : Req),
    (Commanded s q (kAir 1) [1] → ∃ t, Goes (.radioStop q) s t ∧ radioState t = (if radioState s = 1 ∨ radioState s = 2 then 3 else radioState s) ∧
      (radioState s = 3 → t.air.startAsked = false)) ∧
    (Commanded s q (kAir 1) [2] → ∃ t, Goes (.radioStart q) s t ∧ (heldOff s 10 = true → radioState t = radioState s ∧ t.air = s.air) ∧
      (heldOff s 10 = false → radioState t = (if radioState s = 0 then 1 else radioState s) ∧ (radioState s = 3 → t.air.startAsked = true))) ∧
    (Commanded s q (kAir 1) [3] → ∃ t, Goes (.radioRestart q) s t ∧ (radioState s = 0 → radioState t = if heldOff s 10 then 0 else 1) ∧
      (radioState s = 1 ∨ radioState s = 2 ∨ radioState s = 3 → radioState t = 3 ∧ t.air.startAsked = true)) ∧
    (Commanded s q (kAir 0x1B) [1] → ∃ t, Goes (.radioStatsClear q) s t ∧ t.air = s.air ∧
      ∀ sub ∈ [0x10, 0x11, 0x12, 0x13, 0x14, 0x15, 0x16, 0x17, 0x18], num t (kAir sub) = 0)) ∧
  ∀ (s : State) (h : Fin 1024) (a : Half),
    (associated s h = false → Goes (.eventMissed h) s s ∧ Goes (.supervisionLoss h) s s) ∧
    (associated s h = true → ((partner s h).tries < 3 → Goes (.eventMissed h) s (putPartner s h { partner s h with
        w := min 2500 (2 * (partner s h).w), missed := min 255 ((partner s h).missed + 1), urgent := none })) ∧
      (3 ≤ (partner s h).tries → ∃ t, Goes (.eventMissed h) s t ∧ (session t (0x1000 + h)).txQueue = (session s (0x1000 + h)).txQueue.drop 1 ∧
        num t (kAir 0x16) = (num s (kAir 0x16) + 1) % 2 ^ 32 ∧ partner t h = { partner s h with
          tries := 0, w := min 2500 (2 * (partner s h).w), missed := min 255 ((partner s h).missed + 1), urgent := none }) ∧
      ∃ t, Goes (.supervisionLoss h) s t ∧ (partner t h).st = 3 ∧ num t (kFault 36 8) = (num s (kFault 36 8) + 1) % 2 ^ 32 ∧
        t.pair.events = s.pair.events ++ [eventBytes s 5 0 h [0]] ∧ t.mem = s.mem) ∧
    (∃ t, Goes (.neighbourExpiry a) s t ∧ tabFind t.air.neighbours a.toNat = none ∧ ∀ b, b ≠ a.toNat → tabFind t.air.neighbours b = tabFind s.air.neighbours b) ∧
    (s.air.relay = [] → Goes .floodExpiry s s) ∧
    (s.air.relay ≠ [] → ∃ t, Goes .floodExpiry s t ∧ t.air.relay = s.air.relay.drop 1 ∧ num t (kAir 0x18) = (num s (kAir 0x18) + 1) % 2 ^ 32)

/-- R365, R368, R372 to R375, R379, R382 to R385: a frame that is taken counts, keeps its counter and its timing; a REPORT is posted once, a LEAVE frees the event, an Enh-Ack ends the downlink frame. A JOIN_REQUEST of a listed partner is given an event; a mesh beacon joins the neighbours; a FLOOD is relayed
once with its TTL less 1. What no radio hears, while it is off, in use for another exchange or outside the windows, and what is for another segment has no effect; what comes from nobody known has none but
its count.
Where the spec leaves it open, the model's own reading enters: log entries 6, 23, 26 and 83. -/
def Obligations.AirFrames : Prop :=
  (∀ (s : State) (h : Fin 1024) (ext : BitVec 64) (rx : AirRx),
    (radioRuns s = false → Goes (.report h rx) s s ∧ Goes (.airMdp h rx) s s ∧ Goes (.keepalive h rx) s s ∧ Goes (.leave h rx) s s ∧ Goes (.enhAck h rx) s s ∧
      Goes (.joinRequest ext rx) s s ∧ Goes (.meshBeacon ext rx) s s ∧ Goes (.flood ext rx) s s) ∧
    (radioRuns s = true → rx.queueFull = false → (forUs s rx = false ∨ hears s h rx = false) →
      Goes (.report h rx) s s ∧ Goes (.airMdp h rx) s s ∧ Goes (.keepalive h rx) s s ∧ Goes (.leave h rx) s s) ∧
    (radioRuns s = true → rx.queueFull = false → forUs s rx = true → hears s h rx = true → (rx.known = false ∨ associated s h = false) →
      let t := bump (holdReceiver s (airSlot s h rx) rx) (kAir 0x11)
      Goes (.report h rx) s t ∧ Goes (.airMdp h rx) s t ∧ Goes (.keepalive h rx) s t ∧ Goes (.leave h rx) s t) ∧
    (radioRuns s = true → rx.queueFull = true → ∃ t, Goes (.report h rx) s t ∧ Goes (.airMdp h rx) s t ∧ Goes (.keepalive h rx) s t ∧ Goes (.leave h rx) s t ∧
      Goes (.joinRequest ext rx) s t ∧ Raised s t 56)) ∧
  (∀ (s : State) (h : Fin 1024) (rx : AirRx) (m : Bytes),
    (AirTaken s h 1 rx m → 1 ≤ byteAt m 1 → byteAt m 1 ≤ 3 → m.length = 10 → ∃ t, Goes (.report h rx) s t ∧ Heard s t h rx ∧
      ((partner s h).urgent = some ((m.drop 1).take 9) → t.pair.events = s.pair.events) ∧
      ((partner s h).urgent ≠ some ((m.drop 1).take 9) →
        t.pair.events = s.pair.events ++ [eventBytes s (byteAt m 1) (if 500 < rx.delta.natAbs then 1 else 0) h (m.drop 2)])) ∧
    (AirTaken s h 2 rx m → (recFlag (partnerRec s h) 2 = false ∨ 65 < m.length) → ∃ t, Goes (.airMdp h rx) s t ∧ t.air.partners = s.air.partners ∧ num t (kAir 0x11) = (num s (kAir 0x11) + 1) % 2 ^ 32) ∧
    (AirTaken s h 2 rx m → recFlag (partnerRec s h) 2 = true → m.length ≤ 65 → ∃ u, Heard s u h rx ∧ (partner u h).urgent = none ∧
      Goes (.airMdp h rx) s (takeMessage u (0x1000 + h) (m.drop 1))) ∧
    (AirTaken s h 5 rx m → m.length = 3 → ∃ t, Goes (.keepalive h rx) s t ∧ Heard s t h rx ∧ (partner t h).urgent = none) ∧
    (AirTaken s h 6 rx m → m.length = 1 → ∃ t, Goes (.leave h rx) s t ∧ tabFind t.air.partners h = none) ∧
    (radioRuns s = true → associated s h = true → (partner s h).tries ≠ 0 → rx.queueFull = false → rx.known = true → (openPartner s h 5 rx).1 = some m → ∃ t, Goes (.enhAck h rx) s t ∧
      (partner t h).tries = 0 ∧ (session t (0x1000 + h)).txQueue = (session s (0x1000 + h)).txQueue.drop 1)) ∧
  (∀ (s : State) (ext : BitVec 64) (rx : AirRx), radioRuns s = true → rx.queueFull = false →
    (forUs s rx = false ∨ heardBeside s (airSlot s 0xFFFF rx) rx = false → Goes (.joinRequest ext rx) s s) ∧
    (forUs s rx = true → heardBeside s (airSlot s 0xFFFF rx) rx = true → rx.known = true →
    ((∀ h, h < 1024 → recExt (partnerRec s h) ≠ ext.toNat) → ∃ t, Goes (.joinRequest ext rx) s t ∧ { t.air with busyTo := s.air.busyTo } = s.air ∧
      num t (kAir 0x15) = (num s (kAir 0x15) + 1) % 2 ^ 32) ∧
    ∀ (h : Fin 1024) m slot phase (c : Fin 3), recExt (partnerRec s h) = ext.toNat → ext ≠ 0 → 1 ≤ recKind (partnerRec s h) → recKind (partnerRec s h) ≤ 4 →
      (∀ j, j < h.val → recExt (partnerRec s j) ≠ ext.toNat) → rx.counter.toNat < 2 ^ 32 - 1 → (openPartner s h 5 rx).1 = some m → byteAt m 0 = 3 → m.length = 5 →
      byteAt m 2 ≤ 6 → s.air.order ≤ min (byteAt m 2) (byteAt (partnerRec s h) 11) →
      findEvent s h (min (byteAt m 2) (byteAt (partnerRec s h) 11)) = some (slot, phase) → rx.slot = some c →
      ∃ t, Goes (.joinRequest ext rx) s t ∧ t.air.joins = s.air.joins ++ [(h.val, c.val + 1, s.air.sf + 1)] ∧ (partner t h).st = 2 ∧ (partner t h).slot = slot ∧
        (partner t h).phase = phase ∧ (partner t h).exp = min (byteAt m 2) (byteAt (partnerRec s h) 11))) ∧
  ∀ (s : State) (ext : BitVec 64) (rx : AirRx) (m : Bytes), (openMesh s ext.toNat rx).1 = some m →
    (byteAt m 0 = 0x11 → m.length = 7 → (s.air.neighbours.length < 32 ∨ (tabFind s.air.neighbours (fieldAt m 1 2)).isSome) → ∃ t, Goes (.meshBeacon ext rx) s t ∧
      tabFind t.air.neighbours (fieldAt m 1 2) = some { offset := byteAt m 3, phase := fieldAt m 4 2, rssi := rx.rssi.toInt, heardAt := s.clk }) ∧
    (byteAt m 0 = 0x10 → m.length = 28 → 1 ≤ byteAt m 7 → byteAt m 7 ≤ 15 → 1 ≤ byteAt m 17 → byteAt m 17 ≤ 3 →
      ((∃ x ∈ s.air.seen, s.clk < x.2.2 + secs 8 ∧ x.1 = fieldAt m 1 2 ∧ x.2.1 = fieldAt m 3 4) → ∃ t, Goes (.flood ext rx) s t ∧ t.air.relay = s.air.relay ∧
        num t (kAir 0x17) = (num s (kAir 0x17) + 1) % 2 ^ 32) ∧
      ((∀ x ∈ s.air.seen, s.clk < x.2.2 + secs 8 → ¬(x.1 = fieldAt m 1 2 ∧ x.2.1 = fieldAt m 3 4)) → ∃ t, Goes (.flood ext rx) s t ∧
        t.air.seen.head? = some (fieldAt m 1 2, fieldAt m 3 4, s.clk) ∧
        (byteAt m 7 = 1 → t.air.relay = s.air.relay) ∧
        (2 ≤ byteAt m 7 → s.air.relay.length < 16 → t.air.relay = s.air.relay ++
          [{ body := (m.drop 1).take 6 ++ [BitVec.ofNat 8 (byteAt m 7 - 1)] ++ m.drop 8, own := false, at_ := s.clk }])))
/-! ## The safety core and the fault sources (chapter 16) -/

/-- R355, R394 to R397, R399, R401: while the safety core acts, a channel of the loop that opens raises the alarm, selects EGRESS, counts the zone in and queues ALARM; during a loop test it is only noted while the other stays closed, and its closing passes it. A channel that closes leaves the alarm; channels that
differ too long raise source 33; the end of a loop test with a channel open raises the alarm. CANCEL takes zones out, and the last one out leaves the alarm to be acknowledged; the acknowledge ends it and the egress.
Where the spec leaves it open, the model's own reading enters: log entry 38. -/
def Obligations.EmergencyLoop : Prop :=
  (∀ (s : State) (ch : Fin 2),
    (s.safety.enabled = false ∨ bit s (kEmg 4) ch = true → Goes (.emgChannelOpen ch) s s) ∧
    (s.safety.enabled = true → bit s (kEmg 4) ch = false → bit s (kEmg 4) 3 = false → ∃ t, Goes (.emgChannelOpen ch) s t ∧ bit t (kEmg 4) ch = true ∧
      t.safety.own = true ∧ bit t (kEmg 6) (coreZone s 0) = true ∧ num t (kEmg 5) = 1 ∧ (nat s (kEmg 5) ≠ 1 → t.safety.egress = true ∧
        num t (kEmg 0xB) = (num s (kEmg 0xB) + 1) % 2 ^ 32 ∧ num t (kFault 34 8) = (num s (kFault 34 8) + 1) % 2 ^ 32) ∧ t.mem = s.mem ∧
      ∀ k, (k = 0 ∨ k = 1) → 1 ≤ busState s k → busState s k ≤ 4 → safeMode s = false →
        coreZone s k ∈ if startsNow s k then (bus t k).alarms ++ (bus t k).seen else (bus t k).alarms) ∧
    (s.safety.enabled = true → bit s (kEmg 4) ch = false → bit s (kEmg 4) 3 = true → bit s (kEmg 4) (1 - ch.val) = false → ∃ t, Goes (.emgChannelOpen ch) s t ∧
      bit t (kEmg 4) ch = true ∧ t.safety.opened = s.safety.opened ||| 2 ^ ch.val ∧ reg t (kEmg 5) = reg s (kEmg 5) ∧ reg t (kEmg 6) = reg s (kEmg 6)) ∧
    (s.safety.enabled = false ∨ bit s (kEmg 4) ch = false → Goes (.emgChannelClosed ch) s s) ∧
    (s.safety.enabled = true → bit s (kEmg 4) ch = true → ∃ t, Goes (.emgChannelClosed ch) s t ∧ bit t (kEmg 4) ch = false ∧ reg t (kEmg 5) = reg s (kEmg 5) ∧
      reg t (kEmg 6) = reg s (kEmg 6) ∧ t.safety.own = s.safety.own ∧ (bit s (kEmg 4) 3 = true → s.safety.opened.testBit ch = true → bit t (kEmg 0xA) ch = true))) ∧
  (∀ s : State,
    let differ := s.safety.enabled = true ∧ bit s (kEmg 4) 0 ≠ bit s (kEmg 4) 1 ∧ bit s (kEmg 4) 3 = false ∧ bit s (kEmg 4) 2 = false
    (differ → ∃ t, Goes .emgDiscrepancy s t ∧ bit t (kEmg 4) 2 = true ∧ Raised s t 33) ∧ (¬differ → Goes .emgDiscrepancy s s) ∧
    (bit s (kEmg 4) 3 = false → Goes .emgTestExpiry s s) ∧
    (bit s (kEmg 4) 3 = true → ∃ t, Goes .emgTestExpiry s t ∧ bit t (kEmg 4) 3 = false ∧ t.safety.opened = 0 ∧ (loopOpen s = true → num t (kEmg 5) = 1) ∧
      (loopOpen s = false → reg t (kEmg 5) = reg s (kEmg 5)))) ∧
  ∀ (s : State) (q : Req) (v : Bytes),
    (Commanded s q (kEmg 9) [1] → ∃ t, Goes (.emgTestStart q) s t ∧ bit t (kEmg 4) 3 = true ∧ num t (kEmg 0xA) = 0 ∧ t.safety.opened = 0) ∧
    (Commanded s q (kEmg 9) [2] → ∃ t, Goes (.emgTestEnd q) s t ∧ (bit s (kEmg 4) 3 = true → bit t (kEmg 4) 3 = false ∧ t.safety.opened = 0 ∧
      (loopOpen s = true → num t (kEmg 5) = 1))) ∧
    (Commanded s q (kEmg 7) v → isManager s = true → loopOpen s = false → ∃ t, Goes (.emgCancel q v) s t ∧
      (∀ z, z < 16 → bit t (kEmg 6) z = (bit s (kEmg 6) z && !(fieldAt v 0 2).testBit z)) ∧
      (nat t (kEmg 6) = 0 → nat s (kEmg 5) = 1 → num t (kEmg 5) = 2) ∧ t.safety.cancel = fieldAt v 0 2) ∧
    (Commanded s q (kEmg 8) [1] → ∃ t, Goes (.emgAcknowledge q) s t ∧ num t (kEmg 5) = 0 ∧ t.safety.egress = false ∧ t.mem = s.mem)

/-- R392, R402, R405, R408 to R411: a group's clearing ends once every driver that holds its cells reports it clear; a guard's hold ends; a core's heartbeat loss raises source 18. A test that is due or commanded selects EGRESS, or is deferred; it ends with its result, and the egress with it unless an alarm stands.
Where the spec leaves it open, the model's own reading enters: log entry 38. -/
def Obligations.SafetyTests : Prop :=
  (∀ (s : State) (g : Fin 64),
    (tabFind s.safety.clearing g = none → Goes (.groupClearComplete g) s s) ∧
    ∀ ds, tabFind s.safety.clearing g = some ds →
      ((∀ d ∈ ds, present s (d / 16) (d % 16) = true ∧ (pos s (d / 16) (d % 16)).trip.testBit g = false) → ∃ t, Goes (.groupClearComplete g) s t ∧
        bit t (kSafety 2) g = false ∧ tabFind t.safety.clearing g = none) ∧
      ((∃ d ∈ ds, present s (d / 16) (d % 16) = false ∨ (pos s (d / 16) (d % 16)).trip.testBit g = true) → Goes (.groupClearComplete g) s s)) ∧
  (∀ (s : State) (z : Fin 16384), (tabFind s.safety.holds z = none → Goes (.guardHoldEnd z) s s) ∧
    ∃ t, Goes (.guardHoldEnd z) s t ∧ tabFind t.safety.holds z = none ∧ ∀ y, y ≠ z.val → tabFind t.safety.holds y = tabFind s.safety.holds y) ∧
  (∀ (s : State) (core : Fin 2), (tabFind s.safety.lost core = some 3 → Goes (.heartbeatLoss core) s s) ∧
    (tabFind s.safety.lost core ≠ some 3 → ∃ t, Goes (.heartbeatLoss core) s t ∧ Raised s t 18 ∧ tabFind t.safety.lost core = some 3)) ∧
  (∀ s : State,
    (s.safety.deferred = none → testDue s 1 = false → testDue s 2 = false → Goes .testSchedule s s) ∧
    (∀ kind, s.safety.deferred = none → s.safety.test = none → ((kind = 2 ∧ testDue s 2 = true) ∨ (kind = 1 ∧ testDue s 2 = false ∧ testDue s 1 = true)) →
      (testDeferred s = false → ∃ t, Goes .testSchedule s t ∧ (t.safety.test.map (·.kind)) = some kind ∧ num t (kSafety 0xA) = kind ∧ t.safety.egress = true) ∧
      (testDeferred s = true → ∃ t, Goes .testSchedule s t ∧ t.safety.test = none ∧ t.safety.deferred = some (kind, true) ∧ num t (kSafety 0xA) = 3)) ∧
    (s.safety.test = none → Goes .testEnd s s) ∧
    (∀ x, s.safety.test = some x → ∃ t, Goes .testEnd s t ∧ t.safety.test = none ∧ num t (kSafety 0xA) = 0 ∧ t.safety.egress = (s.safety.egress && nat s (kEmg 5) != 0) ∧
      ((reg t (kSafety (if x.kind = 1 then 0xB else 0xC))).toBytes.drop 8).take 2 = [BitVec.ofNat 8 (testResult s x), BitVec.ofNat 8 x.kind])) ∧
  ∀ (s : State) (q : Req) (v : Bytes),
    (Commanded s q (kSafety 3) v → ∃ t, Goes (.groupClear q v) s t ∧ tabFind t.safety.clearing (byteAt v 0) = some (groupDrivers s (byteAt v 0))) ∧
    (Commanded s q (kSafety 9) [1] → s.safety.test = none → ∃ t, Goes (.functionTest q) s t ∧
      (testDeferred s = false → (t.safety.test.map (·.kind)) = some 1 ∧ num t (kSafety 0xA) = 1 ∧ t.safety.egress = true) ∧
      (testDeferred s = true → t.safety.deferred = some (1, false) ∧ num t (kSafety 0xA) = 3)) ∧
    (Commanded s q (kSafety 9) [2] → s.safety.test = none → ∃ t, Goes (.durationTest q) s t ∧
      (testDeferred s = false → (t.safety.test.map (·.kind)) = some 2 ∧ num t (kSafety 0xA) = 2 ∧ t.safety.egress = true) ∧
      (testDeferred s = true → t.safety.deferred = some (2, false) ∧ num t (kSafety 0xA) = 3)) ∧
    (Commanded s q (kSafety 9) [3] → ∃ t, Goes (.testAbort q) s t ∧ t.safety.test = none ∧
      (∀ x, s.safety.test = some x → byteAt (reg t (kSafety (if x.kind = 1 then 0xB else 0xC))).toBytes 8 = 5))

/-- R412, R415, R416: a condition that is over leaves its ACTIVE source RECOVERING; a quiet period returns it to NORMAL and counts the recovery, the eighth within 24 h leaves it LATCHED; an escalation timer that ran out runs the escalation's reaction; FAULT_CLEAR empties the recoveries and takes LATCHED back.
Where the spec leaves it open, the model's own reading enters: log entry 19. -/
def Obligations.FaultSources : Prop :=
  (∀ (s : State) (src : Fin 64),
    (conditionOver s src = false → Goes (.faultConditionEnd src) s s) ∧
    (conditionOver s src = true → ∃ t, Goes (.faultConditionEnd src) s t ∧ (faultSrc t src).standing = false ∧ t.mem = s.mem ∧
      nat t (kFault src 7) = (if (faultSrc s src).standing = true ∧ nat s (kFault src 7) = 1 then 2 else nat s (kFault src 7))) ∧
    (nat s (kFault src 7) = 2 → (recoveries s src).length < 7 → ∃ t, Goes (.quietPeriodExpiry src) s t ∧ num t (kFault src 7) = 0 ∧
      num t (kFault src 9) = (recoveries s src).length + 1 ∧ (faultKept t src).history = recoveries s src ++ [now64 s]) ∧
    (nat s (kFault src 7) = 2 → 7 ≤ (recoveries s src).length → ∃ t, Goes (.quietPeriodExpiry src) s t ∧ num t (kFault src 7) = 3 ∧ (faultKept t src).latched = true) ∧
    (nat s (kFault src 7) ≠ 2 → ¬(nat s (kFault src 7) = 0 ∧ (faultKept s src).reset = true) → Goes (.quietPeriodExpiry src) s s) ∧
    ((faultSrc s src).timer = false → Goes (.escalationExpiry src) s s) ∧
    ((faultSrc s src).timer = true → ∃ t, Goes (.escalationExpiry src) s t ∧ (faultSrc t src).timer = false ∧
      (nat s (kFault src 2) = 1 → t.out = Out.irq src :: s.out) ∧ (nat s (kFault src 2) = 2 → t.out = Out.nmi src :: s.out) ∧
      (nat s (kFault src 2) = 4 → s.start.ordered = none → t.start.ordered = some (3, src.val)))) ∧
  ∀ (s : State) (q : Req) (src : Fin 64), Commanded s q (kFault src 0xC) [1] → ∃ t, Goes (.faultClear q src) s t ∧ num t (kFault src 9) = 0 ∧
    (faultKept t src).history = [] ∧ (faultKept t src).latched = false ∧ (nat s (kFault src 7) = 3 → num t (kFault src 7) = 0) ∧ t.mem = s.mem
/-! ## Redundant pairs (chapter 17) -/

/-- R56, R221, R425, R428, R429, R431, R434 to R436: the grant that rises makes a standby ACTIVE, or SINGLE without a peer, the one that falls makes it STANDBY. A CYCLE_MARK shows the peer, brings a link that was down up to a resync, and ends a conflict of two ACTIVE modules by one yielding; three cycles without one take the link down. A
standby collects the frames of a copy, holds it complete when every byte has come, and applies it in an input window; mirrored records join a lane in dual-stream mode, but for what only the injection path sends. A frame lost at the clock-domain queue raises source 56. A swap is announced in four cycles, and one overdue shows.
Where the spec leaves it open, the model's own reading enters: log entries 40 and 89. -/
def Obligations.RedundantPair : Prop :=
  (∀ s : State,
    (∃ t, Goes .arbGrantRise s t ∧ t.pair.grant = true ∧ nat t kRole = (if nat s kRole = 2 ∧ safeMode s = false then (if s.pair.peer.isSome then 1 else 0) else nat s kRole)) ∧
    (∃ t, Goes .arbGrantFall s t ∧ t.pair.grant = false ∧ nat t kRole = (if nat s kRole ≤ 1 then 2 else nat s kRole)) ∧
    (s.pair.peer = none ∨ stitch s = 0 → Goes .stitchLinkDown s s) ∧
    (s.pair.peer ≠ none → stitch s ≠ 0 → ∃ t, Goes .stitchLinkDown s t ∧ stitch t = 0 ∧ bit t (kRed 0xD) 1 = true ∧ t.pair.applied = 0 ∧ t.pair.ready = s.pair.ready ∧ t.pair.journal = [] ∧
      Raised s t 42) ∧
    (nat s (kRed 0xC) ≠ 0 → s.pair.peer ≠ none → ∃ t, Goes .swapOverdue s t ∧ bit t (kRed 0xD) 3 = true) ∧
    (nat s (kRed 0xC) = 0 ∨ s.pair.peer = none → Goes .swapOverdue s s)) ∧
  (∀ (s : State) (cycle : Word) (valid : Bool) (m : CycleMark),
    (∃ t, Goes (.cycleMark cycle valid true m) s t ∧ Raised s t 56) ∧
    (∃ t, Goes (.cycleMark cycle false false m) s t ∧ num t (kRed 0xA) = (num s (kRed 0xA) + 1) % 2 ^ 32 ∧ t.pair = s.pair) ∧
    ∃ t, Goes (.cycleMark cycle true false m) s t ∧ num t kPeerSerial = m.serial.toNat ∧ stitch t = (if stitch s = 0 then 2 else stitch s) ∧
      (t.pair.peer.map fun p => (p.role, p.beat, p.serial)) = some (m.role.toNat, m.beat.toNat, m.serial.toNat) ∧
      (nat s kRole = 0 → m.role ≠ 1 → nat t kRole = 1) ∧
      (nat s kRole = 1 → m.role = 1 → s.pair.grant = false → nat t kRole = 2 ∧ t.pair.yielded = true)) ∧
  (∀ (s : State) (cycle total : Word) (size : Fin 4097) (item : CopyItem) (n : Fin 8) (r : Bytes),
    (∃ t, Goes (.stateFrame cycle .lost size item) s t ∧ Goes (.copyEnd cycle .lost total) s t ∧ Goes (.mirror .lost n r) s t ∧ Raised s t 56) ∧
    (nat s kRole ≠ 2 → ∀ a, a ≠ .lost → Goes (.stateFrame cycle a size item) s s ∧ Goes (.copyEnd cycle a total) s s) ∧
    (nat s kRole = 2 → ∃ t, Goes (.stateFrame cycle .damaged size item) s t ∧ Goes (.copyEnd cycle .damaged total) s t ∧ t.pair = s.pair ∧
      num t (kRed 0xA) = (num s (kRed 0xA) + 1) % 2 ^ 32) ∧
    (nat s kRole = 2 → (s.pair.cycle = none ∨ s.pair.cycle = some cycle.toNat) → Goes (.stateFrame cycle .whole size item) s
      { s with pair := { s.pair with cycle := some cycle.toNat, items := s.pair.items ++ [item], bytes := s.pair.bytes + size } }) ∧
    (nat s kRole = 2 → s.pair.cycle = some cycle.toNat → s.pair.bytes = total.toNat → Goes (.copyEnd cycle .whole total) s
      { s with pair := { s.pair with ready := s.pair.ready ++ [(cycle.toNat, s.pair.items)], items := [], cycle := none, bytes := 0 } }) ∧
    (nat s kRole = 2 → (s.pair.cycle ≠ some cycle.toNat ∨ s.pair.bytes ≠ total.toNat) → ∃ t, Goes (.copyEnd cycle .whole total) s t ∧ t.pair.items = [] ∧
      t.pair.applied = 0 ∧ num t (kRed 0xA) = (num s (kRed 0xA) + 1) % 2 ^ 32) ∧
    (∃ t, Goes (.mirror .damaged n r) s t ∧ num t (kRed 0xA) = (num s (kRed 0xA) + 1) % 2 ^ 32 ∧ t.lanes = s.lanes) ∧
    (mirrorOnly s n = false ∨ r.length < 14 → Goes (.mirror .whole n r) s s) ∧
    (mirrorOnly s n = true → 14 ≤ r.length → (byteAt r 4 = 0x13 ∨ (byteAt r 4 = 0x10 ∧ byteAt (slice r 10 (fieldAt r 8 2)) 1 = 1)) →
      Goes (.mirror .whole n r) s (bump s (kLane n 0xD))) ∧
    (mirrorOnly s n = true → 14 ≤ r.length → byteAt r 4 ≠ 0x13 → (byteAt r 4 = 0x10 → byteAt (slice r 10 (fieldAt r 8 2)) 1 ≠ 1) →
      ∃ t, Goes (.mirror .whole n r) s t ∧ (lane t n).buffer = (lane s n).buffer ++
      [{ type := byteAt r 4, dest := byteAt r 5, seq := some (fieldAt r 6 2), payload := slice r 10 (fieldAt r 8 2), stream := some (fieldAt r 0 4) }])) ∧
  (∀ s : State,
    (s.pair.ready = [] ∨ nat s kRole ≠ 2 ∨ mayApply s = false → Goes .copyApply s s) ∧
    (s.pair.ready ≠ [] → nat s kRole = 2 → mayApply s = true → ∃ t, Goes .copyApply s t ∧ t.pair.ready = [] ∧
      (stitch s ≠ 2 → t.pair.applied = s.pair.applied + s.pair.ready.length ∧ num t (kRed 4) = 0) ∧ (stitch s = 2 → t.pair.applied = s.pair.applied) ∧
      ∀ c z a cl tr cg te, s.pair.ready = [(c, [.safety z a cl tr cg te])] → s.safety.own = false → nat t (kEmg 6) = z.toNat ∧ nat t (kEmg 5) = a.toNat ∧ nat t (kSafety 2) = tr.toNat)) ∧
  ∀ (s : State) (q : Req), Commanded s q (kRed 5) [1] → ∃ t, Goes (.swap q) s t ∧ t.pair.swapLeft = 4 ∧ t.pair.asked = true ∧ t.mem = s.mem
/-! ## Keys, updates and waves (chapter 18) -/

namespace Sys2Proof.Claim

/-- A shell that may answer a debug challenge (R445, R448). -/
def DebugShell (s : State) (n : Nat) : Prop := isValid s n = true ∧ (shell s n).type = 7 ∧ hasUsage s n 9 = true

/-- The tag that unlocks debug over a nonce (R448). -/
def debugTag (s : State) (n : Nat) (nonce : Bytes) : Bytes := (hmac (shell s n).key (nonce ++ leBytes 8 (serial s))).take 16

end Sys2Proof.Claim

/-- R440, R442, R444, R447, R448: the check marks each invalid shell that holds a session or supplies a configured key ORPHANED, and leaves every other as it is; a shell is derived with its body's attributes and a key of its parent's, destroyed with a new generation, and answers an attestation challenge; a debug challenge shifts out 16 fresh bytes, and the right tag, once,
unlocks debug, a wrong one raises source 47.
Where the spec leaves it open, the model's own reading enters: log entries 31 and 90. -/
def Obligations.Keys : Prop :=
  (∀ s : State, ∃ t, Goes .shellCheck s t ∧ t.mem = s.mem ∧ (∀ n, isValid s n = true → shell t n = shell s n) ∧
    (∀ n, n ∈ watchedShells s → (shell s n).type ≠ 0 → isValid s n = false → (shell t n).orphaned = true) ∧
    ∀ n, n ∉ watchedShells s → shell t n = shell s n) ∧
  (∀ s : State, ∃ t b, Goes .dbgChallenge s t ∧ b.length = 16 ∧ t.out = Out.jtag b :: s.out ∧ t.update.dbgNonce = some b) ∧
  (∀ (s : State) (n : Byte) (tag : Bytes),
    (s.update.dbgNonce = none → Goes (.dbgResponse n tag) s s) ∧
    ∀ nonce, s.update.dbgNonce = some nonce → DebugShell s n.toNat →
      (tag = debugTag s n.toNat nonce → ∃ t, Goes (.dbgResponse n tag) s t ∧ t.update.debug = true ∧ t.update.dbgNonce = none ∧
        num t (kKeys 8) = (num s (kKeys 8) + 1) % 2 ^ 32) ∧
      (tag ≠ debugTag s n.toNat nonce → ∃ t, Goes (.dbgResponse n tag) s t ∧ t.update.debug = s.update.debug ∧ t.update.dbgNonce = none ∧ Raised s t 47)) ∧
  ∀ (s : State) (q : Req) (n : Byte) (v : Bytes),
    (Commanded s q (0xA1000D + 256 * n.toNat) [1] → ∃ t, Goes (.shellDestroy q n) s t ∧
      shell t n.toNat = { generation := ((shell s n.toNat).generation + 1) % 2 ^ 32 } ∧ ∀ m, m ≠ n.toNat → shell t m = shell s m) ∧
    (Commanded s q (kKeys 5) v → (itemOf s q (kKeys 5) v).2 = .bytes v → byteAt v 1 ≠ 2 → byteAt v 1 ≠ 3 → ∃ t, Goes (.shellDerive q v) s t ∧
      shell t (byteAt v 0) = { bodyShell s v with key := kdf (shell s (byteAt v 2)).key (ascii "SHELL") (slice v 12 16) 256 }) ∧
    (∀ x, Commanded s q (kKeys 4) v → (itemOf s q (kKeys 4) v).2 = .bytes v → importKey s v = some x → ∃ t, Goes (.shellImport q v) s t ∧ shell t (byteAt v 0) = x) ∧
    (Commanded s q (kAttest 1) v → (itemOf s q (kAttest 1) v).2 = .bytes v → ∃ t, Goes (.attestChallenge q v) s t ∧ num t (kAttest 4) = (num s (kAttest 4) + 1) % 2 ^ 32 ∧
      reg t (kAttest 2) = .bytes (v ++ (hmac (shell s (byteAt v 0)).key (slice v 1 16 ++ leBytes 8 (serial s) ++ s.update.measurement ++ leBytes 4 (nat s 0x103003))).take 16))

/-- R452, R454, R455, R459, R460: a trial that may be confirmed raises the floors to the running versions and clears the bookmark's counts; one that expires orders a reset of cause 6. INSTALL marks the quire PENDING, and may order a reset; emptying leaves it EMPTY. A wave that settles reads the trial's state, one too slow is HELD;
PAUSE is noted, RESUME goes on, ABORT ends it.
Where the spec leaves it open, the model's own reading enters: log entry 43. -/
def Obligations.UpdatesAndWaves : Prop :=
  (∀ s : State,
    (flag s (kUpdate 0xE) = true → confirmOk s = true → ∃ t, Goes .autoConfirm s t ∧ num t (kUpdate 0xB) = 3 ∧ num t (kUpdate 0x10) = 2 ∧
      t.mram.keys.versionFloor = pkgVersion s.update.running ∧ t.mram.keys.oemFloor = pkgOem s.update.running ∧ t.start.bookmark.failCounts = 0 ∧ t.mem = s.mem) ∧
    (flag s (kUpdate 0xE) = false ∨ confirmOk s = false → Goes .autoConfirm s s) ∧
    (nat s (kUpdate 0xB) ≠ 2 → Goes .trialExpiry s s) ∧
    (nat s (kUpdate 0xB) = 2 → s.start.ordered = none → Goes .trialExpiry s { s with start := { s.start with ordered := some (6, 0) } }) ∧
    (nat s (kWave 2) = 1 → s.update.wavePhase = .settle → ∃ t m, Goes .waveSettle s t ∧ t.update.wavePhase = .trial ∧
      t.out = Out.forward s.server.nextFlight (workerAddr s (waveWorker s)) s.update.waveSide .integrator m :: s.out) ∧
    (nat s (kWave 2) ≠ 1 ∨ s.update.wavePhase ≠ .settle → Goes .waveSettle s s) ∧
    (nat s (kWave 2) = 1 → ∃ t, Goes .waveTimeout s t ∧ num t (kWave 2) = 3 ∧ num t (kWave 6) = 4) ∧
    (nat s (kWave 2) ≠ 1 → Goes .waveTimeout s s)) ∧
  ∀ (s : State) (q : Req),
    (Commanded s q 0xB01001 [1] → ∃ t, Goes (.healthConfirm q) s t ∧ num t (kUpdate 0xB) = 3 ∧ t.mram.keys.versionFloor = pkgVersion s.update.running ∧
      t.start.bookmark.failCounts = 0) ∧
    (Commanded s q (kUpdate 9) [1] → ∃ t, Goes (.installAtStart q) s t ∧ num t (kUpdate 7) = 3 ∧ t.mram.folios.quire = s.mram.folios.quire) ∧
    (Commanded s q (kUpdate 9) [2] → s.start.ordered = none → ∃ t, Goes (.installAndReset q) s t ∧ num t (kUpdate 7) = 3 ∧ num t kModuleState = 3 ∧ t.start.ordered = some (5, 1)) ∧
    (Commanded s q (kUpdate 9) [3] → ∃ t, Goes (.emptyQuire q) s t ∧ num t (kUpdate 7) = 0 ∧ num t (kUpdate 8) = 0 ∧ t.mram.folios.quire = []) ∧
    (Commanded s q (kWave 1) [1] → ∃ t, Goes (.waveStart q) s t ∧ num t (kWave 5) = 0 ∧ t.update.pause = false) ∧
    (Commanded s q (kWave 1) [2] → nat s (kWave 2) = 1 → ∃ t, Goes (.wavePause q) s t ∧ t.update = { s.update with pause := true }) ∧
    (Commanded s q (kWave 1) [3] → nat s (kWave 2) = 3 → nat s (kWave 4) = 3 → ∃ t, Goes (.waveResume q) s t ∧ num t (kWave 2) = 1 ∧ num t (kWave 6) = 0 ∧
      t.update.wavePhase = .settle) ∧
    (Commanded s q (kWave 1) [4] → 1 ≤ nat s (kWave 2) → nat s (kWave 2) ≤ 3 → ∃ t, Goes (.waveAbort q) s t ∧ num t (kWave 2) = 5 ∧ t.update.wavePhase = .idle)
/-! ## The event recorder (chapter 19) -/

/-- R165, R463 to R466, R470: while the module is OPERATIONAL and the recorder does not hold, a period's end begins the next period and, in an input window and behind the changes that wait, closes the one that ended and writes its records in sequence, five and one for each five luminaires with samples; outside one the close joins the changes that wait. CLOSE_NOW closes a period too. A header write takes the other copy; a header that is rebuilt leaves the recorder RUNNING with nothing
in its backlog.
Where the spec leaves it open, the model's own reading enters: log entries 27 and 91. -/
def Obligations.RecordsWritten : Prop :=
  (∀ s : State, (nat s kModuleState ≠ 1 ∨ recState s = 0 → Goes .periodEnd s s ∧ Goes .headerWrite s s) ∧
    (nat s kModuleState = 1 → recState s ≠ 0 →
      let stop := if s.recorder.stepped then now64 s else if s.recorder.start < lastBoundary s then lastBoundary s else now64 s
      ∃ t, Goes .periodEnd s t ∧ t.recorder.start = stop ∧ t.recorder.period = nat s (kRec 1) ∧ t.recorder.temps = [] ∧
        (s.server.waiting = [] → mayApply s = true → num t (kRec 0xA) = stop ∧
          (s.power.warning = false → recState s ≠ 2 → t.recorder.next = s.recorder.next + 5 + (tempPayloads s).length ∧
            num t (kRec 4) = (2 * t.recorder.next + 2 : Nat) ∧ (tabFind t.mram.recorder.ring (s.recorder.next % 65536)).isSome = true)) ∧
        (s.server.waiting ≠ [] ∨ mayApply s = false → closing t = true ∧ t.server.waiting.length = s.server.waiting.length + 1 ∧ t.mram = s.mram ∧
          t.mem = s.mem ∧ reg t (kRec 0xA) = reg s (kRec 0xA))) ∧
    (nat s kModuleState = 1 → recState s ≠ 0 → recState s ≠ 2 → s.power.warning = false → ∃ t, Goes .headerWrite s t ∧
      tabFind t.mram.recorder.headers s.recorder.turn = some (headerNow s) ∧ t.recorder.turn = 1 - s.recorder.turn ∧ t.mem = s.mem) ∧
    (recState s ≠ 2 → Goes .headerRebuildDone s s) ∧
    (recState s = 2 → ∃ t, Goes .headerRebuildDone s t ∧ recState t = 1 ∧ t.recorder.backlog = [])) ∧
  ∀ (s : State) (q : Req), Commanded s q (kRec 2) [1] → nat s kModuleState = 1 → recState s ≠ 0 → now64 s ≠ s.recorder.start →
    ∃ t, Goes (.closeNow q) s t ∧ t.recorder.start = now64 s ∧ num t (kRec 0xA) = now64 s
end

