-- ==== Sys2Proof/Laws/Tab.lean ====
section
/-!
SUPPORT. The laws of the sparse table: what is put is found, and every other entry stands.
-/

namespace Sys2Proof

theorem tabFind_tabPut_same {α : Type} (t : Tab α) (k : Nat) (x : α) : tabFind (tabPut t k x) k = some x := by
  induction t with
  | nil => simp [tabPut, tabFind]
  | cons p t ih =>
    obtain ⟨a, y⟩ := p
    unfold tabPut
    split
    · simp [tabFind]
    · split
      · simp [tabFind]
      · rename_i h _; simp [tabFind, h, ih]

theorem tabFind_tabPut_other {α : Type} (t : Tab α) (k j : Nat) (x : α) (h : j ≠ k) :
    tabFind (tabPut t k x) j = tabFind t j := by
  induction t with
  | nil => simp [tabPut, tabFind, h]
  | cons p t ih =>
    obtain ⟨a, y⟩ := p
    unfold tabPut
    split
    · rename_i e; subst e; simp [tabFind, h]
    · split
      · simp [tabFind, h]
      · by_cases e : j = a <;> simp [tabFind, e, ih]

@[simp] theorem tabFind_tabPut {α : Type} (t : Tab α) (k j : Nat) (x : α) :
    tabFind (tabPut t k x) j = if j = k then some x else tabFind t j := by
  by_cases h : j = k
  · subst h; simp [tabFind_tabPut_same]
  · simp [h, tabFind_tabPut_other t k j x h]

theorem tabFind_append {α : Type} (t u : Tab α) (k : Nat) :
    tabFind (t ++ u) k = (tabFind t k).or (tabFind u k) := by
  induction t with
  | nil => simp [tabFind]
  | cons p t ih =>
    obtain ⟨a, y⟩ := p
    by_cases h : k = a <;> simp [tabFind, h, ih]

theorem tabFind_filter_keep {α : Type} (t : Tab α) (p : Nat → Bool) (k : Nat) (h : p k = true) :
    tabFind (t.filter fun c => p c.1) k = tabFind t k := by
  induction t with
  | nil => simp [tabFind]
  | cons q t ih =>
    obtain ⟨a, y⟩ := q
    by_cases e : k = a
    · subst e; simp [h, tabFind]
    · by_cases g : p a <;> simp [g, tabFind, e, ih]

theorem tabFind_filter_drop {α : Type} (t : Tab α) (p : Nat → Bool) (k : Nat) (h : p k = false) :
    tabFind (t.filter fun c => p c.1) k = none := by
  induction t with
  | nil => simp [tabFind]
  | cons q t ih =>
    obtain ⟨a, y⟩ := q
    by_cases g : p a
    · have e : k ≠ a := by rintro rfl; simp [h] at g
      simp [g, tabFind, e, ih]
    · simp [g, ih]

end Sys2Proof
end

