-- ==== Sys2Proof/Laws/Engine.lean ====
section
/-!
SUPPORT. The laws of an engine's registers (R185, R195): what is written is read, the hard-wired registers stay, and every other register
and field stands.
-/

namespace Sys2Proof.Machine

@[simp] theorem sReg_zero (e : Engine) : sReg e 0 = 0 := by simp [sReg]
@[simp] theorem pReg_zero (e : Engine) : pReg e 0 = 0xFF := by simp [pReg]
@[simp] theorem setS_zero (e : Engine) (w : Word) : setS e 0 w = e := by simp [setS]
@[simp] theorem setP_zero (e : Engine) (x : Byte) : setP e 0 x = e := by simp [setP]

theorem sReg_setS (e : Engine) (r q : Nat) (w : Word) : sReg (setS e r w) q = if q = r ∧ r ≠ 0 then w else sReg e q := by
  by_cases hr : r = 0
  · simp [hr]
  · by_cases hq : q = 0
    · simp [sReg, hq, Ne.symm hr]
    · by_cases h : q = r <;> simp [sReg, setS, hr, hq, h]

theorem pReg_setP (e : Engine) (r q : Nat) (x : Byte) : pReg (setP e r x) q = if q = r ∧ r ≠ 0 then x else pReg e q := by
  by_cases hr : r = 0
  · simp [hr]
  · by_cases hq : q = 0
    · simp [pReg, hq, Ne.symm hr]
    · by_cases h : q = r <;> simp [pReg, setP, hr, hq, h]

theorem vLane_setV (e : Engine) (r i q j : Nat) (x : Half) (hi : i < 8) (hj : j < 8) :
    vLane (setV e r i x) q j = if q = r ∧ j = i then x else vLane e q j := by
  have h : 8 * q + j = 8 * r + i ↔ q = r ∧ j = i := by omega
  simp only [vLane, setV, tabFind_tabPut, h]
  split <;> rfl

theorem aLane_setA (e : Engine) (r i q j : Nat) (x : Int) (hi : i < 8) (hj : j < 8) :
    aLane (setA e r i x) q j = if q = r ∧ j = i then x else aLane e q j := by
  have h : 8 * q + j = 8 * r + i ↔ q = r ∧ j = i := by omega
  simp only [aLane, setA, tabFind_tabPut, h]
  split <;> rfl

@[simp] theorem vLane_setS (e : Engine) (r : Nat) (w : Word) (q j : Nat) : vLane (setS e r w) q j = vLane e q j := by
  unfold setS; split <;> rfl
@[simp] theorem aLane_setS (e : Engine) (r : Nat) (w : Word) (q j : Nat) : aLane (setS e r w) q j = aLane e q j := by
  unfold setS; split <;> rfl
@[simp] theorem pReg_setS (e : Engine) (r : Nat) (w : Word) (q : Nat) : pReg (setS e r w) q = pReg e q := by
  unfold setS; split <;> rfl
@[simp] theorem setS_pc (e : Engine) (r : Nat) (w : Word) : (setS e r w).pc = e.pc := by
  unfold setS; split <;> rfl
@[simp] theorem setS_estat (e : Engine) (r : Nat) (w : Word) : (setS e r w).estat = e.estat := by
  unfold setS; split <;> rfl
@[simp] theorem setS_select (e : Engine) (r : Nat) (w : Word) : (setS e r w).select = e.select := by
  unfold setS; split <;> rfl
@[simp] theorem setS_code (e : Engine) (r : Nat) (w : Word) : (setS e r w).code = e.code := by
  unfold setS; split <;> rfl
@[simp] theorem setS_entry (e : Engine) (r : Nat) (w : Word) : (setS e r w).entry = e.entry := by
  unfold setS; split <;> rfl
@[simp] theorem setS_active (e : Engine) (r : Nat) (w : Word) : (setS e r w).active = e.active := by
  unfold setS; split <;> rfl
@[simp] theorem vLane_setP (e : Engine) (r : Nat) (x : Byte) (q j : Nat) : vLane (setP e r x) q j = vLane e q j := by
  unfold setP; split <;> rfl
@[simp] theorem aLane_setP (e : Engine) (r : Nat) (x : Byte) (q j : Nat) : aLane (setP e r x) q j = aLane e q j := by
  unfold setP; split <;> rfl
@[simp] theorem sReg_setP (e : Engine) (r : Nat) (x : Byte) (q : Nat) : sReg (setP e r x) q = sReg e q := by
  unfold setP; split <;> rfl
@[simp] theorem setP_pc (e : Engine) (r : Nat) (x : Byte) : (setP e r x).pc = e.pc := by
  unfold setP; split <;> rfl
@[simp] theorem setP_estat (e : Engine) (r : Nat) (x : Byte) : (setP e r x).estat = e.estat := by
  unfold setP; split <;> rfl
@[simp] theorem setP_select (e : Engine) (r : Nat) (x : Byte) : (setP e r x).select = e.select := by
  unfold setP; split <;> rfl
@[simp] theorem setP_code (e : Engine) (r : Nat) (x : Byte) : (setP e r x).code = e.code := by
  unfold setP; split <;> rfl
@[simp] theorem setP_entry (e : Engine) (r : Nat) (x : Byte) : (setP e r x).entry = e.entry := by
  unfold setP; split <;> rfl
@[simp] theorem setP_active (e : Engine) (r : Nat) (x : Byte) : (setP e r x).active = e.active := by
  unfold setP; split <;> rfl
@[simp] theorem aLane_setV (e : Engine) (r i : Nat) (x : Half) (q j : Nat) : aLane (setV e r i x) q j = aLane e q j := by
  rfl
@[simp] theorem pReg_setV (e : Engine) (r i : Nat) (x : Half) (q : Nat) : pReg (setV e r i x) q = pReg e q := by
  rfl
@[simp] theorem sReg_setV (e : Engine) (r i : Nat) (x : Half) (q : Nat) : sReg (setV e r i x) q = sReg e q := by
  rfl
@[simp] theorem setV_pc (e : Engine) (r i : Nat) (x : Half) : (setV e r i x).pc = e.pc := by
  rfl
@[simp] theorem setV_estat (e : Engine) (r i : Nat) (x : Half) : (setV e r i x).estat = e.estat := by
  rfl
@[simp] theorem setV_select (e : Engine) (r i : Nat) (x : Half) : (setV e r i x).select = e.select := by
  rfl
@[simp] theorem setV_code (e : Engine) (r i : Nat) (x : Half) : (setV e r i x).code = e.code := by
  rfl
@[simp] theorem setV_entry (e : Engine) (r i : Nat) (x : Half) : (setV e r i x).entry = e.entry := by
  rfl
@[simp] theorem setV_active (e : Engine) (r i : Nat) (x : Half) : (setV e r i x).active = e.active := by
  rfl
@[simp] theorem vLane_setA (e : Engine) (r i : Nat) (x : Int) (q j : Nat) : vLane (setA e r i x) q j = vLane e q j := by
  rfl
@[simp] theorem pReg_setA (e : Engine) (r i : Nat) (x : Int) (q : Nat) : pReg (setA e r i x) q = pReg e q := by
  rfl
@[simp] theorem sReg_setA (e : Engine) (r i : Nat) (x : Int) (q : Nat) : sReg (setA e r i x) q = sReg e q := by
  rfl
@[simp] theorem setA_pc (e : Engine) (r i : Nat) (x : Int) : (setA e r i x).pc = e.pc := by
  rfl
@[simp] theorem setA_estat (e : Engine) (r i : Nat) (x : Int) : (setA e r i x).estat = e.estat := by
  rfl
@[simp] theorem setA_select (e : Engine) (r i : Nat) (x : Int) : (setA e r i x).select = e.select := by
  rfl
@[simp] theorem setA_code (e : Engine) (r i : Nat) (x : Int) : (setA e r i x).code = e.code := by
  rfl
@[simp] theorem setA_entry (e : Engine) (r i : Nat) (x : Int) : (setA e r i x).entry = e.entry := by
  rfl
@[simp] theorem setA_active (e : Engine) (r i : Nat) (x : Int) : (setA e r i x).active = e.active := by
  rfl

/-! ### An instruction and its engine -/

/-- Everything `issue` does on an engine that executes nothing: the state stands. -/
theorem issue_idle (k : Nat) (s : State) (f : Engine → State) (h : (engine s k).active = false ∨ (engine s k).stall ≠ none) :
    issue k s f = s := by
  unfold issue
  rcases h with h | h
  · simp [h]
  · simp [Option.isSome_iff_ne_none.mpr h]

/-- Everything `issue` does on an engine in its tick, inside its code: the instruction's own effect. -/
theorem issue_running (k : Nat) (s : State) (f : Engine → State) (ha : (engine s k).active = true) (hs : (engine s k).stall = none)
    (hp : (engine s k).pc < codeSize (engine s k)) : issue k s f = f (engine s k) := by
  simp [issue, ha, hs, Nat.not_le.mpr hp]

@[simp] theorem endLoop0_s (e : Engine) : (endLoop0 e).s = e.s := by
  unfold endLoop0; split_ifs <;> rfl
@[simp] theorem endLoop0_v (e : Engine) : (endLoop0 e).v = e.v := by
  unfold endLoop0; split_ifs <;> rfl
@[simp] theorem endLoop0_p (e : Engine) : (endLoop0 e).p = e.p := by
  unfold endLoop0; split_ifs <;> rfl
@[simp] theorem endLoop0_a (e : Engine) : (endLoop0 e).a = e.a := by
  unfold endLoop0; split_ifs <;> rfl
@[simp] theorem endLoop0_estat (e : Engine) : (endLoop0 e).estat = e.estat := by
  unfold endLoop0; split_ifs <;> rfl
@[simp] theorem endLoop0_code (e : Engine) : (endLoop0 e).code = e.code := by
  unfold endLoop0; split_ifs <;> rfl
@[simp] theorem endLoop0_active (e : Engine) : (endLoop0 e).active = e.active := by
  unfold endLoop0; split_ifs <;> rfl
@[simp] theorem endLoop0_stall (e : Engine) : (endLoop0 e).stall = e.stall := by
  unfold endLoop0; split_ifs <;> rfl
@[simp] theorem endLoop0_select (e : Engine) : (endLoop0 e).select = e.select := by
  unfold endLoop0; split_ifs <;> rfl
@[simp] theorem endLoop0_entry (e : Engine) : (endLoop0 e).entry = e.entry := by
  unfold endLoop0; split_ifs <;> rfl
@[simp] theorem advance_s (e : Engine) : (advance e).s = e.s := by
  unfold advance; split_ifs <;> simp
@[simp] theorem advance_v (e : Engine) : (advance e).v = e.v := by
  unfold advance; split_ifs <;> simp
@[simp] theorem advance_p (e : Engine) : (advance e).p = e.p := by
  unfold advance; split_ifs <;> simp
@[simp] theorem advance_a (e : Engine) : (advance e).a = e.a := by
  unfold advance; split_ifs <;> simp
@[simp] theorem advance_estat (e : Engine) : (advance e).estat = e.estat := by
  unfold advance; split_ifs <;> simp
@[simp] theorem advance_code (e : Engine) : (advance e).code = e.code := by
  unfold advance; split_ifs <;> simp
@[simp] theorem advance_active (e : Engine) : (advance e).active = e.active := by
  unfold advance; split_ifs <;> simp
@[simp] theorem advance_stall (e : Engine) : (advance e).stall = e.stall := by
  unfold advance; split_ifs <;> simp
@[simp] theorem advance_select (e : Engine) : (advance e).select = e.select := by
  unfold advance; split_ifs <;> simp
@[simp] theorem advance_entry (e : Engine) : (advance e).entry = e.entry := by
  unfold advance; split_ifs <;> simp

end Sys2Proof.Machine
end

