-- ==== Sys2Proof/Laws/Memory.lean ====
section
/-!
SUPPORT. The laws of memory: a byte stored is read back, every other byte stands, and the canonical form is kept.
-/

namespace Sys2Proof.Machine

theorem tabFind_blockCells (b : Bytes) (a x : Nat) :
    tabFind (blockCells a b) x =
      if a ≤ x ∧ x < a + b.length then (if b.getD (x - a) 0 = unlisted then none else some (b.getD (x - a) 0)) else none := by
  induction b generalizing a with
  | nil => simp [blockCells, tabFind]
  | cons v t ih =>
    by_cases hx : x = a
    · subst hx
      by_cases hv : v = unlisted
      · simp [blockCells, hv, ih]
      · simp [blockCells, hv, tabFind]
    · have same : (a + 1 ≤ x ∧ x < a + 1 + t.length) ↔ (a ≤ x ∧ x < a + (v :: t).length) := by
        simp only [List.length_cons]; omega
      have get : a ≤ x → (v :: t).getD (x - a) 0 = t.getD (x - (a + 1)) 0 := by
        intro h
        have e : x - a = (x - (a + 1)) + 1 := by omega
        rw [e, List.getD_cons_succ]
      have rest : tabFind (blockCells a (v :: t)) x = tabFind (blockCells (a + 1) t) x := by
        by_cases hv : v = unlisted
        · simp [blockCells, hv]
        · simp [blockCells, hv, tabFind, hx]
      rw [rest, ih]
      simp only [same]
      split
      · rename_i h; rw [get h.1]
      · rfl

/-- What a byte reads as after a store: the stored byte inside the block, what it was outside. -/
theorem memRead_memStore (m : List Host.Cell) (a x : Nat) (b : Bytes) :
    memRead (memStore m a b) x = if a ≤ x ∧ x < a + b.length then b.getD (x - a) 0 else memRead m x := by
  unfold memRead memStore memSplice
  rw [tabFind_append, tabFind_append, tabFind_blockCells]
  by_cases h1 : x < a
  · have hb : ¬ (a ≤ x ∧ x < a + b.length) := by omega
    rw [tabFind_filter_keep m (fun n => decide (n < a)) x (by simp [h1]),
      tabFind_filter_drop m (fun n => decide (a + b.length ≤ n)) x (by simp; omega)]
    simp only [hb, if_false]; simp
  · rw [tabFind_filter_drop m (fun n => decide (n < a)) x (by simp; omega)]
    by_cases h2 : x < a + b.length
    · have hb : a ≤ x ∧ x < a + b.length := by omega
      rw [tabFind_filter_drop m (fun n => decide (a + b.length ≤ n)) x (by simp; omega)]
      simp only [hb, and_self, if_true]
      by_cases h3 : b.getD (x - a) 0 = unlisted
      · simp only [h3, if_true]; rfl
      · simp only [h3, if_false]; rfl
    · have hb : ¬ (a ≤ x ∧ x < a + b.length) := by omega
      rw [tabFind_filter_keep m (fun n => decide (a + b.length ≤ n)) x (by simp; omega)]
      simp only [hb, if_false]; simp

/-- The canonical form as a chain and a condition on every entry. -/
theorem wf_iff (m : List Host.Cell) :
    Memory.wf m = true ↔ m.Pairwise (fun p q => p.1 < q.1) ∧ ∀ c ∈ m, c.2 ≠ unlisted := by
  have chain : ∀ l : List Host.Cell, ((l.zip l.tail).all fun p => decide (p.1.1 < p.2.1)) = true ↔ l.Pairwise (fun p q => p.1 < q.1) := by
    intro l
    rw [← List.isChain_iff_pairwise]
    induction l with
    | nil => simp
    | cons x t ih =>
      cases t with
      | nil => simp
      | cons y u =>
        simp only [List.tail_cons, List.zip_cons_cons, List.all_cons, Bool.and_eq_true, decide_eq_true_eq, List.isChain_cons_cons]
        rw [← ih]; simp
  unfold Memory.wf
  rw [Bool.and_eq_true, chain]
  simp [and_comm]

theorem blockCells_mem (b : Bytes) (a : Nat) : ∀ c ∈ blockCells a b, a ≤ c.1 ∧ c.1 < a + b.length ∧ c.2 ≠ unlisted := by
  induction b generalizing a with
  | nil => simp [blockCells]
  | cons v t ih =>
    intro c hc
    unfold blockCells at hc
    split at hc
    · have h := ih (a + 1) c hc
      simp only [List.length_cons]; exact ⟨by omega, by omega, h.2.2⟩
    · rcases List.mem_cons.1 hc with rfl | hc
      · simp; assumption
      · have h := ih (a + 1) c hc
        simp only [List.length_cons]; exact ⟨by omega, by omega, h.2.2⟩

theorem blockCells_sorted (b : Bytes) (a : Nat) : (blockCells a b).Pairwise (fun p q => p.1 < q.1) := by
  induction b generalizing a with
  | nil => simp [blockCells]
  | cons v t ih =>
    unfold blockCells
    split
    · exact ih _
    · refine List.pairwise_cons.2 ⟨fun c hc => ?_, ih _⟩
      have := blockCells_mem t (a + 1) c hc
      simp; omega

/-- Every store keeps the canonical form. -/
theorem wf_memStore (m : List Host.Cell) (a : Nat) (b : Bytes) (h : Memory.wf m = true) : Memory.wf (memStore m a b) = true := by
  rw [wf_iff] at h ⊢
  obtain ⟨hs, hv⟩ := h
  unfold memStore memSplice
  constructor
  · rw [List.pairwise_append, List.pairwise_append]
    refine ⟨⟨hs.filter _, blockCells_sorted b a, ?_⟩, hs.filter _, ?_⟩
    · intro p hp q hq
      have := blockCells_mem b a q hq
      simp at hp; omega
    · intro p hp q hq
      rcases List.mem_append.1 hp with hp | hp
      · simp at hp hq; omega
      · have := blockCells_mem b a p hp
        simp at hq; omega
  · intro c hc
    rcases List.mem_append.1 hc with hc | hc
    · rcases List.mem_append.1 hc with hc | hc
      · exact hv c (List.mem_filter.1 hc).1
      · exact (blockCells_mem b a c hc).2.2
    · exact hv c (List.mem_filter.1 hc).1

@[simp] theorem memBytes_length (m : List Host.Cell) (a n : Nat) : (memBytes m a n).length = n := by
  induction n generalizing a with
  | zero => rfl
  | succ n ih => simp [memBytes, ih]

theorem memBytes_get (m : List Host.Cell) (a n i : Nat) (h : i < n) : (memBytes m a n).getD i 0 = memRead m (a + i) := by
  induction n generalizing a i with
  | zero => omega
  | succ n ih =>
    cases i with
    | zero => simp [memBytes]
    | succ i => simp only [memBytes, List.getD_cons_succ]; rw [ih (a + 1) i (by omega)]; congr 1; omega

/-- A block is unchanged by a store that does not touch it. -/
theorem memBytes_memStore_apart (m : List Host.Cell) (a x n : Nat) (b : Bytes) (h : x + n ≤ a ∨ a + b.length ≤ x) :
    memBytes (memStore m a b) x n = memBytes m x n := by
  induction n generalizing x with
  | zero => rfl
  | succ n ih =>
    simp only [memBytes, memRead_memStore]
    rw [if_neg (by omega)]
    cases n with
    | zero => rfl
    | succ n => rw [ih (x + 1) (by omega)]

/-- A block just stored reads back. -/
theorem memBytes_memStore_same (m : List Host.Cell) (a : Nat) (b : Bytes) : memBytes (memStore m a b) a b.length = b := by
  apply List.ext_getElem
  · simp
  · intro i h1 h2
    have h := memBytes_get (memStore m a b) a b.length i h2
    rw [memRead_memStore, if_pos (by omega)] at h
    simp only [List.getD_eq_getElem?_getD, List.getElem?_eq_getElem h1, List.getElem?_eq_getElem h2, Nat.add_sub_cancel_left, Option.getD_some] at h
    exact h

end Sys2Proof.Machine
end

