-- ==== Sys2Proof/Laws/State.lean ====
section
/-!
SUPPORT. What each named update of the state does to each of its fields, and what each reader of a numbered record reads after it.
-/

namespace Sys2Proof.Machine

/-! ### `store` -/

@[simp] theorem store_pending (s : State) (a : Nat) (b : Bytes) : (store s a b).pending = s.pending := rfl
@[simp] theorem store_clk (s : State) (a : Nat) (b : Bytes) : (store s a b).clk = s.clk := rfl
@[simp] theorem store_fresh (s : State) (a : Nat) (b : Bytes) : (store s a b).fresh = s.fresh := rfl
@[simp] theorem store_out (s : State) (a : Nat) (b : Bytes) : (store s a b).out = s.out := rfl
@[simp] theorem store_regs (s : State) (a : Nat) (b : Bytes) : (store s a b).regs = s.regs := rfl
@[simp] theorem store_mram (s : State) (a : Nat) (b : Bytes) : (store s a b).mram = s.mram := rfl
@[simp] theorem store_backup (s : State) (a : Nat) (b : Bytes) : (store s a b).backup = s.backup := rfl
@[simp] theorem store_power (s : State) (a : Nat) (b : Bytes) : (store s a b).power = s.power := rfl
@[simp] theorem store_start (s : State) (a : Nat) (b : Bytes) : (store s a b).start = s.start := rfl
@[simp] theorem store_server (s : State) (a : Nat) (b : Bytes) : (store s a b).server = s.server := rfl
@[simp] theorem store_faults (s : State) (a : Nat) (b : Bytes) : (store s a b).faults = s.faults := rfl
@[simp] theorem store_deferred (s : State) (a : Nat) (b : Bytes) : (store s a b).deferred = s.deferred := rfl
@[simp] theorem store_keptHeld (s : State) (a : Nat) (b : Bytes) : (store s a b).keptHeld = s.keptHeld := rfl
@[simp] theorem store_bookmarkDue (s : State) (a : Nat) (b : Bytes) : (store s a b).bookmarkDue = s.bookmarkDue := rfl
@[simp] theorem store_logHeld (s : State) (a : Nat) (b : Bytes) : (store s a b).logHeld = s.logHeld := rfl
@[simp] theorem store_durable (s : State) (a : Nat) (b : Bytes) : (store s a b).durable = s.durable := rfl
@[simp] theorem store_mem (s : State) (a : Nat) (b : Bytes) : (store s a b).mem = memStore s.mem a b := rfl
@[simp] theorem store_zones (s : State) (a : Nat) (b : Bytes) : (store s a b).zones = s.zones := rfl
@[simp] theorem store_engines (s : State) (a : Nat) (b : Bytes) : (store s a b).engines = s.engines := rfl
@[simp] theorem store_lanes (s : State) (a : Nat) (b : Bytes) : (store s a b).lanes = s.lanes := rfl
@[simp] theorem store_dma (s : State) (a : Nat) (b : Bytes) : (store s a b).dma = s.dma := rfl
@[simp] theorem store_meter (s : State) (a : Nat) (b : Bytes) : (store s a b).meter = s.meter := rfl
@[simp] theorem store_time (s : State) (a : Nat) (b : Bytes) : (store s a b).time = s.time := rfl
@[simp] theorem store_bus (s : State) (a : Nat) (b : Bytes) : (store s a b).bus = s.bus := rfl
@[simp] theorem store_air (s : State) (a : Nat) (b : Bytes) : (store s a b).air = s.air := rfl
@[simp] theorem store_safety (s : State) (a : Nat) (b : Bytes) : (store s a b).safety = s.safety := rfl
@[simp] theorem store_pair (s : State) (a : Nat) (b : Bytes) : (store s a b).pair = s.pair := rfl
@[simp] theorem store_update (s : State) (a : Nat) (b : Bytes) : (store s a b).update = s.update := rfl
@[simp] theorem store_recorder (s : State) (a : Nat) (b : Bytes) : (store s a b).recorder = s.recorder := rfl
@[simp] theorem store_pads (s : State) (a : Nat) (b : Bytes) : (store s a b).pads = s.pads := rfl

/-! ### `emit` -/

@[simp] theorem emit_pending (s : State) (o : Out) : (emit s o).pending = s.pending := rfl
@[simp] theorem emit_clk (s : State) (o : Out) : (emit s o).clk = s.clk := rfl
@[simp] theorem emit_fresh (s : State) (o : Out) : (emit s o).fresh = s.fresh := rfl
@[simp] theorem emit_out (s : State) (o : Out) : (emit s o).out = o :: s.out := rfl
@[simp] theorem emit_regs (s : State) (o : Out) : (emit s o).regs = s.regs := rfl
@[simp] theorem emit_mram (s : State) (o : Out) : (emit s o).mram = s.mram := rfl
@[simp] theorem emit_backup (s : State) (o : Out) : (emit s o).backup = s.backup := rfl
@[simp] theorem emit_power (s : State) (o : Out) : (emit s o).power = s.power := rfl
@[simp] theorem emit_start (s : State) (o : Out) : (emit s o).start = s.start := rfl
@[simp] theorem emit_server (s : State) (o : Out) : (emit s o).server = s.server := rfl
@[simp] theorem emit_faults (s : State) (o : Out) : (emit s o).faults = s.faults := rfl
@[simp] theorem emit_deferred (s : State) (o : Out) : (emit s o).deferred = s.deferred := rfl
@[simp] theorem emit_keptHeld (s : State) (o : Out) : (emit s o).keptHeld = s.keptHeld := rfl
@[simp] theorem emit_bookmarkDue (s : State) (o : Out) : (emit s o).bookmarkDue = s.bookmarkDue := rfl
@[simp] theorem emit_logHeld (s : State) (o : Out) : (emit s o).logHeld = s.logHeld := rfl
@[simp] theorem emit_durable (s : State) (o : Out) : (emit s o).durable = s.durable := rfl
@[simp] theorem emit_mem (s : State) (o : Out) : (emit s o).mem = s.mem := rfl
@[simp] theorem emit_zones (s : State) (o : Out) : (emit s o).zones = s.zones := rfl
@[simp] theorem emit_engines (s : State) (o : Out) : (emit s o).engines = s.engines := rfl
@[simp] theorem emit_lanes (s : State) (o : Out) : (emit s o).lanes = s.lanes := rfl
@[simp] theorem emit_dma (s : State) (o : Out) : (emit s o).dma = s.dma := rfl
@[simp] theorem emit_meter (s : State) (o : Out) : (emit s o).meter = s.meter := rfl
@[simp] theorem emit_time (s : State) (o : Out) : (emit s o).time = s.time := rfl
@[simp] theorem emit_bus (s : State) (o : Out) : (emit s o).bus = s.bus := rfl
@[simp] theorem emit_air (s : State) (o : Out) : (emit s o).air = s.air := rfl
@[simp] theorem emit_safety (s : State) (o : Out) : (emit s o).safety = s.safety := rfl
@[simp] theorem emit_pair (s : State) (o : Out) : (emit s o).pair = s.pair := rfl
@[simp] theorem emit_update (s : State) (o : Out) : (emit s o).update = s.update := rfl
@[simp] theorem emit_recorder (s : State) (o : Out) : (emit s o).recorder = s.recorder := rfl
@[simp] theorem emit_pads (s : State) (o : Out) : (emit s o).pads = s.pads := rfl

/-! ### `putBase` -/

@[simp] theorem putBase_pending (s : State) (n : Nat) (b : Base) : (putBase s n b).pending = s.pending := rfl
@[simp] theorem putBase_clk (s : State) (n : Nat) (b : Base) : (putBase s n b).clk = s.clk := rfl
@[simp] theorem putBase_fresh (s : State) (n : Nat) (b : Base) : (putBase s n b).fresh = s.fresh := rfl
@[simp] theorem putBase_out (s : State) (n : Nat) (b : Base) : (putBase s n b).out = s.out := rfl
@[simp] theorem putBase_regs (s : State) (n : Nat) (b : Base) : (putBase s n b).regs = s.regs := rfl
@[simp] theorem putBase_mram (s : State) (n : Nat) (b : Base) : (putBase s n b).mram = s.mram := rfl
@[simp] theorem putBase_backup (s : State) (n : Nat) (b : Base) : (putBase s n b).backup = s.backup := rfl
@[simp] theorem putBase_power (s : State) (n : Nat) (b : Base) : (putBase s n b).power = s.power := rfl
@[simp] theorem putBase_start (s : State) (n : Nat) (b : Base) : (putBase s n b).start = s.start := rfl
@[simp] theorem putBase_server (s : State) (n : Nat) (b : Base) : (putBase s n b).server = s.server := rfl
@[simp] theorem putBase_faults (s : State) (n : Nat) (b : Base) : (putBase s n b).faults = s.faults := rfl
@[simp] theorem putBase_deferred (s : State) (n : Nat) (b : Base) : (putBase s n b).deferred = s.deferred := rfl
@[simp] theorem putBase_keptHeld (s : State) (n : Nat) (b : Base) : (putBase s n b).keptHeld = s.keptHeld := rfl
@[simp] theorem putBase_bookmarkDue (s : State) (n : Nat) (b : Base) : (putBase s n b).bookmarkDue = s.bookmarkDue := rfl
@[simp] theorem putBase_logHeld (s : State) (n : Nat) (b : Base) : (putBase s n b).logHeld = s.logHeld := rfl
@[simp] theorem putBase_durable (s : State) (n : Nat) (b : Base) : (putBase s n b).durable = s.durable := rfl
@[simp] theorem putBase_mem (s : State) (n : Nat) (b : Base) : (putBase s n b).mem = s.mem := rfl
@[simp] theorem putBase_zones (s : State) (n : Nat) (b : Base) : (putBase s n b).zones = s.zones := rfl
@[simp] theorem putBase_engines (s : State) (n : Nat) (b : Base) : (putBase s n b).engines = s.engines := rfl
@[simp] theorem putBase_lanes (s : State) (n : Nat) (b : Base) : (putBase s n b).lanes = s.lanes := rfl
@[simp] theorem putBase_dma (s : State) (n : Nat) (b : Base) : (putBase s n b).dma = s.dma := rfl
@[simp] theorem putBase_meter (s : State) (n : Nat) (b : Base) : (putBase s n b).meter = s.meter := rfl
@[simp] theorem putBase_time (s : State) (n : Nat) (b : Base) : (putBase s n b).time = { s.time with bases := tabPut s.time.bases n b } := rfl
@[simp] theorem putBase_bus (s : State) (n : Nat) (b : Base) : (putBase s n b).bus = s.bus := rfl
@[simp] theorem putBase_air (s : State) (n : Nat) (b : Base) : (putBase s n b).air = s.air := rfl
@[simp] theorem putBase_safety (s : State) (n : Nat) (b : Base) : (putBase s n b).safety = s.safety := rfl
@[simp] theorem putBase_pair (s : State) (n : Nat) (b : Base) : (putBase s n b).pair = s.pair := rfl
@[simp] theorem putBase_update (s : State) (n : Nat) (b : Base) : (putBase s n b).update = s.update := rfl
@[simp] theorem putBase_recorder (s : State) (n : Nat) (b : Base) : (putBase s n b).recorder = s.recorder := rfl
@[simp] theorem putBase_pads (s : State) (n : Nat) (b : Base) : (putBase s n b).pads = s.pads := rfl

/-! ### `putFault` -/

@[simp] theorem putFault_pending (s : State) (n : Nat) (f : FaultSrc) : (putFault s n f).pending = s.pending := rfl
@[simp] theorem putFault_clk (s : State) (n : Nat) (f : FaultSrc) : (putFault s n f).clk = s.clk := rfl
@[simp] theorem putFault_fresh (s : State) (n : Nat) (f : FaultSrc) : (putFault s n f).fresh = s.fresh := rfl
@[simp] theorem putFault_out (s : State) (n : Nat) (f : FaultSrc) : (putFault s n f).out = s.out := rfl
@[simp] theorem putFault_regs (s : State) (n : Nat) (f : FaultSrc) : (putFault s n f).regs = s.regs := rfl
@[simp] theorem putFault_mram (s : State) (n : Nat) (f : FaultSrc) : (putFault s n f).mram = s.mram := rfl
@[simp] theorem putFault_backup (s : State) (n : Nat) (f : FaultSrc) : (putFault s n f).backup = s.backup := rfl
@[simp] theorem putFault_power (s : State) (n : Nat) (f : FaultSrc) : (putFault s n f).power = s.power := rfl
@[simp] theorem putFault_start (s : State) (n : Nat) (f : FaultSrc) : (putFault s n f).start = s.start := rfl
@[simp] theorem putFault_server (s : State) (n : Nat) (f : FaultSrc) : (putFault s n f).server = s.server := rfl
@[simp] theorem putFault_faults (s : State) (n : Nat) (f : FaultSrc) : (putFault s n f).faults = tabPut s.faults n f := rfl
@[simp] theorem putFault_deferred (s : State) (n : Nat) (f : FaultSrc) : (putFault s n f).deferred = s.deferred := rfl
@[simp] theorem putFault_keptHeld (s : State) (n : Nat) (f : FaultSrc) : (putFault s n f).keptHeld = s.keptHeld := rfl
@[simp] theorem putFault_bookmarkDue (s : State) (n : Nat) (f : FaultSrc) : (putFault s n f).bookmarkDue = s.bookmarkDue := rfl
@[simp] theorem putFault_logHeld (s : State) (n : Nat) (f : FaultSrc) : (putFault s n f).logHeld = s.logHeld := rfl
@[simp] theorem putFault_durable (s : State) (n : Nat) (f : FaultSrc) : (putFault s n f).durable = s.durable := rfl
@[simp] theorem putFault_mem (s : State) (n : Nat) (f : FaultSrc) : (putFault s n f).mem = s.mem := rfl
@[simp] theorem putFault_zones (s : State) (n : Nat) (f : FaultSrc) : (putFault s n f).zones = s.zones := rfl
@[simp] theorem putFault_engines (s : State) (n : Nat) (f : FaultSrc) : (putFault s n f).engines = s.engines := rfl
@[simp] theorem putFault_lanes (s : State) (n : Nat) (f : FaultSrc) : (putFault s n f).lanes = s.lanes := rfl
@[simp] theorem putFault_dma (s : State) (n : Nat) (f : FaultSrc) : (putFault s n f).dma = s.dma := rfl
@[simp] theorem putFault_meter (s : State) (n : Nat) (f : FaultSrc) : (putFault s n f).meter = s.meter := rfl
@[simp] theorem putFault_time (s : State) (n : Nat) (f : FaultSrc) : (putFault s n f).time = s.time := rfl
@[simp] theorem putFault_bus (s : State) (n : Nat) (f : FaultSrc) : (putFault s n f).bus = s.bus := rfl
@[simp] theorem putFault_air (s : State) (n : Nat) (f : FaultSrc) : (putFault s n f).air = s.air := rfl
@[simp] theorem putFault_safety (s : State) (n : Nat) (f : FaultSrc) : (putFault s n f).safety = s.safety := rfl
@[simp] theorem putFault_pair (s : State) (n : Nat) (f : FaultSrc) : (putFault s n f).pair = s.pair := rfl
@[simp] theorem putFault_update (s : State) (n : Nat) (f : FaultSrc) : (putFault s n f).update = s.update := rfl
@[simp] theorem putFault_recorder (s : State) (n : Nat) (f : FaultSrc) : (putFault s n f).recorder = s.recorder := rfl
@[simp] theorem putFault_pads (s : State) (n : Nat) (f : FaultSrc) : (putFault s n f).pads = s.pads := rfl

/-! ### `putSession` -/

@[simp] theorem putSession_pending (s : State) (n : Nat) (x : Session) : (putSession s n x).pending = s.pending := rfl
@[simp] theorem putSession_clk (s : State) (n : Nat) (x : Session) : (putSession s n x).clk = s.clk := rfl
@[simp] theorem putSession_fresh (s : State) (n : Nat) (x : Session) : (putSession s n x).fresh = s.fresh := rfl
@[simp] theorem putSession_out (s : State) (n : Nat) (x : Session) : (putSession s n x).out = s.out := rfl
@[simp] theorem putSession_regs (s : State) (n : Nat) (x : Session) : (putSession s n x).regs = s.regs := rfl
@[simp] theorem putSession_mram (s : State) (n : Nat) (x : Session) : (putSession s n x).mram = s.mram := rfl
@[simp] theorem putSession_backup (s : State) (n : Nat) (x : Session) : (putSession s n x).backup = s.backup := rfl
@[simp] theorem putSession_power (s : State) (n : Nat) (x : Session) : (putSession s n x).power = s.power := rfl
@[simp] theorem putSession_start (s : State) (n : Nat) (x : Session) : (putSession s n x).start = s.start := rfl
@[simp] theorem putSession_server (s : State) (n : Nat) (x : Session) : (putSession s n x).server = { s.server with sessions := tabPut s.server.sessions n x } := rfl
@[simp] theorem putSession_faults (s : State) (n : Nat) (x : Session) : (putSession s n x).faults = s.faults := rfl
@[simp] theorem putSession_deferred (s : State) (n : Nat) (x : Session) : (putSession s n x).deferred = s.deferred := rfl
@[simp] theorem putSession_keptHeld (s : State) (n : Nat) (x : Session) : (putSession s n x).keptHeld = s.keptHeld := rfl
@[simp] theorem putSession_bookmarkDue (s : State) (n : Nat) (x : Session) : (putSession s n x).bookmarkDue = s.bookmarkDue := rfl
@[simp] theorem putSession_logHeld (s : State) (n : Nat) (x : Session) : (putSession s n x).logHeld = s.logHeld := rfl
@[simp] theorem putSession_durable (s : State) (n : Nat) (x : Session) : (putSession s n x).durable = s.durable := rfl
@[simp] theorem putSession_mem (s : State) (n : Nat) (x : Session) : (putSession s n x).mem = s.mem := rfl
@[simp] theorem putSession_zones (s : State) (n : Nat) (x : Session) : (putSession s n x).zones = s.zones := rfl
@[simp] theorem putSession_engines (s : State) (n : Nat) (x : Session) : (putSession s n x).engines = s.engines := rfl
@[simp] theorem putSession_lanes (s : State) (n : Nat) (x : Session) : (putSession s n x).lanes = s.lanes := rfl
@[simp] theorem putSession_dma (s : State) (n : Nat) (x : Session) : (putSession s n x).dma = s.dma := rfl
@[simp] theorem putSession_meter (s : State) (n : Nat) (x : Session) : (putSession s n x).meter = s.meter := rfl
@[simp] theorem putSession_time (s : State) (n : Nat) (x : Session) : (putSession s n x).time = s.time := rfl
@[simp] theorem putSession_bus (s : State) (n : Nat) (x : Session) : (putSession s n x).bus = s.bus := rfl
@[simp] theorem putSession_air (s : State) (n : Nat) (x : Session) : (putSession s n x).air = s.air := rfl
@[simp] theorem putSession_safety (s : State) (n : Nat) (x : Session) : (putSession s n x).safety = s.safety := rfl
@[simp] theorem putSession_pair (s : State) (n : Nat) (x : Session) : (putSession s n x).pair = s.pair := rfl
@[simp] theorem putSession_update (s : State) (n : Nat) (x : Session) : (putSession s n x).update = s.update := rfl
@[simp] theorem putSession_recorder (s : State) (n : Nat) (x : Session) : (putSession s n x).recorder = s.recorder := rfl
@[simp] theorem putSession_pads (s : State) (n : Nat) (x : Session) : (putSession s n x).pads = s.pads := rfl

/-! ### `putDomain` -/

@[simp] theorem putDomain_pending (s : State) (k : Key) (b : Bytes) : (putDomain s k b).pending = s.pending := rfl
@[simp] theorem putDomain_clk (s : State) (k : Key) (b : Bytes) : (putDomain s k b).clk = s.clk := rfl
@[simp] theorem putDomain_fresh (s : State) (k : Key) (b : Bytes) : (putDomain s k b).fresh = s.fresh := rfl
@[simp] theorem putDomain_out (s : State) (k : Key) (b : Bytes) : (putDomain s k b).out = s.out := rfl
@[simp] theorem putDomain_regs (s : State) (k : Key) (b : Bytes) : (putDomain s k b).regs = s.regs := rfl
@[simp] theorem putDomain_backup (s : State) (k : Key) (b : Bytes) : (putDomain s k b).backup = s.backup := rfl
@[simp] theorem putDomain_power (s : State) (k : Key) (b : Bytes) : (putDomain s k b).power = s.power := rfl
@[simp] theorem putDomain_start (s : State) (k : Key) (b : Bytes) : (putDomain s k b).start = s.start := rfl
@[simp] theorem putDomain_server (s : State) (k : Key) (b : Bytes) : (putDomain s k b).server = s.server := rfl
@[simp] theorem putDomain_faults (s : State) (k : Key) (b : Bytes) : (putDomain s k b).faults = s.faults := rfl
@[simp] theorem putDomain_deferred (s : State) (k : Key) (b : Bytes) : (putDomain s k b).deferred = s.deferred := rfl
@[simp] theorem putDomain_keptHeld (s : State) (k : Key) (b : Bytes) : (putDomain s k b).keptHeld = s.keptHeld := rfl
@[simp] theorem putDomain_bookmarkDue (s : State) (k : Key) (b : Bytes) : (putDomain s k b).bookmarkDue = s.bookmarkDue := rfl
@[simp] theorem putDomain_logHeld (s : State) (k : Key) (b : Bytes) : (putDomain s k b).logHeld = s.logHeld := rfl
@[simp] theorem putDomain_durable (s : State) (k : Key) (b : Bytes) : (putDomain s k b).durable = s.durable := rfl
@[simp] theorem putDomain_mem (s : State) (k : Key) (b : Bytes) : (putDomain s k b).mem = s.mem := rfl
@[simp] theorem putDomain_zones (s : State) (k : Key) (b : Bytes) : (putDomain s k b).zones = s.zones := rfl
@[simp] theorem putDomain_engines (s : State) (k : Key) (b : Bytes) : (putDomain s k b).engines = s.engines := rfl
@[simp] theorem putDomain_lanes (s : State) (k : Key) (b : Bytes) : (putDomain s k b).lanes = s.lanes := rfl
@[simp] theorem putDomain_dma (s : State) (k : Key) (b : Bytes) : (putDomain s k b).dma = s.dma := rfl
@[simp] theorem putDomain_meter (s : State) (k : Key) (b : Bytes) : (putDomain s k b).meter = s.meter := rfl
@[simp] theorem putDomain_time (s : State) (k : Key) (b : Bytes) : (putDomain s k b).time = s.time := rfl
@[simp] theorem putDomain_bus (s : State) (k : Key) (b : Bytes) : (putDomain s k b).bus = s.bus := rfl
@[simp] theorem putDomain_air (s : State) (k : Key) (b : Bytes) : (putDomain s k b).air = s.air := rfl
@[simp] theorem putDomain_safety (s : State) (k : Key) (b : Bytes) : (putDomain s k b).safety = s.safety := rfl
@[simp] theorem putDomain_pair (s : State) (k : Key) (b : Bytes) : (putDomain s k b).pair = s.pair := rfl
@[simp] theorem putDomain_update (s : State) (k : Key) (b : Bytes) : (putDomain s k b).update = s.update := rfl
@[simp] theorem putDomain_recorder (s : State) (k : Key) (b : Bytes) : (putDomain s k b).recorder = s.recorder := rfl
@[simp] theorem putDomain_pads (s : State) (k : Key) (b : Bytes) : (putDomain s k b).pads = s.pads := rfl

/-! ### `putArea` -/

@[simp] theorem putArea_pending (s : State) (n : Nat) (x : Area) : (putArea s n x).pending = s.pending := rfl
@[simp] theorem putArea_clk (s : State) (n : Nat) (x : Area) : (putArea s n x).clk = s.clk := rfl
@[simp] theorem putArea_fresh (s : State) (n : Nat) (x : Area) : (putArea s n x).fresh = s.fresh := rfl
@[simp] theorem putArea_out (s : State) (n : Nat) (x : Area) : (putArea s n x).out = s.out := rfl
@[simp] theorem putArea_regs (s : State) (n : Nat) (x : Area) : (putArea s n x).regs = s.regs := rfl
@[simp] theorem putArea_mram (s : State) (n : Nat) (x : Area) : (putArea s n x).mram = s.mram := rfl
@[simp] theorem putArea_backup (s : State) (n : Nat) (x : Area) : (putArea s n x).backup = s.backup := rfl
@[simp] theorem putArea_power (s : State) (n : Nat) (x : Area) : (putArea s n x).power = s.power := rfl
@[simp] theorem putArea_start (s : State) (n : Nat) (x : Area) : (putArea s n x).start = s.start := rfl
@[simp] theorem putArea_server (s : State) (n : Nat) (x : Area) : (putArea s n x).server = s.server := rfl
@[simp] theorem putArea_faults (s : State) (n : Nat) (x : Area) : (putArea s n x).faults = s.faults := rfl
@[simp] theorem putArea_deferred (s : State) (n : Nat) (x : Area) : (putArea s n x).deferred = s.deferred := rfl
@[simp] theorem putArea_keptHeld (s : State) (n : Nat) (x : Area) : (putArea s n x).keptHeld = s.keptHeld := rfl
@[simp] theorem putArea_bookmarkDue (s : State) (n : Nat) (x : Area) : (putArea s n x).bookmarkDue = s.bookmarkDue := rfl
@[simp] theorem putArea_logHeld (s : State) (n : Nat) (x : Area) : (putArea s n x).logHeld = s.logHeld := rfl
@[simp] theorem putArea_durable (s : State) (n : Nat) (x : Area) : (putArea s n x).durable = s.durable := rfl
@[simp] theorem putArea_mem (s : State) (n : Nat) (x : Area) : (putArea s n x).mem = s.mem := rfl
@[simp] theorem putArea_zones (s : State) (n : Nat) (x : Area) : (putArea s n x).zones = { s.zones with areas := tabPut s.zones.areas n x } := rfl
@[simp] theorem putArea_engines (s : State) (n : Nat) (x : Area) : (putArea s n x).engines = s.engines := rfl
@[simp] theorem putArea_lanes (s : State) (n : Nat) (x : Area) : (putArea s n x).lanes = s.lanes := rfl
@[simp] theorem putArea_dma (s : State) (n : Nat) (x : Area) : (putArea s n x).dma = s.dma := rfl
@[simp] theorem putArea_meter (s : State) (n : Nat) (x : Area) : (putArea s n x).meter = s.meter := rfl
@[simp] theorem putArea_time (s : State) (n : Nat) (x : Area) : (putArea s n x).time = s.time := rfl
@[simp] theorem putArea_bus (s : State) (n : Nat) (x : Area) : (putArea s n x).bus = s.bus := rfl
@[simp] theorem putArea_air (s : State) (n : Nat) (x : Area) : (putArea s n x).air = s.air := rfl
@[simp] theorem putArea_safety (s : State) (n : Nat) (x : Area) : (putArea s n x).safety = s.safety := rfl
@[simp] theorem putArea_pair (s : State) (n : Nat) (x : Area) : (putArea s n x).pair = s.pair := rfl
@[simp] theorem putArea_update (s : State) (n : Nat) (x : Area) : (putArea s n x).update = s.update := rfl
@[simp] theorem putArea_recorder (s : State) (n : Nat) (x : Area) : (putArea s n x).recorder = s.recorder := rfl
@[simp] theorem putArea_pads (s : State) (n : Nat) (x : Area) : (putArea s n x).pads = s.pads := rfl

/-! ### `putEngine` -/

@[simp] theorem putEngine_pending (s : State) (k : Nat) (e : Engine) : (putEngine s k e).pending = s.pending := rfl
@[simp] theorem putEngine_clk (s : State) (k : Nat) (e : Engine) : (putEngine s k e).clk = s.clk := rfl
@[simp] theorem putEngine_fresh (s : State) (k : Nat) (e : Engine) : (putEngine s k e).fresh = s.fresh := rfl
@[simp] theorem putEngine_out (s : State) (k : Nat) (e : Engine) : (putEngine s k e).out = s.out := rfl
@[simp] theorem putEngine_regs (s : State) (k : Nat) (e : Engine) : (putEngine s k e).regs = s.regs := rfl
@[simp] theorem putEngine_mram (s : State) (k : Nat) (e : Engine) : (putEngine s k e).mram = s.mram := rfl
@[simp] theorem putEngine_backup (s : State) (k : Nat) (e : Engine) : (putEngine s k e).backup = s.backup := rfl
@[simp] theorem putEngine_power (s : State) (k : Nat) (e : Engine) : (putEngine s k e).power = s.power := rfl
@[simp] theorem putEngine_start (s : State) (k : Nat) (e : Engine) : (putEngine s k e).start = s.start := rfl
@[simp] theorem putEngine_server (s : State) (k : Nat) (e : Engine) : (putEngine s k e).server = s.server := rfl
@[simp] theorem putEngine_faults (s : State) (k : Nat) (e : Engine) : (putEngine s k e).faults = s.faults := rfl
@[simp] theorem putEngine_deferred (s : State) (k : Nat) (e : Engine) : (putEngine s k e).deferred = s.deferred := rfl
@[simp] theorem putEngine_keptHeld (s : State) (k : Nat) (e : Engine) : (putEngine s k e).keptHeld = s.keptHeld := rfl
@[simp] theorem putEngine_bookmarkDue (s : State) (k : Nat) (e : Engine) : (putEngine s k e).bookmarkDue = s.bookmarkDue := rfl
@[simp] theorem putEngine_logHeld (s : State) (k : Nat) (e : Engine) : (putEngine s k e).logHeld = s.logHeld := rfl
@[simp] theorem putEngine_durable (s : State) (k : Nat) (e : Engine) : (putEngine s k e).durable = s.durable := rfl
@[simp] theorem putEngine_mem (s : State) (k : Nat) (e : Engine) : (putEngine s k e).mem = s.mem := rfl
@[simp] theorem putEngine_zones (s : State) (k : Nat) (e : Engine) : (putEngine s k e).zones = s.zones := rfl
@[simp] theorem putEngine_engines (s : State) (k : Nat) (e : Engine) : (putEngine s k e).engines = { s.engines with list := tabPut s.engines.list k e } := rfl
@[simp] theorem putEngine_lanes (s : State) (k : Nat) (e : Engine) : (putEngine s k e).lanes = s.lanes := rfl
@[simp] theorem putEngine_dma (s : State) (k : Nat) (e : Engine) : (putEngine s k e).dma = s.dma := rfl
@[simp] theorem putEngine_meter (s : State) (k : Nat) (e : Engine) : (putEngine s k e).meter = s.meter := rfl
@[simp] theorem putEngine_time (s : State) (k : Nat) (e : Engine) : (putEngine s k e).time = s.time := rfl
@[simp] theorem putEngine_bus (s : State) (k : Nat) (e : Engine) : (putEngine s k e).bus = s.bus := rfl
@[simp] theorem putEngine_air (s : State) (k : Nat) (e : Engine) : (putEngine s k e).air = s.air := rfl
@[simp] theorem putEngine_safety (s : State) (k : Nat) (e : Engine) : (putEngine s k e).safety = s.safety := rfl
@[simp] theorem putEngine_pair (s : State) (k : Nat) (e : Engine) : (putEngine s k e).pair = s.pair := rfl
@[simp] theorem putEngine_update (s : State) (k : Nat) (e : Engine) : (putEngine s k e).update = s.update := rfl
@[simp] theorem putEngine_recorder (s : State) (k : Nat) (e : Engine) : (putEngine s k e).recorder = s.recorder := rfl
@[simp] theorem putEngine_pads (s : State) (k : Nat) (e : Engine) : (putEngine s k e).pads = s.pads := rfl

/-! ### `putLane` -/

@[simp] theorem putLane_pending (s : State) (n : Nat) (x : Lane) : (putLane s n x).pending = s.pending := rfl
@[simp] theorem putLane_clk (s : State) (n : Nat) (x : Lane) : (putLane s n x).clk = s.clk := rfl
@[simp] theorem putLane_fresh (s : State) (n : Nat) (x : Lane) : (putLane s n x).fresh = s.fresh := rfl
@[simp] theorem putLane_out (s : State) (n : Nat) (x : Lane) : (putLane s n x).out = s.out := rfl
@[simp] theorem putLane_regs (s : State) (n : Nat) (x : Lane) : (putLane s n x).regs = s.regs := rfl
@[simp] theorem putLane_mram (s : State) (n : Nat) (x : Lane) : (putLane s n x).mram = s.mram := rfl
@[simp] theorem putLane_backup (s : State) (n : Nat) (x : Lane) : (putLane s n x).backup = s.backup := rfl
@[simp] theorem putLane_power (s : State) (n : Nat) (x : Lane) : (putLane s n x).power = s.power := rfl
@[simp] theorem putLane_start (s : State) (n : Nat) (x : Lane) : (putLane s n x).start = s.start := rfl
@[simp] theorem putLane_server (s : State) (n : Nat) (x : Lane) : (putLane s n x).server = s.server := rfl
@[simp] theorem putLane_faults (s : State) (n : Nat) (x : Lane) : (putLane s n x).faults = s.faults := rfl
@[simp] theorem putLane_deferred (s : State) (n : Nat) (x : Lane) : (putLane s n x).deferred = s.deferred := rfl
@[simp] theorem putLane_keptHeld (s : State) (n : Nat) (x : Lane) : (putLane s n x).keptHeld = s.keptHeld := rfl
@[simp] theorem putLane_bookmarkDue (s : State) (n : Nat) (x : Lane) : (putLane s n x).bookmarkDue = s.bookmarkDue := rfl
@[simp] theorem putLane_logHeld (s : State) (n : Nat) (x : Lane) : (putLane s n x).logHeld = s.logHeld := rfl
@[simp] theorem putLane_durable (s : State) (n : Nat) (x : Lane) : (putLane s n x).durable = s.durable := rfl
@[simp] theorem putLane_mem (s : State) (n : Nat) (x : Lane) : (putLane s n x).mem = s.mem := rfl
@[simp] theorem putLane_zones (s : State) (n : Nat) (x : Lane) : (putLane s n x).zones = s.zones := rfl
@[simp] theorem putLane_engines (s : State) (n : Nat) (x : Lane) : (putLane s n x).engines = s.engines := rfl
@[simp] theorem putLane_lanes (s : State) (n : Nat) (x : Lane) : (putLane s n x).lanes = { s.lanes with list := tabPut s.lanes.list n x } := rfl
@[simp] theorem putLane_dma (s : State) (n : Nat) (x : Lane) : (putLane s n x).dma = s.dma := rfl
@[simp] theorem putLane_meter (s : State) (n : Nat) (x : Lane) : (putLane s n x).meter = s.meter := rfl
@[simp] theorem putLane_time (s : State) (n : Nat) (x : Lane) : (putLane s n x).time = s.time := rfl
@[simp] theorem putLane_bus (s : State) (n : Nat) (x : Lane) : (putLane s n x).bus = s.bus := rfl
@[simp] theorem putLane_air (s : State) (n : Nat) (x : Lane) : (putLane s n x).air = s.air := rfl
@[simp] theorem putLane_safety (s : State) (n : Nat) (x : Lane) : (putLane s n x).safety = s.safety := rfl
@[simp] theorem putLane_pair (s : State) (n : Nat) (x : Lane) : (putLane s n x).pair = s.pair := rfl
@[simp] theorem putLane_update (s : State) (n : Nat) (x : Lane) : (putLane s n x).update = s.update := rfl
@[simp] theorem putLane_recorder (s : State) (n : Nat) (x : Lane) : (putLane s n x).recorder = s.recorder := rfl
@[simp] theorem putLane_pads (s : State) (n : Nat) (x : Lane) : (putLane s n x).pads = s.pads := rfl

/-! ### `putChannel` -/

@[simp] theorem putChannel_pending (s : State) (n : Nat) (x : Chan) : (putChannel s n x).pending = s.pending := rfl
@[simp] theorem putChannel_clk (s : State) (n : Nat) (x : Chan) : (putChannel s n x).clk = s.clk := rfl
@[simp] theorem putChannel_fresh (s : State) (n : Nat) (x : Chan) : (putChannel s n x).fresh = s.fresh := rfl
@[simp] theorem putChannel_out (s : State) (n : Nat) (x : Chan) : (putChannel s n x).out = s.out := rfl
@[simp] theorem putChannel_regs (s : State) (n : Nat) (x : Chan) : (putChannel s n x).regs = s.regs := rfl
@[simp] theorem putChannel_mram (s : State) (n : Nat) (x : Chan) : (putChannel s n x).mram = s.mram := rfl
@[simp] theorem putChannel_backup (s : State) (n : Nat) (x : Chan) : (putChannel s n x).backup = s.backup := rfl
@[simp] theorem putChannel_power (s : State) (n : Nat) (x : Chan) : (putChannel s n x).power = s.power := rfl
@[simp] theorem putChannel_start (s : State) (n : Nat) (x : Chan) : (putChannel s n x).start = s.start := rfl
@[simp] theorem putChannel_server (s : State) (n : Nat) (x : Chan) : (putChannel s n x).server = s.server := rfl
@[simp] theorem putChannel_faults (s : State) (n : Nat) (x : Chan) : (putChannel s n x).faults = s.faults := rfl
@[simp] theorem putChannel_deferred (s : State) (n : Nat) (x : Chan) : (putChannel s n x).deferred = s.deferred := rfl
@[simp] theorem putChannel_keptHeld (s : State) (n : Nat) (x : Chan) : (putChannel s n x).keptHeld = s.keptHeld := rfl
@[simp] theorem putChannel_bookmarkDue (s : State) (n : Nat) (x : Chan) : (putChannel s n x).bookmarkDue = s.bookmarkDue := rfl
@[simp] theorem putChannel_logHeld (s : State) (n : Nat) (x : Chan) : (putChannel s n x).logHeld = s.logHeld := rfl
@[simp] theorem putChannel_durable (s : State) (n : Nat) (x : Chan) : (putChannel s n x).durable = s.durable := rfl
@[simp] theorem putChannel_mem (s : State) (n : Nat) (x : Chan) : (putChannel s n x).mem = s.mem := rfl
@[simp] theorem putChannel_zones (s : State) (n : Nat) (x : Chan) : (putChannel s n x).zones = s.zones := rfl
@[simp] theorem putChannel_engines (s : State) (n : Nat) (x : Chan) : (putChannel s n x).engines = s.engines := rfl
@[simp] theorem putChannel_lanes (s : State) (n : Nat) (x : Chan) : (putChannel s n x).lanes = s.lanes := rfl
@[simp] theorem putChannel_dma (s : State) (n : Nat) (x : Chan) : (putChannel s n x).dma = { s.dma with chans := tabPut s.dma.chans n x } := rfl
@[simp] theorem putChannel_meter (s : State) (n : Nat) (x : Chan) : (putChannel s n x).meter = s.meter := rfl
@[simp] theorem putChannel_time (s : State) (n : Nat) (x : Chan) : (putChannel s n x).time = s.time := rfl
@[simp] theorem putChannel_bus (s : State) (n : Nat) (x : Chan) : (putChannel s n x).bus = s.bus := rfl
@[simp] theorem putChannel_air (s : State) (n : Nat) (x : Chan) : (putChannel s n x).air = s.air := rfl
@[simp] theorem putChannel_safety (s : State) (n : Nat) (x : Chan) : (putChannel s n x).safety = s.safety := rfl
@[simp] theorem putChannel_pair (s : State) (n : Nat) (x : Chan) : (putChannel s n x).pair = s.pair := rfl
@[simp] theorem putChannel_update (s : State) (n : Nat) (x : Chan) : (putChannel s n x).update = s.update := rfl
@[simp] theorem putChannel_recorder (s : State) (n : Nat) (x : Chan) : (putChannel s n x).recorder = s.recorder := rfl
@[simp] theorem putChannel_pads (s : State) (n : Nat) (x : Chan) : (putChannel s n x).pads = s.pads := rfl

/-! ### `putMeter` -/

@[simp] theorem putMeter_pending (s : State) (x : Meter) : (putMeter s x).pending = s.pending := rfl
@[simp] theorem putMeter_clk (s : State) (x : Meter) : (putMeter s x).clk = s.clk := rfl
@[simp] theorem putMeter_fresh (s : State) (x : Meter) : (putMeter s x).fresh = s.fresh := rfl
@[simp] theorem putMeter_out (s : State) (x : Meter) : (putMeter s x).out = s.out := rfl
@[simp] theorem putMeter_regs (s : State) (x : Meter) : (putMeter s x).regs = s.regs := rfl
@[simp] theorem putMeter_mram (s : State) (x : Meter) : (putMeter s x).mram = s.mram := rfl
@[simp] theorem putMeter_backup (s : State) (x : Meter) : (putMeter s x).backup = s.backup := rfl
@[simp] theorem putMeter_power (s : State) (x : Meter) : (putMeter s x).power = s.power := rfl
@[simp] theorem putMeter_start (s : State) (x : Meter) : (putMeter s x).start = s.start := rfl
@[simp] theorem putMeter_server (s : State) (x : Meter) : (putMeter s x).server = s.server := rfl
@[simp] theorem putMeter_faults (s : State) (x : Meter) : (putMeter s x).faults = s.faults := rfl
@[simp] theorem putMeter_deferred (s : State) (x : Meter) : (putMeter s x).deferred = s.deferred := rfl
@[simp] theorem putMeter_keptHeld (s : State) (x : Meter) : (putMeter s x).keptHeld = s.keptHeld := rfl
@[simp] theorem putMeter_bookmarkDue (s : State) (x : Meter) : (putMeter s x).bookmarkDue = s.bookmarkDue := rfl
@[simp] theorem putMeter_logHeld (s : State) (x : Meter) : (putMeter s x).logHeld = s.logHeld := rfl
@[simp] theorem putMeter_durable (s : State) (x : Meter) : (putMeter s x).durable = s.durable := rfl
@[simp] theorem putMeter_mem (s : State) (x : Meter) : (putMeter s x).mem = s.mem := rfl
@[simp] theorem putMeter_zones (s : State) (x : Meter) : (putMeter s x).zones = s.zones := rfl
@[simp] theorem putMeter_engines (s : State) (x : Meter) : (putMeter s x).engines = s.engines := rfl
@[simp] theorem putMeter_lanes (s : State) (x : Meter) : (putMeter s x).lanes = s.lanes := rfl
@[simp] theorem putMeter_dma (s : State) (x : Meter) : (putMeter s x).dma = s.dma := rfl
@[simp] theorem putMeter_meter (s : State) (x : Meter) : (putMeter s x).meter = x := rfl
@[simp] theorem putMeter_time (s : State) (x : Meter) : (putMeter s x).time = s.time := rfl
@[simp] theorem putMeter_bus (s : State) (x : Meter) : (putMeter s x).bus = s.bus := rfl
@[simp] theorem putMeter_air (s : State) (x : Meter) : (putMeter s x).air = s.air := rfl
@[simp] theorem putMeter_safety (s : State) (x : Meter) : (putMeter s x).safety = s.safety := rfl
@[simp] theorem putMeter_pair (s : State) (x : Meter) : (putMeter s x).pair = s.pair := rfl
@[simp] theorem putMeter_update (s : State) (x : Meter) : (putMeter s x).update = s.update := rfl
@[simp] theorem putMeter_recorder (s : State) (x : Meter) : (putMeter s x).recorder = s.recorder := rfl
@[simp] theorem putMeter_pads (s : State) (x : Meter) : (putMeter s x).pads = s.pads := rfl

/-! ### `putPulse` -/

@[simp] theorem putPulse_pending (s : State) (n : Nat) (x : PulseOut) : (putPulse s n x).pending = s.pending := rfl
@[simp] theorem putPulse_clk (s : State) (n : Nat) (x : PulseOut) : (putPulse s n x).clk = s.clk := rfl
@[simp] theorem putPulse_fresh (s : State) (n : Nat) (x : PulseOut) : (putPulse s n x).fresh = s.fresh := rfl
@[simp] theorem putPulse_out (s : State) (n : Nat) (x : PulseOut) : (putPulse s n x).out = s.out := rfl
@[simp] theorem putPulse_regs (s : State) (n : Nat) (x : PulseOut) : (putPulse s n x).regs = s.regs := rfl
@[simp] theorem putPulse_mram (s : State) (n : Nat) (x : PulseOut) : (putPulse s n x).mram = s.mram := rfl
@[simp] theorem putPulse_backup (s : State) (n : Nat) (x : PulseOut) : (putPulse s n x).backup = s.backup := rfl
@[simp] theorem putPulse_power (s : State) (n : Nat) (x : PulseOut) : (putPulse s n x).power = s.power := rfl
@[simp] theorem putPulse_start (s : State) (n : Nat) (x : PulseOut) : (putPulse s n x).start = s.start := rfl
@[simp] theorem putPulse_server (s : State) (n : Nat) (x : PulseOut) : (putPulse s n x).server = s.server := rfl
@[simp] theorem putPulse_faults (s : State) (n : Nat) (x : PulseOut) : (putPulse s n x).faults = s.faults := rfl
@[simp] theorem putPulse_deferred (s : State) (n : Nat) (x : PulseOut) : (putPulse s n x).deferred = s.deferred := rfl
@[simp] theorem putPulse_keptHeld (s : State) (n : Nat) (x : PulseOut) : (putPulse s n x).keptHeld = s.keptHeld := rfl
@[simp] theorem putPulse_bookmarkDue (s : State) (n : Nat) (x : PulseOut) : (putPulse s n x).bookmarkDue = s.bookmarkDue := rfl
@[simp] theorem putPulse_logHeld (s : State) (n : Nat) (x : PulseOut) : (putPulse s n x).logHeld = s.logHeld := rfl
@[simp] theorem putPulse_durable (s : State) (n : Nat) (x : PulseOut) : (putPulse s n x).durable = s.durable := rfl
@[simp] theorem putPulse_mem (s : State) (n : Nat) (x : PulseOut) : (putPulse s n x).mem = s.mem := rfl
@[simp] theorem putPulse_zones (s : State) (n : Nat) (x : PulseOut) : (putPulse s n x).zones = s.zones := rfl
@[simp] theorem putPulse_engines (s : State) (n : Nat) (x : PulseOut) : (putPulse s n x).engines = s.engines := rfl
@[simp] theorem putPulse_lanes (s : State) (n : Nat) (x : PulseOut) : (putPulse s n x).lanes = s.lanes := rfl
@[simp] theorem putPulse_dma (s : State) (n : Nat) (x : PulseOut) : (putPulse s n x).dma = s.dma := rfl
@[simp] theorem putPulse_meter (s : State) (n : Nat) (x : PulseOut) : (putPulse s n x).meter = { s.meter with out := tabPut s.meter.out n x } := rfl
@[simp] theorem putPulse_time (s : State) (n : Nat) (x : PulseOut) : (putPulse s n x).time = s.time := rfl
@[simp] theorem putPulse_bus (s : State) (n : Nat) (x : PulseOut) : (putPulse s n x).bus = s.bus := rfl
@[simp] theorem putPulse_air (s : State) (n : Nat) (x : PulseOut) : (putPulse s n x).air = s.air := rfl
@[simp] theorem putPulse_safety (s : State) (n : Nat) (x : PulseOut) : (putPulse s n x).safety = s.safety := rfl
@[simp] theorem putPulse_pair (s : State) (n : Nat) (x : PulseOut) : (putPulse s n x).pair = s.pair := rfl
@[simp] theorem putPulse_update (s : State) (n : Nat) (x : PulseOut) : (putPulse s n x).update = s.update := rfl
@[simp] theorem putPulse_recorder (s : State) (n : Nat) (x : PulseOut) : (putPulse s n x).recorder = s.recorder := rfl
@[simp] theorem putPulse_pads (s : State) (n : Nat) (x : PulseOut) : (putPulse s n x).pads = s.pads := rfl

/-! ### `putPtp` -/

@[simp] theorem putPtp_pending (s : State) (n : Nat) (x : Ptp) : (putPtp s n x).pending = s.pending := rfl
@[simp] theorem putPtp_clk (s : State) (n : Nat) (x : Ptp) : (putPtp s n x).clk = s.clk := rfl
@[simp] theorem putPtp_fresh (s : State) (n : Nat) (x : Ptp) : (putPtp s n x).fresh = s.fresh := rfl
@[simp] theorem putPtp_out (s : State) (n : Nat) (x : Ptp) : (putPtp s n x).out = s.out := rfl
@[simp] theorem putPtp_regs (s : State) (n : Nat) (x : Ptp) : (putPtp s n x).regs = s.regs := rfl
@[simp] theorem putPtp_mram (s : State) (n : Nat) (x : Ptp) : (putPtp s n x).mram = s.mram := rfl
@[simp] theorem putPtp_backup (s : State) (n : Nat) (x : Ptp) : (putPtp s n x).backup = s.backup := rfl
@[simp] theorem putPtp_power (s : State) (n : Nat) (x : Ptp) : (putPtp s n x).power = s.power := rfl
@[simp] theorem putPtp_start (s : State) (n : Nat) (x : Ptp) : (putPtp s n x).start = s.start := rfl
@[simp] theorem putPtp_server (s : State) (n : Nat) (x : Ptp) : (putPtp s n x).server = s.server := rfl
@[simp] theorem putPtp_faults (s : State) (n : Nat) (x : Ptp) : (putPtp s n x).faults = s.faults := rfl
@[simp] theorem putPtp_deferred (s : State) (n : Nat) (x : Ptp) : (putPtp s n x).deferred = s.deferred := rfl
@[simp] theorem putPtp_keptHeld (s : State) (n : Nat) (x : Ptp) : (putPtp s n x).keptHeld = s.keptHeld := rfl
@[simp] theorem putPtp_bookmarkDue (s : State) (n : Nat) (x : Ptp) : (putPtp s n x).bookmarkDue = s.bookmarkDue := rfl
@[simp] theorem putPtp_logHeld (s : State) (n : Nat) (x : Ptp) : (putPtp s n x).logHeld = s.logHeld := rfl
@[simp] theorem putPtp_durable (s : State) (n : Nat) (x : Ptp) : (putPtp s n x).durable = s.durable := rfl
@[simp] theorem putPtp_mem (s : State) (n : Nat) (x : Ptp) : (putPtp s n x).mem = s.mem := rfl
@[simp] theorem putPtp_zones (s : State) (n : Nat) (x : Ptp) : (putPtp s n x).zones = s.zones := rfl
@[simp] theorem putPtp_engines (s : State) (n : Nat) (x : Ptp) : (putPtp s n x).engines = s.engines := rfl
@[simp] theorem putPtp_lanes (s : State) (n : Nat) (x : Ptp) : (putPtp s n x).lanes = s.lanes := rfl
@[simp] theorem putPtp_dma (s : State) (n : Nat) (x : Ptp) : (putPtp s n x).dma = s.dma := rfl
@[simp] theorem putPtp_meter (s : State) (n : Nat) (x : Ptp) : (putPtp s n x).meter = s.meter := rfl
@[simp] theorem putPtp_time (s : State) (n : Nat) (x : Ptp) : (putPtp s n x).time = { s.time with ptp := tabPut s.time.ptp n x } := rfl
@[simp] theorem putPtp_bus (s : State) (n : Nat) (x : Ptp) : (putPtp s n x).bus = s.bus := rfl
@[simp] theorem putPtp_air (s : State) (n : Nat) (x : Ptp) : (putPtp s n x).air = s.air := rfl
@[simp] theorem putPtp_safety (s : State) (n : Nat) (x : Ptp) : (putPtp s n x).safety = s.safety := rfl
@[simp] theorem putPtp_pair (s : State) (n : Nat) (x : Ptp) : (putPtp s n x).pair = s.pair := rfl
@[simp] theorem putPtp_update (s : State) (n : Nat) (x : Ptp) : (putPtp s n x).update = s.update := rfl
@[simp] theorem putPtp_recorder (s : State) (n : Nat) (x : Ptp) : (putPtp s n x).recorder = s.recorder := rfl
@[simp] theorem putPtp_pads (s : State) (n : Nat) (x : Ptp) : (putPtp s n x).pads = s.pads := rfl

/-! ### `putBus` -/

@[simp] theorem putBus_pending (s : State) (n : Nat) (x : Bus) : (putBus s n x).pending = s.pending := rfl
@[simp] theorem putBus_clk (s : State) (n : Nat) (x : Bus) : (putBus s n x).clk = s.clk := rfl
@[simp] theorem putBus_fresh (s : State) (n : Nat) (x : Bus) : (putBus s n x).fresh = s.fresh := rfl
@[simp] theorem putBus_out (s : State) (n : Nat) (x : Bus) : (putBus s n x).out = s.out := rfl
@[simp] theorem putBus_regs (s : State) (n : Nat) (x : Bus) : (putBus s n x).regs = s.regs := rfl
@[simp] theorem putBus_mram (s : State) (n : Nat) (x : Bus) : (putBus s n x).mram = s.mram := rfl
@[simp] theorem putBus_backup (s : State) (n : Nat) (x : Bus) : (putBus s n x).backup = s.backup := rfl
@[simp] theorem putBus_power (s : State) (n : Nat) (x : Bus) : (putBus s n x).power = s.power := rfl
@[simp] theorem putBus_start (s : State) (n : Nat) (x : Bus) : (putBus s n x).start = s.start := rfl
@[simp] theorem putBus_server (s : State) (n : Nat) (x : Bus) : (putBus s n x).server = s.server := rfl
@[simp] theorem putBus_faults (s : State) (n : Nat) (x : Bus) : (putBus s n x).faults = s.faults := rfl
@[simp] theorem putBus_deferred (s : State) (n : Nat) (x : Bus) : (putBus s n x).deferred = s.deferred := rfl
@[simp] theorem putBus_keptHeld (s : State) (n : Nat) (x : Bus) : (putBus s n x).keptHeld = s.keptHeld := rfl
@[simp] theorem putBus_bookmarkDue (s : State) (n : Nat) (x : Bus) : (putBus s n x).bookmarkDue = s.bookmarkDue := rfl
@[simp] theorem putBus_logHeld (s : State) (n : Nat) (x : Bus) : (putBus s n x).logHeld = s.logHeld := rfl
@[simp] theorem putBus_durable (s : State) (n : Nat) (x : Bus) : (putBus s n x).durable = s.durable := rfl
@[simp] theorem putBus_mem (s : State) (n : Nat) (x : Bus) : (putBus s n x).mem = s.mem := rfl
@[simp] theorem putBus_zones (s : State) (n : Nat) (x : Bus) : (putBus s n x).zones = s.zones := rfl
@[simp] theorem putBus_engines (s : State) (n : Nat) (x : Bus) : (putBus s n x).engines = s.engines := rfl
@[simp] theorem putBus_lanes (s : State) (n : Nat) (x : Bus) : (putBus s n x).lanes = s.lanes := rfl
@[simp] theorem putBus_dma (s : State) (n : Nat) (x : Bus) : (putBus s n x).dma = s.dma := rfl
@[simp] theorem putBus_meter (s : State) (n : Nat) (x : Bus) : (putBus s n x).meter = s.meter := rfl
@[simp] theorem putBus_time (s : State) (n : Nat) (x : Bus) : (putBus s n x).time = s.time := rfl
@[simp] theorem putBus_bus (s : State) (n : Nat) (x : Bus) : (putBus s n x).bus = tabPut s.bus n x := rfl
@[simp] theorem putBus_air (s : State) (n : Nat) (x : Bus) : (putBus s n x).air = s.air := rfl
@[simp] theorem putBus_safety (s : State) (n : Nat) (x : Bus) : (putBus s n x).safety = s.safety := rfl
@[simp] theorem putBus_pair (s : State) (n : Nat) (x : Bus) : (putBus s n x).pair = s.pair := rfl
@[simp] theorem putBus_update (s : State) (n : Nat) (x : Bus) : (putBus s n x).update = s.update := rfl
@[simp] theorem putBus_recorder (s : State) (n : Nat) (x : Bus) : (putBus s n x).recorder = s.recorder := rfl
@[simp] theorem putBus_pads (s : State) (n : Nat) (x : Bus) : (putBus s n x).pads = s.pads := rfl

/-! ### `putPartner` -/

@[simp] theorem putPartner_pending (s : State) (n : Nat) (x : Partner) : (putPartner s n x).pending = s.pending := rfl
@[simp] theorem putPartner_clk (s : State) (n : Nat) (x : Partner) : (putPartner s n x).clk = s.clk := rfl
@[simp] theorem putPartner_fresh (s : State) (n : Nat) (x : Partner) : (putPartner s n x).fresh = s.fresh := rfl
@[simp] theorem putPartner_out (s : State) (n : Nat) (x : Partner) : (putPartner s n x).out = s.out := rfl
@[simp] theorem putPartner_regs (s : State) (n : Nat) (x : Partner) : (putPartner s n x).regs = s.regs := rfl
@[simp] theorem putPartner_mram (s : State) (n : Nat) (x : Partner) : (putPartner s n x).mram = s.mram := rfl
@[simp] theorem putPartner_backup (s : State) (n : Nat) (x : Partner) : (putPartner s n x).backup = s.backup := rfl
@[simp] theorem putPartner_power (s : State) (n : Nat) (x : Partner) : (putPartner s n x).power = s.power := rfl
@[simp] theorem putPartner_start (s : State) (n : Nat) (x : Partner) : (putPartner s n x).start = s.start := rfl
@[simp] theorem putPartner_server (s : State) (n : Nat) (x : Partner) : (putPartner s n x).server = s.server := rfl
@[simp] theorem putPartner_faults (s : State) (n : Nat) (x : Partner) : (putPartner s n x).faults = s.faults := rfl
@[simp] theorem putPartner_deferred (s : State) (n : Nat) (x : Partner) : (putPartner s n x).deferred = s.deferred := rfl
@[simp] theorem putPartner_keptHeld (s : State) (n : Nat) (x : Partner) : (putPartner s n x).keptHeld = s.keptHeld := rfl
@[simp] theorem putPartner_bookmarkDue (s : State) (n : Nat) (x : Partner) : (putPartner s n x).bookmarkDue = s.bookmarkDue := rfl
@[simp] theorem putPartner_logHeld (s : State) (n : Nat) (x : Partner) : (putPartner s n x).logHeld = s.logHeld := rfl
@[simp] theorem putPartner_durable (s : State) (n : Nat) (x : Partner) : (putPartner s n x).durable = s.durable := rfl
@[simp] theorem putPartner_mem (s : State) (n : Nat) (x : Partner) : (putPartner s n x).mem = s.mem := rfl
@[simp] theorem putPartner_zones (s : State) (n : Nat) (x : Partner) : (putPartner s n x).zones = s.zones := rfl
@[simp] theorem putPartner_engines (s : State) (n : Nat) (x : Partner) : (putPartner s n x).engines = s.engines := rfl
@[simp] theorem putPartner_lanes (s : State) (n : Nat) (x : Partner) : (putPartner s n x).lanes = s.lanes := rfl
@[simp] theorem putPartner_dma (s : State) (n : Nat) (x : Partner) : (putPartner s n x).dma = s.dma := rfl
@[simp] theorem putPartner_meter (s : State) (n : Nat) (x : Partner) : (putPartner s n x).meter = s.meter := rfl
@[simp] theorem putPartner_time (s : State) (n : Nat) (x : Partner) : (putPartner s n x).time = s.time := rfl
@[simp] theorem putPartner_bus (s : State) (n : Nat) (x : Partner) : (putPartner s n x).bus = s.bus := rfl
@[simp] theorem putPartner_air (s : State) (n : Nat) (x : Partner) : (putPartner s n x).air = { s.air with partners := tabPut s.air.partners n x } := rfl
@[simp] theorem putPartner_safety (s : State) (n : Nat) (x : Partner) : (putPartner s n x).safety = s.safety := rfl
@[simp] theorem putPartner_pair (s : State) (n : Nat) (x : Partner) : (putPartner s n x).pair = s.pair := rfl
@[simp] theorem putPartner_update (s : State) (n : Nat) (x : Partner) : (putPartner s n x).update = s.update := rfl
@[simp] theorem putPartner_recorder (s : State) (n : Nat) (x : Partner) : (putPartner s n x).recorder = s.recorder := rfl
@[simp] theorem putPartner_pads (s : State) (n : Nat) (x : Partner) : (putPartner s n x).pads = s.pads := rfl

/-! ### `putGpio` -/

@[simp] theorem putGpio_pending (s : State) (n : Nat) (x : Gpio) : (putGpio s n x).pending = s.pending := rfl
@[simp] theorem putGpio_clk (s : State) (n : Nat) (x : Gpio) : (putGpio s n x).clk = s.clk := rfl
@[simp] theorem putGpio_fresh (s : State) (n : Nat) (x : Gpio) : (putGpio s n x).fresh = s.fresh := rfl
@[simp] theorem putGpio_out (s : State) (n : Nat) (x : Gpio) : (putGpio s n x).out = s.out := rfl
@[simp] theorem putGpio_regs (s : State) (n : Nat) (x : Gpio) : (putGpio s n x).regs = s.regs := rfl
@[simp] theorem putGpio_mram (s : State) (n : Nat) (x : Gpio) : (putGpio s n x).mram = s.mram := rfl
@[simp] theorem putGpio_backup (s : State) (n : Nat) (x : Gpio) : (putGpio s n x).backup = s.backup := rfl
@[simp] theorem putGpio_power (s : State) (n : Nat) (x : Gpio) : (putGpio s n x).power = s.power := rfl
@[simp] theorem putGpio_start (s : State) (n : Nat) (x : Gpio) : (putGpio s n x).start = s.start := rfl
@[simp] theorem putGpio_server (s : State) (n : Nat) (x : Gpio) : (putGpio s n x).server = s.server := rfl
@[simp] theorem putGpio_faults (s : State) (n : Nat) (x : Gpio) : (putGpio s n x).faults = s.faults := rfl
@[simp] theorem putGpio_deferred (s : State) (n : Nat) (x : Gpio) : (putGpio s n x).deferred = s.deferred := rfl
@[simp] theorem putGpio_keptHeld (s : State) (n : Nat) (x : Gpio) : (putGpio s n x).keptHeld = s.keptHeld := rfl
@[simp] theorem putGpio_bookmarkDue (s : State) (n : Nat) (x : Gpio) : (putGpio s n x).bookmarkDue = s.bookmarkDue := rfl
@[simp] theorem putGpio_logHeld (s : State) (n : Nat) (x : Gpio) : (putGpio s n x).logHeld = s.logHeld := rfl
@[simp] theorem putGpio_durable (s : State) (n : Nat) (x : Gpio) : (putGpio s n x).durable = s.durable := rfl
@[simp] theorem putGpio_mem (s : State) (n : Nat) (x : Gpio) : (putGpio s n x).mem = s.mem := rfl
@[simp] theorem putGpio_zones (s : State) (n : Nat) (x : Gpio) : (putGpio s n x).zones = s.zones := rfl
@[simp] theorem putGpio_engines (s : State) (n : Nat) (x : Gpio) : (putGpio s n x).engines = s.engines := rfl
@[simp] theorem putGpio_lanes (s : State) (n : Nat) (x : Gpio) : (putGpio s n x).lanes = s.lanes := rfl
@[simp] theorem putGpio_dma (s : State) (n : Nat) (x : Gpio) : (putGpio s n x).dma = s.dma := rfl
@[simp] theorem putGpio_meter (s : State) (n : Nat) (x : Gpio) : (putGpio s n x).meter = s.meter := rfl
@[simp] theorem putGpio_time (s : State) (n : Nat) (x : Gpio) : (putGpio s n x).time = s.time := rfl
@[simp] theorem putGpio_bus (s : State) (n : Nat) (x : Gpio) : (putGpio s n x).bus = s.bus := rfl
@[simp] theorem putGpio_air (s : State) (n : Nat) (x : Gpio) : (putGpio s n x).air = s.air := rfl
@[simp] theorem putGpio_safety (s : State) (n : Nat) (x : Gpio) : (putGpio s n x).safety = s.safety := rfl
@[simp] theorem putGpio_pair (s : State) (n : Nat) (x : Gpio) : (putGpio s n x).pair = s.pair := rfl
@[simp] theorem putGpio_update (s : State) (n : Nat) (x : Gpio) : (putGpio s n x).update = s.update := rfl
@[simp] theorem putGpio_recorder (s : State) (n : Nat) (x : Gpio) : (putGpio s n x).recorder = s.recorder := rfl
@[simp] theorem putGpio_pads (s : State) (n : Nat) (x : Gpio) : (putGpio s n x).pads = tabPut s.pads n x := rfl

/-! ### `putFolios` -/

@[simp] theorem putFolios_pending (s : State) (x : Folios) : (putFolios s x).pending = s.pending := rfl
@[simp] theorem putFolios_clk (s : State) (x : Folios) : (putFolios s x).clk = s.clk := rfl
@[simp] theorem putFolios_fresh (s : State) (x : Folios) : (putFolios s x).fresh = s.fresh := rfl
@[simp] theorem putFolios_out (s : State) (x : Folios) : (putFolios s x).out = s.out := rfl
@[simp] theorem putFolios_regs (s : State) (x : Folios) : (putFolios s x).regs = s.regs := rfl
@[simp] theorem putFolios_mram (s : State) (x : Folios) : (putFolios s x).mram = { s.mram with folios := x } := rfl
@[simp] theorem putFolios_backup (s : State) (x : Folios) : (putFolios s x).backup = s.backup := rfl
@[simp] theorem putFolios_power (s : State) (x : Folios) : (putFolios s x).power = s.power := rfl
@[simp] theorem putFolios_start (s : State) (x : Folios) : (putFolios s x).start = s.start := rfl
@[simp] theorem putFolios_server (s : State) (x : Folios) : (putFolios s x).server = s.server := rfl
@[simp] theorem putFolios_faults (s : State) (x : Folios) : (putFolios s x).faults = s.faults := rfl
@[simp] theorem putFolios_deferred (s : State) (x : Folios) : (putFolios s x).deferred = s.deferred := rfl
@[simp] theorem putFolios_keptHeld (s : State) (x : Folios) : (putFolios s x).keptHeld = s.keptHeld := rfl
@[simp] theorem putFolios_bookmarkDue (s : State) (x : Folios) : (putFolios s x).bookmarkDue = s.bookmarkDue := rfl
@[simp] theorem putFolios_logHeld (s : State) (x : Folios) : (putFolios s x).logHeld = s.logHeld := rfl
@[simp] theorem putFolios_durable (s : State) (x : Folios) : (putFolios s x).durable = s.durable := rfl
@[simp] theorem putFolios_mem (s : State) (x : Folios) : (putFolios s x).mem = s.mem := rfl
@[simp] theorem putFolios_zones (s : State) (x : Folios) : (putFolios s x).zones = s.zones := rfl
@[simp] theorem putFolios_engines (s : State) (x : Folios) : (putFolios s x).engines = s.engines := rfl
@[simp] theorem putFolios_lanes (s : State) (x : Folios) : (putFolios s x).lanes = s.lanes := rfl
@[simp] theorem putFolios_dma (s : State) (x : Folios) : (putFolios s x).dma = s.dma := rfl
@[simp] theorem putFolios_meter (s : State) (x : Folios) : (putFolios s x).meter = s.meter := rfl
@[simp] theorem putFolios_time (s : State) (x : Folios) : (putFolios s x).time = s.time := rfl
@[simp] theorem putFolios_bus (s : State) (x : Folios) : (putFolios s x).bus = s.bus := rfl
@[simp] theorem putFolios_air (s : State) (x : Folios) : (putFolios s x).air = s.air := rfl
@[simp] theorem putFolios_safety (s : State) (x : Folios) : (putFolios s x).safety = s.safety := rfl
@[simp] theorem putFolios_pair (s : State) (x : Folios) : (putFolios s x).pair = s.pair := rfl
@[simp] theorem putFolios_update (s : State) (x : Folios) : (putFolios s x).update = s.update := rfl
@[simp] theorem putFolios_recorder (s : State) (x : Folios) : (putFolios s x).recorder = s.recorder := rfl
@[simp] theorem putFolios_pads (s : State) (x : Folios) : (putFolios s x).pads = s.pads := rfl

/-! ### `putRegion` -/

@[simp] theorem putRegion_pending (s : State) (x : RecRegion) : (putRegion s x).pending = s.pending := rfl
@[simp] theorem putRegion_clk (s : State) (x : RecRegion) : (putRegion s x).clk = s.clk := rfl
@[simp] theorem putRegion_fresh (s : State) (x : RecRegion) : (putRegion s x).fresh = s.fresh := rfl
@[simp] theorem putRegion_out (s : State) (x : RecRegion) : (putRegion s x).out = s.out := rfl
@[simp] theorem putRegion_regs (s : State) (x : RecRegion) : (putRegion s x).regs = s.regs := rfl
@[simp] theorem putRegion_mram (s : State) (x : RecRegion) : (putRegion s x).mram = { s.mram with recorder := x } := rfl
@[simp] theorem putRegion_backup (s : State) (x : RecRegion) : (putRegion s x).backup = s.backup := rfl
@[simp] theorem putRegion_power (s : State) (x : RecRegion) : (putRegion s x).power = s.power := rfl
@[simp] theorem putRegion_start (s : State) (x : RecRegion) : (putRegion s x).start = s.start := rfl
@[simp] theorem putRegion_server (s : State) (x : RecRegion) : (putRegion s x).server = s.server := rfl
@[simp] theorem putRegion_faults (s : State) (x : RecRegion) : (putRegion s x).faults = s.faults := rfl
@[simp] theorem putRegion_deferred (s : State) (x : RecRegion) : (putRegion s x).deferred = s.deferred := rfl
@[simp] theorem putRegion_keptHeld (s : State) (x : RecRegion) : (putRegion s x).keptHeld = s.keptHeld := rfl
@[simp] theorem putRegion_bookmarkDue (s : State) (x : RecRegion) : (putRegion s x).bookmarkDue = s.bookmarkDue := rfl
@[simp] theorem putRegion_logHeld (s : State) (x : RecRegion) : (putRegion s x).logHeld = s.logHeld := rfl
@[simp] theorem putRegion_durable (s : State) (x : RecRegion) : (putRegion s x).durable = s.durable := rfl
@[simp] theorem putRegion_mem (s : State) (x : RecRegion) : (putRegion s x).mem = s.mem := rfl
@[simp] theorem putRegion_zones (s : State) (x : RecRegion) : (putRegion s x).zones = s.zones := rfl
@[simp] theorem putRegion_engines (s : State) (x : RecRegion) : (putRegion s x).engines = s.engines := rfl
@[simp] theorem putRegion_lanes (s : State) (x : RecRegion) : (putRegion s x).lanes = s.lanes := rfl
@[simp] theorem putRegion_dma (s : State) (x : RecRegion) : (putRegion s x).dma = s.dma := rfl
@[simp] theorem putRegion_meter (s : State) (x : RecRegion) : (putRegion s x).meter = s.meter := rfl
@[simp] theorem putRegion_time (s : State) (x : RecRegion) : (putRegion s x).time = s.time := rfl
@[simp] theorem putRegion_bus (s : State) (x : RecRegion) : (putRegion s x).bus = s.bus := rfl
@[simp] theorem putRegion_air (s : State) (x : RecRegion) : (putRegion s x).air = s.air := rfl
@[simp] theorem putRegion_safety (s : State) (x : RecRegion) : (putRegion s x).safety = s.safety := rfl
@[simp] theorem putRegion_pair (s : State) (x : RecRegion) : (putRegion s x).pair = s.pair := rfl
@[simp] theorem putRegion_update (s : State) (x : RecRegion) : (putRegion s x).update = s.update := rfl
@[simp] theorem putRegion_recorder (s : State) (x : RecRegion) : (putRegion s x).recorder = s.recorder := rfl
@[simp] theorem putRegion_pads (s : State) (x : RecRegion) : (putRegion s x).pads = s.pads := rfl

/-! ### `putRec` -/

@[simp] theorem putRec_pending (s : State) (x : Recorder) : (putRec s x).pending = s.pending := rfl
@[simp] theorem putRec_clk (s : State) (x : Recorder) : (putRec s x).clk = s.clk := rfl
@[simp] theorem putRec_fresh (s : State) (x : Recorder) : (putRec s x).fresh = s.fresh := rfl
@[simp] theorem putRec_out (s : State) (x : Recorder) : (putRec s x).out = s.out := rfl
@[simp] theorem putRec_regs (s : State) (x : Recorder) : (putRec s x).regs = s.regs := rfl
@[simp] theorem putRec_mram (s : State) (x : Recorder) : (putRec s x).mram = s.mram := rfl
@[simp] theorem putRec_backup (s : State) (x : Recorder) : (putRec s x).backup = s.backup := rfl
@[simp] theorem putRec_power (s : State) (x : Recorder) : (putRec s x).power = s.power := rfl
@[simp] theorem putRec_start (s : State) (x : Recorder) : (putRec s x).start = s.start := rfl
@[simp] theorem putRec_server (s : State) (x : Recorder) : (putRec s x).server = s.server := rfl
@[simp] theorem putRec_faults (s : State) (x : Recorder) : (putRec s x).faults = s.faults := rfl
@[simp] theorem putRec_deferred (s : State) (x : Recorder) : (putRec s x).deferred = s.deferred := rfl
@[simp] theorem putRec_keptHeld (s : State) (x : Recorder) : (putRec s x).keptHeld = s.keptHeld := rfl
@[simp] theorem putRec_bookmarkDue (s : State) (x : Recorder) : (putRec s x).bookmarkDue = s.bookmarkDue := rfl
@[simp] theorem putRec_logHeld (s : State) (x : Recorder) : (putRec s x).logHeld = s.logHeld := rfl
@[simp] theorem putRec_durable (s : State) (x : Recorder) : (putRec s x).durable = s.durable := rfl
@[simp] theorem putRec_mem (s : State) (x : Recorder) : (putRec s x).mem = s.mem := rfl
@[simp] theorem putRec_zones (s : State) (x : Recorder) : (putRec s x).zones = s.zones := rfl
@[simp] theorem putRec_engines (s : State) (x : Recorder) : (putRec s x).engines = s.engines := rfl
@[simp] theorem putRec_lanes (s : State) (x : Recorder) : (putRec s x).lanes = s.lanes := rfl
@[simp] theorem putRec_dma (s : State) (x : Recorder) : (putRec s x).dma = s.dma := rfl
@[simp] theorem putRec_meter (s : State) (x : Recorder) : (putRec s x).meter = s.meter := rfl
@[simp] theorem putRec_time (s : State) (x : Recorder) : (putRec s x).time = s.time := rfl
@[simp] theorem putRec_bus (s : State) (x : Recorder) : (putRec s x).bus = s.bus := rfl
@[simp] theorem putRec_air (s : State) (x : Recorder) : (putRec s x).air = s.air := rfl
@[simp] theorem putRec_safety (s : State) (x : Recorder) : (putRec s x).safety = s.safety := rfl
@[simp] theorem putRec_pair (s : State) (x : Recorder) : (putRec s x).pair = s.pair := rfl
@[simp] theorem putRec_update (s : State) (x : Recorder) : (putRec s x).update = s.update := rfl
@[simp] theorem putRec_recorder (s : State) (x : Recorder) : (putRec s x).recorder = x := rfl
@[simp] theorem putRec_pads (s : State) (x : Recorder) : (putRec s x).pads = s.pads := rfl

/-! ### `setVal` and `setNum`: only the registers and the server's notifications change -/

@[simp] theorem setVal_pending (s : State) (k : Key) (v : Val) : (setVal s k v).pending = s.pending := by unfold setVal; split <;> rfl
@[simp] theorem setNum_pending (s : State) (k : Key) (n : Int) : (setNum s k n).pending = s.pending := setVal_pending s k (.num n)
@[simp] theorem touchVal_pending (s : State) (k : Key) (v : Val) : (touchVal s k v).pending = s.pending := rfl
@[simp] theorem bump_pending (s : State) (k : Key) : (bump s k).pending = s.pending := setNum_pending s k _
@[simp] theorem setBit_pending (s : State) (k : Key) (b : Nat) (v : Bool) : (setBit s k b v).pending = s.pending := setNum_pending s k _
@[simp] theorem setVal_clk (s : State) (k : Key) (v : Val) : (setVal s k v).clk = s.clk := by unfold setVal; split <;> rfl
@[simp] theorem setNum_clk (s : State) (k : Key) (n : Int) : (setNum s k n).clk = s.clk := setVal_clk s k (.num n)
@[simp] theorem touchVal_clk (s : State) (k : Key) (v : Val) : (touchVal s k v).clk = s.clk := rfl
@[simp] theorem bump_clk (s : State) (k : Key) : (bump s k).clk = s.clk := setNum_clk s k _
@[simp] theorem setBit_clk (s : State) (k : Key) (b : Nat) (v : Bool) : (setBit s k b v).clk = s.clk := setNum_clk s k _
@[simp] theorem setVal_fresh (s : State) (k : Key) (v : Val) : (setVal s k v).fresh = s.fresh := by unfold setVal; split <;> rfl
@[simp] theorem setNum_fresh (s : State) (k : Key) (n : Int) : (setNum s k n).fresh = s.fresh := setVal_fresh s k (.num n)
@[simp] theorem touchVal_fresh (s : State) (k : Key) (v : Val) : (touchVal s k v).fresh = s.fresh := rfl
@[simp] theorem bump_fresh (s : State) (k : Key) : (bump s k).fresh = s.fresh := setNum_fresh s k _
@[simp] theorem setBit_fresh (s : State) (k : Key) (b : Nat) (v : Bool) : (setBit s k b v).fresh = s.fresh := setNum_fresh s k _
@[simp] theorem setVal_out (s : State) (k : Key) (v : Val) : (setVal s k v).out = s.out := by unfold setVal; split <;> rfl
@[simp] theorem setNum_out (s : State) (k : Key) (n : Int) : (setNum s k n).out = s.out := setVal_out s k (.num n)
@[simp] theorem touchVal_out (s : State) (k : Key) (v : Val) : (touchVal s k v).out = s.out := rfl
@[simp] theorem bump_out (s : State) (k : Key) : (bump s k).out = s.out := setNum_out s k _
@[simp] theorem setBit_out (s : State) (k : Key) (b : Nat) (v : Bool) : (setBit s k b v).out = s.out := setNum_out s k _
@[simp] theorem setVal_mram (s : State) (k : Key) (v : Val) : (setVal s k v).mram = s.mram := by unfold setVal; split <;> rfl
@[simp] theorem setNum_mram (s : State) (k : Key) (n : Int) : (setNum s k n).mram = s.mram := setVal_mram s k (.num n)
@[simp] theorem touchVal_mram (s : State) (k : Key) (v : Val) : (touchVal s k v).mram = s.mram := rfl
@[simp] theorem bump_mram (s : State) (k : Key) : (bump s k).mram = s.mram := setNum_mram s k _
@[simp] theorem setBit_mram (s : State) (k : Key) (b : Nat) (v : Bool) : (setBit s k b v).mram = s.mram := setNum_mram s k _
@[simp] theorem setVal_backup (s : State) (k : Key) (v : Val) : (setVal s k v).backup = s.backup := by unfold setVal; split <;> rfl
@[simp] theorem setNum_backup (s : State) (k : Key) (n : Int) : (setNum s k n).backup = s.backup := setVal_backup s k (.num n)
@[simp] theorem touchVal_backup (s : State) (k : Key) (v : Val) : (touchVal s k v).backup = s.backup := rfl
@[simp] theorem bump_backup (s : State) (k : Key) : (bump s k).backup = s.backup := setNum_backup s k _
@[simp] theorem setBit_backup (s : State) (k : Key) (b : Nat) (v : Bool) : (setBit s k b v).backup = s.backup := setNum_backup s k _
@[simp] theorem setVal_power (s : State) (k : Key) (v : Val) : (setVal s k v).power = s.power := by unfold setVal; split <;> rfl
@[simp] theorem setNum_power (s : State) (k : Key) (n : Int) : (setNum s k n).power = s.power := setVal_power s k (.num n)
@[simp] theorem touchVal_power (s : State) (k : Key) (v : Val) : (touchVal s k v).power = s.power := rfl
@[simp] theorem bump_power (s : State) (k : Key) : (bump s k).power = s.power := setNum_power s k _
@[simp] theorem setBit_power (s : State) (k : Key) (b : Nat) (v : Bool) : (setBit s k b v).power = s.power := setNum_power s k _
@[simp] theorem setVal_start (s : State) (k : Key) (v : Val) : (setVal s k v).start = s.start := by unfold setVal; split <;> rfl
@[simp] theorem setNum_start (s : State) (k : Key) (n : Int) : (setNum s k n).start = s.start := setVal_start s k (.num n)
@[simp] theorem touchVal_start (s : State) (k : Key) (v : Val) : (touchVal s k v).start = s.start := rfl
@[simp] theorem bump_start (s : State) (k : Key) : (bump s k).start = s.start := setNum_start s k _
@[simp] theorem setBit_start (s : State) (k : Key) (b : Nat) (v : Bool) : (setBit s k b v).start = s.start := setNum_start s k _
@[simp] theorem setVal_faults (s : State) (k : Key) (v : Val) : (setVal s k v).faults = s.faults := by unfold setVal; split <;> rfl
@[simp] theorem setNum_faults (s : State) (k : Key) (n : Int) : (setNum s k n).faults = s.faults := setVal_faults s k (.num n)
@[simp] theorem touchVal_faults (s : State) (k : Key) (v : Val) : (touchVal s k v).faults = s.faults := rfl
@[simp] theorem bump_faults (s : State) (k : Key) : (bump s k).faults = s.faults := setNum_faults s k _
@[simp] theorem setBit_faults (s : State) (k : Key) (b : Nat) (v : Bool) : (setBit s k b v).faults = s.faults := setNum_faults s k _
@[simp] theorem setVal_deferred (s : State) (k : Key) (v : Val) : (setVal s k v).deferred = s.deferred := by unfold setVal; split <;> rfl
@[simp] theorem setNum_deferred (s : State) (k : Key) (n : Int) : (setNum s k n).deferred = s.deferred := setVal_deferred s k (.num n)
@[simp] theorem touchVal_deferred (s : State) (k : Key) (v : Val) : (touchVal s k v).deferred = s.deferred := rfl
@[simp] theorem bump_deferred (s : State) (k : Key) : (bump s k).deferred = s.deferred := setNum_deferred s k _
@[simp] theorem setBit_deferred (s : State) (k : Key) (b : Nat) (v : Bool) : (setBit s k b v).deferred = s.deferred := setNum_deferred s k _
@[simp] theorem setVal_keptHeld (s : State) (k : Key) (v : Val) : (setVal s k v).keptHeld = s.keptHeld := by unfold setVal; split <;> rfl
@[simp] theorem setNum_keptHeld (s : State) (k : Key) (n : Int) : (setNum s k n).keptHeld = s.keptHeld := setVal_keptHeld s k (.num n)
@[simp] theorem touchVal_keptHeld (s : State) (k : Key) (v : Val) : (touchVal s k v).keptHeld = s.keptHeld := rfl
@[simp] theorem bump_keptHeld (s : State) (k : Key) : (bump s k).keptHeld = s.keptHeld := setNum_keptHeld s k _
@[simp] theorem setBit_keptHeld (s : State) (k : Key) (b : Nat) (v : Bool) : (setBit s k b v).keptHeld = s.keptHeld := setNum_keptHeld s k _
@[simp] theorem setVal_bookmarkDue (s : State) (k : Key) (v : Val) : (setVal s k v).bookmarkDue = s.bookmarkDue := by unfold setVal; split <;> rfl
@[simp] theorem setNum_bookmarkDue (s : State) (k : Key) (n : Int) : (setNum s k n).bookmarkDue = s.bookmarkDue := setVal_bookmarkDue s k (.num n)
@[simp] theorem touchVal_bookmarkDue (s : State) (k : Key) (v : Val) : (touchVal s k v).bookmarkDue = s.bookmarkDue := rfl
@[simp] theorem bump_bookmarkDue (s : State) (k : Key) : (bump s k).bookmarkDue = s.bookmarkDue := setNum_bookmarkDue s k _
@[simp] theorem setBit_bookmarkDue (s : State) (k : Key) (b : Nat) (v : Bool) : (setBit s k b v).bookmarkDue = s.bookmarkDue := setNum_bookmarkDue s k _
@[simp] theorem setVal_logHeld (s : State) (k : Key) (v : Val) : (setVal s k v).logHeld = s.logHeld := by unfold setVal; split <;> rfl
@[simp] theorem setNum_logHeld (s : State) (k : Key) (n : Int) : (setNum s k n).logHeld = s.logHeld := setVal_logHeld s k (.num n)
@[simp] theorem touchVal_logHeld (s : State) (k : Key) (v : Val) : (touchVal s k v).logHeld = s.logHeld := rfl
@[simp] theorem bump_logHeld (s : State) (k : Key) : (bump s k).logHeld = s.logHeld := setNum_logHeld s k _
@[simp] theorem setBit_logHeld (s : State) (k : Key) (b : Nat) (v : Bool) : (setBit s k b v).logHeld = s.logHeld := setNum_logHeld s k _
@[simp] theorem setVal_durable (s : State) (k : Key) (v : Val) : (setVal s k v).durable = s.durable := by unfold setVal; split <;> rfl
@[simp] theorem setNum_durable (s : State) (k : Key) (n : Int) : (setNum s k n).durable = s.durable := setVal_durable s k (.num n)
@[simp] theorem touchVal_durable (s : State) (k : Key) (v : Val) : (touchVal s k v).durable = s.durable := rfl
@[simp] theorem bump_durable (s : State) (k : Key) : (bump s k).durable = s.durable := setNum_durable s k _
@[simp] theorem setBit_durable (s : State) (k : Key) (b : Nat) (v : Bool) : (setBit s k b v).durable = s.durable := setNum_durable s k _
@[simp] theorem setVal_mem (s : State) (k : Key) (v : Val) : (setVal s k v).mem = s.mem := by unfold setVal; split <;> rfl
@[simp] theorem setNum_mem (s : State) (k : Key) (n : Int) : (setNum s k n).mem = s.mem := setVal_mem s k (.num n)
@[simp] theorem touchVal_mem (s : State) (k : Key) (v : Val) : (touchVal s k v).mem = s.mem := rfl
@[simp] theorem bump_mem (s : State) (k : Key) : (bump s k).mem = s.mem := setNum_mem s k _
@[simp] theorem setBit_mem (s : State) (k : Key) (b : Nat) (v : Bool) : (setBit s k b v).mem = s.mem := setNum_mem s k _
@[simp] theorem setVal_zones (s : State) (k : Key) (v : Val) : (setVal s k v).zones = s.zones := by unfold setVal; split <;> rfl
@[simp] theorem setNum_zones (s : State) (k : Key) (n : Int) : (setNum s k n).zones = s.zones := setVal_zones s k (.num n)
@[simp] theorem touchVal_zones (s : State) (k : Key) (v : Val) : (touchVal s k v).zones = s.zones := rfl
@[simp] theorem bump_zones (s : State) (k : Key) : (bump s k).zones = s.zones := setNum_zones s k _
@[simp] theorem setBit_zones (s : State) (k : Key) (b : Nat) (v : Bool) : (setBit s k b v).zones = s.zones := setNum_zones s k _
@[simp] theorem setVal_engines (s : State) (k : Key) (v : Val) : (setVal s k v).engines = s.engines := by unfold setVal; split <;> rfl
@[simp] theorem setNum_engines (s : State) (k : Key) (n : Int) : (setNum s k n).engines = s.engines := setVal_engines s k (.num n)
@[simp] theorem touchVal_engines (s : State) (k : Key) (v : Val) : (touchVal s k v).engines = s.engines := rfl
@[simp] theorem bump_engines (s : State) (k : Key) : (bump s k).engines = s.engines := setNum_engines s k _
@[simp] theorem setBit_engines (s : State) (k : Key) (b : Nat) (v : Bool) : (setBit s k b v).engines = s.engines := setNum_engines s k _
@[simp] theorem setVal_lanes (s : State) (k : Key) (v : Val) : (setVal s k v).lanes = s.lanes := by unfold setVal; split <;> rfl
@[simp] theorem setNum_lanes (s : State) (k : Key) (n : Int) : (setNum s k n).lanes = s.lanes := setVal_lanes s k (.num n)
@[simp] theorem touchVal_lanes (s : State) (k : Key) (v : Val) : (touchVal s k v).lanes = s.lanes := rfl
@[simp] theorem bump_lanes (s : State) (k : Key) : (bump s k).lanes = s.lanes := setNum_lanes s k _
@[simp] theorem setBit_lanes (s : State) (k : Key) (b : Nat) (v : Bool) : (setBit s k b v).lanes = s.lanes := setNum_lanes s k _
@[simp] theorem setVal_dma (s : State) (k : Key) (v : Val) : (setVal s k v).dma = s.dma := by unfold setVal; split <;> rfl
@[simp] theorem setNum_dma (s : State) (k : Key) (n : Int) : (setNum s k n).dma = s.dma := setVal_dma s k (.num n)
@[simp] theorem touchVal_dma (s : State) (k : Key) (v : Val) : (touchVal s k v).dma = s.dma := rfl
@[simp] theorem bump_dma (s : State) (k : Key) : (bump s k).dma = s.dma := setNum_dma s k _
@[simp] theorem setBit_dma (s : State) (k : Key) (b : Nat) (v : Bool) : (setBit s k b v).dma = s.dma := setNum_dma s k _
@[simp] theorem setVal_meter (s : State) (k : Key) (v : Val) : (setVal s k v).meter = s.meter := by unfold setVal; split <;> rfl
@[simp] theorem setNum_meter (s : State) (k : Key) (n : Int) : (setNum s k n).meter = s.meter := setVal_meter s k (.num n)
@[simp] theorem touchVal_meter (s : State) (k : Key) (v : Val) : (touchVal s k v).meter = s.meter := rfl
@[simp] theorem bump_meter (s : State) (k : Key) : (bump s k).meter = s.meter := setNum_meter s k _
@[simp] theorem setBit_meter (s : State) (k : Key) (b : Nat) (v : Bool) : (setBit s k b v).meter = s.meter := setNum_meter s k _
@[simp] theorem setVal_time (s : State) (k : Key) (v : Val) : (setVal s k v).time = s.time := by unfold setVal; split <;> rfl
@[simp] theorem setNum_time (s : State) (k : Key) (n : Int) : (setNum s k n).time = s.time := setVal_time s k (.num n)
@[simp] theorem touchVal_time (s : State) (k : Key) (v : Val) : (touchVal s k v).time = s.time := rfl
@[simp] theorem bump_time (s : State) (k : Key) : (bump s k).time = s.time := setNum_time s k _
@[simp] theorem setBit_time (s : State) (k : Key) (b : Nat) (v : Bool) : (setBit s k b v).time = s.time := setNum_time s k _
@[simp] theorem setVal_bus (s : State) (k : Key) (v : Val) : (setVal s k v).bus = s.bus := by unfold setVal; split <;> rfl
@[simp] theorem setNum_bus (s : State) (k : Key) (n : Int) : (setNum s k n).bus = s.bus := setVal_bus s k (.num n)
@[simp] theorem touchVal_bus (s : State) (k : Key) (v : Val) : (touchVal s k v).bus = s.bus := rfl
@[simp] theorem bump_bus (s : State) (k : Key) : (bump s k).bus = s.bus := setNum_bus s k _
@[simp] theorem setBit_bus (s : State) (k : Key) (b : Nat) (v : Bool) : (setBit s k b v).bus = s.bus := setNum_bus s k _
@[simp] theorem setVal_air (s : State) (k : Key) (v : Val) : (setVal s k v).air = s.air := by unfold setVal; split <;> rfl
@[simp] theorem setNum_air (s : State) (k : Key) (n : Int) : (setNum s k n).air = s.air := setVal_air s k (.num n)
@[simp] theorem touchVal_air (s : State) (k : Key) (v : Val) : (touchVal s k v).air = s.air := rfl
@[simp] theorem bump_air (s : State) (k : Key) : (bump s k).air = s.air := setNum_air s k _
@[simp] theorem setBit_air (s : State) (k : Key) (b : Nat) (v : Bool) : (setBit s k b v).air = s.air := setNum_air s k _
@[simp] theorem setVal_safety (s : State) (k : Key) (v : Val) : (setVal s k v).safety = s.safety := by unfold setVal; split <;> rfl
@[simp] theorem setNum_safety (s : State) (k : Key) (n : Int) : (setNum s k n).safety = s.safety := setVal_safety s k (.num n)
@[simp] theorem touchVal_safety (s : State) (k : Key) (v : Val) : (touchVal s k v).safety = s.safety := rfl
@[simp] theorem bump_safety (s : State) (k : Key) : (bump s k).safety = s.safety := setNum_safety s k _
@[simp] theorem setBit_safety (s : State) (k : Key) (b : Nat) (v : Bool) : (setBit s k b v).safety = s.safety := setNum_safety s k _
@[simp] theorem setVal_pair (s : State) (k : Key) (v : Val) : (setVal s k v).pair = s.pair := by unfold setVal; split <;> rfl
@[simp] theorem setNum_pair (s : State) (k : Key) (n : Int) : (setNum s k n).pair = s.pair := setVal_pair s k (.num n)
@[simp] theorem touchVal_pair (s : State) (k : Key) (v : Val) : (touchVal s k v).pair = s.pair := rfl
@[simp] theorem bump_pair (s : State) (k : Key) : (bump s k).pair = s.pair := setNum_pair s k _
@[simp] theorem setBit_pair (s : State) (k : Key) (b : Nat) (v : Bool) : (setBit s k b v).pair = s.pair := setNum_pair s k _
@[simp] theorem setVal_update (s : State) (k : Key) (v : Val) : (setVal s k v).update = s.update := by unfold setVal; split <;> rfl
@[simp] theorem setNum_update (s : State) (k : Key) (n : Int) : (setNum s k n).update = s.update := setVal_update s k (.num n)
@[simp] theorem touchVal_update (s : State) (k : Key) (v : Val) : (touchVal s k v).update = s.update := rfl
@[simp] theorem bump_update (s : State) (k : Key) : (bump s k).update = s.update := setNum_update s k _
@[simp] theorem setBit_update (s : State) (k : Key) (b : Nat) (v : Bool) : (setBit s k b v).update = s.update := setNum_update s k _
@[simp] theorem setVal_recorder (s : State) (k : Key) (v : Val) : (setVal s k v).recorder = s.recorder := by unfold setVal; split <;> rfl
@[simp] theorem setNum_recorder (s : State) (k : Key) (n : Int) : (setNum s k n).recorder = s.recorder := setVal_recorder s k (.num n)
@[simp] theorem touchVal_recorder (s : State) (k : Key) (v : Val) : (touchVal s k v).recorder = s.recorder := rfl
@[simp] theorem bump_recorder (s : State) (k : Key) : (bump s k).recorder = s.recorder := setNum_recorder s k _
@[simp] theorem setBit_recorder (s : State) (k : Key) (b : Nat) (v : Bool) : (setBit s k b v).recorder = s.recorder := setNum_recorder s k _
@[simp] theorem setVal_pads (s : State) (k : Key) (v : Val) : (setVal s k v).pads = s.pads := by unfold setVal; split <;> rfl
@[simp] theorem setNum_pads (s : State) (k : Key) (n : Int) : (setNum s k n).pads = s.pads := setVal_pads s k (.num n)
@[simp] theorem touchVal_pads (s : State) (k : Key) (v : Val) : (touchVal s k v).pads = s.pads := rfl
@[simp] theorem bump_pads (s : State) (k : Key) : (bump s k).pads = s.pads := setNum_pads s k _
@[simp] theorem setBit_pads (s : State) (k : Key) (b : Nat) (v : Bool) : (setBit s k b v).pads = s.pads := setNum_pads s k _

/-! ### Readers -/

/-- A register just written holds its value; every other register stands. -/
@[simp] theorem reg_setVal (s : State) (k j : Key) (v : Val) : reg (setVal s k v) j = if j = k then v else reg s j := by
  unfold setVal
  split
  · rename_i h; by_cases e : j = k
    · subst e; simp [h]
    · simp [e]
  · by_cases e : j = k
    · subst e; simp [reg]
    · simp [reg, e]

@[simp] theorem reg_setNum (s : State) (k j : Key) (n : Int) : reg (setNum s k n) j = if j = k then .num n else reg s j := reg_setVal s k j _

@[simp] theorem num_setNum (s : State) (k j : Key) (n : Int) : num (setNum s k n) j = if j = k then n else num s j := by
  unfold num; rw [reg_setNum]; split <;> rfl

/-- R78: registers that hold the same table read the same. -/
theorem reg_congr {s t : State} (h : t.regs = s.regs) (k : Key) : reg t k = reg s k := by unfold reg; rw [h]

/-- A bump adds 1 modulo 2³² to its counter and changes no other register. -/
@[simp] theorem num_bump (s : State) (k j : Key) : num (bump s k) j = if j = k then (num s k + 1) % 2 ^ 32 else num s j := by
  unfold bump; rw [num_setNum]

@[simp] theorem engine_putEngine (s : State) (k j : Nat) (x : Engine) : engine (putEngine s k x) j = if j = k then x else engine s j := by
  simp only [engine, putEngine, tabFind_tabPut]; split <;> rfl
@[simp] theorem lane_putLane (s : State) (k j : Nat) (x : Lane) : lane (putLane s k x) j = if j = k then x else lane s j := by
  simp only [lane, putLane, tabFind_tabPut]; split <;> rfl
@[simp] theorem base_putBase (s : State) (k j : Nat) (x : Base) : base (putBase s k x) j = if j = k then x else base s j := by
  simp only [base, putBase, tabFind_tabPut]; split <;> rfl
@[simp] theorem session_putSession (s : State) (k j : Nat) (x : Session) : session (putSession s k x) j = if j = k then x else session s j := by
  simp only [session, putSession, tabFind_tabPut]; split <;> rfl
@[simp] theorem faultSrc_putFault (s : State) (k j : Nat) (x : FaultSrc) : faultSrc (putFault s k x) j = if j = k then x else faultSrc s j := by
  simp only [faultSrc, putFault, tabFind_tabPut]; split <;> rfl
@[simp] theorem partner_putPartner (s : State) (k j : Nat) (x : Partner) : partner (putPartner s k x) j = if j = k then x else partner s j := by
  simp only [partner, putPartner, tabFind_tabPut]; split <;> rfl
@[simp] theorem area_putArea (s : State) (k j : Nat) (x : Area) : area (putArea s k x) j = if j = k then x else area s j := by
  simp only [area, putArea, tabFind_tabPut]; split <;> rfl
@[simp] theorem ptp_putPtp (s : State) (k j : Nat) (x : Ptp) : ptp (putPtp s k x) j = if j = k then x else ptp s j := by
  simp only [ptp, putPtp, tabFind_tabPut]; split <;> rfl
@[simp] theorem channel_putChannel (s : State) (k j : Nat) (x : Chan) : channel (putChannel s k x) j = if j = k then x else channel s j := by
  simp only [channel, putChannel, tabFind_tabPut]; split <;> rfl
@[simp] theorem bus_putBus (s : State) (k j : Nat) (x : Bus) : bus (putBus s k x) j = if j = k then x else bus s j := by
  simp only [bus, putBus, tabFind_tabPut]; split <;> rfl

/-! ### Registers beside an update of something else, and records beside an update of the registers -/

@[simp] theorem reg_store (s : State) (a : Nat) (b : Bytes) (j : Key) : reg (store s a b) j = reg s j := rfl
@[simp] theorem num_store (s : State) (a : Nat) (b : Bytes) (j : Key) : num (store s a b) j = num s j := rfl
@[simp] theorem nat_store (s : State) (a : Nat) (b : Bytes) (j : Key) : nat (store s a b) j = nat s j := rfl
@[simp] theorem flag_store (s : State) (a : Nat) (b : Bytes) (j : Key) : flag (store s a b) j = flag s j := rfl
@[simp] theorem reg_emit (s : State) (o : Out) (j : Key) : reg (emit s o) j = reg s j := rfl
@[simp] theorem num_emit (s : State) (o : Out) (j : Key) : num (emit s o) j = num s j := rfl
@[simp] theorem nat_emit (s : State) (o : Out) (j : Key) : nat (emit s o) j = nat s j := rfl
@[simp] theorem flag_emit (s : State) (o : Out) (j : Key) : flag (emit s o) j = flag s j := rfl
@[simp] theorem reg_putBase (s : State) (n : Nat) (b : Base) (j : Key) : reg (putBase s n b) j = reg s j := rfl
@[simp] theorem num_putBase (s : State) (n : Nat) (b : Base) (j : Key) : num (putBase s n b) j = num s j := rfl
@[simp] theorem nat_putBase (s : State) (n : Nat) (b : Base) (j : Key) : nat (putBase s n b) j = nat s j := rfl
@[simp] theorem flag_putBase (s : State) (n : Nat) (b : Base) (j : Key) : flag (putBase s n b) j = flag s j := rfl
@[simp] theorem reg_putFault (s : State) (n : Nat) (f : FaultSrc) (j : Key) : reg (putFault s n f) j = reg s j := rfl
@[simp] theorem num_putFault (s : State) (n : Nat) (f : FaultSrc) (j : Key) : num (putFault s n f) j = num s j := rfl
@[simp] theorem nat_putFault (s : State) (n : Nat) (f : FaultSrc) (j : Key) : nat (putFault s n f) j = nat s j := rfl
@[simp] theorem flag_putFault (s : State) (n : Nat) (f : FaultSrc) (j : Key) : flag (putFault s n f) j = flag s j := rfl
@[simp] theorem reg_putSession (s : State) (n : Nat) (x : Session) (j : Key) : reg (putSession s n x) j = reg s j := rfl
@[simp] theorem num_putSession (s : State) (n : Nat) (x : Session) (j : Key) : num (putSession s n x) j = num s j := rfl
@[simp] theorem nat_putSession (s : State) (n : Nat) (x : Session) (j : Key) : nat (putSession s n x) j = nat s j := rfl
@[simp] theorem flag_putSession (s : State) (n : Nat) (x : Session) (j : Key) : flag (putSession s n x) j = flag s j := rfl
@[simp] theorem reg_putDomain (s : State) (k : Key) (b : Bytes) (j : Key) : reg (putDomain s k b) j = reg s j := rfl
@[simp] theorem num_putDomain (s : State) (k : Key) (b : Bytes) (j : Key) : num (putDomain s k b) j = num s j := rfl
@[simp] theorem nat_putDomain (s : State) (k : Key) (b : Bytes) (j : Key) : nat (putDomain s k b) j = nat s j := rfl
@[simp] theorem flag_putDomain (s : State) (k : Key) (b : Bytes) (j : Key) : flag (putDomain s k b) j = flag s j := rfl
@[simp] theorem reg_putArea (s : State) (n : Nat) (x : Area) (j : Key) : reg (putArea s n x) j = reg s j := rfl
@[simp] theorem num_putArea (s : State) (n : Nat) (x : Area) (j : Key) : num (putArea s n x) j = num s j := rfl
@[simp] theorem nat_putArea (s : State) (n : Nat) (x : Area) (j : Key) : nat (putArea s n x) j = nat s j := rfl
@[simp] theorem flag_putArea (s : State) (n : Nat) (x : Area) (j : Key) : flag (putArea s n x) j = flag s j := rfl
@[simp] theorem reg_putEngine (s : State) (k : Nat) (e : Engine) (j : Key) : reg (putEngine s k e) j = reg s j := rfl
@[simp] theorem num_putEngine (s : State) (k : Nat) (e : Engine) (j : Key) : num (putEngine s k e) j = num s j := rfl
@[simp] theorem nat_putEngine (s : State) (k : Nat) (e : Engine) (j : Key) : nat (putEngine s k e) j = nat s j := rfl
@[simp] theorem flag_putEngine (s : State) (k : Nat) (e : Engine) (j : Key) : flag (putEngine s k e) j = flag s j := rfl
@[simp] theorem reg_putLane (s : State) (n : Nat) (x : Lane) (j : Key) : reg (putLane s n x) j = reg s j := rfl
@[simp] theorem num_putLane (s : State) (n : Nat) (x : Lane) (j : Key) : num (putLane s n x) j = num s j := rfl
@[simp] theorem nat_putLane (s : State) (n : Nat) (x : Lane) (j : Key) : nat (putLane s n x) j = nat s j := rfl
@[simp] theorem flag_putLane (s : State) (n : Nat) (x : Lane) (j : Key) : flag (putLane s n x) j = flag s j := rfl
@[simp] theorem reg_putChannel (s : State) (n : Nat) (x : Chan) (j : Key) : reg (putChannel s n x) j = reg s j := rfl
@[simp] theorem num_putChannel (s : State) (n : Nat) (x : Chan) (j : Key) : num (putChannel s n x) j = num s j := rfl
@[simp] theorem nat_putChannel (s : State) (n : Nat) (x : Chan) (j : Key) : nat (putChannel s n x) j = nat s j := rfl
@[simp] theorem flag_putChannel (s : State) (n : Nat) (x : Chan) (j : Key) : flag (putChannel s n x) j = flag s j := rfl
@[simp] theorem reg_putMeter (s : State) (x : Meter) (j : Key) : reg (putMeter s x) j = reg s j := rfl
@[simp] theorem num_putMeter (s : State) (x : Meter) (j : Key) : num (putMeter s x) j = num s j := rfl
@[simp] theorem nat_putMeter (s : State) (x : Meter) (j : Key) : nat (putMeter s x) j = nat s j := rfl
@[simp] theorem flag_putMeter (s : State) (x : Meter) (j : Key) : flag (putMeter s x) j = flag s j := rfl
@[simp] theorem reg_putPulse (s : State) (n : Nat) (x : PulseOut) (j : Key) : reg (putPulse s n x) j = reg s j := rfl
@[simp] theorem num_putPulse (s : State) (n : Nat) (x : PulseOut) (j : Key) : num (putPulse s n x) j = num s j := rfl
@[simp] theorem nat_putPulse (s : State) (n : Nat) (x : PulseOut) (j : Key) : nat (putPulse s n x) j = nat s j := rfl
@[simp] theorem flag_putPulse (s : State) (n : Nat) (x : PulseOut) (j : Key) : flag (putPulse s n x) j = flag s j := rfl
@[simp] theorem reg_putPtp (s : State) (n : Nat) (x : Ptp) (j : Key) : reg (putPtp s n x) j = reg s j := rfl
@[simp] theorem num_putPtp (s : State) (n : Nat) (x : Ptp) (j : Key) : num (putPtp s n x) j = num s j := rfl
@[simp] theorem nat_putPtp (s : State) (n : Nat) (x : Ptp) (j : Key) : nat (putPtp s n x) j = nat s j := rfl
@[simp] theorem flag_putPtp (s : State) (n : Nat) (x : Ptp) (j : Key) : flag (putPtp s n x) j = flag s j := rfl
@[simp] theorem reg_putBus (s : State) (n : Nat) (x : Bus) (j : Key) : reg (putBus s n x) j = reg s j := rfl
@[simp] theorem num_putBus (s : State) (n : Nat) (x : Bus) (j : Key) : num (putBus s n x) j = num s j := rfl
@[simp] theorem nat_putBus (s : State) (n : Nat) (x : Bus) (j : Key) : nat (putBus s n x) j = nat s j := rfl
@[simp] theorem flag_putBus (s : State) (n : Nat) (x : Bus) (j : Key) : flag (putBus s n x) j = flag s j := rfl
@[simp] theorem reg_putPartner (s : State) (n : Nat) (x : Partner) (j : Key) : reg (putPartner s n x) j = reg s j := rfl
@[simp] theorem num_putPartner (s : State) (n : Nat) (x : Partner) (j : Key) : num (putPartner s n x) j = num s j := rfl
@[simp] theorem nat_putPartner (s : State) (n : Nat) (x : Partner) (j : Key) : nat (putPartner s n x) j = nat s j := rfl
@[simp] theorem flag_putPartner (s : State) (n : Nat) (x : Partner) (j : Key) : flag (putPartner s n x) j = flag s j := rfl
@[simp] theorem reg_putGpio (s : State) (n : Nat) (x : Gpio) (j : Key) : reg (putGpio s n x) j = reg s j := rfl
@[simp] theorem num_putGpio (s : State) (n : Nat) (x : Gpio) (j : Key) : num (putGpio s n x) j = num s j := rfl
@[simp] theorem nat_putGpio (s : State) (n : Nat) (x : Gpio) (j : Key) : nat (putGpio s n x) j = nat s j := rfl
@[simp] theorem flag_putGpio (s : State) (n : Nat) (x : Gpio) (j : Key) : flag (putGpio s n x) j = flag s j := rfl
@[simp] theorem reg_putFolios (s : State) (x : Folios) (j : Key) : reg (putFolios s x) j = reg s j := rfl
@[simp] theorem num_putFolios (s : State) (x : Folios) (j : Key) : num (putFolios s x) j = num s j := rfl
@[simp] theorem nat_putFolios (s : State) (x : Folios) (j : Key) : nat (putFolios s x) j = nat s j := rfl
@[simp] theorem flag_putFolios (s : State) (x : Folios) (j : Key) : flag (putFolios s x) j = flag s j := rfl
@[simp] theorem reg_putRegion (s : State) (x : RecRegion) (j : Key) : reg (putRegion s x) j = reg s j := rfl
@[simp] theorem num_putRegion (s : State) (x : RecRegion) (j : Key) : num (putRegion s x) j = num s j := rfl
@[simp] theorem nat_putRegion (s : State) (x : RecRegion) (j : Key) : nat (putRegion s x) j = nat s j := rfl
@[simp] theorem flag_putRegion (s : State) (x : RecRegion) (j : Key) : flag (putRegion s x) j = flag s j := rfl
@[simp] theorem reg_putRec (s : State) (x : Recorder) (j : Key) : reg (putRec s x) j = reg s j := rfl
@[simp] theorem num_putRec (s : State) (x : Recorder) (j : Key) : num (putRec s x) j = num s j := rfl
@[simp] theorem nat_putRec (s : State) (x : Recorder) (j : Key) : nat (putRec s x) j = nat s j := rfl
@[simp] theorem flag_putRec (s : State) (x : Recorder) (j : Key) : flag (putRec s x) j = flag s j := rfl
@[simp] theorem engine_setVal (s : State) (k : Key) (v : Val) (j : Nat) : engine (setVal s k v) j = engine s j := by unfold engine; rw [setVal_engines]
@[simp] theorem engine_setNum (s : State) (k : Key) (v : Int) (j : Nat) : engine (setNum s k v) j = engine s j := engine_setVal s k _ j
@[simp] theorem engine_bump (s : State) (k : Key) (j : Nat) : engine (bump s k) j = engine s j := engine_setNum s k _ j
@[simp] theorem engine_store (s : State) (a : Nat) (b : Bytes) (j : Nat) : engine (store s a b) j = engine s j := rfl
@[simp] theorem engine_emit (s : State) (o : Out) (j : Nat) : engine (emit s o) j = engine s j := rfl
@[simp] theorem engine_putBase (s : State) (n : Nat) (b : Base) (j : Nat) : engine (putBase s n b) j = engine s j := rfl
@[simp] theorem engine_putFault (s : State) (n : Nat) (f : FaultSrc) (j : Nat) : engine (putFault s n f) j = engine s j := rfl
@[simp] theorem engine_putSession (s : State) (n : Nat) (x : Session) (j : Nat) : engine (putSession s n x) j = engine s j := rfl
@[simp] theorem engine_putDomain (s : State) (k : Key) (b : Bytes) (j : Nat) : engine (putDomain s k b) j = engine s j := rfl
@[simp] theorem engine_putArea (s : State) (n : Nat) (x : Area) (j : Nat) : engine (putArea s n x) j = engine s j := rfl
@[simp] theorem engine_putLane (s : State) (n : Nat) (x : Lane) (j : Nat) : engine (putLane s n x) j = engine s j := rfl
@[simp] theorem engine_putChannel (s : State) (n : Nat) (x : Chan) (j : Nat) : engine (putChannel s n x) j = engine s j := rfl
@[simp] theorem engine_putMeter (s : State) (x : Meter) (j : Nat) : engine (putMeter s x) j = engine s j := rfl
@[simp] theorem engine_putPulse (s : State) (n : Nat) (x : PulseOut) (j : Nat) : engine (putPulse s n x) j = engine s j := rfl
@[simp] theorem engine_putPtp (s : State) (n : Nat) (x : Ptp) (j : Nat) : engine (putPtp s n x) j = engine s j := rfl
@[simp] theorem engine_putBus (s : State) (n : Nat) (x : Bus) (j : Nat) : engine (putBus s n x) j = engine s j := rfl
@[simp] theorem engine_putPartner (s : State) (n : Nat) (x : Partner) (j : Nat) : engine (putPartner s n x) j = engine s j := rfl
@[simp] theorem engine_putGpio (s : State) (n : Nat) (x : Gpio) (j : Nat) : engine (putGpio s n x) j = engine s j := rfl
@[simp] theorem engine_putFolios (s : State) (x : Folios) (j : Nat) : engine (putFolios s x) j = engine s j := rfl
@[simp] theorem engine_putRegion (s : State) (x : RecRegion) (j : Nat) : engine (putRegion s x) j = engine s j := rfl
@[simp] theorem engine_putRec (s : State) (x : Recorder) (j : Nat) : engine (putRec s x) j = engine s j := rfl
@[simp] theorem lane_setVal (s : State) (k : Key) (v : Val) (j : Nat) : lane (setVal s k v) j = lane s j := by unfold lane; rw [setVal_lanes]
@[simp] theorem lane_setNum (s : State) (k : Key) (v : Int) (j : Nat) : lane (setNum s k v) j = lane s j := lane_setVal s k _ j
@[simp] theorem lane_bump (s : State) (k : Key) (j : Nat) : lane (bump s k) j = lane s j := lane_setNum s k _ j
@[simp] theorem lane_store (s : State) (a : Nat) (b : Bytes) (j : Nat) : lane (store s a b) j = lane s j := rfl
@[simp] theorem lane_emit (s : State) (o : Out) (j : Nat) : lane (emit s o) j = lane s j := rfl
@[simp] theorem lane_putBase (s : State) (n : Nat) (b : Base) (j : Nat) : lane (putBase s n b) j = lane s j := rfl
@[simp] theorem lane_putFault (s : State) (n : Nat) (f : FaultSrc) (j : Nat) : lane (putFault s n f) j = lane s j := rfl
@[simp] theorem lane_putSession (s : State) (n : Nat) (x : Session) (j : Nat) : lane (putSession s n x) j = lane s j := rfl
@[simp] theorem lane_putDomain (s : State) (k : Key) (b : Bytes) (j : Nat) : lane (putDomain s k b) j = lane s j := rfl
@[simp] theorem lane_putArea (s : State) (n : Nat) (x : Area) (j : Nat) : lane (putArea s n x) j = lane s j := rfl
@[simp] theorem lane_putEngine (s : State) (k : Nat) (e : Engine) (j : Nat) : lane (putEngine s k e) j = lane s j := rfl
@[simp] theorem lane_putChannel (s : State) (n : Nat) (x : Chan) (j : Nat) : lane (putChannel s n x) j = lane s j := rfl
@[simp] theorem lane_putMeter (s : State) (x : Meter) (j : Nat) : lane (putMeter s x) j = lane s j := rfl
@[simp] theorem lane_putPulse (s : State) (n : Nat) (x : PulseOut) (j : Nat) : lane (putPulse s n x) j = lane s j := rfl
@[simp] theorem lane_putPtp (s : State) (n : Nat) (x : Ptp) (j : Nat) : lane (putPtp s n x) j = lane s j := rfl
@[simp] theorem lane_putBus (s : State) (n : Nat) (x : Bus) (j : Nat) : lane (putBus s n x) j = lane s j := rfl
@[simp] theorem lane_putPartner (s : State) (n : Nat) (x : Partner) (j : Nat) : lane (putPartner s n x) j = lane s j := rfl
@[simp] theorem lane_putGpio (s : State) (n : Nat) (x : Gpio) (j : Nat) : lane (putGpio s n x) j = lane s j := rfl
@[simp] theorem lane_putFolios (s : State) (x : Folios) (j : Nat) : lane (putFolios s x) j = lane s j := rfl
@[simp] theorem lane_putRegion (s : State) (x : RecRegion) (j : Nat) : lane (putRegion s x) j = lane s j := rfl
@[simp] theorem lane_putRec (s : State) (x : Recorder) (j : Nat) : lane (putRec s x) j = lane s j := rfl
@[simp] theorem base_setVal (s : State) (k : Key) (v : Val) (j : Nat) : base (setVal s k v) j = base s j := by unfold base; rw [setVal_time]
@[simp] theorem base_setNum (s : State) (k : Key) (v : Int) (j : Nat) : base (setNum s k v) j = base s j := base_setVal s k _ j
@[simp] theorem base_bump (s : State) (k : Key) (j : Nat) : base (bump s k) j = base s j := base_setNum s k _ j
@[simp] theorem base_store (s : State) (a : Nat) (b : Bytes) (j : Nat) : base (store s a b) j = base s j := rfl
@[simp] theorem base_emit (s : State) (o : Out) (j : Nat) : base (emit s o) j = base s j := rfl
@[simp] theorem base_putFault (s : State) (n : Nat) (f : FaultSrc) (j : Nat) : base (putFault s n f) j = base s j := rfl
@[simp] theorem base_putSession (s : State) (n : Nat) (x : Session) (j : Nat) : base (putSession s n x) j = base s j := rfl
@[simp] theorem base_putDomain (s : State) (k : Key) (b : Bytes) (j : Nat) : base (putDomain s k b) j = base s j := rfl
@[simp] theorem base_putArea (s : State) (n : Nat) (x : Area) (j : Nat) : base (putArea s n x) j = base s j := rfl
@[simp] theorem base_putEngine (s : State) (k : Nat) (e : Engine) (j : Nat) : base (putEngine s k e) j = base s j := rfl
@[simp] theorem base_putLane (s : State) (n : Nat) (x : Lane) (j : Nat) : base (putLane s n x) j = base s j := rfl
@[simp] theorem base_putChannel (s : State) (n : Nat) (x : Chan) (j : Nat) : base (putChannel s n x) j = base s j := rfl
@[simp] theorem base_putMeter (s : State) (x : Meter) (j : Nat) : base (putMeter s x) j = base s j := rfl
@[simp] theorem base_putPulse (s : State) (n : Nat) (x : PulseOut) (j : Nat) : base (putPulse s n x) j = base s j := rfl
@[simp] theorem base_putBus (s : State) (n : Nat) (x : Bus) (j : Nat) : base (putBus s n x) j = base s j := rfl
@[simp] theorem base_putPartner (s : State) (n : Nat) (x : Partner) (j : Nat) : base (putPartner s n x) j = base s j := rfl
@[simp] theorem base_putGpio (s : State) (n : Nat) (x : Gpio) (j : Nat) : base (putGpio s n x) j = base s j := rfl
@[simp] theorem base_putFolios (s : State) (x : Folios) (j : Nat) : base (putFolios s x) j = base s j := rfl
@[simp] theorem base_putRegion (s : State) (x : RecRegion) (j : Nat) : base (putRegion s x) j = base s j := rfl
@[simp] theorem base_putRec (s : State) (x : Recorder) (j : Nat) : base (putRec s x) j = base s j := rfl
@[simp] theorem session_store (s : State) (a : Nat) (b : Bytes) (j : Nat) : session (store s a b) j = session s j := rfl
@[simp] theorem session_emit (s : State) (o : Out) (j : Nat) : session (emit s o) j = session s j := rfl
@[simp] theorem session_putBase (s : State) (n : Nat) (b : Base) (j : Nat) : session (putBase s n b) j = session s j := rfl
@[simp] theorem session_putFault (s : State) (n : Nat) (f : FaultSrc) (j : Nat) : session (putFault s n f) j = session s j := rfl
@[simp] theorem session_putDomain (s : State) (k : Key) (b : Bytes) (j : Nat) : session (putDomain s k b) j = session s j := rfl
@[simp] theorem session_putArea (s : State) (n : Nat) (x : Area) (j : Nat) : session (putArea s n x) j = session s j := rfl
@[simp] theorem session_putEngine (s : State) (k : Nat) (e : Engine) (j : Nat) : session (putEngine s k e) j = session s j := rfl
@[simp] theorem session_putLane (s : State) (n : Nat) (x : Lane) (j : Nat) : session (putLane s n x) j = session s j := rfl
@[simp] theorem session_putChannel (s : State) (n : Nat) (x : Chan) (j : Nat) : session (putChannel s n x) j = session s j := rfl
@[simp] theorem session_putMeter (s : State) (x : Meter) (j : Nat) : session (putMeter s x) j = session s j := rfl
@[simp] theorem session_putPulse (s : State) (n : Nat) (x : PulseOut) (j : Nat) : session (putPulse s n x) j = session s j := rfl
@[simp] theorem session_putPtp (s : State) (n : Nat) (x : Ptp) (j : Nat) : session (putPtp s n x) j = session s j := rfl
@[simp] theorem session_putBus (s : State) (n : Nat) (x : Bus) (j : Nat) : session (putBus s n x) j = session s j := rfl
@[simp] theorem session_putPartner (s : State) (n : Nat) (x : Partner) (j : Nat) : session (putPartner s n x) j = session s j := rfl
@[simp] theorem session_putGpio (s : State) (n : Nat) (x : Gpio) (j : Nat) : session (putGpio s n x) j = session s j := rfl
@[simp] theorem session_putFolios (s : State) (x : Folios) (j : Nat) : session (putFolios s x) j = session s j := rfl
@[simp] theorem session_putRegion (s : State) (x : RecRegion) (j : Nat) : session (putRegion s x) j = session s j := rfl
@[simp] theorem session_putRec (s : State) (x : Recorder) (j : Nat) : session (putRec s x) j = session s j := rfl
@[simp] theorem faultSrc_setVal (s : State) (k : Key) (v : Val) (j : Nat) : faultSrc (setVal s k v) j = faultSrc s j := by unfold faultSrc; rw [setVal_faults]
@[simp] theorem faultSrc_setNum (s : State) (k : Key) (v : Int) (j : Nat) : faultSrc (setNum s k v) j = faultSrc s j := faultSrc_setVal s k _ j
@[simp] theorem faultSrc_bump (s : State) (k : Key) (j : Nat) : faultSrc (bump s k) j = faultSrc s j := faultSrc_setNum s k _ j
@[simp] theorem faultSrc_store (s : State) (a : Nat) (b : Bytes) (j : Nat) : faultSrc (store s a b) j = faultSrc s j := rfl
@[simp] theorem faultSrc_emit (s : State) (o : Out) (j : Nat) : faultSrc (emit s o) j = faultSrc s j := rfl
@[simp] theorem faultSrc_putBase (s : State) (n : Nat) (b : Base) (j : Nat) : faultSrc (putBase s n b) j = faultSrc s j := rfl
@[simp] theorem faultSrc_putSession (s : State) (n : Nat) (x : Session) (j : Nat) : faultSrc (putSession s n x) j = faultSrc s j := rfl
@[simp] theorem faultSrc_putDomain (s : State) (k : Key) (b : Bytes) (j : Nat) : faultSrc (putDomain s k b) j = faultSrc s j := rfl
@[simp] theorem faultSrc_putArea (s : State) (n : Nat) (x : Area) (j : Nat) : faultSrc (putArea s n x) j = faultSrc s j := rfl
@[simp] theorem faultSrc_putEngine (s : State) (k : Nat) (e : Engine) (j : Nat) : faultSrc (putEngine s k e) j = faultSrc s j := rfl
@[simp] theorem faultSrc_putLane (s : State) (n : Nat) (x : Lane) (j : Nat) : faultSrc (putLane s n x) j = faultSrc s j := rfl
@[simp] theorem faultSrc_putChannel (s : State) (n : Nat) (x : Chan) (j : Nat) : faultSrc (putChannel s n x) j = faultSrc s j := rfl
@[simp] theorem faultSrc_putMeter (s : State) (x : Meter) (j : Nat) : faultSrc (putMeter s x) j = faultSrc s j := rfl
@[simp] theorem faultSrc_putPulse (s : State) (n : Nat) (x : PulseOut) (j : Nat) : faultSrc (putPulse s n x) j = faultSrc s j := rfl
@[simp] theorem faultSrc_putPtp (s : State) (n : Nat) (x : Ptp) (j : Nat) : faultSrc (putPtp s n x) j = faultSrc s j := rfl
@[simp] theorem faultSrc_putBus (s : State) (n : Nat) (x : Bus) (j : Nat) : faultSrc (putBus s n x) j = faultSrc s j := rfl
@[simp] theorem faultSrc_putPartner (s : State) (n : Nat) (x : Partner) (j : Nat) : faultSrc (putPartner s n x) j = faultSrc s j := rfl
@[simp] theorem faultSrc_putGpio (s : State) (n : Nat) (x : Gpio) (j : Nat) : faultSrc (putGpio s n x) j = faultSrc s j := rfl
@[simp] theorem faultSrc_putFolios (s : State) (x : Folios) (j : Nat) : faultSrc (putFolios s x) j = faultSrc s j := rfl
@[simp] theorem faultSrc_putRegion (s : State) (x : RecRegion) (j : Nat) : faultSrc (putRegion s x) j = faultSrc s j := rfl
@[simp] theorem faultSrc_putRec (s : State) (x : Recorder) (j : Nat) : faultSrc (putRec s x) j = faultSrc s j := rfl
@[simp] theorem partner_setVal (s : State) (k : Key) (v : Val) (j : Nat) : partner (setVal s k v) j = partner s j := by unfold partner; rw [setVal_air]
@[simp] theorem partner_setNum (s : State) (k : Key) (v : Int) (j : Nat) : partner (setNum s k v) j = partner s j := partner_setVal s k _ j
@[simp] theorem partner_bump (s : State) (k : Key) (j : Nat) : partner (bump s k) j = partner s j := partner_setNum s k _ j
@[simp] theorem partner_store (s : State) (a : Nat) (b : Bytes) (j : Nat) : partner (store s a b) j = partner s j := rfl
@[simp] theorem partner_emit (s : State) (o : Out) (j : Nat) : partner (emit s o) j = partner s j := rfl
@[simp] theorem partner_putBase (s : State) (n : Nat) (b : Base) (j : Nat) : partner (putBase s n b) j = partner s j := rfl
@[simp] theorem partner_putFault (s : State) (n : Nat) (f : FaultSrc) (j : Nat) : partner (putFault s n f) j = partner s j := rfl
@[simp] theorem partner_putSession (s : State) (n : Nat) (x : Session) (j : Nat) : partner (putSession s n x) j = partner s j := rfl
@[simp] theorem partner_putDomain (s : State) (k : Key) (b : Bytes) (j : Nat) : partner (putDomain s k b) j = partner s j := rfl
@[simp] theorem partner_putArea (s : State) (n : Nat) (x : Area) (j : Nat) : partner (putArea s n x) j = partner s j := rfl
@[simp] theorem partner_putEngine (s : State) (k : Nat) (e : Engine) (j : Nat) : partner (putEngine s k e) j = partner s j := rfl
@[simp] theorem partner_putLane (s : State) (n : Nat) (x : Lane) (j : Nat) : partner (putLane s n x) j = partner s j := rfl
@[simp] theorem partner_putChannel (s : State) (n : Nat) (x : Chan) (j : Nat) : partner (putChannel s n x) j = partner s j := rfl
@[simp] theorem partner_putMeter (s : State) (x : Meter) (j : Nat) : partner (putMeter s x) j = partner s j := rfl
@[simp] theorem partner_putPulse (s : State) (n : Nat) (x : PulseOut) (j : Nat) : partner (putPulse s n x) j = partner s j := rfl
@[simp] theorem partner_putPtp (s : State) (n : Nat) (x : Ptp) (j : Nat) : partner (putPtp s n x) j = partner s j := rfl
@[simp] theorem partner_putBus (s : State) (n : Nat) (x : Bus) (j : Nat) : partner (putBus s n x) j = partner s j := rfl
@[simp] theorem partner_putGpio (s : State) (n : Nat) (x : Gpio) (j : Nat) : partner (putGpio s n x) j = partner s j := rfl
@[simp] theorem partner_putFolios (s : State) (x : Folios) (j : Nat) : partner (putFolios s x) j = partner s j := rfl
@[simp] theorem partner_putRegion (s : State) (x : RecRegion) (j : Nat) : partner (putRegion s x) j = partner s j := rfl
@[simp] theorem partner_putRec (s : State) (x : Recorder) (j : Nat) : partner (putRec s x) j = partner s j := rfl
@[simp] theorem area_setVal (s : State) (k : Key) (v : Val) (j : Nat) : area (setVal s k v) j = area s j := by unfold area; rw [setVal_zones]
@[simp] theorem area_setNum (s : State) (k : Key) (v : Int) (j : Nat) : area (setNum s k v) j = area s j := area_setVal s k _ j
@[simp] theorem area_bump (s : State) (k : Key) (j : Nat) : area (bump s k) j = area s j := area_setNum s k _ j
@[simp] theorem area_store (s : State) (a : Nat) (b : Bytes) (j : Nat) : area (store s a b) j = area s j := rfl
@[simp] theorem area_emit (s : State) (o : Out) (j : Nat) : area (emit s o) j = area s j := rfl
@[simp] theorem area_putBase (s : State) (n : Nat) (b : Base) (j : Nat) : area (putBase s n b) j = area s j := rfl
@[simp] theorem area_putFault (s : State) (n : Nat) (f : FaultSrc) (j : Nat) : area (putFault s n f) j = area s j := rfl
@[simp] theorem area_putSession (s : State) (n : Nat) (x : Session) (j : Nat) : area (putSession s n x) j = area s j := rfl
@[simp] theorem area_putDomain (s : State) (k : Key) (b : Bytes) (j : Nat) : area (putDomain s k b) j = area s j := rfl
@[simp] theorem area_putEngine (s : State) (k : Nat) (e : Engine) (j : Nat) : area (putEngine s k e) j = area s j := rfl
@[simp] theorem area_putLane (s : State) (n : Nat) (x : Lane) (j : Nat) : area (putLane s n x) j = area s j := rfl
@[simp] theorem area_putChannel (s : State) (n : Nat) (x : Chan) (j : Nat) : area (putChannel s n x) j = area s j := rfl
@[simp] theorem area_putMeter (s : State) (x : Meter) (j : Nat) : area (putMeter s x) j = area s j := rfl
@[simp] theorem area_putPulse (s : State) (n : Nat) (x : PulseOut) (j : Nat) : area (putPulse s n x) j = area s j := rfl
@[simp] theorem area_putPtp (s : State) (n : Nat) (x : Ptp) (j : Nat) : area (putPtp s n x) j = area s j := rfl
@[simp] theorem area_putBus (s : State) (n : Nat) (x : Bus) (j : Nat) : area (putBus s n x) j = area s j := rfl
@[simp] theorem area_putPartner (s : State) (n : Nat) (x : Partner) (j : Nat) : area (putPartner s n x) j = area s j := rfl
@[simp] theorem area_putGpio (s : State) (n : Nat) (x : Gpio) (j : Nat) : area (putGpio s n x) j = area s j := rfl
@[simp] theorem area_putFolios (s : State) (x : Folios) (j : Nat) : area (putFolios s x) j = area s j := rfl
@[simp] theorem area_putRegion (s : State) (x : RecRegion) (j : Nat) : area (putRegion s x) j = area s j := rfl
@[simp] theorem area_putRec (s : State) (x : Recorder) (j : Nat) : area (putRec s x) j = area s j := rfl
@[simp] theorem ptp_setVal (s : State) (k : Key) (v : Val) (j : Nat) : ptp (setVal s k v) j = ptp s j := by unfold ptp; rw [setVal_time]
@[simp] theorem ptp_setNum (s : State) (k : Key) (v : Int) (j : Nat) : ptp (setNum s k v) j = ptp s j := ptp_setVal s k _ j
@[simp] theorem ptp_bump (s : State) (k : Key) (j : Nat) : ptp (bump s k) j = ptp s j := ptp_setNum s k _ j
@[simp] theorem ptp_store (s : State) (a : Nat) (b : Bytes) (j : Nat) : ptp (store s a b) j = ptp s j := rfl
@[simp] theorem ptp_emit (s : State) (o : Out) (j : Nat) : ptp (emit s o) j = ptp s j := rfl
@[simp] theorem ptp_putFault (s : State) (n : Nat) (f : FaultSrc) (j : Nat) : ptp (putFault s n f) j = ptp s j := rfl
@[simp] theorem ptp_putSession (s : State) (n : Nat) (x : Session) (j : Nat) : ptp (putSession s n x) j = ptp s j := rfl
@[simp] theorem ptp_putDomain (s : State) (k : Key) (b : Bytes) (j : Nat) : ptp (putDomain s k b) j = ptp s j := rfl
@[simp] theorem ptp_putArea (s : State) (n : Nat) (x : Area) (j : Nat) : ptp (putArea s n x) j = ptp s j := rfl
@[simp] theorem ptp_putEngine (s : State) (k : Nat) (e : Engine) (j : Nat) : ptp (putEngine s k e) j = ptp s j := rfl
@[simp] theorem ptp_putLane (s : State) (n : Nat) (x : Lane) (j : Nat) : ptp (putLane s n x) j = ptp s j := rfl
@[simp] theorem ptp_putChannel (s : State) (n : Nat) (x : Chan) (j : Nat) : ptp (putChannel s n x) j = ptp s j := rfl
@[simp] theorem ptp_putMeter (s : State) (x : Meter) (j : Nat) : ptp (putMeter s x) j = ptp s j := rfl
@[simp] theorem ptp_putPulse (s : State) (n : Nat) (x : PulseOut) (j : Nat) : ptp (putPulse s n x) j = ptp s j := rfl
@[simp] theorem ptp_putBus (s : State) (n : Nat) (x : Bus) (j : Nat) : ptp (putBus s n x) j = ptp s j := rfl
@[simp] theorem ptp_putPartner (s : State) (n : Nat) (x : Partner) (j : Nat) : ptp (putPartner s n x) j = ptp s j := rfl
@[simp] theorem ptp_putGpio (s : State) (n : Nat) (x : Gpio) (j : Nat) : ptp (putGpio s n x) j = ptp s j := rfl
@[simp] theorem ptp_putFolios (s : State) (x : Folios) (j : Nat) : ptp (putFolios s x) j = ptp s j := rfl
@[simp] theorem ptp_putRegion (s : State) (x : RecRegion) (j : Nat) : ptp (putRegion s x) j = ptp s j := rfl
@[simp] theorem ptp_putRec (s : State) (x : Recorder) (j : Nat) : ptp (putRec s x) j = ptp s j := rfl
@[simp] theorem channel_setVal (s : State) (k : Key) (v : Val) (j : Nat) : channel (setVal s k v) j = channel s j := by unfold channel; rw [setVal_dma]
@[simp] theorem channel_setNum (s : State) (k : Key) (v : Int) (j : Nat) : channel (setNum s k v) j = channel s j := channel_setVal s k _ j
@[simp] theorem channel_bump (s : State) (k : Key) (j : Nat) : channel (bump s k) j = channel s j := channel_setNum s k _ j
@[simp] theorem channel_store (s : State) (a : Nat) (b : Bytes) (j : Nat) : channel (store s a b) j = channel s j := rfl
@[simp] theorem channel_emit (s : State) (o : Out) (j : Nat) : channel (emit s o) j = channel s j := rfl
@[simp] theorem channel_putBase (s : State) (n : Nat) (b : Base) (j : Nat) : channel (putBase s n b) j = channel s j := rfl
@[simp] theorem channel_putFault (s : State) (n : Nat) (f : FaultSrc) (j : Nat) : channel (putFault s n f) j = channel s j := rfl
@[simp] theorem channel_putSession (s : State) (n : Nat) (x : Session) (j : Nat) : channel (putSession s n x) j = channel s j := rfl
@[simp] theorem channel_putDomain (s : State) (k : Key) (b : Bytes) (j : Nat) : channel (putDomain s k b) j = channel s j := rfl
@[simp] theorem channel_putArea (s : State) (n : Nat) (x : Area) (j : Nat) : channel (putArea s n x) j = channel s j := rfl
@[simp] theorem channel_putEngine (s : State) (k : Nat) (e : Engine) (j : Nat) : channel (putEngine s k e) j = channel s j := rfl
@[simp] theorem channel_putLane (s : State) (n : Nat) (x : Lane) (j : Nat) : channel (putLane s n x) j = channel s j := rfl
@[simp] theorem channel_putMeter (s : State) (x : Meter) (j : Nat) : channel (putMeter s x) j = channel s j := rfl
@[simp] theorem channel_putPulse (s : State) (n : Nat) (x : PulseOut) (j : Nat) : channel (putPulse s n x) j = channel s j := rfl
@[simp] theorem channel_putPtp (s : State) (n : Nat) (x : Ptp) (j : Nat) : channel (putPtp s n x) j = channel s j := rfl
@[simp] theorem channel_putBus (s : State) (n : Nat) (x : Bus) (j : Nat) : channel (putBus s n x) j = channel s j := rfl
@[simp] theorem channel_putPartner (s : State) (n : Nat) (x : Partner) (j : Nat) : channel (putPartner s n x) j = channel s j := rfl
@[simp] theorem channel_putGpio (s : State) (n : Nat) (x : Gpio) (j : Nat) : channel (putGpio s n x) j = channel s j := rfl
@[simp] theorem channel_putFolios (s : State) (x : Folios) (j : Nat) : channel (putFolios s x) j = channel s j := rfl
@[simp] theorem channel_putRegion (s : State) (x : RecRegion) (j : Nat) : channel (putRegion s x) j = channel s j := rfl
@[simp] theorem channel_putRec (s : State) (x : Recorder) (j : Nat) : channel (putRec s x) j = channel s j := rfl
@[simp] theorem bus_setVal (s : State) (k : Key) (v : Val) (j : Nat) : bus (setVal s k v) j = bus s j := by unfold bus; rw [setVal_bus]
@[simp] theorem bus_setNum (s : State) (k : Key) (v : Int) (j : Nat) : bus (setNum s k v) j = bus s j := bus_setVal s k _ j
@[simp] theorem bus_bump (s : State) (k : Key) (j : Nat) : bus (bump s k) j = bus s j := bus_setNum s k _ j
@[simp] theorem bus_store (s : State) (a : Nat) (b : Bytes) (j : Nat) : bus (store s a b) j = bus s j := rfl
@[simp] theorem bus_emit (s : State) (o : Out) (j : Nat) : bus (emit s o) j = bus s j := rfl
@[simp] theorem bus_putBase (s : State) (n : Nat) (b : Base) (j : Nat) : bus (putBase s n b) j = bus s j := rfl
@[simp] theorem bus_putFault (s : State) (n : Nat) (f : FaultSrc) (j : Nat) : bus (putFault s n f) j = bus s j := rfl
@[simp] theorem bus_putSession (s : State) (n : Nat) (x : Session) (j : Nat) : bus (putSession s n x) j = bus s j := rfl
@[simp] theorem bus_putDomain (s : State) (k : Key) (b : Bytes) (j : Nat) : bus (putDomain s k b) j = bus s j := rfl
@[simp] theorem bus_putArea (s : State) (n : Nat) (x : Area) (j : Nat) : bus (putArea s n x) j = bus s j := rfl
@[simp] theorem bus_putEngine (s : State) (k : Nat) (e : Engine) (j : Nat) : bus (putEngine s k e) j = bus s j := rfl
@[simp] theorem bus_putLane (s : State) (n : Nat) (x : Lane) (j : Nat) : bus (putLane s n x) j = bus s j := rfl
@[simp] theorem bus_putChannel (s : State) (n : Nat) (x : Chan) (j : Nat) : bus (putChannel s n x) j = bus s j := rfl
@[simp] theorem bus_putMeter (s : State) (x : Meter) (j : Nat) : bus (putMeter s x) j = bus s j := rfl
@[simp] theorem bus_putPulse (s : State) (n : Nat) (x : PulseOut) (j : Nat) : bus (putPulse s n x) j = bus s j := rfl
@[simp] theorem bus_putPtp (s : State) (n : Nat) (x : Ptp) (j : Nat) : bus (putPtp s n x) j = bus s j := rfl
@[simp] theorem bus_putPartner (s : State) (n : Nat) (x : Partner) (j : Nat) : bus (putPartner s n x) j = bus s j := rfl
@[simp] theorem bus_putGpio (s : State) (n : Nat) (x : Gpio) (j : Nat) : bus (putGpio s n x) j = bus s j := rfl
@[simp] theorem bus_putFolios (s : State) (x : Folios) (j : Nat) : bus (putFolios s x) j = bus s j := rfl
@[simp] theorem bus_putRegion (s : State) (x : RecRegion) (j : Nat) : bus (putRegion s x) j = bus s j := rfl
@[simp] theorem bus_putRec (s : State) (x : Recorder) (j : Nat) : bus (putRec s x) j = bus s j := rfl

end Sys2Proof.Machine
end

