-- ==== Sys2Proof/Laws/Ops.lean ====
section
/-!
SUPPORT. What the operations that many commands share leave unchanged, field by field: faults and their reactions, MRAM writes, the bookmark, answers.
-/

namespace Sys2Proof.Machine

/-- A fold of updates that each leave a reading unchanged leaves it unchanged. -/
theorem foldl_keeps {α β : Type} (f : State → α) {g : State → β → State} (h : ∀ t x, f (g t x) = f t) (l : List β) (s : State) :
    f (l.foldl g s) = f s := by
  induction l generalizing s with
  | nil => rfl
  | cons x l ih => rw [List.foldl_cons, ih, h]

/-! ### `putKept`: what is kept of a source waits in SRAM during a warning (R416) -/

@[simp] theorem putKept_pending (s : State) (src : Nat) (f : FaultKept) : (putKept s src f).pending = s.pending := by
  unfold putKept; split <;> rfl
@[simp] theorem putKept_clk (s : State) (src : Nat) (f : FaultKept) : (putKept s src f).clk = s.clk := by
  unfold putKept; split <;> rfl
@[simp] theorem putKept_fresh (s : State) (src : Nat) (f : FaultKept) : (putKept s src f).fresh = s.fresh := by
  unfold putKept; split <;> rfl
@[simp] theorem putKept_out (s : State) (src : Nat) (f : FaultKept) : (putKept s src f).out = s.out := by
  unfold putKept; split <;> rfl
@[simp] theorem putKept_regs (s : State) (src : Nat) (f : FaultKept) : (putKept s src f).regs = s.regs := by
  unfold putKept; split <;> rfl
@[simp] theorem putKept_backup (s : State) (src : Nat) (f : FaultKept) : (putKept s src f).backup = s.backup := by
  unfold putKept; split <;> rfl
@[simp] theorem putKept_power (s : State) (src : Nat) (f : FaultKept) : (putKept s src f).power = s.power := by
  unfold putKept; split <;> rfl
@[simp] theorem putKept_start (s : State) (src : Nat) (f : FaultKept) : (putKept s src f).start = s.start := by
  unfold putKept; split <;> rfl
@[simp] theorem putKept_server (s : State) (src : Nat) (f : FaultKept) : (putKept s src f).server = s.server := by
  unfold putKept; split <;> rfl
@[simp] theorem putKept_faults (s : State) (src : Nat) (f : FaultKept) : (putKept s src f).faults = s.faults := by
  unfold putKept; split <;> rfl
@[simp] theorem putKept_deferred (s : State) (src : Nat) (f : FaultKept) : (putKept s src f).deferred = s.deferred := by
  unfold putKept; split <;> rfl
@[simp] theorem putKept_bookmarkDue (s : State) (src : Nat) (f : FaultKept) : (putKept s src f).bookmarkDue = s.bookmarkDue := by
  unfold putKept; split <;> rfl
@[simp] theorem putKept_logHeld (s : State) (src : Nat) (f : FaultKept) : (putKept s src f).logHeld = s.logHeld := by
  unfold putKept; split <;> rfl
@[simp] theorem putKept_durable (s : State) (src : Nat) (f : FaultKept) : (putKept s src f).durable = s.durable := by
  unfold putKept; split <;> rfl
@[simp] theorem putKept_mem (s : State) (src : Nat) (f : FaultKept) : (putKept s src f).mem = s.mem := by
  unfold putKept; split <;> rfl
@[simp] theorem putKept_zones (s : State) (src : Nat) (f : FaultKept) : (putKept s src f).zones = s.zones := by
  unfold putKept; split <;> rfl
@[simp] theorem putKept_engines (s : State) (src : Nat) (f : FaultKept) : (putKept s src f).engines = s.engines := by
  unfold putKept; split <;> rfl
@[simp] theorem putKept_lanes (s : State) (src : Nat) (f : FaultKept) : (putKept s src f).lanes = s.lanes := by
  unfold putKept; split <;> rfl
@[simp] theorem putKept_dma (s : State) (src : Nat) (f : FaultKept) : (putKept s src f).dma = s.dma := by
  unfold putKept; split <;> rfl
@[simp] theorem putKept_meter (s : State) (src : Nat) (f : FaultKept) : (putKept s src f).meter = s.meter := by
  unfold putKept; split <;> rfl
@[simp] theorem putKept_time (s : State) (src : Nat) (f : FaultKept) : (putKept s src f).time = s.time := by
  unfold putKept; split <;> rfl
@[simp] theorem putKept_bus (s : State) (src : Nat) (f : FaultKept) : (putKept s src f).bus = s.bus := by
  unfold putKept; split <;> rfl
@[simp] theorem putKept_air (s : State) (src : Nat) (f : FaultKept) : (putKept s src f).air = s.air := by
  unfold putKept; split <;> rfl
@[simp] theorem putKept_safety (s : State) (src : Nat) (f : FaultKept) : (putKept s src f).safety = s.safety := by
  unfold putKept; split <;> rfl
@[simp] theorem putKept_pair (s : State) (src : Nat) (f : FaultKept) : (putKept s src f).pair = s.pair := by
  unfold putKept; split <;> rfl
@[simp] theorem putKept_update (s : State) (src : Nat) (f : FaultKept) : (putKept s src f).update = s.update := by
  unfold putKept; split <;> rfl
@[simp] theorem putKept_recorder (s : State) (src : Nat) (f : FaultKept) : (putKept s src f).recorder = s.recorder := by
  unfold putKept; split <;> rfl
@[simp] theorem putKept_pads (s : State) (src : Nat) (f : FaultKept) : (putKept s src f).pads = s.pads := by
  unfold putKept; split <;> rfl

/-! ### `logMessage`: a coded message (R417) -/

@[simp] theorem logMessage_pending (s : State) (code : Nat) : (logMessage s code).pending = s.pending := by
  unfold logMessage; dsimp only [emit]; split <;> simp
@[simp] theorem logMessage_clk (s : State) (code : Nat) : (logMessage s code).clk = s.clk := by
  unfold logMessage; dsimp only [emit]; split <;> simp
@[simp] theorem logMessage_fresh (s : State) (code : Nat) : (logMessage s code).fresh = s.fresh := by
  unfold logMessage; dsimp only [emit]; split <;> simp
@[simp] theorem logMessage_backup (s : State) (code : Nat) : (logMessage s code).backup = s.backup := by
  unfold logMessage; dsimp only [emit]; split <;> simp
@[simp] theorem logMessage_power (s : State) (code : Nat) : (logMessage s code).power = s.power := by
  unfold logMessage; dsimp only [emit]; split <;> simp
@[simp] theorem logMessage_start (s : State) (code : Nat) : (logMessage s code).start = s.start := by
  unfold logMessage; dsimp only [emit]; split <;> simp
@[simp] theorem logMessage_faults (s : State) (code : Nat) : (logMessage s code).faults = s.faults := by
  unfold logMessage; dsimp only [emit]; split <;> simp
@[simp] theorem logMessage_deferred (s : State) (code : Nat) : (logMessage s code).deferred = s.deferred := by
  unfold logMessage; dsimp only [emit]; split <;> simp
@[simp] theorem logMessage_keptHeld (s : State) (code : Nat) : (logMessage s code).keptHeld = s.keptHeld := by
  unfold logMessage; dsimp only [emit]; split <;> simp
@[simp] theorem logMessage_bookmarkDue (s : State) (code : Nat) : (logMessage s code).bookmarkDue = s.bookmarkDue := by
  unfold logMessage; dsimp only [emit]; split <;> simp
@[simp] theorem logMessage_durable (s : State) (code : Nat) : (logMessage s code).durable = s.durable := by
  unfold logMessage; dsimp only [emit]; split <;> simp
@[simp] theorem logMessage_mem (s : State) (code : Nat) : (logMessage s code).mem = s.mem := by
  unfold logMessage; dsimp only [emit]; split <;> simp
@[simp] theorem logMessage_zones (s : State) (code : Nat) : (logMessage s code).zones = s.zones := by
  unfold logMessage; dsimp only [emit]; split <;> simp
@[simp] theorem logMessage_engines (s : State) (code : Nat) : (logMessage s code).engines = s.engines := by
  unfold logMessage; dsimp only [emit]; split <;> simp
@[simp] theorem logMessage_lanes (s : State) (code : Nat) : (logMessage s code).lanes = s.lanes := by
  unfold logMessage; dsimp only [emit]; split <;> simp
@[simp] theorem logMessage_dma (s : State) (code : Nat) : (logMessage s code).dma = s.dma := by
  unfold logMessage; dsimp only [emit]; split <;> simp
@[simp] theorem logMessage_meter (s : State) (code : Nat) : (logMessage s code).meter = s.meter := by
  unfold logMessage; dsimp only [emit]; split <;> simp
@[simp] theorem logMessage_time (s : State) (code : Nat) : (logMessage s code).time = s.time := by
  unfold logMessage; dsimp only [emit]; split <;> simp
@[simp] theorem logMessage_bus (s : State) (code : Nat) : (logMessage s code).bus = s.bus := by
  unfold logMessage; dsimp only [emit]; split <;> simp
@[simp] theorem logMessage_air (s : State) (code : Nat) : (logMessage s code).air = s.air := by
  unfold logMessage; dsimp only [emit]; split <;> simp
@[simp] theorem logMessage_safety (s : State) (code : Nat) : (logMessage s code).safety = s.safety := by
  unfold logMessage; dsimp only [emit]; split <;> simp
@[simp] theorem logMessage_pair (s : State) (code : Nat) : (logMessage s code).pair = s.pair := by
  unfold logMessage; dsimp only [emit]; split <;> simp
@[simp] theorem logMessage_update (s : State) (code : Nat) : (logMessage s code).update = s.update := by
  unfold logMessage; dsimp only [emit]; split <;> simp
@[simp] theorem logMessage_recorder (s : State) (code : Nat) : (logMessage s code).recorder = s.recorder := by
  unfold logMessage; dsimp only [emit]; split <;> simp
@[simp] theorem logMessage_pads (s : State) (code : Nat) : (logMessage s code).pads = s.pads := by
  unfold logMessage; dsimp only [emit]; split <;> simp

/-! ### `countRaise`: a raise is counted (Table 16-8) -/

@[simp] theorem countRaise_pending (s : State) (src code : Nat) : (countRaise s src code).pending = s.pending := by
  simp [countRaise]
@[simp] theorem countRaise_clk (s : State) (src code : Nat) : (countRaise s src code).clk = s.clk := by
  simp [countRaise]
@[simp] theorem countRaise_fresh (s : State) (src code : Nat) : (countRaise s src code).fresh = s.fresh := by
  simp [countRaise]
@[simp] theorem countRaise_out (s : State) (src code : Nat) : (countRaise s src code).out = s.out := by
  simp [countRaise]
@[simp] theorem countRaise_mram (s : State) (src code : Nat) : (countRaise s src code).mram = s.mram := by
  simp [countRaise]
@[simp] theorem countRaise_backup (s : State) (src code : Nat) : (countRaise s src code).backup = s.backup := by
  simp [countRaise]
@[simp] theorem countRaise_power (s : State) (src code : Nat) : (countRaise s src code).power = s.power := by
  simp [countRaise]
@[simp] theorem countRaise_start (s : State) (src code : Nat) : (countRaise s src code).start = s.start := by
  simp [countRaise]
@[simp] theorem countRaise_faults (s : State) (src code : Nat) : (countRaise s src code).faults = s.faults := by
  simp [countRaise]
@[simp] theorem countRaise_deferred (s : State) (src code : Nat) : (countRaise s src code).deferred = s.deferred := by
  simp [countRaise]
@[simp] theorem countRaise_keptHeld (s : State) (src code : Nat) : (countRaise s src code).keptHeld = s.keptHeld := by
  simp [countRaise]
@[simp] theorem countRaise_bookmarkDue (s : State) (src code : Nat) : (countRaise s src code).bookmarkDue = s.bookmarkDue := by
  simp [countRaise]
@[simp] theorem countRaise_logHeld (s : State) (src code : Nat) : (countRaise s src code).logHeld = s.logHeld := by
  simp [countRaise]
@[simp] theorem countRaise_durable (s : State) (src code : Nat) : (countRaise s src code).durable = s.durable := by
  simp [countRaise]
@[simp] theorem countRaise_mem (s : State) (src code : Nat) : (countRaise s src code).mem = s.mem := by
  simp [countRaise]
@[simp] theorem countRaise_zones (s : State) (src code : Nat) : (countRaise s src code).zones = s.zones := by
  simp [countRaise]
@[simp] theorem countRaise_engines (s : State) (src code : Nat) : (countRaise s src code).engines = s.engines := by
  simp [countRaise]
@[simp] theorem countRaise_lanes (s : State) (src code : Nat) : (countRaise s src code).lanes = s.lanes := by
  simp [countRaise]
@[simp] theorem countRaise_dma (s : State) (src code : Nat) : (countRaise s src code).dma = s.dma := by
  simp [countRaise]
@[simp] theorem countRaise_meter (s : State) (src code : Nat) : (countRaise s src code).meter = s.meter := by
  simp [countRaise]
@[simp] theorem countRaise_time (s : State) (src code : Nat) : (countRaise s src code).time = s.time := by
  simp [countRaise]
@[simp] theorem countRaise_bus (s : State) (src code : Nat) : (countRaise s src code).bus = s.bus := by
  simp [countRaise]
@[simp] theorem countRaise_air (s : State) (src code : Nat) : (countRaise s src code).air = s.air := by
  simp [countRaise]
@[simp] theorem countRaise_safety (s : State) (src code : Nat) : (countRaise s src code).safety = s.safety := by
  simp [countRaise]
@[simp] theorem countRaise_pair (s : State) (src code : Nat) : (countRaise s src code).pair = s.pair := by
  simp [countRaise]
@[simp] theorem countRaise_update (s : State) (src code : Nat) : (countRaise s src code).update = s.update := by
  simp [countRaise]
@[simp] theorem countRaise_recorder (s : State) (src code : Nat) : (countRaise s src code).recorder = s.recorder := by
  simp [countRaise]
@[simp] theorem countRaise_pads (s : State) (src code : Nat) : (countRaise s src code).pads = s.pads := by
  simp [countRaise]

/-! ### `resetRegs`: an entry at its defaults -/

@[simp] theorem resetRegs_pending (s : State) (idx : Nat) : (resetRegs s idx).pending = s.pending := by
  unfold resetRegs; exact foldl_keeps (fun t => t.pending) (fun t p => by simp) _ s
@[simp] theorem resetRegs_clk (s : State) (idx : Nat) : (resetRegs s idx).clk = s.clk := by
  unfold resetRegs; exact foldl_keeps (fun t => t.clk) (fun t p => by simp) _ s
@[simp] theorem resetRegs_fresh (s : State) (idx : Nat) : (resetRegs s idx).fresh = s.fresh := by
  unfold resetRegs; exact foldl_keeps (fun t => t.fresh) (fun t p => by simp) _ s
@[simp] theorem resetRegs_out (s : State) (idx : Nat) : (resetRegs s idx).out = s.out := by
  unfold resetRegs; exact foldl_keeps (fun t => t.out) (fun t p => by simp) _ s
@[simp] theorem resetRegs_mram (s : State) (idx : Nat) : (resetRegs s idx).mram = s.mram := by
  unfold resetRegs; exact foldl_keeps (fun t => t.mram) (fun t p => by simp) _ s
@[simp] theorem resetRegs_backup (s : State) (idx : Nat) : (resetRegs s idx).backup = s.backup := by
  unfold resetRegs; exact foldl_keeps (fun t => t.backup) (fun t p => by simp) _ s
@[simp] theorem resetRegs_power (s : State) (idx : Nat) : (resetRegs s idx).power = s.power := by
  unfold resetRegs; exact foldl_keeps (fun t => t.power) (fun t p => by simp) _ s
@[simp] theorem resetRegs_start (s : State) (idx : Nat) : (resetRegs s idx).start = s.start := by
  unfold resetRegs; exact foldl_keeps (fun t => t.start) (fun t p => by simp) _ s
@[simp] theorem resetRegs_faults (s : State) (idx : Nat) : (resetRegs s idx).faults = s.faults := by
  unfold resetRegs; exact foldl_keeps (fun t => t.faults) (fun t p => by simp) _ s
@[simp] theorem resetRegs_deferred (s : State) (idx : Nat) : (resetRegs s idx).deferred = s.deferred := by
  unfold resetRegs; exact foldl_keeps (fun t => t.deferred) (fun t p => by simp) _ s
@[simp] theorem resetRegs_keptHeld (s : State) (idx : Nat) : (resetRegs s idx).keptHeld = s.keptHeld := by
  unfold resetRegs; exact foldl_keeps (fun t => t.keptHeld) (fun t p => by simp) _ s
@[simp] theorem resetRegs_bookmarkDue (s : State) (idx : Nat) : (resetRegs s idx).bookmarkDue = s.bookmarkDue := by
  unfold resetRegs; exact foldl_keeps (fun t => t.bookmarkDue) (fun t p => by simp) _ s
@[simp] theorem resetRegs_logHeld (s : State) (idx : Nat) : (resetRegs s idx).logHeld = s.logHeld := by
  unfold resetRegs; exact foldl_keeps (fun t => t.logHeld) (fun t p => by simp) _ s
@[simp] theorem resetRegs_durable (s : State) (idx : Nat) : (resetRegs s idx).durable = s.durable := by
  unfold resetRegs; exact foldl_keeps (fun t => t.durable) (fun t p => by simp) _ s
@[simp] theorem resetRegs_mem (s : State) (idx : Nat) : (resetRegs s idx).mem = s.mem := by
  unfold resetRegs; exact foldl_keeps (fun t => t.mem) (fun t p => by simp) _ s
@[simp] theorem resetRegs_zones (s : State) (idx : Nat) : (resetRegs s idx).zones = s.zones := by
  unfold resetRegs; exact foldl_keeps (fun t => t.zones) (fun t p => by simp) _ s
@[simp] theorem resetRegs_engines (s : State) (idx : Nat) : (resetRegs s idx).engines = s.engines := by
  unfold resetRegs; exact foldl_keeps (fun t => t.engines) (fun t p => by simp) _ s
@[simp] theorem resetRegs_lanes (s : State) (idx : Nat) : (resetRegs s idx).lanes = s.lanes := by
  unfold resetRegs; exact foldl_keeps (fun t => t.lanes) (fun t p => by simp) _ s
@[simp] theorem resetRegs_dma (s : State) (idx : Nat) : (resetRegs s idx).dma = s.dma := by
  unfold resetRegs; exact foldl_keeps (fun t => t.dma) (fun t p => by simp) _ s
@[simp] theorem resetRegs_meter (s : State) (idx : Nat) : (resetRegs s idx).meter = s.meter := by
  unfold resetRegs; exact foldl_keeps (fun t => t.meter) (fun t p => by simp) _ s
@[simp] theorem resetRegs_time (s : State) (idx : Nat) : (resetRegs s idx).time = s.time := by
  unfold resetRegs; exact foldl_keeps (fun t => t.time) (fun t p => by simp) _ s
@[simp] theorem resetRegs_bus (s : State) (idx : Nat) : (resetRegs s idx).bus = s.bus := by
  unfold resetRegs; exact foldl_keeps (fun t => t.bus) (fun t p => by simp) _ s
@[simp] theorem resetRegs_air (s : State) (idx : Nat) : (resetRegs s idx).air = s.air := by
  unfold resetRegs; exact foldl_keeps (fun t => t.air) (fun t p => by simp) _ s
@[simp] theorem resetRegs_safety (s : State) (idx : Nat) : (resetRegs s idx).safety = s.safety := by
  unfold resetRegs; exact foldl_keeps (fun t => t.safety) (fun t p => by simp) _ s
@[simp] theorem resetRegs_pair (s : State) (idx : Nat) : (resetRegs s idx).pair = s.pair := by
  unfold resetRegs; exact foldl_keeps (fun t => t.pair) (fun t p => by simp) _ s
@[simp] theorem resetRegs_update (s : State) (idx : Nat) : (resetRegs s idx).update = s.update := by
  unfold resetRegs; exact foldl_keeps (fun t => t.update) (fun t p => by simp) _ s
@[simp] theorem resetRegs_recorder (s : State) (idx : Nat) : (resetRegs s idx).recorder = s.recorder := by
  unfold resetRegs; exact foldl_keeps (fun t => t.recorder) (fun t p => by simp) _ s
@[simp] theorem resetRegs_pads (s : State) (idx : Nat) : (resetRegs s idx).pads = s.pads := by
  unfold resetRegs; exact foldl_keeps (fun t => t.pads) (fun t p => by simp) _ s

/-! ### `showPending`: the enables left (R74) -/

@[simp] theorem showPending_pending (s : State)  : (showPending s ).pending = s.pending := by
  simp [showPending]
@[simp] theorem showPending_clk (s : State)  : (showPending s ).clk = s.clk := by
  simp [showPending]
@[simp] theorem showPending_fresh (s : State)  : (showPending s ).fresh = s.fresh := by
  simp [showPending]
@[simp] theorem showPending_out (s : State)  : (showPending s ).out = s.out := by
  simp [showPending]
@[simp] theorem showPending_mram (s : State)  : (showPending s ).mram = s.mram := by
  simp [showPending]
@[simp] theorem showPending_backup (s : State)  : (showPending s ).backup = s.backup := by
  simp [showPending]
@[simp] theorem showPending_power (s : State)  : (showPending s ).power = s.power := by
  simp [showPending]
@[simp] theorem showPending_start (s : State)  : (showPending s ).start = s.start := by
  simp [showPending]
@[simp] theorem showPending_faults (s : State)  : (showPending s ).faults = s.faults := by
  simp [showPending]
@[simp] theorem showPending_deferred (s : State)  : (showPending s ).deferred = s.deferred := by
  simp [showPending]
@[simp] theorem showPending_keptHeld (s : State)  : (showPending s ).keptHeld = s.keptHeld := by
  simp [showPending]
@[simp] theorem showPending_bookmarkDue (s : State)  : (showPending s ).bookmarkDue = s.bookmarkDue := by
  simp [showPending]
@[simp] theorem showPending_logHeld (s : State)  : (showPending s ).logHeld = s.logHeld := by
  simp [showPending]
@[simp] theorem showPending_durable (s : State)  : (showPending s ).durable = s.durable := by
  simp [showPending]
@[simp] theorem showPending_mem (s : State)  : (showPending s ).mem = s.mem := by
  simp [showPending]
@[simp] theorem showPending_zones (s : State)  : (showPending s ).zones = s.zones := by
  simp [showPending]
@[simp] theorem showPending_engines (s : State)  : (showPending s ).engines = s.engines := by
  simp [showPending]
@[simp] theorem showPending_lanes (s : State)  : (showPending s ).lanes = s.lanes := by
  simp [showPending]
@[simp] theorem showPending_dma (s : State)  : (showPending s ).dma = s.dma := by
  simp [showPending]
@[simp] theorem showPending_meter (s : State)  : (showPending s ).meter = s.meter := by
  simp [showPending]
@[simp] theorem showPending_time (s : State)  : (showPending s ).time = s.time := by
  simp [showPending]
@[simp] theorem showPending_bus (s : State)  : (showPending s ).bus = s.bus := by
  simp [showPending]
@[simp] theorem showPending_air (s : State)  : (showPending s ).air = s.air := by
  simp [showPending]
@[simp] theorem showPending_safety (s : State)  : (showPending s ).safety = s.safety := by
  simp [showPending]
@[simp] theorem showPending_pair (s : State)  : (showPending s ).pair = s.pair := by
  simp [showPending]
@[simp] theorem showPending_update (s : State)  : (showPending s ).update = s.update := by
  simp [showPending]
@[simp] theorem showPending_recorder (s : State)  : (showPending s ).recorder = s.recorder := by
  simp [showPending]
@[simp] theorem showPending_pads (s : State)  : (showPending s ).pads = s.pads := by
  simp [showPending]

/-! ### `dropTransfer`: a transfer that ends without effect (R97) -/

@[simp] theorem dropTransfer_pending (s : State) (x : Transfer) : (dropTransfer s x).pending = s.pending := by
  unfold dropTransfer setQuire; dsimp only; split_ifs <;> simp
@[simp] theorem dropTransfer_clk (s : State) (x : Transfer) : (dropTransfer s x).clk = s.clk := by
  unfold dropTransfer setQuire; dsimp only; split_ifs <;> simp
@[simp] theorem dropTransfer_fresh (s : State) (x : Transfer) : (dropTransfer s x).fresh = s.fresh := by
  unfold dropTransfer setQuire; dsimp only; split_ifs <;> simp
@[simp] theorem dropTransfer_out (s : State) (x : Transfer) : (dropTransfer s x).out = s.out := by
  unfold dropTransfer setQuire; dsimp only; split_ifs <;> simp
@[simp] theorem dropTransfer_backup (s : State) (x : Transfer) : (dropTransfer s x).backup = s.backup := by
  unfold dropTransfer setQuire; dsimp only; split_ifs <;> simp
@[simp] theorem dropTransfer_power (s : State) (x : Transfer) : (dropTransfer s x).power = s.power := by
  unfold dropTransfer setQuire; dsimp only; split_ifs <;> simp
@[simp] theorem dropTransfer_start (s : State) (x : Transfer) : (dropTransfer s x).start = s.start := by
  unfold dropTransfer setQuire; dsimp only; split_ifs <;> simp
@[simp] theorem dropTransfer_faults (s : State) (x : Transfer) : (dropTransfer s x).faults = s.faults := by
  unfold dropTransfer setQuire; dsimp only; split_ifs <;> simp
@[simp] theorem dropTransfer_deferred (s : State) (x : Transfer) : (dropTransfer s x).deferred = s.deferred := by
  unfold dropTransfer setQuire; dsimp only; split_ifs <;> simp
@[simp] theorem dropTransfer_keptHeld (s : State) (x : Transfer) : (dropTransfer s x).keptHeld = s.keptHeld := by
  unfold dropTransfer setQuire; dsimp only; split_ifs <;> simp
@[simp] theorem dropTransfer_bookmarkDue (s : State) (x : Transfer) : (dropTransfer s x).bookmarkDue = s.bookmarkDue := by
  unfold dropTransfer setQuire; dsimp only; split_ifs <;> simp
@[simp] theorem dropTransfer_logHeld (s : State) (x : Transfer) : (dropTransfer s x).logHeld = s.logHeld := by
  unfold dropTransfer setQuire; dsimp only; split_ifs <;> simp
@[simp] theorem dropTransfer_durable (s : State) (x : Transfer) : (dropTransfer s x).durable = s.durable := by
  unfold dropTransfer setQuire; dsimp only; split_ifs <;> simp
@[simp] theorem dropTransfer_mem (s : State) (x : Transfer) : (dropTransfer s x).mem = s.mem := by
  unfold dropTransfer setQuire; dsimp only; split_ifs <;> simp
@[simp] theorem dropTransfer_zones (s : State) (x : Transfer) : (dropTransfer s x).zones = s.zones := by
  unfold dropTransfer setQuire; dsimp only; split_ifs <;> simp
@[simp] theorem dropTransfer_engines (s : State) (x : Transfer) : (dropTransfer s x).engines = s.engines := by
  unfold dropTransfer setQuire; dsimp only; split_ifs <;> simp
@[simp] theorem dropTransfer_lanes (s : State) (x : Transfer) : (dropTransfer s x).lanes = s.lanes := by
  unfold dropTransfer setQuire; dsimp only; split_ifs <;> simp
@[simp] theorem dropTransfer_dma (s : State) (x : Transfer) : (dropTransfer s x).dma = s.dma := by
  unfold dropTransfer setQuire; dsimp only; split_ifs <;> simp
@[simp] theorem dropTransfer_meter (s : State) (x : Transfer) : (dropTransfer s x).meter = s.meter := by
  unfold dropTransfer setQuire; dsimp only; split_ifs <;> simp
@[simp] theorem dropTransfer_time (s : State) (x : Transfer) : (dropTransfer s x).time = s.time := by
  unfold dropTransfer setQuire; dsimp only; split_ifs <;> simp
@[simp] theorem dropTransfer_bus (s : State) (x : Transfer) : (dropTransfer s x).bus = s.bus := by
  unfold dropTransfer setQuire; dsimp only; split_ifs <;> simp
@[simp] theorem dropTransfer_air (s : State) (x : Transfer) : (dropTransfer s x).air = s.air := by
  unfold dropTransfer setQuire; dsimp only; split_ifs <;> simp
@[simp] theorem dropTransfer_safety (s : State) (x : Transfer) : (dropTransfer s x).safety = s.safety := by
  unfold dropTransfer setQuire; dsimp only; split_ifs <;> simp
@[simp] theorem dropTransfer_pair (s : State) (x : Transfer) : (dropTransfer s x).pair = s.pair := by
  unfold dropTransfer setQuire; dsimp only; split_ifs <;> simp
@[simp] theorem dropTransfer_update (s : State) (x : Transfer) : (dropTransfer s x).update = s.update := by
  unfold dropTransfer setQuire; dsimp only; split_ifs <;> simp
@[simp] theorem dropTransfer_recorder (s : State) (x : Transfer) : (dropTransfer s x).recorder = s.recorder := by
  unfold dropTransfer setQuire; dsimp only; split_ifs <;> simp
@[simp] theorem dropTransfer_pads (s : State) (x : Transfer) : (dropTransfer s x).pads = s.pads := by
  unfold dropTransfer setQuire; dsimp only; split_ifs <;> simp

/-! ### `dropOpen`: what a session has open (R111) -/

@[simp] theorem dropOpen_pending (s : State) (sid : Nat) : (dropOpen s sid).pending = s.pending := by
  unfold dropOpen; exact foldl_keeps (fun t => t.pending) (fun t x => by simp) _ s
@[simp] theorem dropOpen_clk (s : State) (sid : Nat) : (dropOpen s sid).clk = s.clk := by
  unfold dropOpen; exact foldl_keeps (fun t => t.clk) (fun t x => by simp) _ s
@[simp] theorem dropOpen_fresh (s : State) (sid : Nat) : (dropOpen s sid).fresh = s.fresh := by
  unfold dropOpen; exact foldl_keeps (fun t => t.fresh) (fun t x => by simp) _ s
@[simp] theorem dropOpen_out (s : State) (sid : Nat) : (dropOpen s sid).out = s.out := by
  unfold dropOpen; exact foldl_keeps (fun t => t.out) (fun t x => by simp) _ s
@[simp] theorem dropOpen_backup (s : State) (sid : Nat) : (dropOpen s sid).backup = s.backup := by
  unfold dropOpen; exact foldl_keeps (fun t => t.backup) (fun t x => by simp) _ s
@[simp] theorem dropOpen_power (s : State) (sid : Nat) : (dropOpen s sid).power = s.power := by
  unfold dropOpen; exact foldl_keeps (fun t => t.power) (fun t x => by simp) _ s
@[simp] theorem dropOpen_start (s : State) (sid : Nat) : (dropOpen s sid).start = s.start := by
  unfold dropOpen; exact foldl_keeps (fun t => t.start) (fun t x => by simp) _ s
@[simp] theorem dropOpen_faults (s : State) (sid : Nat) : (dropOpen s sid).faults = s.faults := by
  unfold dropOpen; exact foldl_keeps (fun t => t.faults) (fun t x => by simp) _ s
@[simp] theorem dropOpen_deferred (s : State) (sid : Nat) : (dropOpen s sid).deferred = s.deferred := by
  unfold dropOpen; exact foldl_keeps (fun t => t.deferred) (fun t x => by simp) _ s
@[simp] theorem dropOpen_keptHeld (s : State) (sid : Nat) : (dropOpen s sid).keptHeld = s.keptHeld := by
  unfold dropOpen; exact foldl_keeps (fun t => t.keptHeld) (fun t x => by simp) _ s
@[simp] theorem dropOpen_bookmarkDue (s : State) (sid : Nat) : (dropOpen s sid).bookmarkDue = s.bookmarkDue := by
  unfold dropOpen; exact foldl_keeps (fun t => t.bookmarkDue) (fun t x => by simp) _ s
@[simp] theorem dropOpen_logHeld (s : State) (sid : Nat) : (dropOpen s sid).logHeld = s.logHeld := by
  unfold dropOpen; exact foldl_keeps (fun t => t.logHeld) (fun t x => by simp) _ s
@[simp] theorem dropOpen_durable (s : State) (sid : Nat) : (dropOpen s sid).durable = s.durable := by
  unfold dropOpen; exact foldl_keeps (fun t => t.durable) (fun t x => by simp) _ s
@[simp] theorem dropOpen_mem (s : State) (sid : Nat) : (dropOpen s sid).mem = s.mem := by
  unfold dropOpen; exact foldl_keeps (fun t => t.mem) (fun t x => by simp) _ s
@[simp] theorem dropOpen_zones (s : State) (sid : Nat) : (dropOpen s sid).zones = s.zones := by
  unfold dropOpen; exact foldl_keeps (fun t => t.zones) (fun t x => by simp) _ s
@[simp] theorem dropOpen_engines (s : State) (sid : Nat) : (dropOpen s sid).engines = s.engines := by
  unfold dropOpen; exact foldl_keeps (fun t => t.engines) (fun t x => by simp) _ s
@[simp] theorem dropOpen_lanes (s : State) (sid : Nat) : (dropOpen s sid).lanes = s.lanes := by
  unfold dropOpen; exact foldl_keeps (fun t => t.lanes) (fun t x => by simp) _ s
@[simp] theorem dropOpen_dma (s : State) (sid : Nat) : (dropOpen s sid).dma = s.dma := by
  unfold dropOpen; exact foldl_keeps (fun t => t.dma) (fun t x => by simp) _ s
@[simp] theorem dropOpen_meter (s : State) (sid : Nat) : (dropOpen s sid).meter = s.meter := by
  unfold dropOpen; exact foldl_keeps (fun t => t.meter) (fun t x => by simp) _ s
@[simp] theorem dropOpen_time (s : State) (sid : Nat) : (dropOpen s sid).time = s.time := by
  unfold dropOpen; exact foldl_keeps (fun t => t.time) (fun t x => by simp) _ s
@[simp] theorem dropOpen_bus (s : State) (sid : Nat) : (dropOpen s sid).bus = s.bus := by
  unfold dropOpen; exact foldl_keeps (fun t => t.bus) (fun t x => by simp) _ s
@[simp] theorem dropOpen_air (s : State) (sid : Nat) : (dropOpen s sid).air = s.air := by
  unfold dropOpen; exact foldl_keeps (fun t => t.air) (fun t x => by simp) _ s
@[simp] theorem dropOpen_safety (s : State) (sid : Nat) : (dropOpen s sid).safety = s.safety := by
  unfold dropOpen; exact foldl_keeps (fun t => t.safety) (fun t x => by simp) _ s
@[simp] theorem dropOpen_pair (s : State) (sid : Nat) : (dropOpen s sid).pair = s.pair := by
  unfold dropOpen; exact foldl_keeps (fun t => t.pair) (fun t x => by simp) _ s
@[simp] theorem dropOpen_update (s : State) (sid : Nat) : (dropOpen s sid).update = s.update := by
  unfold dropOpen; exact foldl_keeps (fun t => t.update) (fun t x => by simp) _ s
@[simp] theorem dropOpen_recorder (s : State) (sid : Nat) : (dropOpen s sid).recorder = s.recorder := by
  unfold dropOpen; exact foldl_keeps (fun t => t.recorder) (fun t x => by simp) _ s
@[simp] theorem dropOpen_pads (s : State) (sid : Nat) : (dropOpen s sid).pads = s.pads := by
  unfold dropOpen; exact foldl_keeps (fun t => t.pads) (fun t x => by simp) _ s

/-! ### `endSession`: the end of a session (R111) -/

@[simp] theorem endSession_pending (s : State) (sid : Nat) : (endSession s sid).pending = s.pending := by
  simp [endSession]
@[simp] theorem endSession_clk (s : State) (sid : Nat) : (endSession s sid).clk = s.clk := by
  simp [endSession]
@[simp] theorem endSession_fresh (s : State) (sid : Nat) : (endSession s sid).fresh = s.fresh := by
  simp [endSession]
@[simp] theorem endSession_out (s : State) (sid : Nat) : (endSession s sid).out = s.out := by
  simp [endSession]
@[simp] theorem endSession_backup (s : State) (sid : Nat) : (endSession s sid).backup = s.backup := by
  simp [endSession]
@[simp] theorem endSession_power (s : State) (sid : Nat) : (endSession s sid).power = s.power := by
  simp [endSession]
@[simp] theorem endSession_start (s : State) (sid : Nat) : (endSession s sid).start = s.start := by
  simp [endSession]
@[simp] theorem endSession_faults (s : State) (sid : Nat) : (endSession s sid).faults = s.faults := by
  simp [endSession]
@[simp] theorem endSession_deferred (s : State) (sid : Nat) : (endSession s sid).deferred = s.deferred := by
  simp [endSession]
@[simp] theorem endSession_keptHeld (s : State) (sid : Nat) : (endSession s sid).keptHeld = s.keptHeld := by
  simp [endSession]
@[simp] theorem endSession_bookmarkDue (s : State) (sid : Nat) : (endSession s sid).bookmarkDue = s.bookmarkDue := by
  simp [endSession]
@[simp] theorem endSession_logHeld (s : State) (sid : Nat) : (endSession s sid).logHeld = s.logHeld := by
  simp [endSession]
@[simp] theorem endSession_durable (s : State) (sid : Nat) : (endSession s sid).durable = s.durable := by
  simp [endSession]
@[simp] theorem endSession_mem (s : State) (sid : Nat) : (endSession s sid).mem = s.mem := by
  simp [endSession]
@[simp] theorem endSession_zones (s : State) (sid : Nat) : (endSession s sid).zones = s.zones := by
  simp [endSession]
@[simp] theorem endSession_engines (s : State) (sid : Nat) : (endSession s sid).engines = s.engines := by
  simp [endSession]
@[simp] theorem endSession_lanes (s : State) (sid : Nat) : (endSession s sid).lanes = s.lanes := by
  simp [endSession]
@[simp] theorem endSession_dma (s : State) (sid : Nat) : (endSession s sid).dma = s.dma := by
  simp [endSession]
@[simp] theorem endSession_meter (s : State) (sid : Nat) : (endSession s sid).meter = s.meter := by
  simp [endSession]
@[simp] theorem endSession_time (s : State) (sid : Nat) : (endSession s sid).time = s.time := by
  simp [endSession]
@[simp] theorem endSession_bus (s : State) (sid : Nat) : (endSession s sid).bus = s.bus := by
  simp [endSession]
@[simp] theorem endSession_air (s : State) (sid : Nat) : (endSession s sid).air = s.air := by
  simp [endSession]
@[simp] theorem endSession_safety (s : State) (sid : Nat) : (endSession s sid).safety = s.safety := by
  simp [endSession]
@[simp] theorem endSession_pair (s : State) (sid : Nat) : (endSession s sid).pair = s.pair := by
  simp [endSession]
@[simp] theorem endSession_update (s : State) (sid : Nat) : (endSession s sid).update = s.update := by
  simp [endSession]
@[simp] theorem endSession_recorder (s : State) (sid : Nat) : (endSession s sid).recorder = s.recorder := by
  simp [endSession]
@[simp] theorem endSession_pads (s : State) (sid : Nat) : (endSession s sid).pads = s.pads := by
  simp [endSession]

/-! ### `endSessions`: the end of sessions of a kind -/

@[simp] theorem endSessions_pending (s : State) (p : Nat → Bool) : (endSessions s p).pending = s.pending := by
  unfold endSessions; exact foldl_keeps (fun t => t.pending) (fun t x => by simp) _ s
@[simp] theorem endSessions_clk (s : State) (p : Nat → Bool) : (endSessions s p).clk = s.clk := by
  unfold endSessions; exact foldl_keeps (fun t => t.clk) (fun t x => by simp) _ s
@[simp] theorem endSessions_fresh (s : State) (p : Nat → Bool) : (endSessions s p).fresh = s.fresh := by
  unfold endSessions; exact foldl_keeps (fun t => t.fresh) (fun t x => by simp) _ s
@[simp] theorem endSessions_out (s : State) (p : Nat → Bool) : (endSessions s p).out = s.out := by
  unfold endSessions; exact foldl_keeps (fun t => t.out) (fun t x => by simp) _ s
@[simp] theorem endSessions_backup (s : State) (p : Nat → Bool) : (endSessions s p).backup = s.backup := by
  unfold endSessions; exact foldl_keeps (fun t => t.backup) (fun t x => by simp) _ s
@[simp] theorem endSessions_power (s : State) (p : Nat → Bool) : (endSessions s p).power = s.power := by
  unfold endSessions; exact foldl_keeps (fun t => t.power) (fun t x => by simp) _ s
@[simp] theorem endSessions_start (s : State) (p : Nat → Bool) : (endSessions s p).start = s.start := by
  unfold endSessions; exact foldl_keeps (fun t => t.start) (fun t x => by simp) _ s
@[simp] theorem endSessions_faults (s : State) (p : Nat → Bool) : (endSessions s p).faults = s.faults := by
  unfold endSessions; exact foldl_keeps (fun t => t.faults) (fun t x => by simp) _ s
@[simp] theorem endSessions_deferred (s : State) (p : Nat → Bool) : (endSessions s p).deferred = s.deferred := by
  unfold endSessions; exact foldl_keeps (fun t => t.deferred) (fun t x => by simp) _ s
@[simp] theorem endSessions_keptHeld (s : State) (p : Nat → Bool) : (endSessions s p).keptHeld = s.keptHeld := by
  unfold endSessions; exact foldl_keeps (fun t => t.keptHeld) (fun t x => by simp) _ s
@[simp] theorem endSessions_bookmarkDue (s : State) (p : Nat → Bool) : (endSessions s p).bookmarkDue = s.bookmarkDue := by
  unfold endSessions; exact foldl_keeps (fun t => t.bookmarkDue) (fun t x => by simp) _ s
@[simp] theorem endSessions_logHeld (s : State) (p : Nat → Bool) : (endSessions s p).logHeld = s.logHeld := by
  unfold endSessions; exact foldl_keeps (fun t => t.logHeld) (fun t x => by simp) _ s
@[simp] theorem endSessions_durable (s : State) (p : Nat → Bool) : (endSessions s p).durable = s.durable := by
  unfold endSessions; exact foldl_keeps (fun t => t.durable) (fun t x => by simp) _ s
@[simp] theorem endSessions_mem (s : State) (p : Nat → Bool) : (endSessions s p).mem = s.mem := by
  unfold endSessions; exact foldl_keeps (fun t => t.mem) (fun t x => by simp) _ s
@[simp] theorem endSessions_zones (s : State) (p : Nat → Bool) : (endSessions s p).zones = s.zones := by
  unfold endSessions; exact foldl_keeps (fun t => t.zones) (fun t x => by simp) _ s
@[simp] theorem endSessions_engines (s : State) (p : Nat → Bool) : (endSessions s p).engines = s.engines := by
  unfold endSessions; exact foldl_keeps (fun t => t.engines) (fun t x => by simp) _ s
@[simp] theorem endSessions_lanes (s : State) (p : Nat → Bool) : (endSessions s p).lanes = s.lanes := by
  unfold endSessions; exact foldl_keeps (fun t => t.lanes) (fun t x => by simp) _ s
@[simp] theorem endSessions_dma (s : State) (p : Nat → Bool) : (endSessions s p).dma = s.dma := by
  unfold endSessions; exact foldl_keeps (fun t => t.dma) (fun t x => by simp) _ s
@[simp] theorem endSessions_meter (s : State) (p : Nat → Bool) : (endSessions s p).meter = s.meter := by
  unfold endSessions; exact foldl_keeps (fun t => t.meter) (fun t x => by simp) _ s
@[simp] theorem endSessions_time (s : State) (p : Nat → Bool) : (endSessions s p).time = s.time := by
  unfold endSessions; exact foldl_keeps (fun t => t.time) (fun t x => by simp) _ s
@[simp] theorem endSessions_bus (s : State) (p : Nat → Bool) : (endSessions s p).bus = s.bus := by
  unfold endSessions; exact foldl_keeps (fun t => t.bus) (fun t x => by simp) _ s
@[simp] theorem endSessions_air (s : State) (p : Nat → Bool) : (endSessions s p).air = s.air := by
  unfold endSessions; exact foldl_keeps (fun t => t.air) (fun t x => by simp) _ s
@[simp] theorem endSessions_safety (s : State) (p : Nat → Bool) : (endSessions s p).safety = s.safety := by
  unfold endSessions; exact foldl_keeps (fun t => t.safety) (fun t x => by simp) _ s
@[simp] theorem endSessions_pair (s : State) (p : Nat → Bool) : (endSessions s p).pair = s.pair := by
  unfold endSessions; exact foldl_keeps (fun t => t.pair) (fun t x => by simp) _ s
@[simp] theorem endSessions_update (s : State) (p : Nat → Bool) : (endSessions s p).update = s.update := by
  unfold endSessions; exact foldl_keeps (fun t => t.update) (fun t x => by simp) _ s
@[simp] theorem endSessions_recorder (s : State) (p : Nat → Bool) : (endSessions s p).recorder = s.recorder := by
  unfold endSessions; exact foldl_keeps (fun t => t.recorder) (fun t x => by simp) _ s
@[simp] theorem endSessions_pads (s : State) (p : Nat → Bool) : (endSessions s p).pads = s.pads := by
  unfold endSessions; exact foldl_keeps (fun t => t.pads) (fun t x => by simp) _ s

/-! ### `closeSession`: a session closed under its client (R82) -/

@[simp] theorem closeSession_pending (s : State) (sid : Nat) : (closeSession s sid).pending = s.pending := by
  simp [closeSession]
@[simp] theorem closeSession_clk (s : State) (sid : Nat) : (closeSession s sid).clk = s.clk := by
  simp [closeSession]
@[simp] theorem closeSession_fresh (s : State) (sid : Nat) : (closeSession s sid).fresh = s.fresh := by
  simp [closeSession]
@[simp] theorem closeSession_out (s : State) (sid : Nat) : (closeSession s sid).out = s.out := by
  simp [closeSession]
@[simp] theorem closeSession_backup (s : State) (sid : Nat) : (closeSession s sid).backup = s.backup := by
  simp [closeSession]
@[simp] theorem closeSession_power (s : State) (sid : Nat) : (closeSession s sid).power = s.power := by
  simp [closeSession]
@[simp] theorem closeSession_start (s : State) (sid : Nat) : (closeSession s sid).start = s.start := by
  simp [closeSession]
@[simp] theorem closeSession_faults (s : State) (sid : Nat) : (closeSession s sid).faults = s.faults := by
  simp [closeSession]
@[simp] theorem closeSession_deferred (s : State) (sid : Nat) : (closeSession s sid).deferred = s.deferred := by
  simp [closeSession]
@[simp] theorem closeSession_keptHeld (s : State) (sid : Nat) : (closeSession s sid).keptHeld = s.keptHeld := by
  simp [closeSession]
@[simp] theorem closeSession_bookmarkDue (s : State) (sid : Nat) : (closeSession s sid).bookmarkDue = s.bookmarkDue := by
  simp [closeSession]
@[simp] theorem closeSession_logHeld (s : State) (sid : Nat) : (closeSession s sid).logHeld = s.logHeld := by
  simp [closeSession]
@[simp] theorem closeSession_durable (s : State) (sid : Nat) : (closeSession s sid).durable = s.durable := by
  simp [closeSession]
@[simp] theorem closeSession_mem (s : State) (sid : Nat) : (closeSession s sid).mem = s.mem := by
  simp [closeSession]
@[simp] theorem closeSession_zones (s : State) (sid : Nat) : (closeSession s sid).zones = s.zones := by
  simp [closeSession]
@[simp] theorem closeSession_engines (s : State) (sid : Nat) : (closeSession s sid).engines = s.engines := by
  simp [closeSession]
@[simp] theorem closeSession_lanes (s : State) (sid : Nat) : (closeSession s sid).lanes = s.lanes := by
  simp [closeSession]
@[simp] theorem closeSession_dma (s : State) (sid : Nat) : (closeSession s sid).dma = s.dma := by
  simp [closeSession]
@[simp] theorem closeSession_meter (s : State) (sid : Nat) : (closeSession s sid).meter = s.meter := by
  simp [closeSession]
@[simp] theorem closeSession_time (s : State) (sid : Nat) : (closeSession s sid).time = s.time := by
  simp [closeSession]
@[simp] theorem closeSession_bus (s : State) (sid : Nat) : (closeSession s sid).bus = s.bus := by
  simp [closeSession]
@[simp] theorem closeSession_air (s : State) (sid : Nat) : (closeSession s sid).air = s.air := by
  simp [closeSession]
@[simp] theorem closeSession_safety (s : State) (sid : Nat) : (closeSession s sid).safety = s.safety := by
  simp [closeSession]
@[simp] theorem closeSession_pair (s : State) (sid : Nat) : (closeSession s sid).pair = s.pair := by
  simp [closeSession]
@[simp] theorem closeSession_update (s : State) (sid : Nat) : (closeSession s sid).update = s.update := by
  simp [closeSession]
@[simp] theorem closeSession_recorder (s : State) (sid : Nat) : (closeSession s sid).recorder = s.recorder := by
  simp [closeSession]
@[simp] theorem closeSession_pads (s : State) (sid : Nat) : (closeSession s sid).pads = s.pads := by
  simp [closeSession]

/-! ### `blockReset`: a block reset (R58) -/

@[simp] theorem blockReset_pending (s : State) (src blk : Nat) : (blockReset s src blk).pending = s.pending := by
  unfold blockReset; dsimp only; rw [showPending_pending]; split_ifs <;> simp
@[simp] theorem blockReset_clk (s : State) (src blk : Nat) : (blockReset s src blk).clk = s.clk := by
  unfold blockReset; dsimp only; rw [showPending_clk]; split_ifs <;> simp
@[simp] theorem blockReset_fresh (s : State) (src blk : Nat) : (blockReset s src blk).fresh = s.fresh := by
  unfold blockReset; dsimp only; rw [showPending_fresh]; split_ifs <;> simp
@[simp] theorem blockReset_out (s : State) (src blk : Nat) : (blockReset s src blk).out = s.out := by
  unfold blockReset; dsimp only; rw [showPending_out]; split_ifs <;> simp
@[simp] theorem blockReset_backup (s : State) (src blk : Nat) : (blockReset s src blk).backup = s.backup := by
  unfold blockReset; dsimp only; rw [showPending_backup]; split_ifs <;> simp
@[simp] theorem blockReset_power (s : State) (src blk : Nat) : (blockReset s src blk).power = s.power := by
  unfold blockReset; dsimp only; rw [showPending_power]; split_ifs <;> simp
@[simp] theorem blockReset_start (s : State) (src blk : Nat) : (blockReset s src blk).start = s.start := by
  unfold blockReset; dsimp only; rw [showPending_start]; split_ifs <;> simp
@[simp] theorem blockReset_faults (s : State) (src blk : Nat) : (blockReset s src blk).faults = s.faults := by
  unfold blockReset; dsimp only; rw [showPending_faults]; split_ifs <;> simp
@[simp] theorem blockReset_deferred (s : State) (src blk : Nat) : (blockReset s src blk).deferred = s.deferred := by
  unfold blockReset; dsimp only; rw [showPending_deferred]; split_ifs <;> simp
@[simp] theorem blockReset_keptHeld (s : State) (src blk : Nat) : (blockReset s src blk).keptHeld = s.keptHeld := by
  unfold blockReset; dsimp only; rw [showPending_keptHeld]; split_ifs <;> simp
@[simp] theorem blockReset_bookmarkDue (s : State) (src blk : Nat) : (blockReset s src blk).bookmarkDue = s.bookmarkDue := by
  unfold blockReset; dsimp only; rw [showPending_bookmarkDue]; split_ifs <;> simp
@[simp] theorem blockReset_logHeld (s : State) (src blk : Nat) : (blockReset s src blk).logHeld = s.logHeld := by
  unfold blockReset; dsimp only; rw [showPending_logHeld]; split_ifs <;> simp
@[simp] theorem blockReset_durable (s : State) (src blk : Nat) : (blockReset s src blk).durable = s.durable := by
  unfold blockReset; dsimp only; rw [showPending_durable]; split_ifs <;> simp
@[simp] theorem blockReset_mem (s : State) (src blk : Nat) : (blockReset s src blk).mem = s.mem := by
  unfold blockReset; dsimp only; rw [showPending_mem]; split_ifs <;> simp
@[simp] theorem blockReset_zones (s : State) (src blk : Nat) : (blockReset s src blk).zones = s.zones := by
  unfold blockReset; dsimp only; rw [showPending_zones]; split_ifs <;> simp
@[simp] theorem blockReset_time (s : State) (src blk : Nat) : (blockReset s src blk).time = s.time := by
  unfold blockReset; dsimp only; rw [showPending_time]; split_ifs <;> simp
@[simp] theorem blockReset_safety (s : State) (src blk : Nat) : (blockReset s src blk).safety = s.safety := by
  unfold blockReset; dsimp only; rw [showPending_safety]; split_ifs <;> simp
@[simp] theorem blockReset_pair (s : State) (src blk : Nat) : (blockReset s src blk).pair = s.pair := by
  unfold blockReset; dsimp only; rw [showPending_pair]; split_ifs <;> simp
@[simp] theorem blockReset_update (s : State) (src blk : Nat) : (blockReset s src blk).update = s.update := by
  unfold blockReset; dsimp only; rw [showPending_update]; split_ifs <;> simp
@[simp] theorem blockReset_recorder (s : State) (src blk : Nat) : (blockReset s src blk).recorder = s.recorder := by
  unfold blockReset; dsimp only; rw [showPending_recorder]; split_ifs <;> simp
@[simp] theorem blockReset_pads (s : State) (src blk : Nat) : (blockReset s src blk).pads = s.pads := by
  unfold blockReset; dsimp only; rw [showPending_pads]; split_ifs <;> simp

/-! ### `orderReset`: a reset is ordered (R58) -/

@[simp] theorem orderReset_pending (s : State) (cause detail : Nat) : (orderReset s cause detail).pending = s.pending := by
  unfold orderReset; split <;> (try split) <;> rfl
@[simp] theorem orderReset_clk (s : State) (cause detail : Nat) : (orderReset s cause detail).clk = s.clk := by
  unfold orderReset; split <;> (try split) <;> rfl
@[simp] theorem orderReset_fresh (s : State) (cause detail : Nat) : (orderReset s cause detail).fresh = s.fresh := by
  unfold orderReset; split <;> (try split) <;> rfl
@[simp] theorem orderReset_out (s : State) (cause detail : Nat) : (orderReset s cause detail).out = s.out := by
  unfold orderReset; split <;> (try split) <;> rfl
@[simp] theorem orderReset_regs (s : State) (cause detail : Nat) : (orderReset s cause detail).regs = s.regs := by
  unfold orderReset; split <;> (try split) <;> rfl
@[simp] theorem orderReset_mram (s : State) (cause detail : Nat) : (orderReset s cause detail).mram = s.mram := by
  unfold orderReset; split <;> (try split) <;> rfl
@[simp] theorem orderReset_backup (s : State) (cause detail : Nat) : (orderReset s cause detail).backup = s.backup := by
  unfold orderReset; split <;> (try split) <;> rfl
@[simp] theorem orderReset_power (s : State) (cause detail : Nat) : (orderReset s cause detail).power = s.power := by
  unfold orderReset; split <;> (try split) <;> rfl
@[simp] theorem orderReset_server (s : State) (cause detail : Nat) : (orderReset s cause detail).server = s.server := by
  unfold orderReset; split <;> (try split) <;> rfl
@[simp] theorem orderReset_faults (s : State) (cause detail : Nat) : (orderReset s cause detail).faults = s.faults := by
  unfold orderReset; split <;> (try split) <;> rfl
@[simp] theorem orderReset_deferred (s : State) (cause detail : Nat) : (orderReset s cause detail).deferred = s.deferred := by
  unfold orderReset; split <;> (try split) <;> rfl
@[simp] theorem orderReset_keptHeld (s : State) (cause detail : Nat) : (orderReset s cause detail).keptHeld = s.keptHeld := by
  unfold orderReset; split <;> (try split) <;> rfl
@[simp] theorem orderReset_bookmarkDue (s : State) (cause detail : Nat) : (orderReset s cause detail).bookmarkDue = s.bookmarkDue := by
  unfold orderReset; split <;> (try split) <;> rfl
@[simp] theorem orderReset_logHeld (s : State) (cause detail : Nat) : (orderReset s cause detail).logHeld = s.logHeld := by
  unfold orderReset; split <;> (try split) <;> rfl
@[simp] theorem orderReset_durable (s : State) (cause detail : Nat) : (orderReset s cause detail).durable = s.durable := by
  unfold orderReset; split <;> (try split) <;> rfl
@[simp] theorem orderReset_mem (s : State) (cause detail : Nat) : (orderReset s cause detail).mem = s.mem := by
  unfold orderReset; split <;> (try split) <;> rfl
@[simp] theorem orderReset_zones (s : State) (cause detail : Nat) : (orderReset s cause detail).zones = s.zones := by
  unfold orderReset; split <;> (try split) <;> rfl
@[simp] theorem orderReset_engines (s : State) (cause detail : Nat) : (orderReset s cause detail).engines = s.engines := by
  unfold orderReset; split <;> (try split) <;> rfl
@[simp] theorem orderReset_lanes (s : State) (cause detail : Nat) : (orderReset s cause detail).lanes = s.lanes := by
  unfold orderReset; split <;> (try split) <;> rfl
@[simp] theorem orderReset_dma (s : State) (cause detail : Nat) : (orderReset s cause detail).dma = s.dma := by
  unfold orderReset; split <;> (try split) <;> rfl
@[simp] theorem orderReset_meter (s : State) (cause detail : Nat) : (orderReset s cause detail).meter = s.meter := by
  unfold orderReset; split <;> (try split) <;> rfl
@[simp] theorem orderReset_time (s : State) (cause detail : Nat) : (orderReset s cause detail).time = s.time := by
  unfold orderReset; split <;> (try split) <;> rfl
@[simp] theorem orderReset_bus (s : State) (cause detail : Nat) : (orderReset s cause detail).bus = s.bus := by
  unfold orderReset; split <;> (try split) <;> rfl
@[simp] theorem orderReset_air (s : State) (cause detail : Nat) : (orderReset s cause detail).air = s.air := by
  unfold orderReset; split <;> (try split) <;> rfl
@[simp] theorem orderReset_safety (s : State) (cause detail : Nat) : (orderReset s cause detail).safety = s.safety := by
  unfold orderReset; split <;> (try split) <;> rfl
@[simp] theorem orderReset_pair (s : State) (cause detail : Nat) : (orderReset s cause detail).pair = s.pair := by
  unfold orderReset; split <;> (try split) <;> rfl
@[simp] theorem orderReset_update (s : State) (cause detail : Nat) : (orderReset s cause detail).update = s.update := by
  unfold orderReset; split <;> (try split) <;> rfl
@[simp] theorem orderReset_recorder (s : State) (cause detail : Nat) : (orderReset s cause detail).recorder = s.recorder := by
  unfold orderReset; split <;> (try split) <;> rfl
@[simp] theorem orderReset_pads (s : State) (cause detail : Nat) : (orderReset s cause detail).pads = s.pads := by
  unfold orderReset; split <;> (try split) <;> rfl

/-! ### `resetPending`: a pending reset (R60) -/

@[simp] theorem resetPending_pending (s : State)  : (resetPending s ).pending = s.pending := by
  simp [resetPending]
@[simp] theorem resetPending_clk (s : State)  : (resetPending s ).clk = s.clk := by
  simp [resetPending]
@[simp] theorem resetPending_fresh (s : State)  : (resetPending s ).fresh = s.fresh := by
  simp [resetPending]
@[simp] theorem resetPending_out (s : State)  : (resetPending s ).out = s.out := by
  simp [resetPending]
@[simp] theorem resetPending_mram (s : State)  : (resetPending s ).mram = s.mram := by
  simp [resetPending]
@[simp] theorem resetPending_backup (s : State)  : (resetPending s ).backup = s.backup := by
  simp [resetPending]
@[simp] theorem resetPending_power (s : State)  : (resetPending s ).power = s.power := by
  simp [resetPending]
@[simp] theorem resetPending_start (s : State)  : (resetPending s ).start = s.start := by
  simp [resetPending]
@[simp] theorem resetPending_faults (s : State)  : (resetPending s ).faults = s.faults := by
  simp [resetPending]
@[simp] theorem resetPending_deferred (s : State)  : (resetPending s ).deferred = s.deferred := by
  simp [resetPending]
@[simp] theorem resetPending_keptHeld (s : State)  : (resetPending s ).keptHeld = s.keptHeld := by
  simp [resetPending]
@[simp] theorem resetPending_bookmarkDue (s : State)  : (resetPending s ).bookmarkDue = s.bookmarkDue := by
  simp [resetPending]
@[simp] theorem resetPending_logHeld (s : State)  : (resetPending s ).logHeld = s.logHeld := by
  simp [resetPending]
@[simp] theorem resetPending_durable (s : State)  : (resetPending s ).durable = s.durable := by
  simp [resetPending]
@[simp] theorem resetPending_mem (s : State)  : (resetPending s ).mem = s.mem := by
  simp [resetPending]
@[simp] theorem resetPending_zones (s : State)  : (resetPending s ).zones = s.zones := by
  simp [resetPending]
@[simp] theorem resetPending_engines (s : State)  : (resetPending s ).engines = s.engines := by
  simp [resetPending]
@[simp] theorem resetPending_lanes (s : State)  : (resetPending s ).lanes = s.lanes := by
  simp [resetPending]
@[simp] theorem resetPending_dma (s : State)  : (resetPending s ).dma = s.dma := by
  simp [resetPending]
@[simp] theorem resetPending_meter (s : State)  : (resetPending s ).meter = s.meter := by
  simp [resetPending]
@[simp] theorem resetPending_time (s : State)  : (resetPending s ).time = s.time := by
  simp [resetPending]
@[simp] theorem resetPending_bus (s : State)  : (resetPending s ).bus = s.bus := by
  simp [resetPending]
@[simp] theorem resetPending_air (s : State)  : (resetPending s ).air = s.air := by
  simp [resetPending]
@[simp] theorem resetPending_safety (s : State)  : (resetPending s ).safety = s.safety := by
  simp [resetPending]
@[simp] theorem resetPending_pair (s : State)  : (resetPending s ).pair = s.pair := by
  simp [resetPending]
@[simp] theorem resetPending_update (s : State)  : (resetPending s ).update = s.update := by
  simp [resetPending]
@[simp] theorem resetPending_recorder (s : State)  : (resetPending s ).recorder = s.recorder := by
  simp [resetPending]
@[simp] theorem resetPending_pads (s : State)  : (resetPending s ).pads = s.pads := by
  simp [resetPending]

/-! ### `react`: a reaction (Table 16-6) -/

@[simp] theorem react_pending (s : State) (src blk code : Nat) : (react s src blk code).pending = s.pending := by
  unfold react; split_ifs <;> simp
@[simp] theorem react_clk (s : State) (src blk code : Nat) : (react s src blk code).clk = s.clk := by
  unfold react; split_ifs <;> simp
@[simp] theorem react_fresh (s : State) (src blk code : Nat) : (react s src blk code).fresh = s.fresh := by
  unfold react; split_ifs <;> simp
@[simp] theorem react_backup (s : State) (src blk code : Nat) : (react s src blk code).backup = s.backup := by
  unfold react; split_ifs <;> simp
@[simp] theorem react_power (s : State) (src blk code : Nat) : (react s src blk code).power = s.power := by
  unfold react; split_ifs <;> simp
@[simp] theorem react_faults (s : State) (src blk code : Nat) : (react s src blk code).faults = s.faults := by
  unfold react; split_ifs <;> simp
@[simp] theorem react_deferred (s : State) (src blk code : Nat) : (react s src blk code).deferred = s.deferred := by
  unfold react; split_ifs <;> simp
@[simp] theorem react_bookmarkDue (s : State) (src blk code : Nat) : (react s src blk code).bookmarkDue = s.bookmarkDue := by
  unfold react; split_ifs <;> simp
@[simp] theorem react_logHeld (s : State) (src blk code : Nat) : (react s src blk code).logHeld = s.logHeld := by
  unfold react; split_ifs <;> simp
@[simp] theorem react_durable (s : State) (src blk code : Nat) : (react s src blk code).durable = s.durable := by
  unfold react; split_ifs <;> simp
@[simp] theorem react_mem (s : State) (src blk code : Nat) : (react s src blk code).mem = s.mem := by
  unfold react; split_ifs <;> simp
@[simp] theorem react_zones (s : State) (src blk code : Nat) : (react s src blk code).zones = s.zones := by
  unfold react; split_ifs <;> simp
@[simp] theorem react_time (s : State) (src blk code : Nat) : (react s src blk code).time = s.time := by
  unfold react; split_ifs <;> simp
@[simp] theorem react_safety (s : State) (src blk code : Nat) : (react s src blk code).safety = s.safety := by
  unfold react; split_ifs <;> simp
@[simp] theorem react_pair (s : State) (src blk code : Nat) : (react s src blk code).pair = s.pair := by
  unfold react; split_ifs <;> simp
@[simp] theorem react_update (s : State) (src blk code : Nat) : (react s src blk code).update = s.update := by
  unfold react; split_ifs <;> simp
@[simp] theorem react_recorder (s : State) (src blk code : Nat) : (react s src blk code).recorder = s.recorder := by
  unfold react; split_ifs <;> simp
@[simp] theorem react_pads (s : State) (src blk code : Nat) : (react s src blk code).pads = s.pads := by
  unfold react; split_ifs <;> simp

/-! ### `raise`: a raise (R412, R415, R417) -/

@[simp] theorem raise_pending (s : State) (src kind addr blk : Nat) : (raise s src kind addr blk).pending = s.pending := by
  unfold raise; dsimp only; split_ifs <;> simp
@[simp] theorem raise_clk (s : State) (src kind addr blk : Nat) : (raise s src kind addr blk).clk = s.clk := by
  unfold raise; dsimp only; split_ifs <;> simp
@[simp] theorem raise_fresh (s : State) (src kind addr blk : Nat) : (raise s src kind addr blk).fresh = s.fresh := by
  unfold raise; dsimp only; split_ifs <;> simp
@[simp] theorem raise_backup (s : State) (src kind addr blk : Nat) : (raise s src kind addr blk).backup = s.backup := by
  unfold raise; dsimp only; split_ifs <;> simp
@[simp] theorem raise_power (s : State) (src kind addr blk : Nat) : (raise s src kind addr blk).power = s.power := by
  unfold raise; dsimp only; split_ifs <;> simp
@[simp] theorem raise_deferred (s : State) (src kind addr blk : Nat) : (raise s src kind addr blk).deferred = s.deferred := by
  unfold raise; dsimp only; split_ifs <;> simp
@[simp] theorem raise_bookmarkDue (s : State) (src kind addr blk : Nat) : (raise s src kind addr blk).bookmarkDue = s.bookmarkDue := by
  unfold raise; dsimp only; split_ifs <;> simp
@[simp] theorem raise_durable (s : State) (src kind addr blk : Nat) : (raise s src kind addr blk).durable = s.durable := by
  unfold raise; dsimp only; split_ifs <;> simp
@[simp] theorem raise_mem (s : State) (src kind addr blk : Nat) : (raise s src kind addr blk).mem = s.mem := by
  unfold raise; dsimp only; split_ifs <;> simp
@[simp] theorem raise_zones (s : State) (src kind addr blk : Nat) : (raise s src kind addr blk).zones = s.zones := by
  unfold raise; dsimp only; split_ifs <;> simp
@[simp] theorem raise_time (s : State) (src kind addr blk : Nat) : (raise s src kind addr blk).time = s.time := by
  unfold raise; dsimp only; split_ifs <;> simp
@[simp] theorem raise_safety (s : State) (src kind addr blk : Nat) : (raise s src kind addr blk).safety = s.safety := by
  unfold raise; dsimp only; split_ifs <;> simp
@[simp] theorem raise_pair (s : State) (src kind addr blk : Nat) : (raise s src kind addr blk).pair = s.pair := by
  unfold raise; dsimp only; split_ifs <;> simp
@[simp] theorem raise_update (s : State) (src kind addr blk : Nat) : (raise s src kind addr blk).update = s.update := by
  unfold raise; dsimp only; split_ifs <;> simp
@[simp] theorem raise_recorder (s : State) (src kind addr blk : Nat) : (raise s src kind addr blk).recorder = s.recorder := by
  unfold raise; dsimp only; split_ifs <;> simp
@[simp] theorem raise_pads (s : State) (src kind addr blk : Nat) : (raise s src kind addr blk).pads = s.pads := by
  unfold raise; dsimp only; split_ifs <;> simp

/-! ### `endCondition`: the end of a condition (R412) -/

@[simp] theorem endCondition_pending (s : State) (src : Nat) : (endCondition s src).pending = s.pending := by
  unfold endCondition; dsimp only; split_ifs <;> simp
@[simp] theorem endCondition_clk (s : State) (src : Nat) : (endCondition s src).clk = s.clk := by
  unfold endCondition; dsimp only; split_ifs <;> simp
@[simp] theorem endCondition_fresh (s : State) (src : Nat) : (endCondition s src).fresh = s.fresh := by
  unfold endCondition; dsimp only; split_ifs <;> simp
@[simp] theorem endCondition_out (s : State) (src : Nat) : (endCondition s src).out = s.out := by
  unfold endCondition; dsimp only; split_ifs <;> simp
@[simp] theorem endCondition_mram (s : State) (src : Nat) : (endCondition s src).mram = s.mram := by
  unfold endCondition; dsimp only; split_ifs <;> simp
@[simp] theorem endCondition_backup (s : State) (src : Nat) : (endCondition s src).backup = s.backup := by
  unfold endCondition; dsimp only; split_ifs <;> simp
@[simp] theorem endCondition_power (s : State) (src : Nat) : (endCondition s src).power = s.power := by
  unfold endCondition; dsimp only; split_ifs <;> simp
@[simp] theorem endCondition_start (s : State) (src : Nat) : (endCondition s src).start = s.start := by
  unfold endCondition; dsimp only; split_ifs <;> simp
@[simp] theorem endCondition_deferred (s : State) (src : Nat) : (endCondition s src).deferred = s.deferred := by
  unfold endCondition; dsimp only; split_ifs <;> simp
@[simp] theorem endCondition_keptHeld (s : State) (src : Nat) : (endCondition s src).keptHeld = s.keptHeld := by
  unfold endCondition; dsimp only; split_ifs <;> simp
@[simp] theorem endCondition_bookmarkDue (s : State) (src : Nat) : (endCondition s src).bookmarkDue = s.bookmarkDue := by
  unfold endCondition; dsimp only; split_ifs <;> simp
@[simp] theorem endCondition_logHeld (s : State) (src : Nat) : (endCondition s src).logHeld = s.logHeld := by
  unfold endCondition; dsimp only; split_ifs <;> simp
@[simp] theorem endCondition_durable (s : State) (src : Nat) : (endCondition s src).durable = s.durable := by
  unfold endCondition; dsimp only; split_ifs <;> simp
@[simp] theorem endCondition_mem (s : State) (src : Nat) : (endCondition s src).mem = s.mem := by
  unfold endCondition; dsimp only; split_ifs <;> simp
@[simp] theorem endCondition_zones (s : State) (src : Nat) : (endCondition s src).zones = s.zones := by
  unfold endCondition; dsimp only; split_ifs <;> simp
@[simp] theorem endCondition_engines (s : State) (src : Nat) : (endCondition s src).engines = s.engines := by
  unfold endCondition; dsimp only; split_ifs <;> simp
@[simp] theorem endCondition_lanes (s : State) (src : Nat) : (endCondition s src).lanes = s.lanes := by
  unfold endCondition; dsimp only; split_ifs <;> simp
@[simp] theorem endCondition_dma (s : State) (src : Nat) : (endCondition s src).dma = s.dma := by
  unfold endCondition; dsimp only; split_ifs <;> simp
@[simp] theorem endCondition_meter (s : State) (src : Nat) : (endCondition s src).meter = s.meter := by
  unfold endCondition; dsimp only; split_ifs <;> simp
@[simp] theorem endCondition_time (s : State) (src : Nat) : (endCondition s src).time = s.time := by
  unfold endCondition; dsimp only; split_ifs <;> simp
@[simp] theorem endCondition_bus (s : State) (src : Nat) : (endCondition s src).bus = s.bus := by
  unfold endCondition; dsimp only; split_ifs <;> simp
@[simp] theorem endCondition_air (s : State) (src : Nat) : (endCondition s src).air = s.air := by
  unfold endCondition; dsimp only; split_ifs <;> simp
@[simp] theorem endCondition_safety (s : State) (src : Nat) : (endCondition s src).safety = s.safety := by
  unfold endCondition; dsimp only; split_ifs <;> simp
@[simp] theorem endCondition_pair (s : State) (src : Nat) : (endCondition s src).pair = s.pair := by
  unfold endCondition; dsimp only; split_ifs <;> simp
@[simp] theorem endCondition_update (s : State) (src : Nat) : (endCondition s src).update = s.update := by
  unfold endCondition; dsimp only; split_ifs <;> simp
@[simp] theorem endCondition_recorder (s : State) (src : Nat) : (endCondition s src).recorder = s.recorder := by
  unfold endCondition; dsimp only; split_ifs <;> simp
@[simp] theorem endCondition_pads (s : State) (src : Nat) : (endCondition s src).pads = s.pads := by
  unfold endCondition; dsimp only; split_ifs <;> simp

/-! ### `transact`: a persistent transaction (R90) -/

@[simp] theorem transact_pending (s : State) (items : List (Key × Val)) : (transact s items).pending = s.pending := by
  unfold transact; dsimp only; split_ifs <;> simp
@[simp] theorem transact_clk (s : State) (items : List (Key × Val)) : (transact s items).clk = s.clk := by
  unfold transact; dsimp only; split_ifs <;> simp
@[simp] theorem transact_fresh (s : State) (items : List (Key × Val)) : (transact s items).fresh = s.fresh := by
  unfold transact; dsimp only; split_ifs <;> simp
@[simp] theorem transact_out (s : State) (items : List (Key × Val)) : (transact s items).out = s.out := by
  unfold transact; dsimp only; split_ifs <;> simp
@[simp] theorem transact_backup (s : State) (items : List (Key × Val)) : (transact s items).backup = s.backup := by
  unfold transact; dsimp only; split_ifs <;> simp
@[simp] theorem transact_power (s : State) (items : List (Key × Val)) : (transact s items).power = s.power := by
  unfold transact; dsimp only; split_ifs <;> simp
@[simp] theorem transact_start (s : State) (items : List (Key × Val)) : (transact s items).start = s.start := by
  unfold transact; dsimp only; split_ifs <;> simp
@[simp] theorem transact_faults (s : State) (items : List (Key × Val)) : (transact s items).faults = s.faults := by
  unfold transact; dsimp only; split_ifs <;> simp
@[simp] theorem transact_deferred (s : State) (items : List (Key × Val)) : (transact s items).deferred = s.deferred := by
  unfold transact; dsimp only; split_ifs <;> simp
@[simp] theorem transact_keptHeld (s : State) (items : List (Key × Val)) : (transact s items).keptHeld = s.keptHeld := by
  unfold transact; dsimp only; split_ifs <;> simp
@[simp] theorem transact_bookmarkDue (s : State) (items : List (Key × Val)) : (transact s items).bookmarkDue = s.bookmarkDue := by
  unfold transact; dsimp only; split_ifs <;> simp
@[simp] theorem transact_logHeld (s : State) (items : List (Key × Val)) : (transact s items).logHeld = s.logHeld := by
  unfold transact; dsimp only; split_ifs <;> simp
@[simp] theorem transact_durable (s : State) (items : List (Key × Val)) : (transact s items).durable = s.durable := by
  unfold transact; dsimp only; split_ifs <;> simp
@[simp] theorem transact_mem (s : State) (items : List (Key × Val)) : (transact s items).mem = s.mem := by
  unfold transact; dsimp only; split_ifs <;> simp
@[simp] theorem transact_zones (s : State) (items : List (Key × Val)) : (transact s items).zones = s.zones := by
  unfold transact; dsimp only; split_ifs <;> simp
@[simp] theorem transact_engines (s : State) (items : List (Key × Val)) : (transact s items).engines = s.engines := by
  unfold transact; dsimp only; split_ifs <;> simp
@[simp] theorem transact_lanes (s : State) (items : List (Key × Val)) : (transact s items).lanes = s.lanes := by
  unfold transact; dsimp only; split_ifs <;> simp
@[simp] theorem transact_dma (s : State) (items : List (Key × Val)) : (transact s items).dma = s.dma := by
  unfold transact; dsimp only; split_ifs <;> simp
@[simp] theorem transact_meter (s : State) (items : List (Key × Val)) : (transact s items).meter = s.meter := by
  unfold transact; dsimp only; split_ifs <;> simp
@[simp] theorem transact_time (s : State) (items : List (Key × Val)) : (transact s items).time = s.time := by
  unfold transact; dsimp only; split_ifs <;> simp
@[simp] theorem transact_bus (s : State) (items : List (Key × Val)) : (transact s items).bus = s.bus := by
  unfold transact; dsimp only; split_ifs <;> simp
@[simp] theorem transact_air (s : State) (items : List (Key × Val)) : (transact s items).air = s.air := by
  unfold transact; dsimp only; split_ifs <;> simp
@[simp] theorem transact_safety (s : State) (items : List (Key × Val)) : (transact s items).safety = s.safety := by
  unfold transact; dsimp only; split_ifs <;> simp
@[simp] theorem transact_pair (s : State) (items : List (Key × Val)) : (transact s items).pair = s.pair := by
  unfold transact; dsimp only; split_ifs <;> simp
@[simp] theorem transact_update (s : State) (items : List (Key × Val)) : (transact s items).update = s.update := by
  unfold transact; dsimp only; split_ifs <;> simp
@[simp] theorem transact_recorder (s : State) (items : List (Key × Val)) : (transact s items).recorder = s.recorder := by
  unfold transact; dsimp only; split_ifs <;> simp
@[simp] theorem transact_pads (s : State) (items : List (Key × Val)) : (transact s items).pads = s.pads := by
  unfold transact; dsimp only; split_ifs <;> simp

/-! ### `keepVal`: a value that the module keeps (R91) -/

@[simp] theorem keepVal_pending (s : State) (k : Key) (v : Val) : (keepVal s k v).pending = s.pending := by
  unfold keepVal; dsimp only; split_ifs <;> simp
@[simp] theorem keepVal_clk (s : State) (k : Key) (v : Val) : (keepVal s k v).clk = s.clk := by
  unfold keepVal; dsimp only; split_ifs <;> simp
@[simp] theorem keepVal_fresh (s : State) (k : Key) (v : Val) : (keepVal s k v).fresh = s.fresh := by
  unfold keepVal; dsimp only; split_ifs <;> simp
@[simp] theorem keepVal_out (s : State) (k : Key) (v : Val) : (keepVal s k v).out = s.out := by
  unfold keepVal; dsimp only; split_ifs <;> simp
@[simp] theorem keepVal_backup (s : State) (k : Key) (v : Val) : (keepVal s k v).backup = s.backup := by
  unfold keepVal; dsimp only; split_ifs <;> simp
@[simp] theorem keepVal_power (s : State) (k : Key) (v : Val) : (keepVal s k v).power = s.power := by
  unfold keepVal; dsimp only; split_ifs <;> simp
@[simp] theorem keepVal_start (s : State) (k : Key) (v : Val) : (keepVal s k v).start = s.start := by
  unfold keepVal; dsimp only; split_ifs <;> simp
@[simp] theorem keepVal_faults (s : State) (k : Key) (v : Val) : (keepVal s k v).faults = s.faults := by
  unfold keepVal; dsimp only; split_ifs <;> simp
@[simp] theorem keepVal_keptHeld (s : State) (k : Key) (v : Val) : (keepVal s k v).keptHeld = s.keptHeld := by
  unfold keepVal; dsimp only; split_ifs <;> simp
@[simp] theorem keepVal_bookmarkDue (s : State) (k : Key) (v : Val) : (keepVal s k v).bookmarkDue = s.bookmarkDue := by
  unfold keepVal; dsimp only; split_ifs <;> simp
@[simp] theorem keepVal_logHeld (s : State) (k : Key) (v : Val) : (keepVal s k v).logHeld = s.logHeld := by
  unfold keepVal; dsimp only; split_ifs <;> simp
@[simp] theorem keepVal_durable (s : State) (k : Key) (v : Val) : (keepVal s k v).durable = s.durable := by
  unfold keepVal; dsimp only; split_ifs <;> simp
@[simp] theorem keepVal_mem (s : State) (k : Key) (v : Val) : (keepVal s k v).mem = s.mem := by
  unfold keepVal; dsimp only; split_ifs <;> simp
@[simp] theorem keepVal_zones (s : State) (k : Key) (v : Val) : (keepVal s k v).zones = s.zones := by
  unfold keepVal; dsimp only; split_ifs <;> simp
@[simp] theorem keepVal_engines (s : State) (k : Key) (v : Val) : (keepVal s k v).engines = s.engines := by
  unfold keepVal; dsimp only; split_ifs <;> simp
@[simp] theorem keepVal_lanes (s : State) (k : Key) (v : Val) : (keepVal s k v).lanes = s.lanes := by
  unfold keepVal; dsimp only; split_ifs <;> simp
@[simp] theorem keepVal_dma (s : State) (k : Key) (v : Val) : (keepVal s k v).dma = s.dma := by
  unfold keepVal; dsimp only; split_ifs <;> simp
@[simp] theorem keepVal_meter (s : State) (k : Key) (v : Val) : (keepVal s k v).meter = s.meter := by
  unfold keepVal; dsimp only; split_ifs <;> simp
@[simp] theorem keepVal_time (s : State) (k : Key) (v : Val) : (keepVal s k v).time = s.time := by
  unfold keepVal; dsimp only; split_ifs <;> simp
@[simp] theorem keepVal_bus (s : State) (k : Key) (v : Val) : (keepVal s k v).bus = s.bus := by
  unfold keepVal; dsimp only; split_ifs <;> simp
@[simp] theorem keepVal_air (s : State) (k : Key) (v : Val) : (keepVal s k v).air = s.air := by
  unfold keepVal; dsimp only; split_ifs <;> simp
@[simp] theorem keepVal_safety (s : State) (k : Key) (v : Val) : (keepVal s k v).safety = s.safety := by
  unfold keepVal; dsimp only; split_ifs <;> simp
@[simp] theorem keepVal_pair (s : State) (k : Key) (v : Val) : (keepVal s k v).pair = s.pair := by
  unfold keepVal; dsimp only; split_ifs <;> simp
@[simp] theorem keepVal_update (s : State) (k : Key) (v : Val) : (keepVal s k v).update = s.update := by
  unfold keepVal; dsimp only; split_ifs <;> simp
@[simp] theorem keepVal_recorder (s : State) (k : Key) (v : Val) : (keepVal s k v).recorder = s.recorder := by
  unfold keepVal; dsimp only; split_ifs <;> simp
@[simp] theorem keepVal_pads (s : State) (k : Key) (v : Val) : (keepVal s k v).pads = s.pads := by
  unfold keepVal; dsimp only; split_ifs <;> simp

/-! ### `persist`: values of its own that the module stores (R91) -/

@[simp] theorem persist_pending (s : State) (items : List (Key × Val)) : (persist s items).pending = s.pending := by
  unfold persist; dsimp only; split_ifs <;> simp <;> exact foldl_keeps (fun t => t.pending) (fun t p => by simp) _ s
@[simp] theorem persist_clk (s : State) (items : List (Key × Val)) : (persist s items).clk = s.clk := by
  unfold persist; dsimp only; split_ifs <;> simp <;> exact foldl_keeps (fun t => t.clk) (fun t p => by simp) _ s
@[simp] theorem persist_fresh (s : State) (items : List (Key × Val)) : (persist s items).fresh = s.fresh := by
  unfold persist; dsimp only; split_ifs <;> simp <;> exact foldl_keeps (fun t => t.fresh) (fun t p => by simp) _ s
@[simp] theorem persist_out (s : State) (items : List (Key × Val)) : (persist s items).out = s.out := by
  unfold persist; dsimp only; split_ifs <;> simp <;> exact foldl_keeps (fun t => t.out) (fun t p => by simp) _ s
@[simp] theorem persist_backup (s : State) (items : List (Key × Val)) : (persist s items).backup = s.backup := by
  unfold persist; dsimp only; split_ifs <;> simp <;> exact foldl_keeps (fun t => t.backup) (fun t p => by simp) _ s
@[simp] theorem persist_power (s : State) (items : List (Key × Val)) : (persist s items).power = s.power := by
  unfold persist; dsimp only; split_ifs <;> simp <;> exact foldl_keeps (fun t => t.power) (fun t p => by simp) _ s
@[simp] theorem persist_start (s : State) (items : List (Key × Val)) : (persist s items).start = s.start := by
  unfold persist; dsimp only; split_ifs <;> simp <;> exact foldl_keeps (fun t => t.start) (fun t p => by simp) _ s
@[simp] theorem persist_faults (s : State) (items : List (Key × Val)) : (persist s items).faults = s.faults := by
  unfold persist; dsimp only; split_ifs <;> simp <;> exact foldl_keeps (fun t => t.faults) (fun t p => by simp) _ s
@[simp] theorem persist_keptHeld (s : State) (items : List (Key × Val)) : (persist s items).keptHeld = s.keptHeld := by
  unfold persist; dsimp only; split_ifs <;> simp <;> exact foldl_keeps (fun t => t.keptHeld) (fun t p => by simp) _ s
@[simp] theorem persist_bookmarkDue (s : State) (items : List (Key × Val)) : (persist s items).bookmarkDue = s.bookmarkDue := by
  unfold persist; dsimp only; split_ifs <;> simp <;> exact foldl_keeps (fun t => t.bookmarkDue) (fun t p => by simp) _ s
@[simp] theorem persist_logHeld (s : State) (items : List (Key × Val)) : (persist s items).logHeld = s.logHeld := by
  unfold persist; dsimp only; split_ifs <;> simp <;> exact foldl_keeps (fun t => t.logHeld) (fun t p => by simp) _ s
@[simp] theorem persist_durable (s : State) (items : List (Key × Val)) : (persist s items).durable = s.durable := by
  unfold persist; dsimp only; split_ifs <;> simp <;> exact foldl_keeps (fun t => t.durable) (fun t p => by simp) _ s
@[simp] theorem persist_mem (s : State) (items : List (Key × Val)) : (persist s items).mem = s.mem := by
  unfold persist; dsimp only; split_ifs <;> simp <;> exact foldl_keeps (fun t => t.mem) (fun t p => by simp) _ s
@[simp] theorem persist_zones (s : State) (items : List (Key × Val)) : (persist s items).zones = s.zones := by
  unfold persist; dsimp only; split_ifs <;> simp <;> exact foldl_keeps (fun t => t.zones) (fun t p => by simp) _ s
@[simp] theorem persist_engines (s : State) (items : List (Key × Val)) : (persist s items).engines = s.engines := by
  unfold persist; dsimp only; split_ifs <;> simp <;> exact foldl_keeps (fun t => t.engines) (fun t p => by simp) _ s
@[simp] theorem persist_lanes (s : State) (items : List (Key × Val)) : (persist s items).lanes = s.lanes := by
  unfold persist; dsimp only; split_ifs <;> simp <;> exact foldl_keeps (fun t => t.lanes) (fun t p => by simp) _ s
@[simp] theorem persist_dma (s : State) (items : List (Key × Val)) : (persist s items).dma = s.dma := by
  unfold persist; dsimp only; split_ifs <;> simp <;> exact foldl_keeps (fun t => t.dma) (fun t p => by simp) _ s
@[simp] theorem persist_meter (s : State) (items : List (Key × Val)) : (persist s items).meter = s.meter := by
  unfold persist; dsimp only; split_ifs <;> simp <;> exact foldl_keeps (fun t => t.meter) (fun t p => by simp) _ s
@[simp] theorem persist_time (s : State) (items : List (Key × Val)) : (persist s items).time = s.time := by
  unfold persist; dsimp only; split_ifs <;> simp <;> exact foldl_keeps (fun t => t.time) (fun t p => by simp) _ s
@[simp] theorem persist_bus (s : State) (items : List (Key × Val)) : (persist s items).bus = s.bus := by
  unfold persist; dsimp only; split_ifs <;> simp <;> exact foldl_keeps (fun t => t.bus) (fun t p => by simp) _ s
@[simp] theorem persist_air (s : State) (items : List (Key × Val)) : (persist s items).air = s.air := by
  unfold persist; dsimp only; split_ifs <;> simp <;> exact foldl_keeps (fun t => t.air) (fun t p => by simp) _ s
@[simp] theorem persist_safety (s : State) (items : List (Key × Val)) : (persist s items).safety = s.safety := by
  unfold persist; dsimp only; split_ifs <;> simp <;> exact foldl_keeps (fun t => t.safety) (fun t p => by simp) _ s
@[simp] theorem persist_pair (s : State) (items : List (Key × Val)) : (persist s items).pair = s.pair := by
  unfold persist; dsimp only; split_ifs <;> simp <;> exact foldl_keeps (fun t => t.pair) (fun t p => by simp) _ s
@[simp] theorem persist_update (s : State) (items : List (Key × Val)) : (persist s items).update = s.update := by
  unfold persist; dsimp only; split_ifs <;> simp <;> exact foldl_keeps (fun t => t.update) (fun t p => by simp) _ s
@[simp] theorem persist_recorder (s : State) (items : List (Key × Val)) : (persist s items).recorder = s.recorder := by
  unfold persist; dsimp only; split_ifs <;> simp <;> exact foldl_keeps (fun t => t.recorder) (fun t p => by simp) _ s
@[simp] theorem persist_pads (s : State) (items : List (Key × Val)) : (persist s items).pads = s.pads := by
  unfold persist; dsimp only; split_ifs <;> simp <;> exact foldl_keeps (fun t => t.pads) (fun t p => by simp) _ s

/-! ### `writeBookmark`: the bookmark copies (R67, R68) -/

@[simp] theorem writeBookmark_pending (s : State) (b : Bookmark) : (writeBookmark s b).pending = s.pending := by
  unfold writeBookmark; dsimp only; split_ifs <;> rfl
@[simp] theorem writeBookmark_clk (s : State) (b : Bookmark) : (writeBookmark s b).clk = s.clk := by
  unfold writeBookmark; dsimp only; split_ifs <;> rfl
@[simp] theorem writeBookmark_fresh (s : State) (b : Bookmark) : (writeBookmark s b).fresh = s.fresh := by
  unfold writeBookmark; dsimp only; split_ifs <;> rfl
@[simp] theorem writeBookmark_out (s : State) (b : Bookmark) : (writeBookmark s b).out = s.out := by
  unfold writeBookmark; dsimp only; split_ifs <;> rfl
@[simp] theorem writeBookmark_regs (s : State) (b : Bookmark) : (writeBookmark s b).regs = s.regs := by
  unfold writeBookmark; dsimp only; split_ifs <;> rfl
@[simp] theorem writeBookmark_power (s : State) (b : Bookmark) : (writeBookmark s b).power = s.power := by
  unfold writeBookmark; dsimp only; split_ifs <;> rfl
@[simp] theorem writeBookmark_server (s : State) (b : Bookmark) : (writeBookmark s b).server = s.server := by
  unfold writeBookmark; dsimp only; split_ifs <;> rfl
@[simp] theorem writeBookmark_faults (s : State) (b : Bookmark) : (writeBookmark s b).faults = s.faults := by
  unfold writeBookmark; dsimp only; split_ifs <;> rfl
@[simp] theorem writeBookmark_deferred (s : State) (b : Bookmark) : (writeBookmark s b).deferred = s.deferred := by
  unfold writeBookmark; dsimp only; split_ifs <;> rfl
@[simp] theorem writeBookmark_keptHeld (s : State) (b : Bookmark) : (writeBookmark s b).keptHeld = s.keptHeld := by
  unfold writeBookmark; dsimp only; split_ifs <;> rfl
@[simp] theorem writeBookmark_logHeld (s : State) (b : Bookmark) : (writeBookmark s b).logHeld = s.logHeld := by
  unfold writeBookmark; dsimp only; split_ifs <;> rfl
@[simp] theorem writeBookmark_durable (s : State) (b : Bookmark) : (writeBookmark s b).durable = s.durable := by
  unfold writeBookmark; dsimp only; split_ifs <;> rfl
@[simp] theorem writeBookmark_mem (s : State) (b : Bookmark) : (writeBookmark s b).mem = s.mem := by
  unfold writeBookmark; dsimp only; split_ifs <;> rfl
@[simp] theorem writeBookmark_zones (s : State) (b : Bookmark) : (writeBookmark s b).zones = s.zones := by
  unfold writeBookmark; dsimp only; split_ifs <;> rfl
@[simp] theorem writeBookmark_engines (s : State) (b : Bookmark) : (writeBookmark s b).engines = s.engines := by
  unfold writeBookmark; dsimp only; split_ifs <;> rfl
@[simp] theorem writeBookmark_lanes (s : State) (b : Bookmark) : (writeBookmark s b).lanes = s.lanes := by
  unfold writeBookmark; dsimp only; split_ifs <;> rfl
@[simp] theorem writeBookmark_dma (s : State) (b : Bookmark) : (writeBookmark s b).dma = s.dma := by
  unfold writeBookmark; dsimp only; split_ifs <;> rfl
@[simp] theorem writeBookmark_meter (s : State) (b : Bookmark) : (writeBookmark s b).meter = s.meter := by
  unfold writeBookmark; dsimp only; split_ifs <;> rfl
@[simp] theorem writeBookmark_time (s : State) (b : Bookmark) : (writeBookmark s b).time = s.time := by
  unfold writeBookmark; dsimp only; split_ifs <;> rfl
@[simp] theorem writeBookmark_bus (s : State) (b : Bookmark) : (writeBookmark s b).bus = s.bus := by
  unfold writeBookmark; dsimp only; split_ifs <;> rfl
@[simp] theorem writeBookmark_air (s : State) (b : Bookmark) : (writeBookmark s b).air = s.air := by
  unfold writeBookmark; dsimp only; split_ifs <;> rfl
@[simp] theorem writeBookmark_safety (s : State) (b : Bookmark) : (writeBookmark s b).safety = s.safety := by
  unfold writeBookmark; dsimp only; split_ifs <;> rfl
@[simp] theorem writeBookmark_pair (s : State) (b : Bookmark) : (writeBookmark s b).pair = s.pair := by
  unfold writeBookmark; dsimp only; split_ifs <;> rfl
@[simp] theorem writeBookmark_update (s : State) (b : Bookmark) : (writeBookmark s b).update = s.update := by
  unfold writeBookmark; dsimp only; split_ifs <;> rfl
@[simp] theorem writeBookmark_recorder (s : State) (b : Bookmark) : (writeBookmark s b).recorder = s.recorder := by
  unfold writeBookmark; dsimp only; split_ifs <;> rfl
@[simp] theorem writeBookmark_pads (s : State) (b : Bookmark) : (writeBookmark s b).pads = s.pads := by
  unfold writeBookmark; dsimp only; split_ifs <;> rfl

/-! ### `sendTo`: a message to a session -/

@[simp] theorem sendTo_pending (s : State) (sid : Nat) (m : Bytes) : (sendTo s sid m).pending = s.pending := by
  unfold sendTo; split <;> (try dsimp only) <;> (try split_ifs) <;> simp
@[simp] theorem sendTo_clk (s : State) (sid : Nat) (m : Bytes) : (sendTo s sid m).clk = s.clk := by
  unfold sendTo; split <;> (try dsimp only) <;> (try split_ifs) <;> simp
@[simp] theorem sendTo_fresh (s : State) (sid : Nat) (m : Bytes) : (sendTo s sid m).fresh = s.fresh := by
  unfold sendTo; split <;> (try dsimp only) <;> (try split_ifs) <;> simp
@[simp] theorem sendTo_mram (s : State) (sid : Nat) (m : Bytes) : (sendTo s sid m).mram = s.mram := by
  unfold sendTo; split <;> (try dsimp only) <;> (try split_ifs) <;> simp
@[simp] theorem sendTo_backup (s : State) (sid : Nat) (m : Bytes) : (sendTo s sid m).backup = s.backup := by
  unfold sendTo; split <;> (try dsimp only) <;> (try split_ifs) <;> simp
@[simp] theorem sendTo_power (s : State) (sid : Nat) (m : Bytes) : (sendTo s sid m).power = s.power := by
  unfold sendTo; split <;> (try dsimp only) <;> (try split_ifs) <;> simp
@[simp] theorem sendTo_start (s : State) (sid : Nat) (m : Bytes) : (sendTo s sid m).start = s.start := by
  unfold sendTo; split <;> (try dsimp only) <;> (try split_ifs) <;> simp
@[simp] theorem sendTo_faults (s : State) (sid : Nat) (m : Bytes) : (sendTo s sid m).faults = s.faults := by
  unfold sendTo; split <;> (try dsimp only) <;> (try split_ifs) <;> simp
@[simp] theorem sendTo_deferred (s : State) (sid : Nat) (m : Bytes) : (sendTo s sid m).deferred = s.deferred := by
  unfold sendTo; split <;> (try dsimp only) <;> (try split_ifs) <;> simp
@[simp] theorem sendTo_keptHeld (s : State) (sid : Nat) (m : Bytes) : (sendTo s sid m).keptHeld = s.keptHeld := by
  unfold sendTo; split <;> (try dsimp only) <;> (try split_ifs) <;> simp
@[simp] theorem sendTo_bookmarkDue (s : State) (sid : Nat) (m : Bytes) : (sendTo s sid m).bookmarkDue = s.bookmarkDue := by
  unfold sendTo; split <;> (try dsimp only) <;> (try split_ifs) <;> simp
@[simp] theorem sendTo_logHeld (s : State) (sid : Nat) (m : Bytes) : (sendTo s sid m).logHeld = s.logHeld := by
  unfold sendTo; split <;> (try dsimp only) <;> (try split_ifs) <;> simp
@[simp] theorem sendTo_durable (s : State) (sid : Nat) (m : Bytes) : (sendTo s sid m).durable = s.durable := by
  unfold sendTo; split <;> (try dsimp only) <;> (try split_ifs) <;> simp
@[simp] theorem sendTo_mem (s : State) (sid : Nat) (m : Bytes) : (sendTo s sid m).mem = s.mem := by
  unfold sendTo; split <;> (try dsimp only) <;> (try split_ifs) <;> simp
@[simp] theorem sendTo_zones (s : State) (sid : Nat) (m : Bytes) : (sendTo s sid m).zones = s.zones := by
  unfold sendTo; split <;> (try dsimp only) <;> (try split_ifs) <;> simp
@[simp] theorem sendTo_engines (s : State) (sid : Nat) (m : Bytes) : (sendTo s sid m).engines = s.engines := by
  unfold sendTo; split <;> (try dsimp only) <;> (try split_ifs) <;> simp
@[simp] theorem sendTo_lanes (s : State) (sid : Nat) (m : Bytes) : (sendTo s sid m).lanes = s.lanes := by
  unfold sendTo; split <;> (try dsimp only) <;> (try split_ifs) <;> simp
@[simp] theorem sendTo_dma (s : State) (sid : Nat) (m : Bytes) : (sendTo s sid m).dma = s.dma := by
  unfold sendTo; split <;> (try dsimp only) <;> (try split_ifs) <;> simp
@[simp] theorem sendTo_meter (s : State) (sid : Nat) (m : Bytes) : (sendTo s sid m).meter = s.meter := by
  unfold sendTo; split <;> (try dsimp only) <;> (try split_ifs) <;> simp
@[simp] theorem sendTo_time (s : State) (sid : Nat) (m : Bytes) : (sendTo s sid m).time = s.time := by
  unfold sendTo; split <;> (try dsimp only) <;> (try split_ifs) <;> simp
@[simp] theorem sendTo_air (s : State) (sid : Nat) (m : Bytes) : (sendTo s sid m).air = s.air := by
  unfold sendTo; split <;> (try dsimp only) <;> (try split_ifs) <;> simp
@[simp] theorem sendTo_safety (s : State) (sid : Nat) (m : Bytes) : (sendTo s sid m).safety = s.safety := by
  unfold sendTo; split <;> (try dsimp only) <;> (try split_ifs) <;> simp
@[simp] theorem sendTo_pair (s : State) (sid : Nat) (m : Bytes) : (sendTo s sid m).pair = s.pair := by
  unfold sendTo; split <;> (try dsimp only) <;> (try split_ifs) <;> simp
@[simp] theorem sendTo_update (s : State) (sid : Nat) (m : Bytes) : (sendTo s sid m).update = s.update := by
  unfold sendTo; split <;> (try dsimp only) <;> (try split_ifs) <;> simp
@[simp] theorem sendTo_recorder (s : State) (sid : Nat) (m : Bytes) : (sendTo s sid m).recorder = s.recorder := by
  unfold sendTo; split <;> (try dsimp only) <;> (try split_ifs) <;> simp
@[simp] theorem sendTo_pads (s : State) (sid : Nat) (m : Bytes) : (sendTo s sid m).pads = s.pads := by
  unfold sendTo; split <;> (try dsimp only) <;> (try split_ifs) <;> simp

/-! ### `answer`: an answer (R108) -/

@[simp] theorem answer_pending (s : State) (sid : Nat) (tid : Half) (op status : Byte) (body : Bytes) : (answer s sid tid op status body).pending = s.pending := by
  simp [answer]
@[simp] theorem answer_clk (s : State) (sid : Nat) (tid : Half) (op status : Byte) (body : Bytes) : (answer s sid tid op status body).clk = s.clk := by
  simp [answer]
@[simp] theorem answer_fresh (s : State) (sid : Nat) (tid : Half) (op status : Byte) (body : Bytes) : (answer s sid tid op status body).fresh = s.fresh := by
  simp [answer]
@[simp] theorem answer_mram (s : State) (sid : Nat) (tid : Half) (op status : Byte) (body : Bytes) : (answer s sid tid op status body).mram = s.mram := by
  simp [answer]
@[simp] theorem answer_backup (s : State) (sid : Nat) (tid : Half) (op status : Byte) (body : Bytes) : (answer s sid tid op status body).backup = s.backup := by
  simp [answer]
@[simp] theorem answer_power (s : State) (sid : Nat) (tid : Half) (op status : Byte) (body : Bytes) : (answer s sid tid op status body).power = s.power := by
  simp [answer]
@[simp] theorem answer_start (s : State) (sid : Nat) (tid : Half) (op status : Byte) (body : Bytes) : (answer s sid tid op status body).start = s.start := by
  simp [answer]
@[simp] theorem answer_faults (s : State) (sid : Nat) (tid : Half) (op status : Byte) (body : Bytes) : (answer s sid tid op status body).faults = s.faults := by
  simp [answer]
@[simp] theorem answer_deferred (s : State) (sid : Nat) (tid : Half) (op status : Byte) (body : Bytes) : (answer s sid tid op status body).deferred = s.deferred := by
  simp [answer]
@[simp] theorem answer_keptHeld (s : State) (sid : Nat) (tid : Half) (op status : Byte) (body : Bytes) : (answer s sid tid op status body).keptHeld = s.keptHeld := by
  simp [answer]
@[simp] theorem answer_bookmarkDue (s : State) (sid : Nat) (tid : Half) (op status : Byte) (body : Bytes) : (answer s sid tid op status body).bookmarkDue = s.bookmarkDue := by
  simp [answer]
@[simp] theorem answer_logHeld (s : State) (sid : Nat) (tid : Half) (op status : Byte) (body : Bytes) : (answer s sid tid op status body).logHeld = s.logHeld := by
  simp [answer]
@[simp] theorem answer_durable (s : State) (sid : Nat) (tid : Half) (op status : Byte) (body : Bytes) : (answer s sid tid op status body).durable = s.durable := by
  simp [answer]
@[simp] theorem answer_mem (s : State) (sid : Nat) (tid : Half) (op status : Byte) (body : Bytes) : (answer s sid tid op status body).mem = s.mem := by
  simp [answer]
@[simp] theorem answer_zones (s : State) (sid : Nat) (tid : Half) (op status : Byte) (body : Bytes) : (answer s sid tid op status body).zones = s.zones := by
  simp [answer]
@[simp] theorem answer_engines (s : State) (sid : Nat) (tid : Half) (op status : Byte) (body : Bytes) : (answer s sid tid op status body).engines = s.engines := by
  simp [answer]
@[simp] theorem answer_lanes (s : State) (sid : Nat) (tid : Half) (op status : Byte) (body : Bytes) : (answer s sid tid op status body).lanes = s.lanes := by
  simp [answer]
@[simp] theorem answer_dma (s : State) (sid : Nat) (tid : Half) (op status : Byte) (body : Bytes) : (answer s sid tid op status body).dma = s.dma := by
  simp [answer]
@[simp] theorem answer_meter (s : State) (sid : Nat) (tid : Half) (op status : Byte) (body : Bytes) : (answer s sid tid op status body).meter = s.meter := by
  simp [answer]
@[simp] theorem answer_time (s : State) (sid : Nat) (tid : Half) (op status : Byte) (body : Bytes) : (answer s sid tid op status body).time = s.time := by
  simp [answer]
@[simp] theorem answer_air (s : State) (sid : Nat) (tid : Half) (op status : Byte) (body : Bytes) : (answer s sid tid op status body).air = s.air := by
  simp [answer]
@[simp] theorem answer_safety (s : State) (sid : Nat) (tid : Half) (op status : Byte) (body : Bytes) : (answer s sid tid op status body).safety = s.safety := by
  simp [answer]
@[simp] theorem answer_pair (s : State) (sid : Nat) (tid : Half) (op status : Byte) (body : Bytes) : (answer s sid tid op status body).pair = s.pair := by
  simp [answer]
@[simp] theorem answer_update (s : State) (sid : Nat) (tid : Half) (op status : Byte) (body : Bytes) : (answer s sid tid op status body).update = s.update := by
  simp [answer]
@[simp] theorem answer_recorder (s : State) (sid : Nat) (tid : Half) (op status : Byte) (body : Bytes) : (answer s sid tid op status body).recorder = s.recorder := by
  simp [answer]
@[simp] theorem answer_pads (s : State) (sid : Nat) (tid : Half) (op status : Byte) (body : Bytes) : (answer s sid tid op status body).pads = s.pads := by
  simp [answer]

end Sys2Proof.Machine
end

