-- ==== Sys2Proof/Tests/Slice0.lean ====
section
/-!
SUPPORT. The model's own tests: terms that the well-formedness check refuses, worked examples of the spec, and for every statement with hypotheses concrete
states and operands that meet them, clause by clause.
-/

open Sys2Proof Sys2Proof.Machine Sys2Proof.Claim

namespace Sys2Proof.Tests

set_option Elab.async false

/-! ## Small states -/

/-- A state with registers set to numbers. -/
def withRegs (s : State) (regs : List (Key × Int)) : State :=
  { s with regs := regs.foldl (fun (t : Tab Val) (p : Key × Int) => tabPut t p.1 (.num p.2)) s.regs }

/-- A module that has started, with its host port enabled. -/
def awake : State :=
  withRegs { State.reset with start := { held := false, running := false, loaded := true, next := 16 } } [(kModuleState, 1), (0x220001, 1)]

/-- A request of the host port. -/
def hostReq : Req := { sid := 0, tid := 5, retry := false }

/-- `n` bytes of 0. -/
def zeros (n : Nat) : Bytes := List.replicate n 0

/-- The state with a SAFETY session on the host port. -/
def asSafety (s : State) : State := putSession s 0 { role := some .safety }

/-- The state with these shells. -/
def withShells (s : State) (l : Tab Shell) : State := { s with mram := { s.mram with keys := { s.mram.keys with shells := l } } }

/-- Engine 3 running in its tick over 16 instructions, at instruction 3. -/
def runner : Engine := { active := true, code := zeros 64, pc := 3 }

/-- A state whose engine 3 is `e`, in its tick. -/
def withRunner (e : Engine) : State := withRegs (putEngine awake 3 e) [(kEngine 3 2, 3)]

/-! ## Well-formedness -/

/-- Each check of WellFormed refuses a term. -/
theorem test_illFormed :
    WellFormed (.restart { hostReq with sid := 2 }) = false ∧
    WellFormed (.restart { hostReq with sid := 0x110 }) = false ∧
    WellFormed (.restart { hostReq with sid := 0x1400 }) = false ∧
    WellFormed (.restart { hostReq with sid := 0x2020 }) = false ∧
    WellFormed (.restart hostReq) = true ∧
    WellFormed (.blockData { hostReq with sid := 2 } 0 0 (.read 0)) = false ∧
    WellFormed (.sampleSet (List.replicate 10 0) false) = false ∧
    WellFormed (.sampleSet (List.replicate 11 8388608) false) = false ∧
    WellFormed (.sampleSet (List.replicate 11 (-8388608)) false) = true ∧
    WellFormed (.reference 0 0 (zeros 65)) = false ∧
    WellFormed (.reference 0 0 (zeros 64)) = true := by decide +kernel

/-- A value whose length no u16 holds is refused, alone, in a WRITE_MULTI and in a chunk. -/
theorem test_longValue (v : Bytes) (h : v.length = 65536) : valueOk v = false ∧
    WellFormed (.writeMulti hostReq [{ ref := refOf 0x220001, value := v }]) = false ∧ WellFormed (.blockData hostReq 0 0 (.write v)) = false ∧
    WellFormed (.proxy hostReq { target := 0, side := 0, timeout := 0, tid := 0, retry := false, inner := .write (refOf 0) v }) = false := by
  have hv : valueOk v = false := by simp [valueOk, h]
  refine ⟨hv, ?_, ?_, ?_⟩
  · show (hostReq.ok && [({ ref := refOf 0x220001, value := v } : Item)].all Item.ok) = false
    simp [Item.ok, hv]
  · show (hostReq.ok && valueOk v) = false
    simp [hv]
  · show (hostReq.ok && valueOk v) = false
    simp [hv]

/-- No row of the table has bits, so no word spells a command. -/
theorem test_noWords : decodeTableWord 32 0 = none ∧ decodeTableWord 16 0xFFFF = none := by decide

/-- A handshake outside the Ethernet sessions, a loop over nothing, a debug tag of another length and a security level of four bits. -/
theorem test_illFormedToo :
    WellFormed (.dtlsHandshake (.handshake { sid := 0xFFFF, identity := [], offers := true, proof := [] })) = false ∧
    WellFormed (.dtlsHandshake (.handshake { sid := 0x10000, identity := [], offers := true, proof := [] })) = true ∧
    WellFormed (.loop 3 false (.imm 1) 0) = false ∧
    WellFormed (.dbgResponse 0 (zeros 15)) = false ∧
    WellFormed (.report 0 { header := [], counter := 0, level := 8, sealed_ := [], delta := 0, rssi := 0, slot := none, known := true, queueFull := false }) = false ∧
    WellFormed (.sessionTimeout 0x2080) = false := by decide +kernel

/-- The state that a command leaves. -/
def after (c : Instr) (s : State) : State :=
  match exec c s with
  | .next t => t
  | _ => State.reset

/-- Whether a command answers a next state. -/
def answers (c : Instr) (s : State) : Bool :=
  match exec c s with
  | .next _ => true
  | _ => false

/-- A command that answers leads to what it leaves. -/
theorem goes_after {c : Instr} {s : State} (h : answers c s = true) : Goes c s (after c s) := by
  unfold answers at h
  unfold Goes after
  split at h
  · rename_i t ht; rw [ht]
  · cases h

/-- Whether a request is taken, as a test. -/
def takenTest (s : State) (q : Req) (o : MdpOp) : Bool :=
  q.sid != 1 && transportOpen s q.sid && !mute s q.sid && (session s q.sid).kept.all (fun r => r.tid != q.tid || decide (r.at_ + secs 30 ≤ s.clk))
    && !(session s q.sid).closed && !(session s q.sid).busy.contains q.tid && decide ((session s q.sid).busy.length < 8)
    && s.server.held.all (fun h => h.q.sid != q.sid) && s.server.waiting.all (fun w => w.sid != q.sid) && !carryOver (begun s q) && decide (opLen o ≤ lenLimit q.sid) && !notCarried (begun s q) q.sid o

/-- What passes the test is taken. -/
theorem taken_of {s : State} {q : Req} {o : MdpOp} (h : takenTest s q o = true) : Taken s q o := by
  simp only [takenTest, Bool.and_eq_true, bne_iff_ne, ne_eq, Bool.not_eq_true', List.all_eq_true, Bool.or_eq_true, decide_eq_true_eq] at h
  obtain ⟨⟨⟨⟨⟨⟨⟨⟨⟨⟨⟨h1, h2⟩, h3⟩, h4⟩, hc⟩, h5⟩, h6⟩, h7⟩, hw⟩, h8⟩, h9⟩, h10⟩ := h
  refine ⟨⟨h1, h2, h3, hc, ?_, ?_, h6⟩, ⟨h7, hw, .inl h8⟩, h9, h10⟩
  · intro r hr ht
    rcases h4 r hr with h | h
    · exact absurd ht h
    · exact h
  · intro hc
    rw [List.contains_iff_mem.mpr hc] at h5
    cases h5

/-- Whether a command of a register is taken and passes its checks at once, as a test. -/
def commandedTest (s : State) (q : Req) (k : Key) (v : Bytes) : Bool :=
  takenTest s q (.command (refOf k) v) && checkWrite (begun s q) (begun s q) q.sid true (refOf k) v == 0
    && (s.server.waiting.isEmpty && ((!isInput (itemOf s q k v).1 && (itemOf s q k v).1 != kRec 2) || noReaders s))

/-- What passes the test is commanded. -/
theorem commanded_of {s : State} {q : Req} {k : Key} {v : Bytes} (h : commandedTest s q k v = true) : Commanded s q k v := by
  simp only [commandedTest, Bool.and_eq_true, beq_iff_eq, Bool.or_eq_true, Bool.not_eq_true', List.isEmpty_iff, bne_iff_ne] at h
  exact ⟨taken_of h.1.1, h.1.2, h.2⟩

/-- Whether a write of a register is taken and passes its checks at once, as a test. -/
def writtenTest (s : State) (q : Req) (k : Key) (v : Bytes) : Bool :=
  takenTest s q (.write (refOf k) v) && checkWrite (begun s q) (withItem (begun s q) (itemOf s q k v)) q.sid false (refOf k) v == 0
    && (s.server.waiting.isEmpty && ((!isInput (itemOf s q k v).1 && (itemOf s q k v).1 != kRec 2) || noReaders s))

/-- What passes the test is written. -/
theorem written_of {s : State} {q : Req} {k : Key} {v : Bytes} (h : writtenTest s q k v = true) : Written s q k v := by
  simp only [writtenTest, Bool.and_eq_true, beq_iff_eq, Bool.or_eq_true, Bool.not_eq_true', List.isEmpty_iff, bne_iff_ne] at h
  exact ⟨taken_of h.1.1, h.1.2, h.2⟩

/-- A write transfer that is found, whole and whose BLOCK_END is taken with no power-fail warning. -/
theorem whole_of {s : State} {q : Req} {h : Byte} {x : Transfer} (ht : takenTest s q (.blockEnd h) = true) (hp : s.power.warning = false)
    (hf : transferOf (begun s q) q.sid h = some x) (hw : x.write = true) (hl : x.content.length = x.size) (hc : crc32 x.content = x.crc) :
    Whole s q h x :=
  ⟨taken_of ht, hf, hw, hl, hc, fun h => absurd h (by simp [hp])⟩

/-! ## Worked examples of chapter 08 -/

/-- R195's examples: 0x6000 × 0x4000 with SH = 15 is 12,288; −32,768 × −32,768 saturates to 32,767 and sets VSAT. -/
theorem test_vmulq_examples :
    let s := withRunner { runner with v := [(16, 0x6000), (17, 0x8000), (32, 0x4000), (33, 0x8000)] }
    let e := engine (after (.vmulq 3 4 2 (.vec 4) 15 { pg := 0, pz := false }) s) 3
    (issues s 3 && (vLane (engine s 3) 2 0 == 0x6000)) = true ∧ vLane e 4 0 = 12288 ∧ vLane e 4 1 = 32767 ∧ e.estat = 2 := by decide +kernel

/-- R185: S0 reads 0 and takes no write; `sra` shifts in the sign. -/
theorem test_scalar_corners :
    let s := withRunner { runner with s := [(1, 0x80000000), (2, 33)] }
    sReg (engine (after (.add 3 0 1 1) s) 3) 0 = 0 ∧ sReg (engine (after (.sra 3 5 1 2) s) 3) 5 = 0xC0000000 ∧
    sReg (engine (after (.mulh 3 5 1 1) s) 3) 5 = 0x40000000 ∧ sReg (engine (after (.sltiu 3 5 1 (-1)) s) 3) 5 = 1 := by decide +kernel

/-- R194: both units end at the same instruction: LU1 first, and LU0 only once LU1 has ended. -/
theorem test_nested_loops :
    let lu := fun n => ({ active := true, start := 1, last := 3, count := n } : LoopUnit)
    (advance { runner with lu0 := lu 5, lu1 := lu 2 }).lu0.count = 5 ∧ (advance { runner with lu0 := lu 5, lu1 := lu 2 }).pc = 1 ∧
    (advance { runner with lu0 := lu 5, lu1 := lu 1 }).lu0.count = 4 ∧ (advance { runner with lu0 := lu 1, lu1 := lu 1 }).pc = 4 := by decide +kernel

/-! ## Witnesses: the engines' instructions -/

/-- An engine that executes (ScalarInstructions, VectorInstructions, Predicates, Approximations, Fence). -/
theorem witness_issues : issues (withRunner runner) 3 = true := by decide +kernel

/-- Branches, Jumps: targets at both ends of the code. -/
theorem witness_targets :
    0 ≤ ((engine (withRunner runner) 3).pc : Int) + (-3 : BitVec 18).toInt ∧
    ((engine (withRunner runner) 3).pc : Int) + (12 : BitVec 18).toInt < codeSize (engine (withRunner runner) 3) ∧
    0 ≤ ((engine (withRunner runner) 3).pc : Int) + (-3 : BitVec 26).toInt ∧
    ((engine (withRunner runner) 3).pc : Int) + (12 : BitVec 22).toInt < codeSize (engine (withRunner runner) 3) := by decide +kernel

/-- Loops: a body that ends at the last instruction; TargetsOutside: the first target, length and fetch that do not fit. -/
theorem witness_loops :
    (12 : BitVec 12) ≠ 0 ∧ (engine (withRunner runner) 3).pc + (12 : BitVec 12).toNat < codeSize (engine (withRunner runner) 3) ∧
    codeSize (engine (withRunner runner) 3) ≤ ((engine (withRunner runner) 3).pc : Int) + (13 : BitVec 18).toInt ∧
    ((engine (withRunner runner) 3).pc : Int) + (-4 : BitVec 18).toInt < 0 ∧
    codeSize (engine (withRunner runner) 3) ≤ ((engine (withRunner runner) 3).pc : Int) + (13 : BitVec 26).toInt ∧
    codeSize (engine (withRunner runner) 3) ≤ ((engine (withRunner runner) 3).pc : Int) + (13 : BitVec 22).toInt ∧
    codeSize (engine (withRunner runner) 3) ≤ (engine (withRunner runner) 3).pc + (13 : BitVec 12).toNat := by decide +kernel

/-- FetchesOutside and EngineExceptions: an engine at the end of its code. -/
theorem witness_fetch :
    let s := withRunner { runner with pc := 16 }
    (engine s 3).active = true ∧ (engine s 3).stall = none ∧ codeSize (engine s 3) ≤ (engine s 3).pc := by decide +kernel

/-- FenceInBody: the engine that has fenced is idle, and the next tick starts it. -/
theorem witness_fenceInBody :
    engineState (after (.fence 3) (withRunner { runner with lu0 := { active := true, start := 1, last := 5, count := 2 } })) 3 = 2 := by decide +kernel

/-- Approximations: arguments of each function at both ends of its input range, and the range of `vrcp`. -/
theorem witness_approximations :
    firstOf 0 ≤ 32768 ∧ firstOf 1 ≤ 16384 ∧ firstOf 2 ≤ 0 ∧ firstOf 3 ≤ 32768 ∧ 32768 ≤ 65535 := by decide +kernel

/-! ## Witnesses: the engines' memory, events and posts -/

/-- Engine 3 with S1 and S2 set and its first vector registers 0. -/
def withS (x y : Word) : State := withRunner { runner with s := [(1, x), (2, y)] }

/-- AddressMap: an access in each range of the map and at its ends. -/
theorem witness_addressMap :
    0x1FFFE + 2 ≤ 0x20000 ∧ 0x20000 < 0x1FFFF + 2 ∧ 0x1FFFF < 0x10000000 ∧ 0x10400000 < 0x103FFFFF + 2 ∧
    0x10000000 ≤ 0x1001FFFC ∧ 0x1001FFFC < 0x10020000 ∧ 0x10020000 ≤ 0x1003FFFC ∧ 0x1003FFFC < 0x10040000 ∧
    0x10040000 ≤ 0x103FFFFC ∧ 0x103FFFFC + 4 ≤ 0x10400000 ∧ ownArea (0x10390000 - 0x10000000) = true := by decide +kernel

/-- Loads: the last word of local data memory, the tick block included, all lanes of a vector, and a gather at the start of cell memory. -/
theorem witness_loads :
    Allowed (withS 0x1FFFC 0) 3 false (loadAddr (withS 0x1FFFC 0) 3 1 0) (2 ^ (2 : Fin 3).val) ∧
    (∀ i < 8, laneOn (engine (withS 0x1FFF0 0) 3) 0 i = true → Allowed (withS 0x1FFF0 0) 3 false (laneAddr (withS 0x1FFF0 0) 3 1 0 i) 2) ∧
    (∀ i < 8, laneOn (engine (withS 0x10000000 0) 3) 0 i = true → CellAllowed (withS 0x10000000 0) 3 false (indexAddr (withS 0x10000000 0) 3 1 4 5 i)) := by
  unfold Allowed CellAllowed Allowed; decide +kernel

/-- Lookups: a table whose last entry is the last halfword of local data memory. -/
theorem witness_lookups :
    (∀ i < 8, laneOn (engine (withS 0x1FFFE 0) 3) 0 i = true →
      (sReg (engine (withS 0x1FFFE 0) 3) 1).toNat % 2 = 0 ∧ (sReg (engine (withS 0x1FFFE 0) 3) 1).toNat + 2 * ((vLane (engine (withS 0x1FFFE 0) 3) 4 i).toNat / 2 ^ 15 + 1) ≤ 0x20000) ∧
    (∀ i < 8, laneOn (engine (withS 0x1FFFC 0) 3) 0 i = true →
      (sReg (engine (withS 0x1FFFC 0) 3) 1).toNat % 2 = 0 ∧ (sReg (engine (withS 0x1FFFC 0) 3) 1).toNat + 2 * ((vLane (engine (withS 0x1FFFC 0) 3) 4 i).toNat / 2 ^ 15 + 2) ≤ 0x20000) := by
  decide +kernel

/-- Stores: likewise; a scatter into the BACK window. -/
theorem witness_stores :
    Allowed (withS 0x1FFFC 0) 3 true (loadAddr (withS 0x1FFFC 0) 3 1 0) (2 ^ (2 : Fin 3).val) ∧
    (∀ i < 8, laneOn (engine (withS 0x1FFF0 0) 3) 0 i = true → Allowed (withS 0x1FFF0 0) 3 true (laneAddr (withS 0x1FFF0 0) 3 1 0 i) 2) ∧
    (∀ i < 8, laneOn (engine (withS 0x1001FFFE 0) 3) 0 i = true → CellAllowed (withS 0x1001FFFE 0) 3 true (indexAddr (withS 0x1001FFFE 0) 3 1 4 5 i)) := by
  unfold Allowed CellAllowed Allowed; decide +kernel

/-- StoreThenLoad. -/
theorem witness_storeThenLoad :
    issues (withS 0x1FFFC 7) 3 = true ∧ loadAddr (withS 0x1FFFC 7) 3 1 0 + 2 ^ (2 : Fin 3).val ≤ 0x20000 ∧ loadAddr (withS 0x1FFFC 7) 3 1 0 % 2 ^ (2 : Fin 3).val = 0 ∧
    Goes (.st 3 2 1 2 0) (withS 0x1FFFC 7) (after (.st 3 2 1 2 0) (withS 0x1FFFC 7)) ∧ issues (after (.st 3 2 1 2 0) (withS 0x1FFFC 7)) 3 = true :=
  ⟨by decide +kernel, by decide +kernel, by decide +kernel, goes_after (by decide +kernel), by decide +kernel⟩

/-- EngineExceptions: an access outside both memories and a store into FRONT; with the reaction of source 12 set to another
than its BLOCK_RESET. -/
theorem witness_exceptions :
    accessError 3 (engine (withS 0x20000 0) 3) false (loadAddr (withS 0x20000 0) 3 1 0) 4 4 = some 1 ∧
    accessError 3 (engine (withS 0x10020000 0) 3) true (loadAddr (withS 0x10020000 0) 3 1 0) 4 4 = some 4 ∧
    nat (withRegs (withS 0x20000 0) [(kFault 12 1, 2)]) (kFault 12 1) ≠ 3 ∧ issues (withS 0x20000 0) 3 = true := by decide +kernel

/-- IdleEngineStands: an engine outside its tick, and a stalled one. -/
theorem witness_idleEngine : (engine awake 3).active = false ∧ (engine (withRunner { runner with stall := some (.mailbox 0) }) 3).stall ≠ none := by decide +kernel

/-- Engine 3 with S1 set and changed as given. -/
def withE (x : Word) (f : Engine → Engine) : State := withRunner (f { runner with s := [(1, x)] })

/-- Events: an event queued, none, and an engine that waits for one. -/
theorem witness_events :
    (sReg (engine (withE 0x1FFF0 fun e => { e with queue := [zeros 16] }) 3) 1).toNat % 16 = 0 ∧
    (sReg (engine (withE 0x1FFF0 fun e => { e with queue := [zeros 16] }) 3) 1).toNat + 16 ≤ 0x20000 ∧
    (engine (withE 0x1FFF0 fun e => { e with queue := [zeros 16] }) 3).queue = [zeros 16] ∧
    issues (withE 0x1FFF0 fun e => { e with queue := [zeros 16] }) 3 = true ∧
    issues (withE 0x1FFF0 id) 3 = true ∧ (engine (withE 0x1FFF0 id) 3).queue = [] ∧
    (engine (withE 0 fun e => { e with stall := some (.event 5 0x1FFF0), queue := [zeros 16] }) 3).active = true ∧
    (engine (withE 0 fun e => { e with stall := some (.event 5 0x1FFF0), queue := [zeros 16] }) 3).stall = some (.event 5 0x1FFF0) ∧
    (engine (withE 0 fun e => { e with stall := some (.event 5 0x1FFF0), queue := [zeros 16] }) 3).queue = [zeros 16] ∧
    (engine (withE 0 fun e => { e with stall := some (.event 5 0x1FFF0) }) 3).stall = some (.event 5 0x1FFF0) ∧
    (engine (withE 0 fun e => { e with stall := some (.event 5 0x1FFF0) }) 3).queue = [] := by decide +kernel

/-- Channel 8 with `n` descriptors posted. -/
def withPosts (s : State) (n : Nat) : State :=
  { s with dma := { s.dma with chans := [(8, { posted := List.replicate n { owner := 3, addr := 0, desc := zeros 32, select := false } })] } }

/-- DescriptorPosts: three places in use and four; an engine stalled on a channel. -/
theorem witness_posts :
    let s := withE 0x1FFE0 fun e => { e with dmaMask := 1 }
    let w := withE 0 fun e => { e with stall := some (.post 8 0) }
    issues (withPosts s 3) 3 = true ∧ (sReg (engine (withPosts s 3) 3) 1).toNat % 32 = 0 ∧ (sReg (engine (withPosts s 3) 3) 1).toNat + 32 ≤ 0x20000 ∧
    (engine (withPosts s 3) 3).dmaMask.testBit (8 - 8) = true ∧ placesUsed (withPosts s 3) 8 < 4 ∧ channelState (withPosts s 3) 8 < 2 ∧
    4 ≤ placesUsed (withPosts s 4) 8 ∧ channelState (withPosts s 4) 8 < 2 ∧ 2 ≤ channelState (withRegs (withPosts s 4) [(kDma 8 2, 2)]) 8 ∧ (engine w 3).stall = some (.post 8 0) ∧ placesUsed w 8 < 4 ∧ channelState w 8 < 2 := by decide +kernel

/-- MailboxPosts: the last block of local data memory, with and without a pending request; an engine stalled on one. -/
theorem witness_mailboxPosts :
    let s := withE 0x1FF00 id
    let p := withE 0x1FF00 fun e => { e with mailbox := some 0 }
    let w := withE 0 fun e => { e with stall := some (.mailbox 0) }
    issues s 3 = true ∧ (sReg (engine s 3) 1).toNat % 8 = 0 ∧ (sReg (engine s 3) 1).toNat + 256 ≤ 0x20000 ∧ (engine s 3).mailbox = none ∧
    issues p 3 = true ∧ (engine p 3).mailbox ≠ none ∧ (engine w 3).active = true ∧ (engine w 3).stall = some (.mailbox 0) ∧ (engine w 3).mailbox = none := by
  decide +kernel

/-- MessagePosts: form 0 with a place in the ring and with none; form 1 of the last OEM source. -/
theorem witness_messages :
    let s := withE 0x1FFF0 fun e => { e with faultMask := 8 }
    let x : Notice := { num := 1, sid := 0, key := kEngine 3 0xC, count := 1, msg := some 3 }
    let full := { s with engines := { s.engines with ring := List.replicate 256 (3, zeros 16) }, server := { s.server with notices := [x] } }
    let odd := store s (0x20000000 + 0x20000 * 3 + 0x1FFF0) [2]
    let one := store s (0x20000000 + 0x20000 * 3 + 0x1FFF0) [1, 63]
    issues s 3 = true ∧ (sReg (engine s 3) 1).toNat % 4 = 0 ∧ (sReg (engine s 3) 1).toNat + 16 ≤ 0x20000 ∧
    ((memBytes s.mem (0x20000000 + 0x20000 * 3 + 0x1FFF0) 16).getD 0 0).toNat = 0 ∧ s.engines.ring.length < 256 ∧ 256 ≤ (full.engines.ring.filter fun x => full.server.notices.any fun n => n.msg == some x.1).length ∧
    2 ≤ ((memBytes odd.mem (0x20000000 + 0x20000 * 3 + 0x1FFF0) 16).getD 0 0).toNat ∧ issues odd 3 = true ∧ issues full 3 = true ∧
    issues one 3 = true ∧ ((memBytes one.mem (0x20000000 + 0x20000 * 3 + 0x1FFF0) 16).getD 0 0).toNat = 1 ∧
    ((memBytes one.mem (0x20000000 + 0x20000 * 3 + 0x1FFF0) 16).getD 1 0).toNat = 60 + (3 : Fin 4).val ∧ (engine one 3).faultMask.testBit 3 = true := by
  decide +kernel

/-! ## Witnesses: the machine as a whole -/

/-- MemoryFormKept and StepOfTheQueue: the reset state steps. -/
theorem witness_memoryForm : MemoryOk State.reset ∧ (∃ t, step State.reset = .next t) ∧ State.reset.pending = [] :=
  ⟨by unfold MemoryOk; decide +kernel, ⟨_, rfl⟩, rfl⟩

/-- RegisterWritten: a register that holds the value, one that does not, and an ON_CHANGE subscription to it. -/
theorem witness_registerWritten :
    let b : Sub := { num := 1, sid := 0, index := 0x1050, sub := 8, periodic := false, interval := 100 }
    let s := { awake with server := { awake.server with subs := [b] } }
    reg s 0x105008 = .num (num s 0x105008) ∧ reg s 0x105008 ≠ .num 9 ∧ b ∈ s.server.subs ∧ b.periodic = false ∧ b.covers 0x105008 = true ∧
    (s.server.notices.filter (fun n => n.sid == b.sid)).length + s.server.subs.length ≤ 32 := by decide +kernel

/-- MessageRoundTrip: every operation of Table 5-3 has a message. -/
theorem witness_sendable : ∀ o ∈ ([.read (refOf 0x105008), .write (refOf 0x105008) [1], .readMulti [refOf 0x105008], .writeMulti [{ ref := refOf 0x105008, value := [1] }],
    .blockBegin (refOf 0x430001) true 4 5, .blockBegin (refOf 0x430001) false 0 0, .blockData 1 0 (.write [7]), .blockData 1 0 (.read 9), .blockEnd 1,
    .subscribe (refOf 0x105008) 2 10, .command (refOf 0x104001) [1], .authBegin 5, .authProve (zeros 16), .close] : List MdpOp), Sendable o ∧ opLen o < 2 ^ 16 := by
  simp only [List.forall_mem_cons, List.not_mem_nil, false_implies, implies_true, and_true, Sendable]
  decide +kernel

/-! ## Witnesses: requests -/

/-- A read, a read of many and a plain register. -/
theorem witness_reads :
    Taken awake hostReq (.read (refOf 0x105008)) ∧ checkRead (begun awake hostReq) 0 (refOf 0x105008) = 0 ∧
    3 + (readItem (begun awake hostReq) (refOf 0x105008)).2.length ≤ lenLimit 0 ∧
    Taken awake hostReq (.readMulti [refOf 0x105008, refOf 0x104001]) ∧
    (declOf awake 0x1050 8).isSome = true ∧ (refOf 0x105008).sub ≠ 0 ∧ isOem 0x1050 = false ∧ liveVal awake 0x1050 8 = none := by
  refine ⟨taken_of ?_, ?_, ?_, taken_of ?_, ?_⟩ <;> decide +kernel

/-- A key area with a VENDOR shell 2, which derives, an attestation shell 4 and a SESSION shell 5. -/
def keyed : State := withShells awake
  [(2, { type := 7, usage := 2 ^ 10 + 2 ^ 9 + 2 ^ 7 + 2 ^ 6 + 2 ^ 5 + 1, key := zeros 32 }), (4, { type := 8, usage := 2 ^ 8, key := zeros 32 }),
   (5, { type := 5, usage := 255, grant := 2, key := zeros 32 })]

/-- A lane's driver 0 holds 8 cells. -/
def oneDriver : State := withRegs awake [(kDriver 0 1, 77), (kDriver 0 2, 0), (kDriver 0 3, 0), (kDriver 0 4, 1)]

/-- A quire with a staged package, a trial, a radio that may start, an active module of a pair. -/
def staged : State := withRegs awake [(kUpdate 7, 2), (kUpdate 0xC, 3600)]

/-- For every command row a state in which it is taken and passes the checks, with the register and value it commands. -/
def commandCases : List (State × Key × Bytes) :=
  [ (awake, 0x104001, [1]), (awake, 0x104001, [2]), (awake, 0x102005, [1]), (awake, 0x105004, [1]),
    (awake, 0x430002, zeros 6), (awake, 0x430003, zeros 20), (awake, 0x430004, zeros 4), (awake, 0x480001, [1]), (awake, 0x48000A, [127]),
    (awake, 0x800F01, [1]), (awake, 0x800F01, [2]), (awake, 0x800F01, [3]), (awake, 0x800F0E, [1]), (awake, 0x810005, [1]),
    (awake, 0x300701, [1]), (awake, 0x300701, [2]), (awake, 0x300701, [3]), (awake, 0x300711, [1]),
    (withRegs awake [(kLane 7 2, 2)], 0x320007, [7]), (oneDriver, 0x330002, [0xFF, 0xFF]),
    (awake, 0x820F01, [1]), (awake, 0x820F01, [2]), (awake, 0x820F01, [3]), (awake, 0x820F0B, [1]), (awake, 0x82000B, [1]),
    (awake, 0x500001, [1]), (awake, 0x500001, [2]), (awake, 0x500001, [3]), (withRegs awake [(kMeter 2, 1)], 0x50000C, [0, 0, 0, 10] ++ zeros 8), (awake, 0x520080, [1]),
    (awake, 0x56000B, [1]), (awake, 0x55000C, [127]), (awake, 0x60030C, zeros 8), (awake, 0x610002, zeros 4), (awake, 0x611103, [1]), (awake, 0x611103, [2]),
    (awake, 0x240112, [1]), (awake, 0x260001, [1]), (asSafety (withRegs keyed [(kAddrActive, 5), (kAir 0xA, 5)]), 0x260001, [2]),
    (asSafety (withRegs keyed [(kAddrActive, 5), (kAir 0xA, 5)]), 0x260001, [3]), (awake, 0x26001B, [1]),
    (asSafety awake, 0x730009, [1]), (asSafety awake, 0x730009, [2]), (asSafety awake, 0x730007, [1, 0]), (withRegs (asSafety awake) [(kEmg 5, 2)], 0x730008, [1]),
    (asSafety awake, 0x700003, [63]), (asSafety awake, 0x700009, [1]), (withRegs (asSafety awake) [(kSafety 0xF, 7), (kGpio 7 1, 6)], 0x700009, [2]),
    (asSafety awake, 0x700009, [3]), (asSafety awake, 0x713F0C, [1]),
    ({ withRegs awake [(kRole, 1)] with pair := { awake.pair with peer := some { role := 2, beat := 1, format := 0, serial := 9, field := 0, alarm := 0, emg := 0 }, applied := 16 } },
      0x740005, [1]),
    (withShells (asSafety awake) [], 0xA00004, [9, 4] ++ [0xFF, 0xFF] ++ zeros 200), (asSafety keyed, 0xA00005, [9, 5, 2, 0, 1, 0, 1, 0] ++ zeros 20),
    (asSafety keyed, 0xA1050D, [1]), (keyed, 0xA01001, [4] ++ zeros 16),
    (staged, 0xB00009, [1]), (staged, 0xB00009, [2]), (staged, 0xB00009, [3]), (withRegs awake [(kUpdate 0xB, 2), (kRole, 0)], 0xB01001, [1]),
    (withRegs (asSafety staged) [(kAddrActive, 256)], 0xC01001, [1]), (awake, 0xC01001, [2]), (awake, 0xC01001, [3]), (awake, 0xC01001, [4]), (awake, 0x900002, [1]) ]

/-- CommandsServed, ModuleCommands, EngineControl, LaneControl and the other statements of commands: each row's COMMAND is taken and passes the checks. -/
theorem witness_commanded : ∀ x ∈ commandCases, Commanded x.1 hostReq x.2.1 x.2.2 := by
  have h : ∀ x ∈ commandCases, commandedTest x.1 hostReq x.2.1 x.2.2 = true := by decide +kernel
  exact fun x hx => commanded_of (h x hx)

/-- InputChangesWait: an engine that reads, and a command of an engine input. -/
theorem witness_inputWaits :
    let s := withRegs awake [(kEngine 3 2, 2)]
    Taken s hostReq (.command (refOf 0x430003) (zeros 20)) ∧ checkWrite (begun s hostReq) (begun s hostReq) 0 true (refOf 0x430003) (zeros 20) = 0 ∧
    isInput (itemOf s hostReq 0x430003 (zeros 20)).1 = true ∧ noReaders s = false ∧ mayApply s = false ∧ mayApply awake = true := by
  refine ⟨taken_of ?_, ?_⟩ <;> decide +kernel

/-- InputChangesWait: a command of a plain register behind another session's change. -/
theorem witness_waitsBehind :
    let w : Waiting := { sid := 0x10000, tid := 1, op := 2, items := [], domain := none }
    let s := { awake with server := { awake.server with waiting := [w] } }
    Taken s hostReq (.command (refOf 0x104001) [1]) ∧ checkWrite (begun s hostReq) (begun s hostReq) 0 true (refOf 0x104001) [1] = 0 ∧
    s.server.waiting = [w] ∧ w.domain = none ∧ w.task = none ∧ mayApply s = true ∧ ({ w with task := some (.release 5) } : Waiting).task ≠ none := by
  refine ⟨taken_of ?_, ?_⟩ <;> decide +kernel

/-- Zone 16383 lists a cell. -/
def oneZone : State := store awake (aZone 16383 + 10) [1]

/-- For every row that is the write of one register a state in which it passes the checks. -/
def writeCases : List (State × Key × Bytes) :=
  [ (awake, 0x105008, [1]), (awake, 0x110701, [1]), (awake, 0x210001, [1]), (oneZone, 0x41FF40, zeros 16), (awake, 0x630F01, [0]), (awake, 0x610001, zeros 8),
    (awake, 0x260004, [15, 20]), (awake, 0x260006, zeros 2) ]

/-- WritesServed and ColourInputs. -/
theorem witness_written : ∀ x ∈ writeCases, Written x.1 hostReq x.2.1 x.2.2 := by
  have h : ∀ x ∈ writeCases, writtenTest x.1 hostReq x.2.1 x.2.2 = true := by decide +kernel
  exact fun x hx => written_of (h x hx)

/-- WritesServed: a WRITE_MULTI of two items, the first of them persistent. -/
theorem witness_writeMulti :
    let is : List Item := [{ ref := refOf 0x105008, value := [1] }, { ref := refOf 0x630F01, value := [0] }]
    let items := is.map fun i => storedItem (begun awake hostReq) i.ref i.value
    Taken awake hostReq (.writeMulti is) ∧ is ≠ [] ∧ is.length ≤ 32 ∧
    (∀ i ∈ is, checkWrite (begun awake hostReq) (items.foldl withItem (begun awake hostReq)) 0 false i.ref i.value = 0) ∧
    (∀ i ∈ items, isInput i.1 = false ∧ isCommand (begun awake hostReq) i.1 = false) ∧ (is.map fun i => i.value.length).sum ≤ 256 := by
  refine ⟨taken_of ?_, ?_⟩ <;> decide +kernel

/-- WriteIsDurable: its registers at both ends of its ranges, each with a write that is taken where the ends are RWP registers; a store that is not degraded. -/
theorem witness_durable :
    Written awake hostReq 0x105008 [1] ∧ isRwp (begun awake hostReq) 0x105008 = true ∧ isInput 0x105008 = false ∧ storeDegraded awake = false ∧
    Written awake hostReq 0x220001 [0] ∧ isRwp (begun awake hostReq) 0x220001 = true ∧ Written awake hostReq 0x300007 [1] ∧ isRwp (begun awake hostReq) 0x300007 = true ∧
    Written awake hostReq 0xB0000C [60, 0] ∧ isRwp (begun awake hostReq) 0xB0000C = true := by
  refine ⟨written_of ?_, ?_, ?_, ?_, written_of ?_, ?_, written_of ?_, ?_, written_of ?_, ?_⟩ <;> decide +kernel

/-! ### Transfers -/

/-- The state with one transfer of the host session. -/
def withTransfer (s : State) (k : Key) (write : Bool) (b : Bytes) (size : Nat) : State :=
  { s with server := { s.server with transfers := [{ handle := 1, sid := 0, key := k, write := write, size := size, crc := crc32 b, content := b, buffer := 0, usedAt := 0 }] } }

/-- The write transfer of such a state. -/
def theTransfer (k : Key) (b : Bytes) (size : Nat) : Transfer :=
  { handle := 1, sid := 0, key := k, write := true, size := size, crc := crc32 b, content := b, buffer := 0, usedAt := 0 }

/-- Its CRC is that of its content. -/
theorem theTransfer_crc (k : Key) (b : Bytes) (n : Nat) : crc32 (theTransfer k b n).content = (theTransfer k b n).crc := rfl

/-- Its length is the one it was given. -/
theorem theTransfer_length (k : Key) (b : Bytes) : (theTransfer k b b.length).content.length = (theTransfer k b b.length).size := rfl

/-- Transfers: a write and a read begin; a chunk in sequence, and a piece read. -/
theorem witness_transfers :
    Taken awake hostReq (.blockBegin (refOf 0x420001) true 20 7) ∧ beginCheck (begun awake hostReq) 0 (refOf 0x420001) true 20 = 0 ∧
    Taken awake hostReq (.blockBegin (refOf 0x420001) false 0 0) ∧ beginCheck (begun awake hostReq) 0 (refOf 0x420001) false 0 = 0 ∧
    transferOf (begun awake hostReq) 0 1 = none ∧
    Taken (withTransfer awake 0x420001 true [1] 20) hostReq (.blockData 1 1 (.write (zeros 19))) ∧
    (transferOf (begun (withTransfer awake 0x420001 true [1] 20) hostReq) 0 1).map (fun x => (x.write, x.content.length, x.size)) = some (true, 1, 20) ∧
    Taken (withTransfer awake 0x420001 false (zeros 20) 20) hostReq (.blockData 1 12 (.read 8)) ∧
    (transferOf (begun (withTransfer awake 0x420001 false (zeros 20) 20) hostReq) 0 1).map (fun x => (x.write, x.size)) = some (false, 20) := by
  refine ⟨taken_of ?_, ?_, taken_of ?_, ?_, ?_, taken_of ?_, ?_, taken_of ?_, ?_⟩ <;> decide +kernel

/-- An image of no records, whose signature is its hash twice. -/
def emptyImage : Bytes := leBytes 64 0x132564844 ++ leBytes 64 0x47fd2d736ae40e11488a618a12528632a2d4481ea517c69b64091c8921fb0e4e47fd2d736ae40e11488a618a12528632a2d4481ea517c69b64091c8921fb0e4e
/-- The public key under which that signature holds. -/
def imageKey : Bytes := leBytes 64 0x793888e364511c2df879d6c7a398684878fe9a54be69592ae268dc813565df811a5f30f7caf28087e375715ec093e274c09bbd8330d075338e07ef46140caf9
/-- The part table of a package: the four parts that it must have, of one byte each. -/
def partTable : List Bytes := [1, 2, 3, 4].map fun i =>
  [BitVec.ofNat 8 i] ++ zeros 15 ++ leBytes 4 (447 + i) ++ leBytes 4 1 ++ zeros 8 ++ sha256 [BitVec.ofNat 8 i]
/-- A package, signed likewise under a key whose KEY_ID is 5. -/
def smallPackage : Bytes :=
  (leBytes 4 0x474B5046 ++ [1, 0, 0, 0] ++ leBytes 4 452 ++ leBytes 4 64 ++ zeros 48)
    ++ (leBytes 4 0x4C455246 ++ [1, 4, 0, 0] ++ leBytes 2 11 ++ zeros 22 ++ [5] ++ zeros 31) ++ partTable.flatten
    ++ leBytes 64 0x330ad8a81e8caea7567303257e681bd4633f51c74e00f11466053c6e83e972a0330ad8a81e8caea7567303257e681bd4633f51c74e00f11466053c6e83e972a ++ [1, 2, 3, 4]
/-- The public key under which the package's signature holds. -/
def packageKey : Bytes := leBytes 64 0x1cccd8d89bab11ddb98d4d7fc7de19b03c3b47b3a3b6f74ee44ae010bf003141e8452f036625f310071233a8fc92c55dbc9a19eca40418eda02113873df69c2e
/-- A module with the VERIFY shells of both. -/
def verifier : State := withShells awake
  [(0, { type := 4, usage := 2 ^ 1, pub := imageKey }), (1, { type := 4, usage := 2 ^ 4, pub := packageKey, keyId := 5 })]


/-- The records of a content that repeats one record. -/
theorem chunks_alike (r : Bytes) (n : Nat) (hr : r.length = n) (k : Nat) : ∀ l : List Nat, l.length = k →
    chunks n k (l.flatMap fun _ => r) = List.replicate k r := by
  induction k with
  | zero => intro l _; rfl
  | succ k ih =>
    intro l hl
    match l, hl with
    | _ :: t, hl =>
      simp only [List.length_cons, Nat.add_right_cancel_iff] at hl
      simp only [List.flatMap_cons, chunks, List.replicate_succ, List.cons.injEq]
      exact ⟨by rw [← hr]; simp, by rw [← hr]; rw [List.drop_left]; rw [hr]; exact ih t hl⟩

/-- Its length. -/
theorem length_alike (r : Bytes) (l : List Nat) : (l.flatMap fun _ => r).length = l.length * r.length := by
  induction l with
  | nil => simp
  | cons a t ih => rw [List.flatMap_cons, List.length_append, ih, List.length_cons, Nat.succ_mul, Nat.add_comm]

/-- An area table that repeats one record is right where the record is. -/
theorem areas_alike (r : Bytes) (hr : r.length = 16) : areaDefault = ((List.range 1024).flatMap fun _ => r) → areaTableOk areaDefault =
    (fieldAt r 6 2 != 0 && (List.range 4).all fun i => fieldAt r (8 + 2 * i) 2 ≤ 1023 || fieldAt r (8 + 2 * i) 2 == 0xFFFF) := by
  intro e
  have hl : areaDefault.length = 1024 * 16 := by rw [e, length_alike, hr, List.length_range]
  have h : records 16 areaDefault = List.replicate 1024 r := by
    unfold records; rw [hl, e]; exact chunks_alike r 16 hr 1024 _ List.length_range
  unfold areaTableOk
  rw [h, hl, List.all_replicate]
  rfl

/-- The default area table is a right content. -/
theorem areaDefault_ok : areaTableOk areaDefault = true := by
  rw [areas_alike (List.replicate 6 0xFF ++ leBytes 2 500 ++ List.replicate 8 0xFF) (by decide) rfl]; decide +kernel

/-- A state's one transfer is found under its handle. -/
theorem transfer_found (s : State) (k : Key) (b : Bytes) (n : Nat) : transferOf (begun (withTransfer s k true b n) hostReq) hostReq.sid 1 = some (theTransfer k b n) := rfl

/-- The check of an area table. -/
theorem areas_checked (s : State) (b : Bytes) : (checkContent s kAreas b).1 = areaTableOk b := rfl

/-- TransferEnds: a read transfer; a whole scene; a whole area table, which is an engine input; a signed image; a signed package. -/
theorem witness_transferEnds :
    (let s := withTransfer awake 0x420001 false [] 0;
      Taken s hostReq (.blockEnd 1) ∧ (transferOf (begun s hostReq) 0 1).map (·.write) = some false) ∧
    (let s := withTransfer awake 0x420001 true [] 0;
      ∃ x, Whole s hostReq 1 x ∧ x.key ≠ kImage ∧ x.key ≠ kPackage ∧ isInputDomain x.key = false ∧
        (checkContent (begun s hostReq) x.key x.content).1 = true ∧ storeDegraded (closedTransfer (checkContent (begun s hostReq) x.key x.content).2 x) = false ∧
        s.server.waiting = [] ∧ (closedTransfer (checkContent (begun s hostReq) x.key x.content).2 x).server.waiting = []) ∧
    (let s := withTransfer verifier kImage true emptyImage 128;
      ∃ x, Whole s hostReq 1 x ∧ x.key = kImage ∧ (imageOk (begun s hostReq) 0 x.content).1 = true ∧
        let u := closedTransfer (imageOk (begun s hostReq) 0 x.content).2 x
        storeDegraded u = false ∧ u.power.warning = false ∧ (takeImage u x.content).2.server.waiting = [] ∧
        ∀ i ∈ (takeImage u x.content).1, isInput i.1 = false) ∧
    (let s := withTransfer verifier kPackage true smallPackage 452;
      ∃ x, Whole s hostReq 1 x ∧ x.key = kPackage ∧ (stagePackage (closedTransfer (begun s hostReq) x) x.content).1 = true) := by
  refine ⟨⟨taken_of ?_, ?_⟩, ⟨theTransfer 0x420001 [] 0, whole_of ?_ rfl (transfer_found _ _ _ _) rfl ?_ (theTransfer_crc _ _ _), ?_⟩,
    ⟨theTransfer kImage emptyImage 128, whole_of ?_ rfl (transfer_found _ _ _ _) rfl ?_ (theTransfer_crc _ _ _), ?_⟩,
    ⟨theTransfer kPackage smallPackage 452, whole_of ?_ rfl (transfer_found _ _ _ _) rfl ?_ (theTransfer_crc _ _ _), ?_⟩⟩ <;> decide +kernel

/-- TransferEnds: the default area table is whole and right. -/
theorem witness_areasEnd :
    let x := theTransfer kAreas areaDefault areaDefault.length
    transferOf (begun (withTransfer awake kAreas true areaDefault areaDefault.length) hostReq) hostReq.sid 1 = some x ∧ x.write = true ∧ x.content.length = x.size ∧
      crc32 x.content = x.crc ∧ x.key = kAreas ∧ ∀ s, (checkContent s kAreas areaDefault).1 = true :=
  ⟨transfer_found _ _ _ _, rfl, theTransfer_length _ _, theTransfer_crc _ _ _, rfl, fun s => (areas_checked s areaDefault).trans areaDefault_ok⟩

/-- TransferEnds: and its BLOCK_END is taken, no engine reads the inputs and nothing waits. -/
theorem witness_areasTaken :
    let s := withTransfer awake kAreas true [] 0
    Taken s hostReq (.blockEnd 1) ∧ noReaders s = true ∧ s.server.waiting = [] ∧ storeDegraded s = false ∧ s.power.warning = false := by
  refine ⟨taken_of ?_, ?_⟩ <;> decide +kernel

/-! ## Witnesses: subscriptions, authentication, sessions, PROXY, the host port, the console and the mailbox -/

/-- The state with these subscriptions and notifications. -/
def withSubs (subs : List Sub) (notices : List Notice) : State := { awake with server := { awake.server with subs := subs, notices := notices } }

/-- An ON_CHANGE subscription of the host session, and a PERIODIC one. -/
def onChange : Sub := { num := 7, sid := 0, index := 0x1050, sub := 8, periodic := false, interval := 65535 }
/-- See `onChange`. -/
def everyTen : Sub := { num := 9, sid := 0, index := 0x1050, sub := 8, periodic := true, interval := 10 }

/-- Subscriptions: intervals at both limits, and a cancellation. -/
theorem witness_subscriptions :
    Taken awake hostReq (.subscribe (refOf 0x105008) 1 65535) ∧ subscribeCheck (begun awake hostReq) 0 (refOf 0x105008) false 65535 = 0 ∧
    Taken awake hostReq (.subscribe (refOf 0x105008) 2 10) ∧ subscribeCheck (begun awake hostReq) 0 (refOf 0x105008) true 10 = 0 ∧
    Taken (withSubs [onChange] []) hostReq (.subscribe (refOf 0x105008) 0 0) ∧
    ([onChange].find? fun x => x.sid == 0 && x.index == (refOf 0x105008).index.toNat && x.sub == (refOf 0x105008).sub.toNat) = some onChange := by
  refine ⟨taken_of ?_, ?_, taken_of ?_, ?_, taken_of ?_, ?_⟩ <;> decide +kernel

/-- Notifications. -/
theorem witness_notifications :
    let x : Notice := { num := 7, sid := 0, key := 0x105008, count := 3 }
    let s := withSubs [onChange, everyTen] [x]
    subNumbered s 7 = some onChange ∧ onChange.sub ≠ 0xFF ∧ liveVal s onChange.index onChange.sub = none ∧
    s.server.notices.find? (fun y => y.num == onChange.num) = some x ∧ mayNotify s x = true ∧ onChange.sid = 0 ∧ onChange.periodic = false ∧
    subNumbered s 9 = some everyTen ∧ everyTen.periodic = true ∧ everyTen.sid = 0 ∧ everyTen.sub ≠ 0xFF := by decide +kernel

/-- A nonce given out for shell 5. -/
def challenged : State := putSession keyed 0 { nonce := some (zeros 16, 5, 0) }

/-- Authentication: a shell that may be used, the right tag in time, a session without a nonce, a lockout. -/
theorem witness_authentication :
    Taken keyed hostReq (.authBegin 5) ∧ ((tabFind keyed.server.lockouts (transportNo (transportOf 0))).getD {}).locked = false ∧
    (mayUse (begun keyed hostReq) 5 0 [5, 6, 7]).1 = true ∧
    Taken challenged hostReq (.authProve ((hmac (zeros 32) (zeros 16 ++ leBytes 8 1 ++ leBytes 2 5)).take 16)) ∧
    (session challenged 0).nonce = some (zeros 16, 5, 0) ∧ challenged.clk < 0 + secs 10 ∧ hostReq.sid < 0x2000 ∧
    ((hmac (zeros 32) (zeros 16 ++ leBytes 8 1 ++ leBytes 2 5)).take 16).length = 16 ∧
    (let u := mayUse (putSession (begun challenged hostReq) 0 { session (begun challenged hostReq) 0 with nonce := none }) 5 0 [5, 6, 7]
     u.1 = true ∧ (shell u.2 5).usesLeft ≠ 1 ∧
      (hmac (zeros 32) (zeros 16 ++ leBytes 8 1 ++ leBytes 2 5)).take 16 = (hmac (shell u.2 5).key (zeros 16 ++ leBytes 8 (serial u.2) ++ leBytes 2 hostReq.tid.toNat)).take 16) ∧
    Taken awake hostReq (.authProve (zeros 16)) ∧ (session awake 0).nonce = none ∧
    (let s := { awake with server := { awake.server with lockouts := [(transportNo .host, { locked := true })] } }
     tabFind s.server.lockouts (transportNo .host) = some { locked := true }) := by
  refine ⟨taken_of ?_, ?_, ?_, taken_of ?_, ?_, ?_, ?_, ?_, ?_, taken_of ?_, ?_, ?_⟩ <;> decide +kernel

/-- SessionEnds: an Ethernet session and a session that closes. -/
theorem witness_sessionEnds :
    Goes (.sessionTimeout 0x10000) awake (after (.sessionTimeout 0x10000) awake) ∧ transportOf 0x10000 = .ethernet ∧
    Taken awake hostReq .close ∧ Goes (.close hostReq) awake (after (.close hostReq) awake) :=
  ⟨goes_after (by decide +kernel), by decide +kernel, taken_of (by decide +kernel), goes_after (by decide +kernel)⟩

/-- A module whose Ethernet port serves MDP. -/
def wired : State := withRegs keyed [(0x210001, 1)]

/-- Handshakes: one that does not offer the suite, and one that proves the key of shell 5. -/
theorem witness_handshakes :
    let hs : Handshake := { sid := 0x10000, identity := 5 :: leBytes 8 1, offers := true, proof := kdf (zeros 32) (ascii "MDP-DTLS") (zeros 16) 256 }
    let u := (mayUse wired 5 0 [5, 6, 7]).2
    ethOpen wired = true ∧ transportOf hs.sid = .ethernet ∧ hs.offers = true ∧ ({ hs with offers := false } : Handshake).offers = false ∧
    (wired.server.sessions.filter fun x => transportOf x.1 == .ethernet && x.1 != hs.sid && !x.2.closed).length < 16 ∧
    (tabFind (putSession wired hs.sid { role := some .observer }).server.sessions hs.sid).isSome = true ∧ ethOpen (putSession wired hs.sid { role := some .observer }) = true ∧
    hs.identity = (5 : Byte) :: leBytes 8 (serial wired) ∧ (mayUse wired 5 0 [5, 6, 7]).1 = true ∧ (shell u 5).usesLeft ≠ 1 ∧
    hs.proof = kdf (shell u 5).key (ascii "MDP-DTLS") (shell u 5).context 256 := by decide +kernel

/-- A manager with worker 255 rostered. -/
def manager : State := withRegs awake [(kAddrActive, 0x0300), (kRoster 255 1, 9), (kRoster 255 3, 1)]

/-- A read enclosed for a worker of manager 3. -/
def enclosed (w : Half) (side : Byte) (o : MdpOp) : ProxyReq := { target := 0x0300 + w, side := side, timeout := 0, tid := 9, retry := false, inner := o }

/-- A proxied request in flight. -/
def aFlight : Flight := { sid := 0, tid := 5, itid := 9, target := 0x03FF, side := 0, inner := .read (refOf 0x101801), role := .integrator, timeout := 500, sends := 1 }

/-- A manager with that request in flight. -/
def flying : State := putSession { manager with server := { manager.server with flights := [(4, aFlight)] } } 0 { busy := [5] }

/-- ProxyRequests: one turned away, one for a worker, one for this module; one in flight and its response. -/
theorem witness_proxy :
    Admitted manager hostReq ∧ transportOf hostReq.sid ≠ .floor ∧ transportOf hostReq.sid ≠ .air ∧ manager.server.held = [] ∧ manager.server.waiting = [] ∧
    carryOver (begun manager hostReq) = false ∧ (enclosed 0 0 (.read (refOf 0x101801))).side.toNat ≤ 2 ∧ proxyLen (enclosed 0 0 (.read (refOf 0x101801))) ≤ lenLimit 0 ∧
    proxyCheck (begun manager hostReq) (enclosed 254 0 .close) ≠ 0 ∧ proxyLen (enclosed 254 0 .close) ≤ lenLimit 0 ∧
    proxyCheck (begun manager hostReq) (enclosed 255 0 (.read (refOf 0x101801))) = 0 ∧ ¬((enclosed 255 0 (.read (refOf 0x101801))).target.toNat % 256 = 0) ∧
    (manager.server.flights.filter fun f => f.2.sid != waveSid && f.2.sid != dutySid).length < 64 ∧
    proxyCheck (begun manager hostReq) (enclosed 0 0 (.read (refOf 0x101801))) = 0 ∧ (enclosed 0 0 (.read (refOf 0x101801))).target.toNat % 256 = 0 ∧
    checkRead (begun manager hostReq) 0 (refOf 0x101801) = 0 ∧ 3 + (readItem (begun manager hostReq) (refOf 0x101801)).2.length + 8 ≤ lenLimit 0 ∧
    tabFind flying.server.flights 4 = some aFlight ∧ aFlight.sid ≠ waveSid ∧ aFlight.sid ≠ dutySid ∧ aFlight.sid < 0x2000 ∧
    aFlight.tid ∈ (session flying aFlight.sid).busy ∧ (responseMsg 0x01 4 0 [2, 1, 0, 1]).length ≤ lenLimit aFlight.sid ∧
    messageWhole (responseMsg 0x01 4 0 [2, 1, 0, 1]) = true ∧ 128 ≤ ((responseMsg 0x01 4 0 [2, 1, 0, 1]).getD 1 0).toNat := by
  refine ⟨(taken_of (o := .close) ?_).1, ?_⟩ <;> decide +kernel

/-- HostTransactions: a frame to send, the host's frame, one cut short. -/
theorem witness_host :
    transportOpen awake 0 = true ∧ (zeros 20).contains 0xA5 = false ∧ awake.server.hostQueue = [] ∧ (requestMsg .close 1 false).length < 2 ^ 16 ∧
    [8, 0, 1].length < 6 + fieldAt [8, 0, 1] 0 2 := by decide +kernel

/-- MessagesTaken. -/
theorem witness_messagesTaken : Sendable (.read (refOf 0x105008)) ∧ opLen (.read (refOf 0x105008)) < 2 ^ 16 ∧ messageWhole (zeros 7) = false :=
  ⟨trivial, by decide +kernel, by decide +kernel⟩

/-- ConsoleLines: the first length that is too long, and a read. -/
theorem witness_console :
    transportOpen awake 1 = true ∧ (∀ b ∈ List.replicate 2201 (0x20 : Byte), b ≠ 0x0D ∧ b ≠ 0x0A) ∧ 2200 < (List.replicate 2201 (0x20 : Byte)).length ∧
    mute awake 1 = false ∧ awake.server.held = [] ∧ checkRead awake 1 (refOf 0x105008) = 0 ∧ notCarried awake 1 (.read (refOf 0x105008)) = false ∧
    3 + (readItem awake (refOf 0x105008)).2.length ≤ 1280 ∧ (session awake 1).closed = false ∧ awake.server.waiting = [] :=
  ⟨by decide +kernel, fun b hb => by rw [List.eq_of_mem_replicate hb]; decide, by rw [List.length_replicate]; decide, by decide +kernel⟩

/-- MailboxResponses: a read in the last block, by the library and by a program whose range is that index. -/
theorem witness_mailbox :
    let e : Engine := { mailbox := some 0x1FF00, program := 0xFE }
    let s := store (putEngine awake 3 e) (localBase 3 + 0x1FF00) [1, 0xFF, 0x50, 0x10, 8]
    let t := putEngine s 3 { e with program := 2, mbxFirst := 0x1050, mbxLast := 0x1050 }
    let b := memBytes s.mem (localBase 3 + 0x1FF00) 256
    (engine s 3).mailbox = some 0x1FF00 ∧ (engine s 3).queue.length < 64 ∧ (s.server.waiting.any fun w => w.sid == 0x100 + 3) = false ∧ (b.getD 0 0).toNat = 1 ∧
    (engine s 3).program = 0xFE ∧ checkRead s (0x100 + 3) (refAt b 2) = 0 ∧ (readItem s (refAt b 2)).2.length ≤ 248 ∧
    (engine t 3).mbxFirst ≤ (refAt b 2).index.toNat ∧ (refAt b 2).index.toNat ≤ (engine t 3).mbxLast ∧ checkRead t (0x100 + 3) (refAt b 2) = 0 := by decide +kernel

/-! ## Witnesses: supplies, resets, the start, the engines' control -/

/-- Resets, BackupLoss, PowerFail, FaultEvents, FixedSources: a module held in reset, one that has ordered a reset, one in a warning with all that waits, one whose safety core acts. -/
theorem witness_supply :
    State.reset.start.held = true ∧ awake.start.held = false ∧ awake.start.ordered = none ∧
    ({ awake with start := { awake.start with ordered := some (3, 22) } } : State).start.ordered = some (3, 22) ∧ awake.power.warning = false ∧
    (let s := { awake with power := { warning := true }, keptHeld := [(24, {})], bookmarkDue := true }
     s.power.warning = true ∧ recState s ≠ 3 ∧ s.keptHeld = [(24, {})] ∧ s.bookmarkDue = true) ∧
    stepRan awake 8 = true ∧ transportOpen awake 0 = true ∧ ethOpen wired = true ∧
    (let s := { awake with safety := { enabled := true }, time := { loaded := true } }
     s.safety.enabled = true ∧ s.start.held = false ∧ s.time.loaded = true) ∧
    recState (withRegs { awake with power := { warning := true } } [(kRecState, 3)]) = 3 := by decide +kernel

/-- A module that starts and has come to step `n`. -/
def starting (n : Nat) : State := { State.reset with start := { held := false, running := true, next := n } }

/-- StartSteps: a step whose normal way succeeds. -/
theorem witness_normalWay :
    let r : StepReport := { ok := true, altOk := false, code := 0, bootAlt := false }
    (normalWay (starting 4) 4 r).1 = none ∧ (normalWay (starting 15) 15 r).1 = none ∧ (starting 15).start.running = true ∧ (starting 15).start.next ≠ 0 := by
  decide +kernel

/-- StartTimeouts: each step that it names, and no start. -/
theorem witness_startTimeouts : awake.start.running = false ∧ ∀ n ∈ [1, 2, 3, 4, 5, 8, 11, 14, 15],
    (starting n).start.running = true ∧ (starting n).start.held = false ∧ (starting n).start.safe = false ∧ (starting n).start.next = n ∧
    (starting n).start.bookmark.altUsed.toNat.testBit n = false := by decide +kernel

/-- Table 3-4 and R62: the Ethernet step that exceeds its limit is abandoned, its block held in reset, and the next step begins. -/
theorem test_timeout_abandons :
    let t := after (.startStepTimeout { ok := false, altOk := false, code := 0, bootAlt := false }) (starting 8)
    t.start.next = 9 ∧ t.start.disabled.toNat.testBit 8 = true ∧ bit t 0x101803 8 = true := by decide +kernel

/-- R61: the start step before the last leads to the last, and that one to OPERATIONAL. -/
theorem test_start_ends :
    let t := after (.startStep { ok := true, altOk := false, code := 0, bootAlt := false }) (starting 15)
    t.start.running = false ∧ num t kModuleState = 1 := by decide +kernel

/-- R49, R91: the warning is raised as source 24, and once cleared nothing waits. -/
theorem test_warning :
    let t := after .powerFailWarning awake
    let u := after .warningCleared t
    t.power.warning = true ∧ num t (kFault 24 8) = 1 ∧ u.power.warning = false ∧ u.durable = none ∧ u.logHeld = [] := by decide +kernel

/-- A module whose area 3 has the occupancy partner 9 and the neighbour 4. -/
def withArea : State := store awake (aAreaRec 3) ([9, 0] ++ List.replicate 6 0xFF ++ [4, 0] ++ List.replicate 6 0xFF)

/-- R135: an area that becomes occupied leads its neighbour; it is vacant after VACANT_DELAY, and its neighbour led no more after LEAD_HOLD. -/
theorem test_occupancy :
    let s := areaPresent withArea 3
    areaOccupied withArea 3 = false ∧ areaOccupied s 3 = true ∧ (area s 4).led = true ∧ (area s 5).led = false ∧
    areaOccupied (after (.areaVacant 3) s) 3 = false ∧ (area (after (.areaVacant 3) s) 4).led = true ∧ (area (after (.leadHoldEnd 4) s) 4).led = false := by
  decide +kernel

/-- StartSteps: steps 1, 2, 4 and 15 of a start. -/
theorem witness_start :
    (starting 4).start.running = true ∧ (starting 4).start.held = false ∧ (starting 4).start.safe = false ∧ (starting 4).start.next = 4 ∧
    (starting 4).start.bookmark.altUsed.toNat.testBit 4 = false ∧ (starting 1).start.next = 1 ∧ (starting 2).start.next = 2 ∧
    (starting 15).start.bookmark.altUsed.toNat.testBit 15 = false ∧ nat (starting 15) kModuleState ≠ 3 ∧ awake.start.running = false := by decide +kernel

/-- Pads: a pin in mode 2 and a relay in mode 6, each with the other level; a write of each mode. -/
theorem witness_pads :
    let s := withRegs awake [(kGpio 7 1, 2), (kGpio 0 1, 6), (kGpio 0 3, 1)]
    s.start.held = false ∧ s.start.loaded = true ∧ State.reset.start.held = true ∧
    (∀ m ∈ [0, 1, 2, 3, 4, 5, 6], writtenTest awake hostReq (kGpio 7 1) [m] = true) ∧
    nat s (kGpio 7 1) = 2 ∧ flag s (kGpio 7 2) ≠ true ∧ nat s (kGpio 0 1) = 6 ∧ (∀ t ∈ (gpio s 0).wroteAt, t + msec 1 ≤ s.clk) ∧ flag s (kGpio 0 3) ≠ false := by
  decide +kernel

/-- EngineLoads: an engine that loads the library's program. -/
theorem witness_engineLoads :
    let s := withRegs awake [(kEngine 3 2, 1)]
    engineState s 3 = 1 ∧ engineState awake 3 ≠ 1 ∧
    (if assignment s 3 = 0xFE then [] else slice (domain s kProgramSet) (fieldAt (progHeader (domain s kProgramSet) (assignment s 3)) 28 4)
      (fieldAt (progHeader (domain s kProgramSet) (assignment s 3)) 8 4)).length ≤ 130816 := by decide +kernel

/-- EngineEnds: an engine in its tick, and a stopping one with nothing outstanding. -/
theorem witness_engineEnds :
    let s := withRegs (putEngine awake 3 { startAsked := true }) [(kEngine 3 2, 4)]
    (engine (withRunner runner) 3).active = true ∧ engineState s 3 = 4 ∧ (engine s 3).active = false ∧ hasPosted s 3 = false ∧ (engine s 3).mailbox = none := by
  decide +kernel

/-- TickStarts: before and after step 5, an engine that fenced and an idle one. -/
theorem witness_ticks :
    let s := withRegs (putEngine awake 15 { fenced := true, select := true, code := zeros 4 }) [(kEngine 15 2, 2)]
    awake.time.loaded = false ∧ ({ s with time := { loaded := true } } : State).time.loaded = true ∧ (engine s 15).fenced = true ∧ engineState s 15 = 2 := by decide +kernel

/-- ColourInputs: a driver of luminaire 127 with a cell, and the values of the group commands as they are stored. -/
theorem witness_colour :
    let s := withRegs awake [(kDriver 127 1, 5), (kDriver 127 2, 127), (kDriver 127 3, 65535), (kDriver 127 4, 1)]
    Commanded s hostReq 0x48000A [127] ∧ num s (kDriver 127 1) ≠ 0 ∧ nat s (kDriver 127 2) = (127 : Byte).toNat ∧ 7 < 8 * nat s (kDriver 127 4) ∧
    (storedItem (begun awake hostReq) (refOf 0x430002) (zeros 6)).2 = .bytes (zeros 6) ∧ (storedItem (begun awake hostReq) (refOf 0x430003) (zeros 20)).2 = .bytes (zeros 20) ∧
    (storedItem (begun awake hostReq) (refOf 0x430004) (zeros 4)).2 = .bytes (zeros 4) := by
  refine ⟨commanded_of ?_, ?_⟩ <;> decide +kernel

/-! ## Witnesses: lanes, DMA, metering -/

/-- Lane 7 in a state, with its driver table's position 15 used and present. -/
def withLane (st : Int) (l : Lane) : State :=
  withRegs { awake with lanes := { awake.lanes with list := [(7, l)], pll := true } }
    [(kLane 7 2, st), (kLane 7 9, 0x8000), (kDriver 127 1, 5), (kDriver 127 2, 127), (kDriver 127 3, 100), (kDriver 127 4, 8)]

/-- LaneFields, RecordsLeave: a lane that sends, one whose transmitter is off, one with a record that fits and one that no longer does, one with a priority record, and
the last field of a tick with nothing before COMMIT. -/
theorem witness_fields :
    let r : TxRec := { type := 0x20, dest := 15, seq := some 0, payload := zeros 10 }
    let s := withLane 2 { marks := true, feeding := true, buffer := [r], next := 2 ^ 32 - 1 }
    let late := withLane 2 { marks := true, buffer := [r], used := fieldPeriod s / 40 }
    let c := withLane 2 { marks := true, begun := true, feeding := true, next := 2 ^ 32 - 1 }
    (lane awake 7).marks = false ∧ (lane s 7).marks = true ∧ (lane s 7).dual = false ∧ (lane s 7).prio = [] ∧ nextRecord s 7 = some (r, []) ∧
    fieldUsed s 7 + recordChars false r + 32 ≤ fieldPeriod s / 40 ∧ fieldPeriod s / 40 < fieldUsed late 7 + recordChars false r + 32 ∧
    nextRecord (withLane 2 { marks := true }) 7 = none ∧ laneState s 7 = 2 ∧ isControl r.type = true ∧ r.again = false ∧ r.dest < 16 ∧
    fieldUsed (withLane 2 { marks := true, prio := [r] }) 7 + recordChars false r ≤ fieldPeriod s / 40 ∧
    fieldPeriod s / 40 < fieldUsed (withLane 2 { marks := true, prio := [r], used := fieldPeriod s / 40 }) 7 + recordChars false r ∧
    laneState awake 7 = 0 ∧ laneDriven s 7 = true ∧ ¬((lane s 7).marks = false ∨ s.clk < (lane s 7).marksFrom) ∧
    (let o := withLane 2 { begun := true }; laneState o 7 ≠ 0 ∧ (lane o 7).begun = true ∧ (lane o 7).marks = false) ∧
    (let m := withLane 2 { marks := true, marksFrom := 5 }; (lane m 7).begun = false ∧ m.clk < (lane m 7).marksFrom) ∧
    (let p := withLane 2 { marks := true, prio := [r] }; (lane p 7).prio = [r] ∧ r.feed = false ∧ laneDriven p 7 = true) ∧
    laneState c 7 = 2 ∧ (lane c 7).begun = true ∧ laneDriven c 7 = true ∧ lastOfTick c (lane c 7).next = true ∧ (lane c 7).feeding = true ∧ (lane c 7).dual = false ∧
    (lane c 7).prio = [] ∧ (lane c 7).buffer = [] ∧ (lane c 7).due = [] ∧ c.safety.egress = false ∧ (lane c 7).endScene = 0 ∧ nat c 0x700002 = 0 ∧
    100 ≤ fieldPeriod c / 40 := by decide +kernel

/-- LaneControl: a starting lane whose drivers have answered, one whose last has not after 64 fields, stopping lanes that are done and one that is not, a stopped one. -/
theorem witness_laneControl :
    let s := withLane 1 { pos := [(15, { arrived := true })] }
    let w := withLane 1 { pos := [(15, {})], fields := 64 }
    let d := withLane 4 { pos := [(15, { stopOk := true })] }
    let m := withLane 4 { pos := [(15, {})], stopFields := 16, startAsked := true }
    laneState s 7 = 1 ∧ (∀ p, p < 16 → inTable s 7 p = true → (pos s 7 p).arrived = true) ∧ (lane s 7).met = [] ∧
    laneState w 7 = 1 ∧ 64 ≤ (lane w 7).fields ∧ (lane w 7).met = [] ∧ inTable w 7 15 = true ∧ (pos w 7 15).arrived = false ∧ nat (withRegs w [(kFault 7 1, 2)]) (kFault 7 1) ≠ 3 ∧
    (∀ j, j < 16 → j ≠ 15 → inTable w 7 j = true → (pos w 7 j).arrived = true) ∧ (lane (withLane 1 { pos := [(15, {})], fields := 63 }) 7).fields < 64 ∧
    laneState d 7 = 4 ∧ stopDone d 7 = true ∧ (∀ p, p < 16 → present d 7 p = true → (pos d 7 p).stopOk = true) ∧ (lane d 7).startAsked = false ∧
    laneState m 7 = 4 ∧ stopDone m 7 = true ∧ mirrorOnly m 7 = false ∧ present m 7 15 = true ∧ (pos m 7 15).stopOk = false ∧ storedOnly m = false ∧
    ¬(laneState (withLane 4 { stops := 3, marks := true }) 7 = 4 ∧ stopDone (withLane 4 { stops := 3, marks := true }) 7 = true) ∧ laneState awake 7 = 0 := by decide +kernel

/-- LaneDelivery: a control record undelivered after two resends and after three, a delivered request, a driver that is missing, a silent return, conditions that last and that end. -/
theorem witness_delivery :
    let r : TxRec := { type := 0x21, dest := 15, seq := some 0, payload := zeros 4 }
    let c : Ctrl := { txr := r, resends := 3, delivered := true }
    let s := withLane 2 { marks := true, pos := [(15, { sent := [{ c with delivered := false }], request := some c })] }
    let e := withLane 2 { met := [(3 * 256, true), (6 * 256 + 15, false)] }
    (lane s 7).marks = true ∧ (pos s 7 15).sent ≠ [] ∧ nat s kRole ≠ 2 ∧ (∃ x ∈ (pos s 7 15).sent, 3 ≤ x.resends) ∧ laneRuns s 7 = true ∧ (lane s 7).met = [] ∧
    (pos s 7 15).request = some c ∧ c.delivered = true ∧ 3 ≤ c.resends ∧ present s 7 15 = true ∧ nat (withRegs s [(kFault 7 1, 2)]) (kFault 7 1) ≠ 3 ∧
    nat s (kLane 7 9) ≠ 0 ∧ (∀ j, j < 16 → (pos s 7 j).work ≠ .ready) ∧ (pos awake 7 15).request = none ∧ laneRuns awake 7 = false ∧
    (∀ x ∈ (lane e 7).met, x.2 = true ∨ lasting x.1 = true) ∧ (lane (withLane 2 { met := [(2 * 256 + 0, false)] }) 7).met = [(2 * 256 + 0, false)] ∧
    (lane (withLane 2 { met := [(5 * 256 + 255, false)] }) 7).met = [(5 * 256 + 255, false)] := by decide +kernel

/-- A burst of lane 7's last slot in its window, of a type and payload, with its CRC. -/
def burst (s : State) (type : Nat) (p : Bytes) : Burst :=
  let body := [BitVec.ofNat 8 type, BitVec.ofNat 8 p.length] ++ p
  { slot := 15, at_ := (slotWindow s 7 15).2, bytes := body ++ leBytes 2 (crc16 body), coded := true, queueFull := false }

/-- A running lane with a request of a type out to its last driver. -/
def asking (type : Nat) (p : Bytes) : State :=
  withLane 2 { marks := true, pos := [(15, { statusAt := some 0, request := some { txr := { type := type, dest := 15, seq := some 0, payload := p }, delivered := true } })] }

/-- Whether a burst is accepted, as a test. -/
def burstTest (s : State) (n type : Nat) (b : Burst) : Bool :=
  laneState s n != 0 && !b.queueFull && decide ((slotWindow s n b.slot).1 ≤ b.at_) && decide (b.at_ ≤ (slotWindow s n b.slot).2) && slotOwned s n b.slot && burstOk s n type b

/-- What passes the test is accepted. -/
theorem burstTaken_of {s : State} {n type : Nat} {b : Burst} (h : burstTest s n type b = true) : BurstTaken s n type b := by
  simp only [burstTest, Bool.and_eq_true, bne_iff_ne, ne_eq, Bool.not_eq_true', decide_eq_true_eq] at h
  obtain ⟨⟨⟨⟨⟨h1, h2⟩, h3⟩, h4⟩, h5⟩, h6⟩ := h
  exact ⟨h1, h2, h3, h4, h5, h6⟩

/-- Bursts: each return record at the end of its window, the replies that match and a search. -/
theorem witness_bursts :
    BurstTaken (asking 0x21 [0, 4, 1, 0]) 7 0x81 (burst (asking 0x21 [0, 4, 1, 0]) 0x81 (zeros 24)) ∧
    BurstTaken (asking 0x21 [0, 4, 1, 0]) 7 0x82 (burst (asking 0x21 [0, 4, 1, 0]) 0x82 [0, 4, 9]) ∧
    (awaited (asking 0x21 [0, 4, 1, 0]) 7 15 0x21).map (·.payload) = some [0, 4, 1, 0] ∧
    BurstTaken (asking 0x22 [0, 0, 1]) 7 0x83 (burst (asking 0x22 [0, 0, 1]) 0x83 [0, 0, 1, 0, 0xFF, 0]) ∧ (awaited (asking 0x22 [0, 0, 1]) 7 15 0x22).map (·.payload) = some [0, 0, 1] ∧
    BurstTaken (asking 0x31 [0]) 7 0x85 (burst (asking 0x31 [0]) 0x85 [0, 0, 3, 0, 0, 0, 0, 0]) ∧ (awaited (asking 0x31 [0]) 7 15 0x31).isSome = true ∧
    (let s := withLane 2 { marks := true, disc := some { slot := 15, search := some (0, 63), collided := true, stack := [(2 ^ 63, 1)] } }
     searchSlot s 7 = some 15 ∧ BurstTaken s 7 0x84 (burst s 0x84 (zeros 9 ++ 1 :: zeros 6)) ∧ (lane s 7).disc.map (·.search) = some (some (0, 63))) := by
  refine ⟨burstTaken_of ?_, burstTaken_of ?_, ?_, burstTaken_of ?_, ?_, burstTaken_of ?_, ?_, ?_, burstTaken_of ?_, ?_⟩ <;> decide +kernel

/-- Bursts that are lost, early, late, unowned or broken. -/
theorem witness_lostBursts :
    let s := asking 0x21 [0, 4, 1, 0]
    let b := burst s 0x81 (zeros 24)
    laneState s 7 ≠ 0 ∧ byteAt b.bytes 0 = 0x81 ∧ (slotWindow s 7 b.slot).2 < { b with at_ := b.at_ + 1 }.at_ ∧ slotOwned s 7 14 = false ∧ burstOk s 7 0x81 { b with coded := false } = false ∧ burstOk s 7 0x82 b = false ∧ ({ b with queueFull := true } : Burst).queueFull = true ∧ b.queueFull = false ∧
    nat (withRegs s [(kFault 7 1, 2)]) (kFault 7 1) ≠ 3 := by decide +kernel

/-- A descriptor that copies 16 bytes from SRAM to cell memory. -/
def plainCopy : Bytes := zeros 4 ++ leBytes 4 0 ++ leBytes 4 0x10140000 ++ leBytes 4 16 ++ zeros 16

/-- Channel 15 with a posted or running copy of engine 3, or of the runtime. -/
def withChan (c : Chan) : State := { awake with dma := { awake.dma with chans := [(15, c)] } }

/-- DmaChannels: a descriptor to start, one that is invalid, a running copy, a channel that stops. -/
theorem witness_dma :
    let p : Posted := { owner := 3, addr := 0, desc := plainCopy, select := false }
    let s := withChan { posted := [p] }
    let r : Running := { owner := 3, addr := 0, desc := plainCopy, select := false, n := 1, blocks := 1 }
    let w := withChan { current := some r }
    let e := withRegs (withChan {}) [(kDma 15 2, 2)]
    let z := withChan { posted := [{ p with desc := zeros 32 }] }
    let h := { awake with dma := { awake.dma with chans := [(14, { current := some r }), (15, { current := some r })] } }
    isServed awake 15 = false ∧ isServed s 15 = true ∧ (channel s 15).chain = none ∧ (channel s 15).posted = [p] ∧ precheck plainCopy 3 = none ∧
    isServed z 15 = true ∧ (channel z 15).chain = none ∧ (channel z 15).posted = [{ p with desc := zeros 32 }] ∧
    checked { owner := 3, addr := 0, desc := zeros 32, select := false, n := 1, blocks := 0 } = some (3, 0) ∧ dChain (zeros 32) = false ∧
    (∀ l x, tabFind s.dma.served l = some x → x < 16) ∧
    mayAdvance (withRegs h [(kDma 14 3, 2), (kDma 15 3, 1)]) 15 = false ∧ mayAdvance w 15 = true ∧ r.feed = none ∧ precheck r.desc r.owner = none ∧
    (channel w 15).current = some r ∧ channelState w 15 < 2 ∧ dXform r.desc = 0 ∧ dSrcMode r.desc = 0 ∧ dDstMode r.desc = 0 ∧ dChain r.desc = false ∧ dNotify r.desc = false ∧
    fieldAt r.desc 8 4 < 0x30000000 ∧ channelState e 15 = 2 ∧ (channel e 15).current = none ∧ (channel e 15).posted = [] ∧ (channel e 15).chain = none := by
  refine ⟨?_, ?_, ?_, ?_, ?_, ?_, ?_, ?_, ?_, ?_, fun l x h => by simp [withChan, awake, withRegs, State.reset, tabFind] at h, ?_⟩ <;> decide +kernel

/-- A descriptor of engine 3 that interleaves (3) or deinterleaves (4) 12 bytes of its local memory at 0 to 0x100, as 3 blocks of two u16. -/
def mixing (x : Nat) : Bytes := leBytes 4 (x + 0x3100) ++ leBytes 4 0 ++ leBytes 4 0x100 ++ leBytes 4 12 ++ zeros 16

/-- Interleaving: both transforms, of valid descriptors with linear sides. -/
theorem witness_interleaving :
    ∀ x ∈ [3, 4],
      let r : Running := { owner := 3, addr := 0, desc := mixing x, select := false, n := 1, blocks := 1 }
      let w := withChan { current := some r }
      descOk (mixing x) true = true ∧ dXform (mixing x) = x ∧ (zeros 12).length = dLen (mixing x) ∧ dLen (mixing x) / (dWays (mixing x) * dElem (mixing x)) = 2 ∧ dWays (mixing x) = 3 ∧ dElem (mixing x) = 2 ∧
      (channel w 15).current = some r ∧ mayAdvance w 15 = true ∧ r.feed = none ∧ channelState w 15 < 2 ∧ precheck r.desc r.owner = none ∧ dSrcMode r.desc = 0 ∧ dDstMode r.desc = 0 ∧ dChain r.desc = false ∧ dNotify r.desc = false ∧
      fieldAt r.desc 8 4 < 0x30000000 := by decide +kernel

/-- R278's example: INTERLEAVE of x0 x1 y0 y1 z0 z1 gives x0 y0 z0 x1 y1 z1. -/
theorem test_interleave :
    (transformed (mixing 3) [0x10, 0, 0x11, 0, 0x20, 0, 0x21, 0, 0x30, 0, 0x31, 0]).filter (fun p => p.1 % 2 == 0) =
      [(0, 0x10), (2, 0x20), (4, 0x30), (6, 0x11), (8, 0x21), (10, 0x31)] := by decide +kernel

/-- Metering: each state of the block, with a sample set before and without, the offsets at their limit and beyond it, a code at its limit, a block held off. -/
theorem witness_metering :
    let off := fun (n : Int) => withRegs { awake with meter := { awake.meter with offSum := List.replicate 11 n, offN := 1 } } [(kMeter 2, 3)]
    let run := withRegs { awake with meter := { awake.meter with resetAsked := true } } [(kMeter 2, 1)]
    meterState awake = 0 ∧ meterState (off 41943) = 3 ∧ meterState run = 1 ∧ run.meter.resetAsked = true ∧ storeDegraded run = false ∧
    (∀ c, c < 11 → (roundDiv ((off 41943).meter.offSum.getD c 0) (max 1 (off 41943).meter.offN)).natAbs ≤ 41943) ∧
    ¬(∀ c, c < 11 → (roundDiv ((off 41944).meter.offSum.getD c 0) (max 1 (off 41944).meter.offN)).natAbs ≤ 41943) ∧
    (let l := fun (x : State) => { x with meter := { x.meter with last := List.replicate 11 5 } }
     (l run).meter.last ≠ [] ∧ meterState (l run) = 1 ∧ (l (off 0)).meter.last ≠ [] ∧ meterState (l (off 0)) = 3) ∧
    heldOff awake 12 = false ∧ heldOff { awake with start := { awake.start with disabled := 2 ^ 12 } } 12 = true ∧ awake.power.vafeBad = false ∧ awake.power.warning = false ∧
    (∃ c ∈ [(8388607 : Int)], c ≤ -8388607 ∨ 8388607 ≤ c) ∧ (pulseOut run 0).high = false ∧ (pulseOut run 1).high = false ∧ meterState (withRegs awake [(kMeter 2, 2)]) = 2 := by
  decide +kernel

/-- MeterOutputs: a pulse that is due, a calibration that has ended with a result and one without. -/
theorem witness_meterOutputs :
    let s := withRegs { awake with meter := { awake.meter with out := [(1, { dues := [(0, 1000)] })] } } [(kRole, 1), (kMeter 2, 1)]
    let c : CalRun := { body := [0, 0, 0, 10] ++ zeros 8, n := 10 }
    (pulseOut s 1).dues = [(0, 1000)] ∧ (pulseOut s 1).high = false ∧ (pulseOut s 1).startAt = none ∧ roleAct s = true ∧ meterState s = 1 ∧ meterState (withRegs s [(kMeter 2, 2)]) = 2 ∧ (pulseOut s 0).high = false ∧ (pulseOut awake 0).dues = [] ∧
    byteAt c.body 3 ≤ c.n ∧ ({ c with n := 9 } : CalRun).n < byteAt c.body 3 ∧ (calResults s c).isSome = true ∧ calResults s { c with bad := true } = none ∧
    (itemOf awake hostReq (kMeter 0xC) (zeros 12)).2 = .bytes (zeros 12) := by decide +kernel

/-! ## Witnesses: time, the floor safety bus, the radio -/

/-- A module whose PTP instance 1 runs on port 1 and has a master. -/
def timed (st : Int) : State := withRegs awake [(kPtp 1 1, 1), (kPtp 1 4, 3), (kPtp 1 8, 2), (kTb 1 2, st), (kTb 1 7, 1000)]

/-- TimeBases: a Sync inside the step threshold of a base that is not yet locked, one outside it, requests and responses, a base in HOLDOVER, a field base to return. -/
theorem witness_timeBases :
    ptpOn (timed 1) 1 1 = true ∧ ptpOn awake 1 1 = false ∧ Mastered (timed 1) 1 ∧ ¬Mastered awake 1 ∧ tbState (timed 0) 1 ≠ 1 ∧ tbState (timed 0) 1 ≠ 2 ∧
    tbState (timed 2) 1 = 2 ∧ nat (timed 2) (kTb 1 7) ≠ 0 ∧ nat (timed 2) (kTb 1 7) < (syncOffset (timed 2) 1 0 0).natAbs ∧ tbState (timed 3) 1 = 3 ∧
    (let s := withRegs { awake with time := { awake.time with ptp := [(1, { sync := some (0, 0), delayReq := some (65535, 0), locked := true })] } } [(kFt 1, 0), (kFt 2, 1), (kTb 0 2, 2)]
     (ptp s 1).delayReq = some ((65535 : Half).toNat, 0) ∧ (ptp s 1).sync = some (0, 0) ∧ (ptp s 1).locked = true ∧ nat s (kFt 1) = 0 ∧ fieldBase s = 1 ∧ tbState s 0 = 2) := by
  unfold Mastered; decide +kernel

/-- Comparators: the last one armed, once and periodically. -/
theorem witness_comparators :
    toArmed awake 15 = false ∧ toArmed (withRegs awake [(kTo 15 1, 1)]) 15 = true ∧ toPeriodic (withRegs awake [(kTo 15 1, 1)]) 15 = false ∧
    toPeriodic (withRegs awake [(kTo 15 1, 2)]) 15 = true ∧ (15 : Fin 16).val % 4 ≠ 1 ∧ (13 : Fin 16).val % 4 = 1 := by decide +kernel

/-- Calendar: an armed alarm that matches the next second, an offset to come, a leap second, a clock to synchronise, both trims, a value of RTC_STEP. -/
theorem witness_calendar :
    let a : Announce := { prio1 := 0, cls := 0, accuracy := 0, variance := 0, prio2 := 0, gm := 1, utcOffset := 100, utcValid := true, leap61 := true, leap59 := false, steps := 0, sender := 1, senderPort := 1 }
    let s := withRegs { awake with time := { awake.time with ptp := [(0, { heard := [(0, a)] })] } }
      [(kAlarm 1 4, 1), (kRtc 9, 5), (kPtp 0 0xC, 37), (kRtc 5, 1), (kFt 2, 0), (kTb 0 2, 2), (kRtc 6, 1), (kRtc 4, 1)]
    s.backup.rtc.still = false ∧ nat s (kAlarm 1 4) = 1 ∧ alarmMatches s 1 (localSecond s (s.backup.rtc.second + 1)) = true ∧ nat s (kRtc 9) ≠ 0 ∧
    utcInstance s = some 0 ∧ (ptp s 0).heard = [(0, a)] ∧ a.utcOffset.toInt ≤ 100 ∧ 10 ≤ ({ a with utcOffset := 10 } : Announce).utcOffset.toInt ∧
    flag s (kRtc 5) = true ∧ fieldLocked s = true ∧ bit s (kRtc 6) 0 = true ∧ nat s (kRtc 4) = 1 ∧ nat (withRegs s [(kRtc 4, 2)]) (kRtc 4) = 2 ∧ utcInstance awake = none ∧
    (let m := withRegs s [(kRtc 4, 2), (kMeter 2, 1)]; nat m (kRtc 4) = 2 ∧ meterState m = 1 ∧ m.meter.dayBad = false) ∧ nat awake (kRtc 9) = 0 ∧
    ({ a with leap61 := false } : Announce).leap61 = false ∧ a.leap59 = false ∧ a.utcValid = true ∧ awake.start.held = false := by
  decide +kernel

/-! ## Witnesses: the floor safety bus -/

/-- A matrix whose node 0 is the module itself, flagged as a manager where `mgr` is 1, its node 1 another; rank 0 is node 0, and window entry 0 is node 0's, of a kind. -/
def aMatrix (mgr kind : Byte) : Bytes :=
  zeros 16 ++ leBytes 8 (serial awake) ++ [0, 3, mgr, 0] ++ leBytes 8 99 ++ [1, 3, 1 - mgr, 0] ++ zeros 360 ++ [0, 0xFF, 0xFF, 0xFF, 0xFF, 0xFF, 0xFF, 0xFF]
    ++ [kind, 0, 0, 0] ++ zeros 60

/-- A module on bus 0 in a state of Table 14-9, under that matrix, its controller with what `b` says beside the key. -/
def onBus (st : Nat) (mgr kind : Byte) (b : Bus) : State :=
  let s := withRegs (putBus awake 0 { b with key := some (5, 1, zeros 16) }) [(kBus 0 9, st)]
  { s with mram := { s.mram with store := { s.mram.store with domains := [(kMatrix 0, aMatrix mgr kind)] } } }

/-- BusCycle: before and after the start, a core's third heartbeat; a window that no controller runs in, may send in, an alarm at both ends of the time there is, a master's REFERENCE, a STATUS and a DICT segment. -/
theorem witness_windows :
    (let s := { awake with safety := { awake.safety with enabled := true, lost := [(0, 2)] } }
     State.reset.time.loaded = false ∧ ({ s with time := { s.time with loaded := true } } : State).time.loaded = true ∧ s.safety.enabled = true ∧ s.server.held = [] ∧
     tabFind s.safety.lost 0 = some 2) ∧
    busRuns awake 0 = false ∧ busRuns (onBus 1 0 1 {}) 0 = true ∧ maySend (onBus 1 0 1 {}) 0 = false ∧
    (let s := onBus 3 0 1 { alarms := [4] }
     maySend s 0 = true ∧ busState s 0 ≠ 5 ∧ (bus s 0).alarms = [4] ∧ (bus s 0).key = some (5, 1, zeros 16) ∧ lastStart (bus s 0).rates - 1 < lastStart (bus s 0).rates ∧
     320 < (321 - frameMax (bus s 0).rates) + frameMax (bus s 0).rates ∧ lastStart (bus s 0).rates ≤ 321 - frameMax (bus s 0).rates) ∧
    (let s := onBus 4 0 1 {}
     maySend s 0 = true ∧ busState s 0 = 4 ∧ ownRank s 0 = some 0 ∧ 0 < lastStart (bus s 0).rates) ∧
    (let s := onBus 3 0 1 {}
     ownNode s 0 = some 0 ∧ entryDue (matrix s 0) (ownCycle (windowAt s 3) % 16) (ownCycle (windowAt s 3) / 16) = true ∧ entryNode (matrix s 0) (ownCycle (windowAt s 3) % 16) = 0 ∧
     entryKind (matrix s 0) (ownCycle (windowAt s 3) % 16) = 1) ∧
    (let s := onBus 3 1 2 { segments := [(1, zeros 10)] }
     maySend s 0 = true ∧ ownNode s 0 = some 0 ∧ entryDue (matrix s 0) (ownCycle (windowAt s 3) % 16) (ownCycle (windowAt s 3) / 16) = true ∧ entryNode (matrix s 0) (ownCycle (windowAt s 3) % 16) = 0 ∧
     entryKind (matrix s 0) (ownCycle (windowAt s 3) % 16) = 2 ∧ (bus s 0).segments = [(1, zeros 10)]) := by
  refine ⟨?_, ?_, ?_, ?_, ?_, ?_, ?_, ?_⟩ <;> decide +kernel

/-- BusCycle: a controller that hears no REFERENCE and one that has, a potential master that wins or loses, references lost, error-passive, bus-off and its end. -/
theorem witness_busStates :
    (let s := onBus 1 0 1 {}
     busState s 0 = 1 ∧ (bus s 0).heard = false ∧ restrictedCase s 0 = false ∧ ownRank s 0 = some 0) ∧ (bus (onBus 1 0 1 { heard := true }) 0).heard = true ∧
    potentialMaster (onBus 1 0 1 {}) 0 = none ∧ potentialMaster (onBus 4 0 1 {}) 0 = some 0 ∧ busState (onBus 4 0 1 {}) 0 = 4 ∧ busState (onBus 3 0 1 {}) 0 = 3 ∧
    busState (onBus 2 0 1 {}) 0 = 2 ∧ busRuns awake 0 = false ∧ busRuns (onBus 3 0 1 {}) 0 = true ∧ nat (onBus 3 0 1 {}) (kFault 30 1) ≠ 3 ∧
    (128 ≤ (128 : Byte).toNat ∧ ¬(128 ≤ (127 : Byte).toNat)) ∧ nat (onBus 3 0 1 {}) (kFault 31 1) ≠ 3 ∧ busState (onBus 6 0 1 {}) 0 = 6 ∧ busState (onBus 3 0 1 {}) 0 ≠ 6 := by
  refine ⟨?_, ?_, ?_, ?_, ?_, ?_, ?_, ?_⟩ <;> decide +kernel

/-- A received frame: ten bytes of data, the low half of a cycle number and the MAC over it. -/
def received (id n : Nat) (data : Bytes) : Bytes := data ++ leBytes 2 (n % 65536) ++ canMac (zeros 16) id n data

/-- The module on bus 0 as a member, TB2 LOCKED, its safety core accepting zone 4. -/
def locked (mgr : Byte) : State :=
  let s := withRegs (onBus 3 mgr 1 {}) [(kTb 2 2, 2)]
  { s with safety := { s.safety with enabled := true, copies := [(3, zeros 7 ++ [0x10, 0] ++ zeros 20)] } }

/-- BusFrames: REFERENCEs that hold and do not, both kinds of `PREV_SOF`; alarms of another kind, accepted and not. -/
theorem witness_references :
    busRuns awake 0 = false ∧ busRuns (locked 0) 0 = true ∧ busState (locked 0) 0 ≠ 4 ∧ alarmsHeard (locked 0) = true ∧ 
    (let s := { locked 0 with start := { held := false, running := true, next := 9 } }; busRuns s 0 = true ∧ alarmsHeard s = false) ∧
    macOk (locked 0) 0 0x10 (referenceCycle (locked 0) (zeros 16)) (zeros 16) = false ∧
    (let d := received 0x10 1 (zeros 10); macOk (locked 0) 0 0x10 (referenceCycle (locked 0) d) d = true) ∧
    (let d := received 0x17 3 (List.replicate 8 0xFF ++ [0, 0]); macOk (locked 0) 0 0x17 (referenceCycle (locked 0) d) d = true) ∧
    byteAt (zeros 16) 0 ≠ 1 ∧ byteAt [1, 4] 0 = 1 ∧ byteAt [1, 4] 1 = (4 : Fin 16).val ∧ (locked 0).safety.enabled = true ∧ (coreAccept (locked 0) 0).testBit 4 = true ∧
    byteAt [1, 15] 1 = (15 : Fin 16).val ∧ (coreAccept (locked 0) 0).testBit 15 = false := by
  refine ⟨?_, ?_, ?_, ?_, ?_, ?_, ?_, ?_⟩ <;> decide +kernel

/-- BusFrames: a STATUS that is not authentic, one of node 1 with zone 4, one under the own node number with another serial; DICT frames to a node and to a manager; a reassembly. -/
theorem witness_busFrames :
    taken (locked 0) 0 0x21 (zeros 16) = false ∧
    (let d := received 0x21 0 ([0x10, 0] ++ zeros 8); taken (locked 0) 0 0x21 d = true ∧ ownNode (locked 0) 0 ≠ some (1 : Fin 32).val ∧ fieldAt d 2 2 = 0 ∧
      (fieldAt d 0 2).testBit 4 = true) ∧
    (let d := received 0x20 0 (zeros 6 ++ [5, 0, 0, 0]); taken (locked 0) 0 0x20 d = true ∧ ownNode (locked 0) 0 = some (0 : Fin 32).val ∧
      fieldAt d 6 4 ≠ serial (locked 0) % 2 ^ 32) ∧
    ownNode (locked 0) 0 = some (0 : Fin 32).val ∧ taken (locked 0) 0 0x40 (zeros 16) = false ∧ (byteAt (zeros 16) 0).testBit 6 = false ∧
    (byteAt (64 :: zeros 15) 0).testBit 6 = true ∧ taken (locked 0) 0 0x40 (64 :: zeros 15) = false ∧
    (let d := received 0x61 0 ([0x80, 0, 7, 0] ++ zeros 6); busRuns (locked 1) 0 = true ∧ isManagerOn (locked 1) 0 = true ∧ taken (locked 1) 0 0x61 d = true ∧
      byteAt d 0 = 0x80 ∧ fieldAt d 2 2 = 7 ∧ 6 < fieldAt d 2 2) ∧
    (let d := received 0x61 0 ([0x80, 0, 254, 1] ++ zeros 6); taken (locked 1) 0 0x61 d = true ∧ fieldAt d 2 2 = 510) ∧
    tabFind awake.server.reassembly (asmKey 0 1 0) = none ∧
    tabFind ({ awake with server := { awake.server with reassembly := [(asmKey 0 1 0, { nextSeg := 1, len := 7, got := [] })] } } : State).server.reassembly
      (asmKey 0 1 (0 : Byte).toNat) = some { nextSeg := 1, len := 7, got := [] } := by
  refine ⟨?_, ?_, ?_, ?_, ?_, ?_, ?_, ?_, ?_, ?_⟩ <;> decide +kernel

/-! ## Witnesses: the radio -/

/-- A module whose radio is in a state of Table 15-10, with one partner of extended address 7, MDP allowed, and the keys of both held. -/
def onAir (st : Nat) (a : Air) (flags : Byte := 4) : State :=
  let s := withRegs { keyed with air := { a with keys := [(0, 5, 0, zeros 16), (beaconId, 5, 0, zeros 16), (meshId, 5, 0, zeros 16)] } }
    [(kAir 2, st), (kAir 0xA, 5), (kAir 0xB, 1)]
  { s with mram := { s.mram with store := { s.mram.store with domains := [(kPartners, leBytes 8 7 ++ [1, flags, 5, 6] ++ zeros 20)] } } }

/-- That radio, running, with its partner 0 associated. -/
def partnered (p : Partner) (flags : Byte := 4) : State := onAir 2 { partners := [(0, { p with st := 2, slot := 4, exp := 0 })], sf := 1, order := 0 } flags

/-- RadioRuns: each state of the radio, an announced change, every kind of slot, its commands. -/
theorem witness_radioRuns :
    (radioState (onAir 3 { isOpen := true }) = 3 ∧ (onAir 3 { isOpen := true }).air.isOpen = true ∧ radioRuns (onAir 3 {}) = false) ∧
    radioState (onAir 1 {}) = 1 ∧ radioState (onAir 2 {}) = 2 ∧ (onAir 2 {}).air.announce = none ∧ radioState (onAir 3 {}) = 3 ∧ radioState (onAir 0 {}) = 0 ∧
    (let s := onAir 2 { announce := some ([11], 3, 0) }
     s.air.announce = some ([11], 3, 0) ∧ 0 ≤ superframeNo s) ∧
    eventNo (onAir 2 { order := 1, sf := 1 }) % 2 ^ 1 ≠ 0 ∧
    (let s := onAir 2 {}
     eventNo s % 2 ^ s.air.order = 0 ∧ (beaconKey s).1 = some (5, 0, zeros 16) ∧ (nextCounter (beaconKey s).2 beaconId (5, 0, zeros 16)).1 = some 0) ∧
    (onAir 2 {}).air.partners = [] ∧ flag (withRegs (onAir 2 {}) [(kAir 0xB, 0)]) (kAir 0xB) = false ∧ flag (onAir 2 {}) (kAir 0xB) = true ∧
    (onAir 2 { relay := [{ body := zeros 27, own := false, at_ := 0 }] }).air.relay ≠ [] ∧ associated (onAir 2 {}) 5 = false ∧ associated (partnered {}) 0 = true ∧
    (partner (partnered {}) 0).tries < 3 ∧ 3 ≤ (partner (partnered { tries := 3 }) 0).tries ∧ heldOff (onAir 0 {}) 10 = false ∧
    heldOff { onAir 0 {} with start := { awake.start with disabled := 2 ^ 10 } } 10 = true := by
  refine ⟨?_, ?_, ?_, ?_, ?_, ?_, ?_, ?_, ?_, ?_, ?_, ?_, ?_, ?_, ?_, ?_, ?_, ?_, ?_⟩ <;> decide +kernel

/-- The four commands of the radio. -/
theorem witness_radioCommands :
    Commanded awake hostReq (kAir 1) [1] ∧
    Commanded (asSafety (withRegs keyed [(kAddrActive, 5), (kAir 0xA, 5)])) hostReq (kAir 1) [2] ∧
    Commanded (asSafety (withRegs keyed [(kAddrActive, 5), (kAir 0xA, 5)])) hostReq (kAir 1) [3] ∧ Commanded awake hostReq (kAir 0x1B) [1] := by
  refine ⟨commanded_of ?_, commanded_of ?_, commanded_of ?_, commanded_of ?_⟩ <;> decide +kernel

/-- A frame from extended address 7 with counter 9, sealed at level 5, for a destination of this segment's PAN. -/
def frameTo (dest m : Bytes) (slot : Option (Fin 3)) (delta : Int) : AirRx :=
  let hdr := zeros 3 ++ leBytes 2 (nat keyed kAddrActive) ++ dest
  { header := hdr, counter := 9, level := 5, sealed_ := ccmSeal 4 (zeros 16) (airNonce 7 9 5) hdr m, delta := delta, rssi := 0, slot := slot, known := true, queueFull := false }

/-- One for this segment. -/
def sealedFrame (m : Bytes) (slot : Option (Fin 3)) : AirRx := frameTo [0, 0] m slot 500

/-- One for every mesh radio. -/
def meshFrame (m : Bytes) : AirRx := frameTo [0xFF, 0xFF] m none 2000

/-- AirFrames: a radio that does not run, one with a full queue, a sender that is not associated. -/
theorem witness_unheard :
    radioRuns (onAir 0 {}) = false ∧ radioRuns (onAir 2 {}) = true ∧ (sealedFrame [] none).queueFull = false ∧ associated (onAir 2 {}) 0 = false ∧
    forUs (onAir 2 {}) (sealedFrame [] none) = true ∧ hears (onAir 2 {}) 0 (sealedFrame [] none) = true ∧ forUs (onAir 2 {}) (meshFrame []) = false ∧
    hears (onAir 2 { busyTo := 999999 }) 0 (sealedFrame [] none) = false ∧ heardBeside (onAir 2 { busyTo := 999999 }) (airSlot (onAir 2 { busyTo := 999999 }) 0xFFFF (sealedFrame [] (some 2))) (sealedFrame [] (some 2)) = false ∧
    ({ sealedFrame [] none with queueFull := true } : AirRx).queueFull = true := by
  refine ⟨?_, ?_, ?_, ?_, ?_, ?_, ?_, ?_, ?_, ?_⟩ <;> decide +kernel

/-- AirFrames: a report, MDP, a keepalive, a leave, an Enh-Ack. -/
theorem witness_aired :
    AirTaken (partnered {}) 0 1 (sealedFrame (1 :: 1 :: zeros 8) none) (1 :: 1 :: zeros 8) ∧ byteAt (1 :: 1 :: zeros 8) 1 = 1 ∧ (1 :: 1 :: zeros 8).length = 10 ∧
    AirTaken (partnered {}) 0 2 (sealedFrame [2] none) [2] ∧ recFlag (partnerRec (partnered {}) 0) 2 = true ∧
    AirTaken (partnered {}) 0 5 (sealedFrame [5, 0, 0] none) [5, 0, 0] ∧ AirTaken (partnered {}) 0 6 (sealedFrame [6] none) [6] ∧
    (partner (partnered { tries := 1 }) 0).tries ≠ 0 ∧ (openPartner (partnered { tries := 1 }) 0 5 (sealedFrame [] none)).1 = some [] ∧
    (partner (partnered {}) 0).urgent ≠ some ((List.drop 1 (1 :: 1 :: zeros 8)).take 9) ∧
    (partner (partnered { urgent := some (1 :: zeros 8) }) 0).urgent = some ((List.drop 1 (1 :: 1 :: zeros 8)).take 9) := by
  unfold AirTaken
  refine ⟨?_, ?_, ?_, ?_, ?_, ?_, ?_, ?_, ?_, ?_, ?_⟩ <;> decide +kernel

/-- AirFrames: a partner that may not speak MDP. -/
theorem witness_noMdp :
    AirTaken (partnered {} 0) 0 2 (sealedFrame [2] none) [2] ∧ recFlag (partnerRec (partnered {} 0) 0) 2 = false := by
  unfold AirTaken; decide +kernel

/-- AirFrames: a join of nobody listed, and one that is given an event. -/
theorem witness_joins :
    (let s := onAir 2 {}; let rx := sealedFrame [3, 1, 6, 0, 0] (some 2)
     radioRuns s = true ∧ rx.queueFull = false ∧ forUs s rx = true ∧ heardBeside s (airSlot s 0xFFFF rx) rx = true ∧ rx.known = true ∧ rx.counter.toNat < 2 ^ 32 - 1 ∧
     (∀ j, j < (0 : Fin 1024).val → recExt (partnerRec s j) ≠ (7 : BitVec 64).toNat) ∧ byteAt [3, 1, 6, 0, 0] 0 = 3 ∧ (7 : BitVec 64) ≠ 0) ∧
    (∀ h, h < 1024 → recExt (partnerRec (onAir 2 {}) h) ≠ (8 : BitVec 64).toNat) ∧
    (let s := onAir 2 {}
     let m : Bytes := [3, 1, 6, 0, 0]
     recExt (partnerRec s 0) = (7 : BitVec 64).toNat ∧ (1 ≤ recKind (partnerRec s 0) ∧ recKind (partnerRec s 0) ≤ 4) ∧
     (openPartner s 0 5 (sealedFrame m (some 2))).1 = some m ∧ m.length = 5 ∧ byteAt m 2 = 6 ∧ s.air.order ≤ min (byteAt m 2) (byteAt (partnerRec s 0) 11) ∧
     findEvent s 0 (min (byteAt m 2) (byteAt (partnerRec s 0) 11)) = some (4, 0) ∧ (sealedFrame m (some 2)).slot = some 2) := by
  refine ⟨?_, ?_, ?_⟩ <;> decide +kernel

/-- AirFrames: a mesh beacon; FLOODs at both ends of the TTL, seen and new. -/
theorem witness_mesh :
    (let m : Bytes := 0x11 :: zeros 6
     (openMesh (onAir 2 {}) (7 : BitVec 64).toNat (meshFrame m)).1 = some m ∧ m.length = 7 ∧ (onAir 2 {}).air.neighbours.length < 32) ∧
    (let m : Bytes := 0x10 :: zeros 6 ++ 1 :: (zeros 9 ++ 1 :: zeros 10)
     (openMesh (onAir 2 {}) (7 : BitVec 64).toNat (meshFrame m)).1 = some m ∧ m.length = 28 ∧ byteAt m 7 = 1 ∧ byteAt m 17 = 1 ∧
     (∀ x ∈ (onAir 2 {}).air.seen, (onAir 2 {}).clk < x.2.2 + secs 8 → ¬(x.1 = fieldAt m 1 2 ∧ x.2.1 = fieldAt m 3 4))) ∧
    (let m : Bytes := 0x10 :: zeros 6 ++ 15 :: (zeros 9 ++ 3 :: zeros 10)
     let s := onAir 2 { seen := [(0, 0, 0)] }
     (openMesh s (7 : BitVec 64).toNat (meshFrame m)).1 = some m ∧ m.length = 28 ∧ byteAt m 7 = 15 ∧ byteAt m 17 = 3 ∧ s.air.relay.length < 16 ∧
     (∃ x ∈ s.air.seen, s.clk < x.2.2 + secs 8 ∧ x.1 = fieldAt m 1 2 ∧ x.2.1 = fieldAt m 3 4)) := by
  refine ⟨?_, ?_, ?_⟩ <;> decide +kernel

/-! ## Witnesses: the safety core, the fault sources, the pair, keys, updates, the recorder -/

/-- A module whose safety core acts, with `EMG_STATUS`. -/
def watching (status : Nat) : State :=
  withRegs { asSafety (onBus 3 1 1 {}) with safety := { awake.safety with enabled := true, opened := 2 } } [(kEmg 4, status)]

/-- EmergencyLoop: channels open and closed, in a loop test and outside it, that agree and do not; each command. -/
theorem witness_emergencyLoop :
    awake.safety.enabled = false ∧ (watching 0).safety.enabled = true ∧ bit (watching 0) (kEmg 4) (1 : Fin 2) = false ∧ bit (watching 2) (kEmg 4) (1 : Fin 2) = true ∧
    bit (watching 0) (kEmg 4) 3 = false ∧ nat (watching 0) (kEmg 5) ≠ 1 ∧ 1 ≤ busState (watching 0) 0 ∧ busState (watching 0) 0 ≤ 4 ∧ safeMode (watching 0) = false ∧
    bit (watching 8) (kEmg 4) (1 : Fin 2) = false ∧ bit (watching 8) (kEmg 4) 3 = true ∧ bit (watching 8) (kEmg 4) (1 - (1 : Fin 2).val) = false ∧
    bit (watching 10) (kEmg 4) (1 : Fin 2) = true ∧ (watching 10).safety.opened.testBit (1 : Fin 2) = true ∧
    bit (watching 1) (kEmg 4) 0 ≠ bit (watching 1) (kEmg 4) 1 ∧ bit (watching 1) (kEmg 4) 2 = false ∧ loopOpen (watching 10) = true ∧ loopOpen (watching 8) = false ∧
    isManager (watching 0) = true := by
  refine ⟨?_, ?_, ?_, ?_, ?_, ?_, ?_, ?_, ?_, ?_, ?_, ?_, ?_, ?_, ?_, ?_, ?_, ?_, ?_⟩ <;> decide +kernel

/-- EmergencyLoop: a manager's CANCEL of zones 0 and 15, the last of them standing. -/
theorem witness_cancel :
    Commanded (withRegs (watching 0) [(kEmg 5, 1), (kEmg 6, 0x8001)]) hostReq (kEmg 7) [1, 0x80] ∧ nat (withRegs (watching 0) [(kEmg 5, 1), (kEmg 6, 0x8001)]) (kEmg 5) = 1 := by
  refine ⟨commanded_of ?_, ?_⟩ <;> decide +kernel

/-- A test that runs. -/
def aTest (kind : Nat) : SafetyTest := { kind := kind, at_ := 0, startClk := 0 }

/-- A group being cleared whose member is held by driver 1 of lane 7. -/
def clearing (here trip : Nat) : State :=
  let s := withRegs { awake with safety := { awake.safety with clearing := [(63, [113])] } } [(kLane 7 9, here), (kSafety 2, 2 ^ 63)]
  putLane s 7 { lane s 7 with pos := [(1, { trip := trip })] }

/-- SafetyTests: a group cleared and not, a core's heartbeat, a test that is due, one that waits, each kind at its end. -/
theorem witness_safetyTests :
    tabFind awake.safety.clearing (63 : Fin 64) = none ∧ tabFind (clearing 2 0).safety.clearing (63 : Fin 64) = some [113] ∧
    (∀ d ∈ [113], present (clearing 2 0) (d / 16) (d % 16) = true ∧ (pos (clearing 2 0) (d / 16) (d % 16)).trip.testBit (63 : Fin 64) = false) ∧
    (∃ d ∈ [113], present (clearing 0 0) (d / 16) (d % 16) = false ∨ (pos (clearing 0 0) (d / 16) (d % 16)).trip.testBit (63 : Fin 64) = true) ∧
    (∃ d ∈ [113], present (clearing 2 (2 ^ 63)) (d / 16) (d % 16) = false ∨ (pos (clearing 2 (2 ^ 63)) (d / 16) (d % 16)).trip.testBit (63 : Fin 64) = true) ∧
    tabFind awake.safety.holds (16383 : Fin 16384) = none ∧ tabFind ({ awake with safety := { awake.safety with lost := [(1, 3)] } } : State).safety.lost (1 : Fin 2) = some 3 ∧
    tabFind awake.safety.lost (1 : Fin 2) ≠ some 3 ∧ awake.safety.deferred = none ∧ testDue (withRegs awake [(kSafety 4, 0), (kSafety 6, 0)]) 1 = false ∧
    testDue (withRegs awake [(kSafety 4, 0), (kSafety 6, 0)]) 2 = false ∧ awake.safety.test = none ∧ testDue (withRegs awake [(kSafety 4, 1), (kSafety 6, 0)]) 1 = true ∧
    testDue (withRegs awake [(kSafety 6, 1), (kSafety 0xF, 7), (kGpio 7 1, 6)]) 2 = true ∧ testDeferred awake = false ∧ testDeferred (withRegs awake [(kEmg 5, 1)]) = true ∧
    ({ awake with safety := { awake.safety with test := some (aTest 1) } } : State).safety.test = some (aTest 1) ∧
    ({ awake with safety := { awake.safety with test := some (aTest 2) } } : State).safety.test = some (aTest 2) := by
  refine ⟨?_, ?_, ?_, ?_, ?_, ?_, ?_, ?_, ?_, ?_, ?_, ?_, ?_, ?_, ?_, ?_, ?_, ?_⟩ <;> decide +kernel

/-- FaultSources: conditions over and not, sources NORMAL, ACTIVE, RECOVERING and LATCHED, seven recoveries, escalations that raise, post and reset. -/
theorem witness_faultSources :
    conditionOver (withRegs awake [(kSafety 2, 1)]) (9 : Fin 64) = false ∧ conditionOver awake (9 : Fin 64) = true ∧
    (let s := withRegs (putFault awake 63 { faultSrc awake 63 with standing := true }) [(kFault 63 7, 1)]
     (faultSrc s 63).standing = true ∧ nat s (kFault (63 : Fin 64) 7) = 1) ∧
    nat (withRegs awake [(kFault 63 7, 2)]) (kFault (63 : Fin 64) 7) = 2 ∧ (recoveries awake (63 : Fin 64)).length < 7 ∧
    7 ≤ (recoveries { awake with mram := { awake.mram with faults := [(63, { history := List.replicate 7 0 })] } } (63 : Fin 64)).length ∧
    nat awake (kFault (63 : Fin 64) 7) ≠ 2 ∧ ¬(nat awake (kFault (63 : Fin 64) 7) = 0 ∧ (faultKept awake (63 : Fin 64)).reset = true) ∧
    (faultSrc awake (63 : Fin 64)).timer = false ∧
    (let s := withRegs (putFault awake 63 { faultSrc awake 63 with timer := true }) [(kFault 63 2, 4)]
     (faultSrc s (63 : Fin 64)).timer = true ∧ nat s (kFault (63 : Fin 64) 2) = 4 ∧ s.start.ordered = none) := by
  refine ⟨?_, ?_, ?_, ?_, ?_, ?_, ?_, ?_, ?_, ?_, ?_, ?_⟩ <;> decide +kernel

/-- FaultSources: FAULT_CLEAR of a LATCHED source. -/
theorem witness_faultClear :
    Commanded (withRegs (asSafety awake) [(kFault 63 7, 3)]) hostReq (kFault (63 : Fin 64) 0xC) [1] ∧ nat (withRegs (asSafety awake) [(kFault 63 7, 3)]) (kFault (63 : Fin 64) 7) = 3 := by
  refine ⟨commanded_of ?_, ?_⟩ <;> decide +kernel

/-- A peer. -/
def aPeer : Peer := { role := 1, beat := 1, format := 0, serial := 9, field := 0, alarm := 0, emg := 0 }

/-- A standby with what its pair keeps. -/
def standby (p : Pair) : State := withRegs { awake with pair := p } [(kRole, 2)]

/-- RedundantPair: roles and grants, a link that is up, a swap overdue, the frames of a copy in order and out of it, records for a mirrored lane. -/
theorem witness_redundantPair :
    nat (standby {}) kRole = 2 ∧ safeMode (standby {}) = false ∧ (standby { peer := some aPeer }).pair.peer.isSome = true ∧ (standby {}).pair.peer = none ∧
    stitch awake = 0 ∧
    (let s := withRegs { awake with pair := { peer := some aPeer } } [(0x740003, 3), (kRed 0xC, 3)]
     stitch s ≠ 0 ∧ s.pair.peer ≠ none ∧ nat s (kRed 0xC) ≠ 0) ∧
    nat awake kRole ≠ 2 ∧ Arrival.whole ≠ .lost ∧ nat (withRegs awake [(kRed 0xC, 0)]) (kRed 0xC) = 0 ∧
    nat (withRegs awake [(kRole, 1)]) kRole = 1 ∧ (withRegs awake [(kRole, 1)]).pair.grant = false ∧ nat (withRegs awake [(kRole, 0)]) kRole = 0 ∧
    (standby { cycle := some (5 : Word).toNat, bytes := (7 : Word).toNat }).pair.cycle = some (5 : Word).toNat ∧
    (standby { cycle := some (5 : Word).toNat, bytes := (7 : Word).toNat }).pair.bytes = (7 : Word).toNat ∧
    (standby { cycle := some 4 }).pair.cycle ≠ some (5 : Word).toNat ∧ mirrorOnly awake (7 : Fin 8) = false ∧ (zeros 13).length < 14 ∧
    (let s := standby { ready := [(5, [.safety 3 1 0 0 0 0])] }
     s.pair.ready = [(5, [.safety 3 1 0 0 0 0])] ∧ mayApply s = true ∧ s.safety.own = false ∧ stitch s ≠ 2 ∧ stitch (withRegs s [(0x740003, 2)]) = 2) ∧
    (let s := putLane (standby {}) 7 { lane awake 7 with dual := true }
     mirrorOnly s (7 : Fin 8) = true ∧ 14 ≤ (zeros 14).length ∧ byteAt (zeros 14) 4 ≠ 0x13 ∧ byteAt (zeros 14) 4 ≠ 0x10 ∧ byteAt (zeros 4 ++ 0x13 :: zeros 9) 4 = 0x13 ∧
     (let r := zeros 4 ++ [0x10, 0, 0, 0, 6, 0, 2, 1] ++ zeros 8; 14 ≤ r.length ∧ byteAt r 4 = 0x10 ∧ byteAt (slice r 10 (fieldAt r 8 2)) 1 = 1)) ∧
    (standby {}).pair.ready = [] := by
  refine ⟨?_, ?_, ?_, ?_, ?_, ?_, ?_, ?_, ?_, ?_, ?_, ?_, ?_, ?_, ?_, ?_, ?_, ?_, ?_, ?_⟩ <;> decide +kernel

/-- Keys: a nonce given out with a shell that may answer it, a shell that is not valid. -/
theorem witness_debug :
    (let s := { keyed with update := { keyed.update with dbgNonce := some (zeros 16) } }
     s.update.dbgNonce = some (zeros 16) ∧ DebugShell s (2 : Byte).toNat) ∧ awake.update.dbgNonce = none ∧
    (let s := withShells (withRegs awake [(0x240003, 9)]) [(9, { type := 5, parent := 8 })]
     9 ∈ watchedShells s ∧ 8 ∉ watchedShells s ∧ (shell s 9).type ≠ 0 ∧ isValid s 9 = false) ∧ isValid keyed 5 = true := by
  unfold DebugShell; decide +kernel

/-- A body that imports a SECRET under the factory chain. -/
def importBody : Bytes := [9, 4] ++ [0xFF, 0xFF] ++ zeros 200

/-- A body that derives shell 9 from shell 2. -/
def deriveBody : Bytes := [9, 5, 2, 0, 1, 0, 1, 0] ++ zeros 20

/-- Keys: the requests of the key area and what the dictionary makes of their values. -/
theorem witness_keyCommands :
    Commanded (asSafety keyed) hostReq (kKeys 5) deriveBody ∧ (itemOf (asSafety keyed) hostReq (kKeys 5) deriveBody).2 = .bytes deriveBody ∧ byteAt deriveBody 1 = 5 ∧
    Commanded (withShells (asSafety awake) []) hostReq (kKeys 4) importBody ∧ (itemOf (withShells (asSafety awake) []) hostReq (kKeys 4) importBody).2 = .bytes importBody ∧
    (importKey (withShells (asSafety awake) []) importBody).isSome = true ∧
    Commanded keyed hostReq (kAttest 1) (4 :: zeros 16) ∧ (itemOf keyed hostReq (kAttest 1) (4 :: zeros 16)).2 = .bytes (4 :: zeros 16) ∧
    Commanded (asSafety keyed) hostReq (0xA1000D + 256 * (5 : Byte).toNat) [1] := by
  refine ⟨commanded_of ?_, ?_, ?_, commanded_of ?_, ?_, ?_, commanded_of ?_, ?_, commanded_of ?_⟩ <;> decide +kernel

/-- A wave in a state of Table 18-17. -/
def waving (st : Nat) (ph : WavePhase) : State := withRegs { awake with update := { awake.update with wavePhase := ph } } [(kWave 2, st)]

/-- UpdatesAndWaves: trials, INSTALLs, waves that settle, wait, are held and run. -/
theorem witness_updates :
    (let s := withRegs awake [(kUpdate 0xE, 1), (kUpdate 0xB, 2), (kRole, 0)]
     flag s (kUpdate 0xE) = true ∧ confirmOk s = true ∧ nat s (kUpdate 0xB) = 2 ∧ s.start.ordered = none) ∧
    flag (withRegs awake [(kUpdate 0xE, 0)]) (kUpdate 0xE) = false ∧ nat awake (kUpdate 0xB) ≠ 2 ∧ nat (waving 1 .settle) (kWave 2) = 1 ∧
    (waving 1 .settle).update.wavePhase = .settle ∧ nat awake (kWave 2) ≠ 1 ∧ nat (withRegs (waving 3 .idle) [(kWave 4, 3)]) (kWave 2) = 3 ∧
    nat (withRegs (waving 3 .idle) [(kWave 4, 3)]) (kWave 4) = 3 ∧ (1 ≤ nat (waving 3 .idle) (kWave 2) ∧ nat (waving 3 .idle) (kWave 2) ≤ 3) ∧
    Commanded (waving 1 .settle) hostReq (kWave 1) [2] ∧ Commanded (withRegs (waving 3 .idle) [(kWave 4, 3)]) hostReq (kWave 1) [3] ∧
    Commanded (waving 3 .idle) hostReq (kWave 1) [4] ∧ Commanded (waving 1 .settle) hostReq (kWave 1) [4] ∧ staged.start.ordered = none := by
  refine ⟨?_, ?_, ?_, ?_, ?_, ?_, ?_, ?_, ?_, commanded_of ?_, commanded_of ?_, commanded_of ?_, commanded_of ?_, ?_⟩ <;> decide +kernel

/-- RecordsWritten: a recorder that runs, one that holds, a header being rebuilt, a period to close. -/
theorem witness_records :
    (let s := withRegs awake [(kRec 3, 1)]
     nat s kModuleState = 1 ∧ recState s ≠ 0 ∧ recState s ≠ 2 ∧ s.power.warning = false) ∧
    (withRegs awake [(kRec 3, 1)]).server.waiting = [] ∧ mayApply (withRegs awake [(kRec 3, 1)]) = true ∧ mayApply (withRegs awake [(kRec 3, 1), (kEngine 3 2, 2)]) = false ∧
    recState (withRegs awake [(kRec 3, 0)]) = 0 ∧ recState (withRegs awake [(kRec 3, 2)]) = 2 ∧
    (let s := withRegs { awake with recorder := { awake.recorder with start := 1 } } [(kRec 3, 1)]
     Commanded s hostReq (kRec 2) [1] ∧ nat s kModuleState = 1 ∧ recState s ≠ 0 ∧ now64 s ≠ s.recorder.start) := by
  refine ⟨?_, ?_, ?_, ?_, ?_, ?_, commanded_of ?_, ?_⟩ <;> decide +kernel

end Sys2Proof.Tests
end

/-!
Every step keeps memory in its canonical form (O14). Two functions alone write memory: `store`, which keeps the form (`wf_memStore`), and the reset, which leaves
nothing listed. So the proof goes over the operations that stand between them and `step`, in the order of the model's definitions. An operation that
writes no memory has a frame lemma, `(f s).mem = s.mem`, tagged for `simp`; one that may write has a lemma `wf_f` (the form is kept); a command has a lemma
`nextOk_execF` (whatever state it answers has the form). Each rests on the lemmas about what its definition calls.
-/

namespace Sys2Proof.Machine

/-! ### Choices, folds and outcomes -/

/-- The memory, the state of a pair and the form of a choice are read off its branches. -/
@[simp] theorem mem_ite (c : Prop) [Decidable c] (a b : State) : (if c then a else b).mem = if c then a.mem else b.mem :=
  apply_ite State.mem c a b

@[simp] theorem snd_ite {α β : Type} (c : Prop) [Decidable c] (a b : α × β) : (if c then a else b).2 = if c then a.2 else b.2 :=
  apply_ite Prod.snd c a b

@[simp] theorem wf_nil : Memory.wf [] = true := rfl

@[simp] theorem wf_ite (c : Prop) [Decidable c] (m m' : List Host.Cell) :
    Memory.wf (if c then m else m') = if c then Memory.wf m else Memory.wf m' :=
  apply_ite Memory.wf c m m'

/-- A fold of operations that each leave memory alone leaves it alone. -/
@[simp] theorem foldl_mem {β : Type} {g : State → β → State} (h : ∀ t x, (g t x).mem = t.mem) (l : List β) (s : State) :
    (l.foldl g s).mem = s.mem :=
  foldl_keeps (fun t => t.mem) h l s

/-- The same of a fold that carries something beside the state. -/
theorem foldl_fst_mem {β γ : Type} {g : State × γ → β → State × γ} (h : ∀ x b, (g x b).1.mem = x.1.mem) (l : List β) (x : State × γ) :
    (l.foldl g x).1.mem = x.1.mem := by
  induction l generalizing x with
  | nil => rfl
  | cons b l ih => rw [List.foldl_cons, ih, h]

theorem iter_mem {f : State → State} (h : ∀ t, (f t).mem = t.mem) (n : Nat) (s : State) : (iter f n s).mem = s.mem := by
  induction n generalizing s with
  | zero => rfl
  | succ n ih => rw [iter, ih, h]

/-- A fold of operations that each keep the form keeps it. -/
theorem wf_foldl {β : Type} {g : State → β → State} (hg : ∀ t x, Memory.wf t.mem = true → Memory.wf (g t x).mem = true) (l : List β)
    {s : State} (h : Memory.wf s.mem = true) : Memory.wf (l.foldl g s).mem = true := by
  induction l generalizing s with
  | nil => exact h
  | cons x l ih => exact ih (hg s x h)

/-- Whatever next state a command answers, its memory is in canonical form. -/
def NextOk (o : Host.Outcome State Fault Refusal) : Prop := ∀ t, o = .next t → MemoryOk t

@[simp] theorem nextOk_next (t : State) : NextOk (.next t) ↔ Memory.wf t.mem = true := by
  simp [NextOk, MemoryOk]

@[simp] theorem nextOk_refused (r : Refusal) : NextOk (.refused r) := by
  simp [NextOk]

/-! ### Registers and MRAM writes -/

@[simp] theorem bumpBy_mem (s : State) (k n) : (bumpBy s k n).mem = s.mem := by simp [bumpBy]
@[simp] theorem takeFresh_mem (s : State) : (takeFresh s).2.mem = s.mem := by simp [takeFresh]
@[simp] theorem keepNum_mem (s : State) (k n) : (keepNum s k n).mem = s.mem := by simp [keepNum]
@[simp] theorem setQuire_mem (s : State) (st) : (setQuire s st).mem = s.mem := by simp [setQuire]

/-! ### The stores -/

@[simp] theorem wf_store (s : State) (a b) (h : Memory.wf s.mem = true) : Memory.wf (store s a b).mem = true :=
  wf_memStore _ _ _ h

@[simp] theorem wf_wr (s : State) (a n x) (h : Memory.wf s.mem = true) : Memory.wf (wr s a n x).mem = true :=
  wf_store s a _ h

/-! ### Time bases, the generator and the calendar -/

@[simp] theorem elapse_mem (s : State) (n) : (elapse s n).mem = s.mem := by simp [elapse]
@[simp] theorem capture_mem (s : State) (src keep) : (capture s src keep).mem = s.mem := by simp [capture]
theorem nextOk_execPpsInCapture (s : State) (h : Memory.wf s.mem = true) : NextOk (execPpsInCapture s) := by simp [execPpsInCapture, h]
@[simp] theorem showField_mem (s : State) : (showField s).mem = s.mem := by simp [showField]
@[simp] theorem startGenerator_mem (s : State) : (startGenerator s).mem = s.mem := by simp [startGenerator]
@[simp] theorem generatorTick_mem (s : State) : (generatorTick s).1.mem = s.mem := by simp [generatorTick]
@[simp] theorem showPps_mem (s : State) : (showPps s).mem = s.mem := by simp [showPps]
@[simp] theorem fireComparator_mem (s : State) (c status target) : (fireComparator s c status target).mem = s.mem := by simp [fireComparator]
@[simp] theorem stepComparator_mem (s : State) (old now c) : (stepComparator s old now c).mem = s.mem := by simp [stepComparator]
@[simp] theorem noteFieldStep_mem (s : State) : (noteFieldStep s).mem = s.mem := by simp [noteFieldStep]
@[simp] theorem moveGenerator_mem (s : State) (d) : (moveGenerator s d).mem = s.mem := by simp [moveGenerator]
@[simp] theorem stepBase_mem (s : State) (n tn) : (stepBase s n tn).mem = s.mem := by simp [stepBase]
@[simp] theorem setFieldBase_mem (s : State) (n) : (setFieldBase s n).mem = s.mem := by simp [setFieldBase]
@[simp] theorem chooseBase_mem (s : State) : (chooseBase s).mem = s.mem := by simp [chooseBase]
theorem nextOk_execFieldBaseReturn (s : State) (h : Memory.wf s.mem = true) : NextOk (execFieldBaseReturn s) := by simp [execFieldBaseReturn, h]
@[simp] theorem setTbState_mem (s : State) (n st) : (setTbState s n st).mem = s.mem := by simp [setTbState]
@[simp] theorem servoState_mem (s : State) (n theta) : (servoState s n theta).mem = s.mem := by simp [servoState]
@[simp] theorem servoUpdateAt_mem (s : State) (n theta now) : (servoUpdateAt s n theta now).mem = s.mem := by simp [servoUpdateAt]
@[simp] theorem servoUpdate_mem (s : State) (n theta) : (servoUpdate s n theta).mem = s.mem := by simp [servoUpdate]
@[simp] theorem inputLost_mem (s : State) (n) : (inputLost s n).mem = s.mem := by simp [inputLost]
theorem nextOk_execHoldoverExpiry (n) (s : State) (h : Memory.wf s.mem = true) : NextOk (execHoldoverExpiry n s) := by simp [execHoldoverExpiry, h]

@[simp] theorem showMaster_mem (s : State) (i) : (showMaster s i).mem = s.mem := by
  unfold showMaster
  split <;> simp

theorem nextOk_execPtpAnnounce (i port a) (s : State) (h : Memory.wf s.mem = true) : NextOk (execPtpAnnounce i port a s) := by
  simp [execPtpAnnounce, h]

theorem nextOk_execPtpSync (i t1 corr) (s : State) (h : Memory.wf s.mem = true) : NextOk (execPtpSync i t1 corr s) := by simp [execPtpSync, h]
theorem nextOk_execDelayReqSend (i) (s : State) (h : Memory.wf s.mem = true) : NextOk (execDelayReqSend i s) := by simp [execDelayReqSend, h]

theorem nextOk_execDelayResp (i seq t4 corr) (s : State) (h : Memory.wf s.mem = true) : NextOk (execDelayResp i seq t4 corr s) := by
  unfold execDelayResp
  rw [nextOk_next]
  split <;> simp [h]

@[simp] theorem ptpLost_mem (s : State) (i fault) : (ptpLost s i fault).mem = s.mem := by simp [ptpLost]
theorem nextOk_execPtpInputLost (i) (s : State) (h : Memory.wf s.mem = true) : NextOk (execPtpInputLost i s) := by simp [execPtpInputLost, h]

@[simp] theorem restartPtp_mem (s : State) (i) : (restartPtp s i).mem = s.mem := by
  unfold restartPtp
  dsimp only
  split <;> simp

@[simp] theorem armComparator_mem (s : State) (c) : (armComparator s c).mem = s.mem := by simp [armComparator]
theorem nextOk_execComparatorFire (c) (s : State) (h : Memory.wf s.mem = true) : NextOk (execComparatorFire c s) := by simp [execComparatorFire, h]
@[simp] theorem tbSet_mem (s : State) (n v) : (tbSet s n v).mem = s.mem := by simp [tbSet]
@[simp] theorem fireAlarm_mem (s : State) (a skipped) : (fireAlarm s a skipped).mem = s.mem := by simp [fireAlarm]
@[simp] theorem evalAlarms_mem (s : State) (sec) : (evalAlarms s sec).mem = s.mem := by simp [evalAlarms]
@[simp] theorem adjustAlarms_mem (s : State) (s0 s1) : (adjustAlarms s s0 s1).mem = s.mem := by simp [adjustAlarms]
@[simp] theorem adjustRtc_mem (s : State) (ticks) : (adjustRtc s ticks).mem = s.mem := by simp [adjustRtc]
@[simp] theorem setRtc_mem (s : State) (ticks) : (setRtc s ticks).mem = s.mem := by simp [setRtc]
@[simp] theorem stepRtc_mem (s : State) (d) : (stepRtc s d).mem = s.mem := by simp [stepRtc]
theorem nextOk_execRtcSecond (s : State) (h : Memory.wf s.mem = true) : NextOk (execRtcSecond s) := by simp [execRtcSecond, h]
@[simp] theorem setOffset_mem (s : State) (old new) : (setOffset s old new).mem = s.mem := by simp [setOffset]
theorem nextOk_execOffsetChange (s : State) (h : Memory.wf s.mem = true) : NextOk (execOffsetChange s) := by simp [execOffsetChange, h]

theorem nextOk_execLeapSecond (s : State) (h : Memory.wf s.mem = true) : NextOk (execLeapSecond s) := by
  unfold execLeapSecond
  dsimp only
  rw [nextOk_next]
  repeat' split
  all_goals simp [h]

theorem nextOk_execCalendarSync (s : State) (h : Memory.wf s.mem = true) : NextOk (execCalendarSync s) := by simp [execCalendarSync, h]

theorem nextOk_execTrimMeasurement (r) (s : State) (h : Memory.wf s.mem = true) : NextOk (execTrimMeasurement r s) := by
  unfold execTrimMeasurement
  rw [nextOk_next]
  split <;> simp [h]

theorem nextOk_execOscillatorStopped (s : State) (h : Memory.wf s.mem = true) : NextOk (execOscillatorStopped s) := by simp [execOscillatorStopped, h]
@[simp] theorem loadBases_mem (s : State) : (loadBases s).mem = s.mem := by simp [loadBases]
@[simp] theorem afterTime_mem (s : State) (idx sub old) : (afterTime s idx sub old).mem = s.mem := by simp [afterTime]
@[simp] theorem commandTime_mem (s : State) (idx sub v) : (commandTime s idx sub v).mem = s.mem := by simp [commandTime]

/-! ### Event queues of the engines -/

@[simp] theorem postRecord_mem (s : State) (k ev) : (postRecord s k ev).mem = s.mem := by simp [postRecord]
@[simp] theorem postEvent_mem (s : State) (k kind source data) : (postEvent s k kind source data).mem = s.mem := by simp [postEvent]

/-! ### Zones, layers, schedules and areas -/

@[simp] theorem wf_putLayer (s : State) (z layer t) (h : Memory.wf s.mem = true) : Memory.wf (putLayer s z layer t).mem = true := by
  simp [putLayer, wf_memStore, h]

@[simp] theorem wf_setLayerAt (s : State) (stamp z layer t) (h : Memory.wf s.mem = true) : Memory.wf (setLayerAt s stamp z layer t).mem = true := by
  simp [setLayerAt, h]

@[simp] theorem wf_setLayer (s : State) (z layer t) (h : Memory.wf s.mem = true) : Memory.wf (setLayer s z layer t).mem = true := by
  simp [setLayer, h]

@[simp] theorem wf_unsetLayer (s : State) (z layer) (h : Memory.wf s.mem = true) : Memory.wf (unsetLayer s z layer).mem = true := by
  simp [unsetLayer, h]

@[simp] theorem wf_setSkips (s : State) (n) (h : Memory.wf s.mem = true) : Memory.wf (setSkips s n).mem = true := by simp [setSkips, h]

@[simp] theorem wf_commandZoneAt (s : State) (stamp layer t z) (h : Memory.wf s.mem = true) : Memory.wf (commandZoneAt s stamp layer t z).mem = true := by
  simp [commandZoneAt, h]

@[simp] theorem wf_commandZone (s : State) (layer t z) (h : Memory.wf s.mem = true) : Memory.wf (commandZone s layer t z).mem = true := by
  simp [commandZone, h]

@[simp] theorem wf_recallScene (s : State) (g scene layer fade) (h : Memory.wf s.mem = true) : Memory.wf (recallScene s g scene layer fade).mem = true := by
  unfold recallScene
  refine wf_foldl (fun t z ht => ?_) _ h
  split <;> simp [ht]

@[simp] theorem wf_groupTarget (s : State) (g layer t) (h : Memory.wf s.mem = true) : Memory.wf (groupTarget s g layer t).mem = true := by
  unfold groupTarget
  exact wf_foldl (fun t x ht => by simp [ht]) _ h

@[simp] theorem wf_groupRelease (s : State) (g layer) (h : Memory.wf s.mem = true) : Memory.wf (groupRelease s g layer).mem = true := by
  unfold groupRelease
  exact wf_foldl (fun t x ht => by simp [ht]) _ h

@[simp] theorem postSchedule_mem (s : State) (g scene start) : (postSchedule s g scene start).mem = s.mem := by simp [postSchedule]

@[simp] theorem wf_scheduleRecall (s : State) (h : Memory.wf s.mem = true) : Memory.wf (scheduleRecall s).mem = true := by
  unfold scheduleRecall
  exact wf_foldl (fun t x ht => by simp [ht]) _ h

@[simp] theorem wf_overrideRelease (s : State) (h : Memory.wf s.mem = true) : Memory.wf (overrideRelease s).mem = true := by
  unfold overrideRelease
  exact wf_foldl (fun t x ht => by simp [ht]) _ h

@[simp] theorem areaPresent_mem (s : State) (a) : (areaPresent s a).mem = s.mem := by simp [areaPresent]

@[simp] theorem sensorEvent_mem (s : State) (e) : (sensorEvent s e).mem = s.mem := by
  unfold sensorEvent
  dsimp only
  split_ifs
  · exact foldl_mem areaPresent_mem _ _
  · rfl
  · exact foldl_mem (fun t a => by simp) _ _
  all_goals rfl

@[simp] theorem wf_sensorTick (s : State) (events) (h : Memory.wf s.mem = true) : Memory.wf (sensorTick s events).mem = true := by
  simp [sensorTick, wf_memStore, h]

theorem nextOk_execAreaVacant (a) (s : State) (h : Memory.wf s.mem = true) : NextOk (execAreaVacant a s) := by simp [execAreaVacant, h]
theorem nextOk_execLeadHoldEnd (a) (s : State) (h : Memory.wf s.mem = true) : NextOk (execLeadHoldEnd a s) := by simp [execLeadHoldEnd, h]

/-! ### The library's tick program -/

@[simp] theorem wf_burnCell (s : State) (lt c code) (h : Memory.wf s.mem = true) : Memory.wf (burnCell s lt c code).mem = true := by
  unfold burnCell
  split <;> simp [h]

/-- A zone writes its state record, then a code and a burn accumulator for each of its cells. -/
@[simp] theorem wf_zoneTick (s : State) (lt back z) (h : Memory.wf s.mem = true) : Memory.wf (zoneTick s lt back z).mem = true := by
  unfold zoneTick
  exact wf_foldl (fun t cc ht => wf_burnCell _ lt _ _ (wf_wr t _ _ _ ht)) _ (wf_store _ _ _ h)

@[simp] theorem wf_luminaireTick (s : State) (back l n) (h : Memory.wf s.mem = true) : Memory.wf (luminaireTick s back l n).mem = true := by
  unfold luminaireTick
  exact wf_foldl (fun t x ht => by simp [ht]) _ h

@[simp] theorem wf_depCell (s : State) (c) (h : Memory.wf s.mem = true) : Memory.wf (depCell s c).mem = true := by simp [depCell, h]

@[simp] theorem wf_recomputeDep (s : State) (h : Memory.wf s.mem = true) : Memory.wf (recomputeDep s).mem = true := by
  unfold recomputeDep
  exact wf_foldl (fun t x ht => by simp [ht]) _ h

@[simp] theorem wf_depFill (s : State) (h : Memory.wf s.mem = true) : Memory.wf (depFill s).mem = true := by
  unfold depFill
  exact wf_foldl (fun t x ht => by simp [ht]) _ h

/-! ### The engines' control -/

@[simp] theorem setEngineState_mem (s : State) (k st) : (setEngineState s k st).mem = s.mem := by simp [setEngineState]
@[simp] theorem noteEnginePending_mem (s : State) : (noteEnginePending s).mem = s.mem := by simp [noteEnginePending]
@[simp] theorem beginLoad_mem (s : State) (k) : (beginLoad s k).mem = s.mem := by simp [beginLoad]

@[simp] theorem wf_loadEngine (s : State) (k) (h : Memory.wf s.mem = true) : Memory.wf (loadEngine s k).mem = true := by
  unfold loadEngine
  dsimp only
  rw [setNum_mem]
  exact wf_store _ _ _ h

theorem nextOk_execEngineLoaded (k) (s : State) (h : Memory.wf s.mem = true) : NextOk (execEngineLoaded k s) := by simp [execEngineLoaded, h]
@[simp] theorem stopEngine_mem (s : State) (k) : (stopEngine s k).mem = s.mem := by simp [stopEngine]
@[simp] theorem startEngine_mem (s : State) (k) : (startEngine s k).mem = s.mem := by simp [startEngine]
@[simp] theorem restartEngine_mem (s : State) (k) : (restartEngine s k).mem = s.mem := by simp [restartEngine]

theorem nextOk_execEngineStopComplete (k) (s : State) (h : Memory.wf s.mem = true) : NextOk (execEngineStopComplete k s) := by
  simp [execEngineStopComplete, h]

@[simp] theorem openWindow_mem (s : State) : (openWindow s).mem = s.mem := by simp [openWindow]

/-- What the module does itself in an input window keeps the form if the deed does. -/
theorem wf_inWindow (s : State) (t) (now : State → State) (h : Memory.wf s.mem = true) (hn : Memory.wf (now s).mem = true) :
    Memory.wf (inWindow s t now).mem = true := by
  simp [inWindow, h, hn]

@[simp] theorem leaveTick_mem (s : State) (k e) : (leaveTick s k e).mem = s.mem := by simp [leaveTick]
@[simp] theorem engineException_mem (s : State) (k code) : (engineException s k code).mem = s.mem := by simp [engineException]
theorem nextOk_execEngineOverrun (k) (s : State) (h : Memory.wf s.mem = true) : NextOk (execEngineOverrun k s) := by simp [execEngineOverrun, h]
@[simp] theorem clearEngineStats_mem (s : State) (k) : (clearEngineStats s k).mem = s.mem := by simp [clearEngineStats]
@[simp] theorem repartition_mem (s : State) : (repartition s).mem = s.mem := by simp [repartition]

@[simp] theorem wf_moveLuminaire (s : State) (l old new) (h : Memory.wf s.mem = true) : Memory.wf (moveLuminaire s l old new).mem = true := by
  unfold moveLuminaire
  dsimp only
  split_ifs
  · exact h
  · exact wf_foldl (fun t c ht => wf_wr t _ _ _ ht) _ h

@[simp] theorem wf_applyPartition (s : State) (h : Memory.wf s.mem = true) : Memory.wf (applyPartition s).mem = true := by
  unfold applyPartition
  split
  · exact h
  · refine wf_foldl (fun t k ht => ?_) _ (wf_foldl (fun t l ht => ?_) _ h)
    · dsimp only
      split_ifs
      · exact wf_store _ _ _ (wf_wr t _ _ _ ht)
      · rw [putEngine_mem, setVal_mem]
        exact wf_store _ _ _ (wf_wr t _ _ _ ht)
    · split <;> simp [ht]

@[simp] theorem applyProgramSet_mem (s : State) (old) : (applyProgramSet s old).mem = s.mem := by simp [applyProgramSet]
@[simp] theorem noteSetStarted_mem (s : State) : (noteSetStarted s).mem = s.mem := by simp [noteSetStarted]
@[simp] theorem flipHalves_mem (s : State) : (flipHalves s).mem = s.mem := by simp [flipHalves]

@[simp] theorem wf_startTick (s : State) (k) (h : Memory.wf s.mem = true) : Memory.wf (startTick s k).mem = true := by
  have hs := wf_wr _ (localBase k + 0x1FF00 + 24) 4 (deadlineNs s) (wf_store s (localBase k + 0x1FF00) (tickBlock s k) h)
  unfold startTick
  dsimp only
  split_ifs
  · rw [setEngineState_mem, putEngine_mem]
    exact hs
  · exact hs

@[simp] theorem fenceEngine_mem (s : State) (k cycles) : (fenceEngine s k cycles).mem = s.mem := by simp [fenceEngine]

/-- By induction on the luminaires of the partition. -/
@[simp] theorem wf_libraryZones (s : State) (back n ls) (h : Memory.wf s.mem = true) : Memory.wf (libraryZones s back n ls).mem = true := by
  induction ls generalizing s n with
  | nil => exact h
  | cons l ls ih => exact ih _ _ (wf_luminaireTick s back l n h)

@[simp] theorem wf_libraryTick (alone) (s : State) (k) (h : Memory.wf s.mem = true) : Memory.wf (libraryTick alone s k).mem = true := by
  simp [libraryTick, h]

@[simp] theorem wf_runLibrary (s : State) (h : Memory.wf s.mem = true) : Memory.wf (runLibrary s).mem = true := by
  unfold runLibrary
  exact wf_foldl (fun t x ht => by simp [ht]) _ h

/-! ### Keys and shells -/

@[simp] theorem drbg_mem (s : State) (n) : (drbg s n).2.mem = s.mem := by
  induction n generalizing s with
  | zero => rfl
  | succ n ih => simp [drbg, ih]

@[simp] theorem keyChange_mem (s : State) (a) : (keyChange s a).mem = s.mem := by simp [keyChange]
@[simp] theorem closeShellSessions_mem (s : State) (n gen) : (closeShellSessions s n gen).mem = s.mem := by simp [closeShellSessions]
@[simp] theorem destroyShell_mem (s : State) (n) : (destroyShell s n).mem = s.mem := by simp [destroyShell]
@[simp] theorem checkShell_mem (s : State) (n) : (checkShell s n).mem = s.mem := by simp [checkShell]
@[simp] theorem useShell_mem (s : State) (n) : (useShell s n).mem = s.mem := by simp [useShell]
@[simp] theorem mayUse_mem (s : State) (n bit types) : (mayUse s n bit types).2.mem = s.mem := by simp [mayUse]
@[simp] theorem deriveKey_mem (s : State) (n label bits) : (deriveKey s n label bits).2.mem = s.mem := by simp [deriveKey]
@[simp] theorem shellDerive_mem (s : State) (v) : (shellDerive s v).mem = s.mem := by simp [shellDerive]

@[simp] theorem importUse_mem (s : State) (v) : (importUse s v).mem = s.mem := by
  unfold importUse
  split_ifs
  · simp
  · split <;> simp
  · rfl

@[simp] theorem shellImport_mem (s : State) (v x) : (shellImport s v x).mem = s.mem := by simp [shellImport]
theorem nextOk_execShellCheck (s : State) (h : Memory.wf s.mem = true) : NextOk (execShellCheck s) := by simp [execShellCheck, h]
@[simp] theorem attest_mem (s : State) (v) : (attest s v).mem = s.mem := by simp [attest]
theorem nextOk_execDbgChallenge (s : State) (h : Memory.wf s.mem = true) : NextOk (execDbgChallenge s) := by simp [execDbgChallenge, h]

theorem nextOk_execDbgResponse (n tag) (s : State) (h : Memory.wf s.mem = true) : NextOk (execDbgResponse n tag s) := by
  unfold execDbgResponse
  rw [nextOk_next]
  split <;> simp [h]

@[simp] theorem unmaskKeys_mem (s : State) : (unmaskKeys s).mem = s.mem := by simp [unmaskKeys]
@[simp] theorem refusedKeys_mem (s : State) (idx sub v code) : (refusedKeys s idx sub v code).mem = s.mem := by simp [refusedKeys]

@[simp] theorem commandKeys_mem (s : State) (idx sub v) : (commandKeys s idx sub v).mem = s.mem := by
  unfold commandKeys
  split_ifs
  · split <;> simp
  all_goals simp

/-! ### Bus controllers -/

@[simp] theorem reachMultiple_mem (s : State) (n period offset slack) : (reachMultiple s n period offset slack).mem = s.mem := by simp [reachMultiple]

@[simp] theorem sendCan_mem (s : State) (k id data) : (sendCan s k id data).mem = s.mem := by
  unfold sendCan
  split <;> simp

@[simp] theorem flushAlarms_mem (s : State) (k) : (flushAlarms s k).mem = s.mem := by simp [flushAlarms]
@[simp] theorem queueAlarm_mem (s : State) (k z) : (queueAlarm s k z).mem = s.mem := by simp [queueAlarm]

/-! ### Drive lanes -/

@[simp] theorem putPos_mem (s : State) (n p x) : (putPos s n p x).mem = s.mem := by simp [putPos]
@[simp] theorem enqueue_mem (s : State) (n r) : (enqueue s n r).mem = s.mem := by simp [enqueue]
@[simp] theorem queueControl_mem (s : State) (n p type payload) : (queueControl s n p type payload).mem = s.mem := by simp [queueControl]
@[simp] theorem queueBroadcast_mem (s : State) (n type payload) : (queueBroadcast s n type payload).mem = s.mem := by simp [queueBroadcast]
@[simp] theorem queueState_mem (s : State) (n type dest payload) : (queueState s n type dest payload).mem = s.mem := by simp [queueState]
@[simp] theorem selectScene_mem (s : State) (n scene) : (selectScene s n scene).mem = s.mem := by simp [selectScene]
@[simp] theorem normalPath_mem (s : State) (n r) : (normalPath s n r).mem = s.mem := by simp [normalPath]
@[simp] theorem feedArrives_mem (s : State) (n r) : (feedArrives s n r).mem = s.mem := by simp [feedArrives]
@[simp] theorem portRecord_mem (s : State) (n b) : (portRecord s n b).mem = s.mem := by simp [portRecord]

@[simp] theorem portDrain_mem (f n) (s : State) : (portDrain f n s).mem = s.mem := by
  induction f generalizing s with
  | zero => rfl
  | succ f ih => simp [portDrain, ih]

@[simp] theorem portWrite_mem (s : State) (n b) : (portWrite s n b).mem = s.mem := by simp [portWrite]
@[simp] theorem laneStatusBits_mem (s : State) (n) : (laneStatusBits s n).mem = s.mem := by simp [laneStatusBits]
@[simp] theorem laneMet_mem (s : State) (n kind addr) : (laneMet s n kind addr).mem = s.mem := by simp [laneMet]
@[simp] theorem laneFault_mem (s : State) (n kind addr) : (laneFault s n kind addr).mem = s.mem := by simp [laneFault]
@[simp] theorem laneFaultEnd_mem (s : State) (n kind addr) : (laneFaultEnd s n kind addr).mem = s.mem := by simp [laneFaultEnd]
theorem nextOk_execReturnSilent (n) (s : State) (h : Memory.wf s.mem = true) : NextOk (execReturnSilent n s) := by simp [execReturnSilent, h]
theorem nextOk_execLaneFaultCheck (n) (s : State) (h : Memory.wf s.mem = true) : NextOk (execLaneFaultCheck n s) := by simp [execLaneFaultCheck, h]
@[simp] theorem sendChars_mem (s : State) (n cs) : (sendChars s n cs).mem = s.mem := by simp [sendChars]
@[simp] theorem transmit_mem (s : State) (n r priority abort) : (transmit s n r priority abort).mem = s.mem := by simp [transmit]
@[simp] theorem noteSent_mem (s : State) (n r) : (noteSent s n r).mem = s.mem := by simp [noteSent]

theorem sendNormal_mem {s t : State} {n eccFail} (h : sendNormal s n eccFail = some t) : t.mem = s.mem := by
  unfold sendNormal at h
  split at h
  · cases h
  · dsimp only at h
    split_ifs at h <;> cases h <;> simp
@[simp] theorem sendNormal_getD_mem (s : State) (n eccFail) : ((sendNormal s n eccFail).getD s).mem = s.mem := by
  cases h : sendNormal s n eccFail with
  | none => rfl
  | some t => exact sendNormal_mem h

theorem nextOk_execRecordTransmit (n eccFail) (s : State) (h : Memory.wf s.mem = true) : NextOk (execRecordTransmit n eccFail s) := by
  unfold execRecordTransmit
  rw [nextOk_next]
  split_ifs
  · simp [h]
  · split <;> simp [h]

@[simp] theorem inject_mem (s : State) (n type payload) : (inject s n type payload).mem = s.mem := by simp [inject]
@[simp] theorem injectNow_mem (s : State) (n type payload) : (injectNow s n type payload).mem = s.mem := by simp [injectNow]
@[simp] theorem fieldInjections_mem (s : State) (n k) : (fieldInjections s n k).mem = s.mem := by simp [fieldInjections]

@[simp] theorem sendCommit_mem (f n) (s : State) : (sendCommit f n s).mem = s.mem := by
  induction f generalizing s with
  | zero => rfl
  | succ f ih =>
    unfold sendCommit
    split
    · rename_i s1 hs
      split_ifs
      · exact sendNormal_mem hs
      · rw [ih, sendNormal_mem hs]
    · rfl

@[simp] theorem commit_mem (s : State) (n k) : (commit s n k).mem = s.mem := by simp [commit]
@[simp] theorem stopRecord_mem (s : State) (n) : (stopRecord s n).mem = s.mem := by simp [stopRecord]
@[simp] theorem resend_mem (s : State) (n p cs) : (resend s n p cs).mem = s.mem := by simp [resend]
@[simp] theorem noteUnacked_mem (s : State) (n p) : (noteUnacked s n p).mem = s.mem := by simp [noteUnacked]
theorem nextOk_execControlResend (n p) (s : State) (h : Memory.wf s.mem = true) : NextOk (execControlResend n p s) := by simp [execControlResend, h]

theorem nextOk_execRequestResend (n p) (s : State) (h : Memory.wf s.mem = true) : NextOk (execRequestResend n p s) := by
  unfold execRequestResend
  rw [nextOk_next]
  split <;> simp [h]

@[simp] theorem deliver_mem (s : State) (n p ack) : (deliver s n p ack).mem = s.mem := by simp [deliver]
@[simp] theorem answered_mem (s : State) (n p) : (answered s n p).mem = s.mem := by simp [answered]
@[simp] theorem returnSchedule_mem (s : State) (n p advance) : (returnSchedule s n p advance).mem = s.mem := by simp [returnSchedule]
@[simp] theorem dropUnknown_mem (s : State) (n) : (dropUnknown s n).mem = s.mem := by simp [dropUnknown]
@[simp] theorem startLane_mem (s : State) (n) : (startLane s n).mem = s.mem := by simp [startLane]

theorem nextOk_execLaneStartComplete (n) (s : State) (h : Memory.wf s.mem = true) : NextOk (execLaneStartComplete n s) := by
  simp [execLaneStartComplete, h]

@[simp] theorem lanePending_mem (s : State) (n v) : (lanePending s n v).mem = s.mem := by simp [lanePending]
@[simp] theorem stopLane_mem (s : State) (n) : (stopLane s n).mem = s.mem := by simp [stopLane]
@[simp] theorem laneStart_mem (s : State) (n) : (laneStart s n).mem = s.mem := by simp [laneStart]
@[simp] theorem laneRestart_mem (s : State) (n) : (laneRestart s n).mem = s.mem := by simp [laneRestart]

theorem nextOk_execLaneStopComplete (n) (s : State) (h : Memory.wf s.mem = true) : NextOk (execLaneStopComplete n s) := by
  simp [execLaneStopComplete, h]

theorem nextOk_execLanePllUnlock (s : State) (h : Memory.wf s.mem = true) : NextOk (execLanePllUnlock s) := by simp [execLanePllUnlock, h]
theorem nextOk_execLanePllLock (s : State) (h : Memory.wf s.mem = true) : NextOk (execLanePllLock s) := by simp [execLanePllLock, h]
@[simp] theorem clearLaneStats_mem (s : State) (n) : (clearLaneStats s n).mem = s.mem := by simp [clearLaneStats]

/-! ### The safety core -/

@[simp] theorem showSafety_mem (s : State) : (showSafety s).mem = s.mem := by simp [showSafety]
@[simp] theorem handCopy_mem (s : State) (w) : (handCopy s w).mem = s.mem := by simp [handCopy]
@[simp] theorem tripSet_mem (s : State) (g kind) : (tripSet s g kind).mem = s.mem := by simp [tripSet]
@[simp] theorem takeCopies_mem (s : State) : (takeCopies s).mem = s.mem := by simp [takeCopies]
@[simp] theorem groupClear_mem (s : State) (g) : (groupClear s g).mem = s.mem := by simp [groupClear]

theorem nextOk_execGroupClearComplete (g) (s : State) (h : Memory.wf s.mem = true) : NextOk (execGroupClearComplete g s) := by
  unfold execGroupClearComplete
  rw [nextOk_next]
  split <;> simp [h]

@[simp] theorem beginEgress_mem (s : State) : (beginEgress s).mem = s.mem := by simp [beginEgress]

@[simp] theorem endEgress_mem (s : State) : (endEgress s).mem = s.mem := by
  unfold endEgress
  rw [showSafety_mem]
  exact foldl_mem (fun t n => by simp) _ _

@[simp] theorem driveGpio_mem (s : State) (g v) : (driveGpio s g v).mem = s.mem := by simp [driveGpio]

@[simp] theorem beginTest_mem (s : State) (kind) : (beginTest s kind).mem = s.mem := by
  unfold beginTest
  dsimp only
  split <;> simp

@[simp] theorem requestTest_mem (s : State) (kind scheduled) : (requestTest s kind scheduled).mem = s.mem := by simp [requestTest]

@[simp] theorem finishTest_mem (s : State) (result) : (finishTest s result).mem = s.mem := by
  unfold finishTest
  dsimp only
  repeat' split
  all_goals simp

theorem nextOk_execTestEnd (s : State) (h : Memory.wf s.mem = true) : NextOk (execTestEnd s) := by
  unfold execTestEnd
  rw [nextOk_next]
  split <;> simp [h]

theorem nextOk_execTestSchedule (s : State) (h : Memory.wf s.mem = true) : NextOk (execTestSchedule s) := by
  unfold execTestSchedule
  rw [nextOk_next]
  split <;> simp [h]

@[simp] theorem resumeTest_mem (s : State) : (resumeTest s).mem = s.mem := by
  unfold resumeTest
  split <;> simp

@[simp] theorem testWindow_mem (s : State) (vbt ibt) : (testWindow s vbt ibt).mem = s.mem := by
  unfold testWindow
  split <;> simp

@[simp] theorem testMeterStops_mem (s : State) : (testMeterStops s).mem = s.mem := by
  unfold testMeterStops
  split <;> simp

@[simp] theorem enterZone_mem (s : State) (z) : (enterZone s z).mem = s.mem := by simp [enterZone]
@[simp] theorem raiseOwn_mem (s : State) : (raiseOwn s).mem = s.mem := by simp [raiseOwn]
@[simp] theorem checkAgree_mem (s : State) : (checkAgree s).mem = s.mem := by simp [checkAgree]
theorem nextOk_execEmgChannelOpen (ch) (s : State) (h : Memory.wf s.mem = true) : NextOk (execEmgChannelOpen ch s) := by simp [execEmgChannelOpen, h]

theorem nextOk_execEmgChannelClosed (ch) (s : State) (h : Memory.wf s.mem = true) : NextOk (execEmgChannelClosed ch s) := by
  simp [execEmgChannelClosed, h]

theorem nextOk_execEmgDiscrepancy (s : State) (h : Memory.wf s.mem = true) : NextOk (execEmgDiscrepancy s) := by simp [execEmgDiscrepancy, h]
@[simp] theorem loopTestStart_mem (s : State) : (loopTestStart s).mem = s.mem := by simp [loopTestStart]
@[simp] theorem loopTestEnd_mem (s : State) : (loopTestEnd s).mem = s.mem := by simp [loopTestEnd]
theorem nextOk_execEmgTestExpiry (s : State) (h : Memory.wf s.mem = true) : NextOk (execEmgTestExpiry s) := by simp [execEmgTestExpiry, h]
@[simp] theorem cancelZones_mem (s : State) (zones) : (cancelZones s zones).mem = s.mem := by simp [cancelZones]
@[simp] theorem acknowledge_mem (s : State) : (acknowledge s).mem = s.mem := by simp [acknowledge]
@[simp] theorem guardZone_mem (s : State) (z codes) : (guardZone s z codes).mem = s.mem := by simp [guardZone]

@[simp] theorem auditCode_mem (ms a p) : (auditCode ms a p).1.mem = a.1.mem := by
  unfold auditCode
  dsimp only
  split_ifs <;> simp
@[simp] theorem auditFeed_mem (s : State) (codes) : (auditFeed s codes).1.mem = s.mem := by
  unfold auditFeed
  dsimp only
  rw [foldl_mem fun t z => by simp, foldl_fst_mem fun x p => auditCode_mem _ x p]

theorem nextOk_execGuardHoldEnd (z) (s : State) (h : Memory.wf s.mem = true) : NextOk (execGuardHoldEnd z s) := by simp [execGuardHoldEnd, h]
theorem nextOk_execHeartbeatLoss (core) (s : State) (h : Memory.wf s.mem = true) : NextOk (execHeartbeatLoss core s) := by simp [execHeartbeatLoss, h]
@[simp] theorem heartbeat_mem (s : State) (core beat) : (heartbeat s core beat).mem = s.mem := by simp [heartbeat]

theorem nextOk_execFaultConditionEnd (src) (s : State) (h : Memory.wf s.mem = true) : NextOk (execFaultConditionEnd src s) := by
  simp [execFaultConditionEnd, h]

@[simp] theorem requestSafe_mem (s : State) : (requestSafe s).mem = s.mem := by simp [requestSafe]
@[simp] theorem recover_mem (s : State) (src) : (recover s src).mem = s.mem := by simp [recover]

theorem nextOk_execQuietPeriodExpiry (src) (s : State) (h : Memory.wf s.mem = true) : NextOk (execQuietPeriodExpiry src s) := by
  simp [execQuietPeriodExpiry, h]

theorem nextOk_execEscalationExpiry (src) (s : State) (h : Memory.wf s.mem = true) : NextOk (execEscalationExpiry src s) := by
  simp [execEscalationExpiry, h]

@[simp] theorem faultClear_mem (s : State) (src) : (faultClear s src).mem = s.mem := by simp [faultClear]
@[simp] theorem commandSafety_mem (s : State) (manager idx sub v) : (commandSafety s manager idx sub v).mem = s.mem := by simp [commandSafety]

/-! ### The wireless partner interface -/

@[simp] theorem showPartners_mem (s : State) : (showPartners s).mem = s.mem := by simp [showPartners]
@[simp] theorem dropPartner_mem (s : State) (h) : (dropPartner s h).mem = s.mem := by simp [dropPartner]

@[simp] theorem airKey_mem (s : State) (id n label bit ask) : (airKey s id n label bit ask).2.mem = s.mem := by
  unfold airKey
  dsimp only
  split <;> simp

@[simp] theorem linkKey_mem (s : State) (h) : (linkKey s h).2.mem = s.mem := by simp [linkKey]
@[simp] theorem beaconKey_mem (s : State) : (beaconKey s).2.mem = s.mem := by simp [beaconKey]
@[simp] theorem meshKey_mem (s : State) : (meshKey s).2.mem = s.mem := by simp [meshKey]
@[simp] theorem nextCounter_mem (s : State) (id key) : (nextCounter s id key).2.mem = s.mem := by simp [nextCounter]

@[simp] theorem sendAir_mem (s : State) (channel id key level fc addrs extra payload seq) :
    (sendAir s channel id key level fc addrs extra payload seq).mem = s.mem := by
  have h := nextCounter_mem s id key
  unfold sendAir
  generalize nextCounter s id key = x at h ⊢
  obtain ⟨_ | ctr, s1⟩ := x
  · exact h
  · simpa using h

@[simp] theorem airFail_mem (s : State) (h replay) : (airFail s h replay).mem = s.mem := by
  unfold airFail
  dsimp only
  split <;> simp

@[simp] theorem openPartner_mem (s : State) (h level rx) : (openPartner s h level rx).2.mem = s.mem := by
  have hm := linkKey_mem s h
  unfold openPartner
  generalize linkKey s h = x at hm ⊢
  obtain ⟨_ | key, s1⟩ := x
  · simpa using hm
  · dsimp only at hm ⊢
    repeat' split
    all_goals simp [hm]

@[simp] theorem countFrame_mem (s : State) (rx) : (countFrame s rx).mem = s.mem := by simp [countFrame]
@[simp] theorem holdReceiver_mem (s : State) (slot rx) : (holdReceiver s slot rx).mem = s.mem := by simp [holdReceiver]
@[simp] theorem noteFrame_mem (s : State) (h rx) : (noteFrame s h rx).mem = s.mem := by simp [noteFrame]
@[simp] theorem settleDownlink_mem (s : State) (h) : (settleDownlink s h).mem = s.mem := by simp [settleDownlink]

@[simp] theorem enhAck_mem (s : State) (h rx) : (enhAck s h rx).mem = s.mem := by
  have hm := (linkKey_mem (settleDownlink s h) h).trans (settleDownlink_mem s h)
  unfold enhAck
  generalize linkKey (settleDownlink s h) h = x at hm ⊢
  obtain ⟨_ | key, s1⟩ := x
  · exact hm
  · simpa using hm

@[simp] theorem receiveAir_mem (s : State) (h type ok rx) : (receiveAir s h type ok rx).2.mem = s.mem := by
  unfold receiveAir
  split
  · rfl
  split
  · simp
  split
  · rfl
  dsimp only
  split
  · simp
  · have hm := (openPartner_mem (holdReceiver s (airSlot s h rx) rx) h 5 rx).trans (holdReceiver_mem s _ rx)
    generalize openPartner (holdReceiver s (airSlot s h rx) rx) h 5 rx = x at hm ⊢
    obtain ⟨_ | m, s1⟩ := x
    · exact hm
    · dsimp only at hm ⊢
      split_ifs <;> simp [hm]

@[simp] theorem postSensor_mem (s : State) (ev) : (postSensor s ev).mem = s.mem := by simp [postSensor]

@[simp] theorem wf_switchRecall (s : State) (g scene stamp) (h : Memory.wf s.mem = true) : Memory.wf (switchRecall s g scene stamp).mem = true := by
  unfold switchRecall
  refine wf_foldl (fun t z ht => ?_) _ h
  split <;> simp [ht]

@[simp] theorem wf_switchAction (s : State) (h' data) (h : Memory.wf s.mem = true) : Memory.wf (switchAction s h' data).mem = true := by
  unfold switchAction
  dsimp only
  split_ifs
  · exact h
  · exact wf_inWindow _ _ _ h (wf_switchRecall _ _ _ _ h)
  · exact h
  · exact wf_inWindow _ _ _ h (wf_groupRelease _ _ _ h)
  · exact h

@[simp] theorem queueFlood_mem (s : State) (body own) : (queueFlood s body own).mem = s.mem := by simp [queueFlood]
@[simp] theorem originate_mem (s : State) (h report) : (originate s h report).mem = s.mem := by simp [originate]

theorem nextOk_execReport (h rx) (s : State) (hm : Memory.wf s.mem = true) : NextOk (execReport h rx s) := by
  unfold execReport
  rw [nextOk_next]
  rw [← receiveAir_mem s h 1 (reportOk rx) rx] at hm
  generalize receiveAir s h 1 (reportOk rx) rx = x at hm ⊢
  obtain ⟨_ | m, s1⟩ := x
  · exact hm
  · dsimp only at hm ⊢
    split_ifs <;> simp [hm]

theorem nextOk_execKeepalive (h rx) (s : State) (hm : Memory.wf s.mem = true) : NextOk (execKeepalive h rx s) := by
  unfold execKeepalive
  rw [nextOk_next]
  rw [← receiveAir_mem s h 5 (fun m => m.length == 3) rx] at hm
  generalize receiveAir s h 5 (fun m => m.length == 3) rx = x at hm ⊢
  obtain ⟨_ | m, s1⟩ := x
  · exact hm
  · simpa using hm

theorem nextOk_execLeave (h rx) (s : State) (hm : Memory.wf s.mem = true) : NextOk (execLeave h rx s) := by
  unfold execLeave
  rw [nextOk_next]
  rw [← receiveAir_mem s h 6 (fun m => m.length == 1) rx] at hm
  generalize receiveAir s h 6 (fun m => m.length == 1) rx = x at hm ⊢
  obtain ⟨_ | m, s1⟩ := x
  · exact hm
  · simpa using hm

theorem nextOk_execEnhAck (h rx) (s : State) (hm : Memory.wf s.mem = true) : NextOk (execEnhAck h rx s) := by
  unfold execEnhAck
  rw [nextOk_next]
  split_ifs
  · exact hm
  · simp [hm]
  · simp [hm]
  · rw [← openPartner_mem s h 5 rx] at hm
    generalize openPartner s h 5 rx = x at hm ⊢
    obtain ⟨_ | m, s1⟩ := x
    · exact hm
    · simpa using hm

theorem nextOk_execEventMissed (h) (s : State) (hm : Memory.wf s.mem = true) : NextOk (execEventMissed h s) := by simp [execEventMissed, hm]

theorem nextOk_execSupervisionLoss (h) (s : State) (hm : Memory.wf s.mem = true) : NextOk (execSupervisionLoss h s) := by
  simp [execSupervisionLoss, hm]

@[simp] theorem restored_mem (s : State) (h was) : (restored s h was).mem = s.mem := by simp [restored]

@[simp] theorem takeJoin_mem (s : State) (ext rx) : (takeJoin s ext rx).mem = s.mem := by
  unfold takeJoin
  split
  · simp
  · rename_i h _
    have hm := openPartner_mem s h 5 rx
    generalize openPartner s h 5 rx = x at hm ⊢
    obtain ⟨_ | m, s1⟩ := x
    · simpa using hm
    · dsimp only at hm ⊢
      split <;> simp [hm]

theorem nextOk_execJoinRequest (ext rx) (s : State) (h : Memory.wf s.mem = true) : NextOk (execJoinRequest ext rx s) := by simp [execJoinRequest, h]

@[simp] theorem joinResponse_mem (s : State) (h) : (joinResponse s h).mem = s.mem := by
  have hm := linkKey_mem s h
  unfold joinResponse
  dsimp only
  generalize linkKey s h = x at hm ⊢
  obtain ⟨_ | key, s1⟩ := x
  · exact hm
  · have hb := (beaconKey_mem s1).trans hm
    dsimp only
    generalize beaconKey s1 = y at hb ⊢
    obtain ⟨_ | bk, s2⟩ := y
    · exact hb
    · simpa using hb

@[simp] theorem putMap_mem (s : State) (map phase) : (putMap s map phase).mem = s.mem := by simp [putMap]
@[simp] theorem showRadio_mem (s : State) : (showRadio s).mem = s.mem := by simp [showRadio]
@[simp] theorem changeMap_mem (s : State) : (changeMap s).mem = s.mem := by simp [changeMap]

theorem nextOk_execSuperframeStart (s : State) (h : Memory.wf s.mem = true) : NextOk (execSuperframeStart s) := by
  unfold execSuperframeStart
  dsimp only
  rw [nextOk_next]
  repeat' split
  all_goals simp [h]

@[simp] theorem sendBeacon_mem (s : State) : (sendBeacon s).mem = s.mem := by
  have hm := beaconKey_mem s
  unfold sendBeacon
  generalize beaconKey s = x at hm ⊢
  obtain ⟨_ | key, s1⟩ := x
  · exact hm
  · simpa using hm

@[simp] theorem sendMesh_mem (s : State) (payload) : (sendMesh s payload).mem = s.mem := by
  have hm := meshKey_mem s
  unfold sendMesh
  generalize meshKey s = x at hm ⊢
  obtain ⟨_ | key, s1⟩ := x
  · exact hm
  · simpa using hm

@[simp] theorem sendMeshBeacon_mem (s : State) : (sendMeshBeacon s).mem = s.mem := by simp [sendMeshBeacon]

@[simp] theorem sendFlood_mem (s : State) : (sendFlood s).mem = s.mem := by
  unfold sendFlood
  split <;> simp

@[simp] theorem downlinkEvent_mem (s : State) (h) : (downlinkEvent s h).mem = s.mem := by
  unfold downlinkEvent
  dsimp only
  split
  · simp
  · have hm := (linkKey_mem (settleDownlink s h) h).trans (settleDownlink_mem s h)
    generalize linkKey (settleDownlink s h) h = x at hm ⊢
    obtain ⟨_ | key, s1⟩ := x
    · exact hm
    · simpa using hm

@[simp] theorem openSlot_mem (s : State) (i) : (openSlot s i).mem = s.mem := by simp [openSlot]
theorem nextOk_execSlotStart (i) (s : State) (h : Memory.wf s.mem = true) : NextOk (execSlotStart i s) := by simp [execSlotStart, h]

@[simp] theorem openMesh_mem (s : State) (ext rx) : (openMesh s ext rx).2.mem = s.mem := by
  unfold openMesh
  split
  · rfl
  split
  · simp
  split
  · rfl
  dsimp only
  split
  · simp
  · have hm := (meshKey_mem (holdReceiver s s.air.slot rx)).trans (holdReceiver_mem s _ rx)
    generalize meshKey (holdReceiver s s.air.slot rx) = x at hm ⊢
    obtain ⟨_ | key, s1⟩ := x
    · simpa using hm
    · dsimp only at hm ⊢
      split
      · simp [hm]
      · split_ifs <;> simp [hm]

theorem nextOk_execFlood (ext rx) (s : State) (h : Memory.wf s.mem = true) : NextOk (execFlood ext rx s) := by
  unfold execFlood
  rw [nextOk_next]
  rw [← openMesh_mem s ext.toNat rx] at h
  generalize openMesh s ext.toNat rx = x at h ⊢
  obtain ⟨_ | m, s1⟩ := x
  · exact h
  · dsimp only at h ⊢
    repeat' split
    all_goals simp [h]

theorem nextOk_execNeighbourExpiry (a) (s : State) (h : Memory.wf s.mem = true) : NextOk (execNeighbourExpiry a s) := by simp [execNeighbourExpiry, h]
theorem nextOk_execFloodExpiry (s : State) (h : Memory.wf s.mem = true) : NextOk (execFloodExpiry s) := by simp [execFloodExpiry, h]
@[simp] theorem radioPending_mem (s : State) (v) : (radioPending s v).mem = s.mem := by simp [radioPending]
@[simp] theorem openRadio_mem (s : State) : (openRadio s).mem = s.mem := by simp [openRadio]
@[simp] theorem radioStart_mem (s : State) : (radioStart s).mem = s.mem := by simp [radioStart]
@[simp] theorem radioStop_mem (s : State) : (radioStop s).mem = s.mem := by simp [radioStop]
@[simp] theorem radioRestart_mem (s : State) : (radioRestart s).mem = s.mem := by simp [radioRestart]
theorem nextOk_execRadioStopComplete (s : State) (h : Memory.wf s.mem = true) : NextOk (execRadioStopComplete s) := by simp [execRadioStopComplete, h]
theorem nextOk_execRadioFault (kind) (s : State) (h : Memory.wf s.mem = true) : NextOk (execRadioFault kind s) := by simp [execRadioFault, h]
@[simp] theorem afterPartners_mem (s : State) (old) : (afterPartners s old).mem = s.mem := by simp [afterPartners]
@[simp] theorem afterAir_mem (s : State) (sub) : (afterAir s sub).mem = s.mem := by simp [afterAir]
@[simp] theorem commandAir_mem (s : State) (sub v) : (commandAir s sub v).mem = s.mem := by simp [commandAir]

/-! ### The DMA engine -/

@[simp] theorem wf_writeDst (s : State) (a b) (h : Memory.wf s.mem = true) : Memory.wf (writeDst s a b).mem = true := by
  simp [writeDst, wf_memStore, h]

/-- By induction on the limit of bytes, one of which each pass writes. -/
@[simp] theorem wf_writeSide (d owner select f l) (s : State) (n) (h : Memory.wf s.mem = true) :
    Memory.wf (writeSide d owner select f l s n).1.mem = true := by
  induction f generalizing l s n with
  | zero => cases l <;> exact h
  | succ f ih =>
    cases l with
    | nil => exact h
    | cons x l =>
      unfold writeSide
      split
      · exact ih _ _ _ (wf_writeDst _ _ _ h)
      · exact h

@[simp] theorem wf_moveData (s : State) (r limit) (h : Memory.wf s.mem = true) : Memory.wf (moveData s r limit).1.mem = true := by
  unfold moveData
  split
  · simp [h]
  · dsimp only
    split_ifs <;> exact wf_writeSide _ _ _ _ _ _ _ h

@[simp] theorem wf_appendColophon (s : State) (b) (h : Memory.wf s.mem = true) : Memory.wf (appendColophon s b).2.mem = true := by
  simp [appendColophon, h, wf_memStore]

@[simp] theorem wf_endDescriptor (s : State) (c owner addr desc done status detail chainEnd) (h : Memory.wf s.mem = true) : Memory.wf (endDescriptor s c owner addr desc done status detail chainEnd).mem = true := by
  unfold endDescriptor
  dsimp only
  split_ifs <;> simp [h, wf_memStore]

@[simp] theorem showChannel_mem (s : State) (c) : (showChannel s c).mem = s.mem := by simp [showChannel]

/-- By induction on the descriptors that a chain may still hold. -/
@[simp] theorem wf_retireChain (c owner select f next) (s : State) (h : Memory.wf s.mem = true) :
    Memory.wf (retireChain c owner select f next s).mem = true := by
  induction f generalizing next s with
  | zero => exact wf_endDescriptor _ _ _ _ _ _ _ _ _ h
  | succ f ih => simp [retireChain, h, ih]

@[simp] theorem wf_retirePosted (s : State) (c p) (h : Memory.wf s.mem = true) : Memory.wf (retirePosted s c p).mem = true := by
  simp [retirePosted, h]

@[simp] theorem wf_retire (s : State) (c) (h : Memory.wf s.mem = true) : Memory.wf (retire s c).mem = true := by
  unfold retire
  dsimp only
  rw [showChannel_mem]
  refine wf_foldl (fun t p ht => wf_retirePosted t c p ht) _ ?_
  split
  · exact wf_retireChain _ _ _ _ _ _ h
  · exact h

@[simp] theorem wf_postTo (s : State) (k c addr) (h : Memory.wf s.mem = true) : Memory.wf (postTo s k c addr).mem = true := by simp [postTo, h]

theorem nextDesc_mem {s t : State} {c r} (h : nextDesc s c = some (r, t)) : t.mem = s.mem := by
  unfold nextDesc at h
  dsimp only at h
  split at h <;> cases h <;> rfl

@[simp] theorem wf_afterEnd (s : State) (c r) (h : Memory.wf s.mem = true) : Memory.wf (afterEnd s c r).mem = true := by simp [afterEnd, h]

theorem nextOk_execDescriptorStart (c fetch) (s : State) (h : Memory.wf s.mem = true) : NextOk (execDescriptorStart c fetch s) := by
  unfold execDescriptorStart
  dsimp only
  rw [nextOk_next]
  split
  · exact h
  split
  · exact h
  · rename_i r s1 hn
    have h1 : Memory.wf s1.mem = true := nextDesc_mem hn ▸ h
    split
    · simp [h1]
    split
    · simp [h1]
    · split <;> simp [h1]

theorem nextOk_execDescriptorDone (c err) (s : State) (h : Memory.wf s.mem = true) : NextOk (execDescriptorDone c err s) := by
  unfold execDescriptorDone
  rw [nextOk_next]
  split
  · exact h
  split
  · exact h
  · rename_i r _ _
    cases err with
    | none => exact wf_afterEnd _ _ _ (wf_endDescriptor _ _ _ _ _ _ _ _ _ (wf_moveData _ _ _ h))
    | some e => exact wf_afterEnd _ _ _ (wf_endDescriptor _ _ _ _ _ _ _ _ _ (by simp [h]))

@[simp] theorem channelPending_mem (s : State) (c v) : (channelPending s c v).mem = s.mem := by simp [channelPending]
@[simp] theorem wf_channelStop (s : State) (c) (h : Memory.wf s.mem = true) : Memory.wf (channelStop s c).mem = true := by simp [channelStop, h]
@[simp] theorem channelStart_mem (s : State) (c) : (channelStart s c).mem = s.mem := by simp [channelStart]

@[simp] theorem wf_channelRestart (s : State) (c) (h : Memory.wf s.mem = true) : Memory.wf (channelRestart s c).mem = true := by
  simp [channelRestart, h]

theorem nextOk_execDmaStopComplete (c) (s : State) (h : Memory.wf s.mem = true) : NextOk (execDmaStopComplete c s) := by simp [execDmaStopComplete, h]

@[simp] theorem wf_commandDma (s : State) (idx sub v) (h : Memory.wf s.mem = true) : Memory.wf (commandDma s idx sub v).mem = true := by
  simp [commandDma, h]

/-! ### Metering -/

@[simp] theorem pulseDue_mem (s : State) (o) : (pulseDue s o).mem = s.mem := by simp [pulseDue]

@[simp] theorem pulsesDue_mem (s : State) (o) : (pulsesDue s o).mem = s.mem := by
  simp [pulsesDue, iter_mem]

theorem nextOk_execPulseStart (o) (s : State) (h : Memory.wf s.mem = true) : NextOk (execPulseStart o s) := by
  unfold execPulseStart
  rw [nextOk_next]
  split <;> simp [h]

@[simp] theorem meterPending_mem (s : State) (v) : (meterPending s v).mem = s.mem := by simp [meterPending]
@[simp] theorem meterBegin_mem (s : State) : (meterBegin s).mem = s.mem := by simp [meterBegin]
@[simp] theorem saveEnergy_mem (s : State) : (saveEnergy s).mem = s.mem := by simp [saveEnergy]
@[simp] theorem loadEnergy_mem (s : State) : (loadEnergy s).mem = s.mem := by simp [loadEnergy]
@[simp] theorem showEnergy_mem (s : State) : (showEnergy s).mem = s.mem := by simp [showEnergy]
@[simp] theorem resetEnergy_mem (s : State) : (resetEnergy s).mem = s.mem := by simp [resetEnergy]
@[simp] theorem noteSign_mem (s : State) (i p floor) : (noteSign s i p floor).mem = s.mem := by simp [noteSign]
@[simp] theorem notePhase_mem (us) (s : State) (c) : (notePhase us s c).mem = s.mem := by simp [notePhase]
@[simp] theorem phaseLoss_mem (s : State) (us) : (phaseLoss s us).mem = s.mem := by simp [phaseLoss]

@[simp] theorem showWindow_mem (s : State) (x f w) : (showWindow s x f w).mem = s.mem := by
  unfold showWindow
  split <;> simp

@[simp] theorem calWindow_mem (s : State) (x flags) : (calWindow s x flags).mem = s.mem := by
  unfold calWindow
  split <;> simp

@[simp] theorem noteSupply_mem (s : State) : (noteSupply s).mem = s.mem := by simp [noteSupply]
@[simp] theorem closeWindow_mem (s : State) (short) : (closeWindow s short).mem = s.mem := by simp [closeWindow]
theorem nextOk_execWindowEnd (s : State) (h : Memory.wf s.mem = true) : NextOk (execWindowEnd s) := by simp [execWindowEnd, h]

theorem nextOk_execSampleSet (codes queueFull) (s : State) (h : Memory.wf s.mem = true) : NextOk (execSampleSet codes queueFull s) := by
  simp [execSampleSet, h]

@[simp] theorem offsetCheck_mem (s : State) : (offsetCheck s).2.mem = s.mem := by simp [offsetCheck]
theorem nextOk_execOffsetCheckDone (s : State) (h : Memory.wf s.mem = true) : NextOk (execOffsetCheckDone s) := by simp [execOffsetCheckDone, h]
@[simp] theorem meterStopped_mem (s : State) : (meterStopped s).mem = s.mem := by simp [meterStopped]
@[simp] theorem meterStop_mem (s : State) : (meterStop s).mem = s.mem := by simp [meterStop]
theorem nextOk_execPulseEnd (o) (s : State) (h : Memory.wf s.mem = true) : NextOk (execPulseEnd o s) := by simp [execPulseEnd, h]
@[simp] theorem meterStart_mem (s : State) : (meterStart s).mem = s.mem := by simp [meterStart]
@[simp] theorem meterRestart_mem (s : State) : (meterRestart s).mem = s.mem := by simp [meterRestart]
theorem nextOk_execVafeOutOfRange (s : State) (h : Memory.wf s.mem = true) : NextOk (execVafeOutOfRange s) := by simp [execVafeOutOfRange, h]
theorem nextOk_execVafeReturn (s : State) (h : Memory.wf s.mem = true) : NextOk (execVafeReturn s) := by simp [execVafeReturn, h]

theorem nextOk_execCalibrationDone (s : State) (h : Memory.wf s.mem = true) : NextOk (execCalibrationDone s) := by
  unfold execCalibrationDone
  dsimp only
  rw [nextOk_next]
  repeat' split
  all_goals simp [h]

@[simp] theorem closeDemand_mem (s : State) : (closeDemand s).mem = s.mem := by simp [closeDemand]
@[simp] theorem noteDemand_mem (s : State) : (noteDemand s).mem = s.mem := by simp [noteDemand]
theorem nextOk_execDemandIntervalEnd (s : State) (h : Memory.wf s.mem = true) : NextOk (execDemandIntervalEnd s) := by simp [execDemandIntervalEnd, h]

@[simp] theorem lumStatus_mem (s : State) (d vin iin since) : (lumStatus s d vin iin since).mem = s.mem := by
  unfold lumStatus
  split <;> simp

@[simp] theorem calibrateStart_mem (s : State) (b) : (calibrateStart s b).mem = s.mem := by simp [calibrateStart]
@[simp] theorem energyReset_mem (s : State) : (energyReset s).mem = s.mem := by simp [energyReset]
@[simp] theorem maxClear_mem (s : State) : (maxClear s).mem = s.mem := by simp [maxClear]
@[simp] theorem lumReset_mem (s : State) (l) : (lumReset s l).mem = s.mem := by simp [lumReset]
@[simp] theorem commandMeter_mem (s : State) (idx sub v b) : (commandMeter s idx sub v b).mem = s.mem := by simp [commandMeter]
@[simp] theorem afterMeter_mem (s : State) (idx sub) : (afterMeter s idx sub).mem = s.mem := by simp [afterMeter]

/-! ### Packages and folios -/

@[simp] theorem blockSigned_mem (s : State) (p blk keyOff bit) : (blockSigned s p blk keyOff bit).2.mem = s.mem := by
  unfold blockSigned
  split <;> simp

@[simp] theorem oemOk_mem (s : State) (p) : (oemOk s p).2.mem = s.mem := by simp [oemOk]
@[simp] theorem packageCheck_mem (s : State) (p) : (packageCheck s p).2.mem = s.mem := by simp [packageCheck]
@[simp] theorem folioSigned_mem (s : State) (p) : (folioSigned s p).2.mem = s.mem := by simp [folioSigned]
@[simp] theorem stagePackage_mem (s : State) (p) : (stagePackage s p).2.mem = s.mem := by simp [stagePackage]
@[simp] theorem setTrial_mem (s : State) (t) : (setTrial s t).mem = s.mem := by simp [setTrial]
@[simp] theorem setResult_mem (s : State) (r) : (setResult s r).mem = s.mem := by simp [setResult]
@[simp] theorem revert_mem (s : State) : (revert s).mem = s.mem := by simp [revert]
@[simp] theorem installStep_mem (s : State) (copied) : (installStep s copied).2.mem = s.mem := by simp [installStep]
@[simp] theorem startFolio_mem (s : State) (prior) : (startFolio s prior).mem = s.mem := by simp [startFolio]
@[simp] theorem altFolio_mem (s : State) : (altFolio s).2.mem = s.mem := by simp [altFolio]
@[simp] theorem clearBookmark_mem (s : State) : (clearBookmark s).mem = s.mem := by simp [clearBookmark]
@[simp] theorem confirmTrial_mem (s : State) : (confirmTrial s).mem = s.mem := by simp [confirmTrial]
theorem nextOk_execAutoConfirm (s : State) (h : Memory.wf s.mem = true) : NextOk (execAutoConfirm s) := by simp [execAutoConfirm, h]
theorem nextOk_execTrialExpiry (s : State) (h : Memory.wf s.mem = true) : NextOk (execTrialExpiry s) := by simp [execTrialExpiry, h]
@[simp] theorem install_mem (s : State) (v) : (install s v).mem = s.mem := by simp [install]

/-! ### Cell drivers and return slots -/

@[simp] theorem configWrite_mem (s : State) (n p f addr data) : (configWrite s n p f addr data).mem = s.mem := by
  induction f generalizing s addr data with
  | zero => rfl
  | succ f ih => simp [configWrite, ih]

@[simp] theorem sceneLoad_mem (s : State) (n p scene) : (sceneLoad s n p scene).mem = s.mem := by simp [sceneLoad]
@[simp] theorem startWork_mem (s : State) (n p) : (startWork s n p).mem = s.mem := by simp [startWork]
@[simp] theorem fwFailed_mem (s : State) (n p) : (fwFailed s n p).mem = s.mem := by simp [fwFailed]

@[simp] theorem fwImage_mem (s : State) (n image ps) : (fwImage s n image ps).mem = s.mem := by
  unfold fwImage
  split <;> simp

@[simp] theorem tryFirmware_mem (s : State) (n) : (tryFirmware s n).mem = s.mem := by simp [tryFirmware]
theorem nextOk_execDriverMissing (n p) (s : State) (h : Memory.wf s.mem = true) : NextOk (execDriverMissing n p s) := by simp [execDriverMissing, h]
@[simp] theorem unassign_mem (s : State) (n p) : (unassign s n p).mem = s.mem := by simp [unassign]
@[simp] theorem conflict_mem (s : State) (n p away) : (conflict s n p away).mem = s.mem := by simp [conflict]
@[simp] theorem noteDiscard_mem (s : State) (n slot) : (noteDiscard s n slot).mem = s.mem := by simp [noteDiscard]
@[simp] theorem discardBurst_mem (s : State) (n slot) : (discardBurst s n slot).mem = s.mem := by simp [discardBurst]
@[simp] theorem trackTiming_mem (s : State) (n p at_) : (trackTiming s n p at_).mem = s.mem := by simp [trackTiming]
@[simp] theorem seen_mem (s : State) (n p at_) : (seen s n p at_).mem = s.mem := by simp [seen]

@[simp] theorem receiveBurst_mem (s : State) (n type b) : (receiveBurst s n type b).1.mem = s.mem := by
  unfold receiveBurst
  dsimp only
  split_ifs <;> simp

@[simp] theorem noteOverTemp_mem (s : State) (n p v) : (noteOverTemp s n p v).mem = s.mem := by simp [noteOverTemp]
@[simp] theorem queryFaults_mem (s : State) (n p) : (queryFaults s n p).mem = s.mem := by simp [queryFaults]
@[simp] theorem noteIncomplete_mem (s : State) (n p v) : (noteIncomplete s n p v).mem = s.mem := by simp [noteIncomplete]

@[simp] theorem noteShowing_mem (s : State) (d showing) : (noteShowing s d showing).mem = s.mem := by
  unfold noteShowing
  split <;> simp

@[simp] theorem noteForward_mem (s : State) (n p) : (noteForward s n p).mem = s.mem := by simp [noteForward]
@[simp] theorem loadedScenes_mem (x) (s : State) (n p) : (loadedScenes x s n p).mem = s.mem := by simp [loadedScenes]
@[simp] theorem takeStatus_mem (s : State) (n p b) : (takeStatus s n p b).mem = s.mem := by simp [takeStatus]

theorem nextOk_execStatus (n b) (s : State) (h : Memory.wf s.mem = true) : NextOk (execStatus n b s) := by
  unfold execStatus
  rw [nextOk_next]
  split <;> simp [h]

@[simp] theorem workReply_mem (s : State) (n p addr data) : (workReply s n p addr data).mem = s.mem := by
  unfold workReply
  split <;> simp

theorem nextOk_execConfigData (n b) (s : State) (h : Memory.wf s.mem = true) : NextOk (execConfigData n b s) := by
  unfold execConfigData
  rw [nextOk_next]
  split <;> simp [h]

@[simp] theorem takeFaultMap_mem (s : State) (n p b) : (takeFaultMap s n p b).mem = s.mem := by simp [takeFaultMap]

theorem nextOk_execFaultMap (n b) (s : State) (h : Memory.wf s.mem = true) : NextOk (execFaultMap n b s) := by
  unfold execFaultMap
  rw [nextOk_next]
  split <;> simp [h]

theorem nextOk_execFirmwareAck (n b) (s : State) (h : Memory.wf s.mem = true) : NextOk (execFirmwareAck n b s) := by
  unfold execFirmwareAck
  dsimp only
  rw [nextOk_next]
  repeat' split
  all_goals simp [h]

@[simp] theorem addUnknown_mem (s : State) (n reply) : (addUnknown s n reply).mem = s.mem := by simp [addUnknown]
@[simp] theorem acceptDriver_mem (s : State) (n p reply) : (acceptDriver s n p reply).mem = s.mem := by simp [acceptDriver]
@[simp] theorem takeReply_mem (s : State) (n p b) : (takeReply s n p b).mem = s.mem := by simp [takeReply]

theorem nextOk_execDiscoverReply (n b) (s : State) (h : Memory.wf s.mem = true) : NextOk (execDiscoverReply n b s) := by
  unfold execDiscoverReply
  rw [nextOk_next]
  split <;> simp [h]

@[simp] theorem searchNext_mem (s : State) (n d) : (searchNext s n d).mem = s.mem := by
  unfold searchNext
  split
  · simp
  · rw [foldl_mem fun t r => ?_]
    · simp
    · split <;> simp

@[simp] theorem presentEnds_mem (s : State) (n d) : (presentEnds s n d).mem = s.mem := by
  unfold presentEnds
  dsimp only
  split <;> simp

theorem nextOk_execSearchWatchEnd (n) (s : State) (h : Memory.wf s.mem = true) : NextOk (execSearchWatchEnd n s) := by
  unfold execSearchWatchEnd
  dsimp only
  rw [nextOk_next]
  repeat' split
  all_goals simp [h]

@[simp] theorem discoverLane_mem (s : State) (n) : (discoverLane s n).mem = s.mem := by simp [discoverLane]
@[simp] theorem markConfig_mem (s : State) (oldCal oldMap) : (markConfig s oldCal oldMap).mem = s.mem := by simp [markConfig]
@[simp] theorem markScenes_mem (s : State) (scene old) : (markScenes s scene old).mem = s.mem := by simp [markScenes]

theorem nextOk_execDriverConfigUpdate (n p) (s : State) (h : Memory.wf s.mem = true) : NextOk (execDriverConfigUpdate n p s) := by
  simp [execDriverConfigUpdate, h]

theorem nextOk_execStoredSceneUpdate (n p) (s : State) (h : Memory.wf s.mem = true) : NextOk (execStoredSceneUpdate n p s) := by
  simp [execStoredSceneUpdate, h]

@[simp] theorem faultCellClear_mem (s : State) (c) : (faultCellClear s c).mem = s.mem := by simp [faultCellClear]

@[simp] theorem testField_mem (s : State) (n k) : (testField s n k).mem = s.mem := by
  unfold testField
  split
  · simp
  · split <;> simp

@[simp] theorem discField_mem (s : State) (n) : (discField s n).mem = s.mem := by
  unfold discField
  split <;> simp

@[simp] theorem roleMark_mem (s : State) (n) : (roleMark s n).mem = s.mem := by
  unfold roleMark
  split <;> simp

@[simp] theorem beginField_mem (s : State) (n k) : (beginField s n k).mem = s.mem := by simp [beginField]
theorem nextOk_execFieldMark (field) (s : State) (h : Memory.wf s.mem = true) : NextOk (execFieldMark field s) := by simp [execFieldMark, h]
@[simp] theorem dropLane_mem (s : State) (n) : (dropLane s n).mem = s.mem := by simp [dropLane]
@[simp] theorem commandLanes_mem (s : State) (idx sub v) : (commandLanes s idx sub v).mem = s.mem := by simp [commandLanes]

/-! ### The engine inputs in cell memory -/

@[simp] theorem wf_loadSettings (s : State) (h : Memory.wf s.mem = true) : Memory.wf (loadSettings s).mem = true :=
  wf_store _ _ _ h

@[simp] theorem wf_clearLoose (s : State) (old) (h : Memory.wf s.mem = true) : Memory.wf (clearLoose s old).mem = true := by
  unfold clearLoose
  exact wf_foldl (fun t c ht => wf_wr _ _ _ _ (wf_wr t _ _ _ ht)) _ h

@[simp] theorem wf_loadZoneMap (s : State) (h : Memory.wf s.mem = true) : Memory.wf (loadZoneMap s).mem = true := by
  unfold loadZoneMap
  rw [repartition_mem]
  exact wf_depFill _ (wf_clearLoose _ _ (wf_store _ _ _ h))

@[simp] theorem wf_loadCells (s : State) (h : Memory.wf s.mem = true) : Memory.wf (loadCells s).mem = true := by
  unfold loadCells
  dsimp only
  split_ifs
  · exact h
  · exact wf_store _ _ _ h

@[simp] theorem wf_loadModel (s : State) (t) (h : Memory.wf s.mem = true) : Memory.wf (loadModel s t).mem = true :=
  wf_store _ _ _ h

@[simp] theorem wf_loadAreas (s : State) (h : Memory.wf s.mem = true) : Memory.wf (loadAreas s).mem = true :=
  wf_store _ _ _ h

@[simp] theorem markInputs_mem (s : State) : (markInputs s).mem = s.mem := by
  unfold markInputs
  exact foldl_mem (fun t k => by simp) _ _

/-- Step 13 stores, in this order, the two tables, the settings, the models, the areas, the zone map, the cells and the fault bitmap. -/
@[simp] theorem wf_loadInputs (s : State) (h : Memory.wf s.mem = true) : Memory.wf (loadInputs s).mem = true := by
  have h2 := wf_foldl wf_loadModel (List.range 16) (wf_loadSettings _ (wf_store _ aExp2 Colour.exp2Table (wf_store s aLocus Colour.locusTable h)))
  exact wf_store _ _ _ (wf_loadCells _ (wf_loadZoneMap _ (wf_loadAreas _ h2)))

@[simp] theorem wf_burnReset (s : State) (l) (h : Memory.wf s.mem = true) : Memory.wf (burnReset s l).mem = true := by
  unfold burnReset
  refine wf_foldl (fun t d ht => ?_) _ h
  split_ifs
  · exact wf_store _ _ _ ht
  · exact ht

@[simp] theorem wf_commandGroups (s : State) (sub v) (h : Memory.wf s.mem = true) : Memory.wf (commandGroups s sub v).mem = true := by
  simp [commandGroups, h]

@[simp] theorem wf_applyItem (s : State) (i) (h : Memory.wf s.mem = true) : Memory.wf (applyItem s i).mem = true := by simp [applyItem, h]

@[simp] theorem wf_applyDomain (s : State) (k old) (h : Memory.wf s.mem = true) : Memory.wf (applyDomain s k old).mem = true := by
  simp [applyDomain, h]

@[simp] theorem commandEngines_mem (s : State) (idx sub v) : (commandEngines s idx sub v).mem = s.mem := by simp [commandEngines]
@[simp] theorem signedBy_mem (s : State) (n bit content sig) : (signedBy s n bit content sig).2.mem = s.mem := by simp [signedBy]
@[simp] theorem setSigned_mem (s : State) (b) : (setSigned s b).2.mem = s.mem := by simp [setSigned]
@[simp] theorem programSetCheck_mem (s : State) (b) : (programSetCheck s b).2.mem = s.mem := by simp [programSetCheck]
@[simp] theorem verifySet_mem (s : State) : (verifySet s).mem = s.mem := by simp [verifySet]

/-! ### The event recorder -/

@[simp] theorem showRecNo_mem (s : State) : (showRecNo s).mem = s.mem := by
  unfold showRecNo
  rw [setNum_mem, setNum_mem]

@[simp] theorem writeRecord_mem (s : State) (opTime type payload) : (writeRecord s opTime type payload).mem = s.mem := by simp [writeRecord]
@[simp] theorem closeRecord_mem (s : State) (op type payload) : (closeRecord s op type payload).mem = s.mem := by simp [closeRecord]
@[simp] theorem writeHeader_mem (s : State) : (writeHeader s).mem = s.mem := by simp [writeHeader]
@[simp] theorem writeBurn_mem (s : State) : (writeBurn s).mem = s.mem := by simp [writeBurn]

@[simp] theorem wf_loadBurn (s : State) (h : Memory.wf s.mem = true) : Memory.wf (loadBurn s).mem = true := by
  unfold loadBurn
  split
  · simp [h]
  · exact wf_foldl (fun t p ht => wf_wr t _ _ _ ht) _ h

@[simp] theorem sampleSecond_mem (s : State) : (sampleSecond s).mem = s.mem := by simp [sampleSecond]
@[simp] theorem startPeriod_mem (s : State) (start short) : (startPeriod s start short).mem = s.mem := by simp [startPeriod]

@[simp] theorem wf_runClose (s : State) (period recs stop op) (h : Memory.wf s.mem = true) : Memory.wf (runClose s period recs stop op).mem = true := by
  simp [runClose, h]

@[simp] theorem wf_closePeriod (s : State) (stop flags) (h : Memory.wf s.mem = true) : Memory.wf (closePeriod s stop flags).mem = true := by
  exact wf_inWindow _ _ _ (by simp [h]) (wf_runClose _ _ _ _ _ (by simp [h]))

theorem nextOk_execPeriodEnd (s : State) (h : Memory.wf s.mem = true) : NextOk (execPeriodEnd s) := by simp [execPeriodEnd, h]
@[simp] theorem wf_closeNow (s : State) (h : Memory.wf s.mem = true) : Memory.wf (closeNow s).mem = true := by simp [closeNow, h]
theorem nextOk_execHeaderWrite (s : State) (h : Memory.wf s.mem = true) : NextOk (execHeaderWrite s) := by simp [execHeaderWrite, h]
@[simp] theorem drainBacklog_mem (s : State) : (drainBacklog s).mem = s.mem := by simp [drainBacklog]
@[simp] theorem showRecState_mem (s : State) : (showRecState s).mem = s.mem := by simp [showRecState]
@[simp] theorem takeHeader_mem (s : State) (h) : (takeHeader s h).mem = s.mem := by simp [takeHeader]

@[simp] theorem startRecorder_mem (s : State) : (startRecorder s).mem = s.mem := by
  unfold startRecorder
  dsimp only
  repeat' split
  all_goals simp

theorem nextOk_execHeaderRebuildDone (s : State) (h : Memory.wf s.mem = true) : NextOk (execHeaderRebuildDone s) := by simp [execHeaderRebuildDone, h]
@[simp] theorem wf_commandRec (s : State) (h : Memory.wf s.mem = true) : Memory.wf (commandRec s).mem = true := by simp [commandRec, h]

/-! ### The tick start -/

@[simp] theorem wf_loadReports (s : State) (h : Memory.wf s.mem = true) : Memory.wf (loadReports s).mem = true := by
  unfold loadReports
  exact wf_store _ _ _ (wf_foldl (fun t l ht => wf_store t _ _ ht) _ h)

@[simp] theorem feedRecord_mem (s : State) (n half r) : (feedRecord s n half r).mem = s.mem := by simp [feedRecord]
@[simp] theorem dropUnfed_mem (s : State) (n) : (dropUnfed s n).mem = s.mem := by simp [dropUnfed]

@[simp] theorem feedScenes_mem (s : State) (ns) : (feedScenes s ns).mem = s.mem := by
  unfold feedScenes
  refine foldl_fst_mem (fun x n => ?_) _ _
  dsimp only
  split_ifs <;> simp

@[simp] theorem feedLane_mem (s : State) (codes n) : (feedLane s codes n).mem = s.mem := by simp [feedLane]
@[simp] theorem laneFeed_mem (s : State) : (laneFeed s).mem = s.mem := by simp [laneFeed]
@[simp] theorem noteDerating_mem (s : State) : (noteDerating s).mem = s.mem := by simp [noteDerating]

/-- `h1`: after the reports, recalls and releases, with the trip mask stored; `h3`: with the partition applied and every tick block written. -/
@[simp] theorem wf_engineTick (s : State) (h : Memory.wf s.mem = true) : Memory.wf (engineTick s).mem = true := by
  unfold engineTick
  dsimp only
  have h1 := wf_wr _ aTrip 8 (nat (overrideRelease (scheduleRecall (loadReports s))) (kSafety 2))
    (wf_overrideRelease _ (wf_scheduleRecall _ (wf_loadReports s h)))
  have h3 := wf_foldl wf_startTick (List.range 16) ((flipHalves_mem _).symm ▸ wf_applyPartition _ h1)
  simp [h3]

@[simp] theorem generatorStep_mem (s : State) : (generatorStep s).mem = s.mem := by simp [generatorStep]
@[simp] theorem wf_tickBody (s : State) (h : Memory.wf s.mem = true) : Memory.wf (tickBody s).mem = true := by simp [tickBody, h]

/-! ### The pair's journal -/

@[simp] theorem journal_mem (s : State) (items) : (journal s items).mem = s.mem := by simp [journal]
@[simp] theorem startSwap_mem (s : State) : (startSwap s).mem = s.mem := by simp [startSwap]

/-! ### Update waves -/

@[simp] theorem forwardOp_mem (s : State) (sid tid target side inner role timeout itid content) : (forwardOp s sid tid target side inner role timeout itid content).mem = s.mem := by
  simp [forwardOp]

@[simp] theorem setPhase_mem (s : State) (p) : (setPhase s p).mem = s.mem := by simp [setPhase]
@[simp] theorem dropWave_mem (s : State) : (dropWave s).mem = s.mem := by simp [dropWave]
@[simp] theorem holdWave_mem (s : State) (cause) : (holdWave s cause).mem = s.mem := by simp [holdWave]
@[simp] theorem waveAsk_mem (s : State) (target side o) : (waveAsk s target side o).mem = s.mem := by simp [waveAsk]
@[simp] theorem waveAskModule_mem (s : State) (o) : (waveAskModule s o).mem = s.mem := by simp [waveAskModule]
@[simp] theorem waveWrite_mem (s : State) : (waveWrite s).mem = s.mem := by simp [waveWrite]
@[simp] theorem waveFind_mem (s : State) : (waveFind s).mem = s.mem := by simp [waveFind]

@[simp] theorem waveNextRead_mem (s : State) (left) : (waveNextRead s left).mem = s.mem := by
  unfold waveNextRead
  split <;> simp

@[simp] theorem waveSegment_mem (s : State) (w) : (waveSegment s w).mem = s.mem := by simp [waveSegment]
@[simp] theorem waveDone_mem (s : State) : (waveDone s).mem = s.mem := by simp [waveDone]
@[simp] theorem waveSwap_mem (s : State) : (waveSwap s).mem = s.mem := by simp [waveSwap]
@[simp] theorem waveSecondSide_mem (s : State) : (waveSecondSide s).mem = s.mem := by simp [waveSecondSide]
@[simp] theorem waveBlock_mem (s : State) (off) : (waveBlock s off).mem = s.mem := by simp [waveBlock]

@[simp] theorem waveResponse_mem (s : State) (status b) : (waveResponse s status b).mem = s.mem := by
  unfold waveResponse
  dsimp only
  repeat' split
  all_goals simp

@[simp] theorem wavePoll_mem (s : State) : (wavePoll s).mem = s.mem := by simp [wavePoll]
@[simp] theorem waveStart_mem (s : State) : (waveStart s).mem = s.mem := by simp [waveStart]
@[simp] theorem waveResume_mem (s : State) : (waveResume s).mem = s.mem := by simp [waveResume]
@[simp] theorem commandWave_mem (s : State) (v) : (commandWave s v).mem = s.mem := by simp [commandWave]
theorem nextOk_execWaveSettle (s : State) (h : Memory.wf s.mem = true) : NextOk (execWaveSettle s) := by simp [execWaveSettle, h]
theorem nextOk_execWaveTimeout (s : State) (h : Memory.wf s.mem = true) : NextOk (execWaveTimeout s) := by simp [execWaveTimeout, h]

/-! ### A manager's duties -/

@[simp] theorem dutyAsk_mem (s : State) (w o content) : (dutyAsk s w o content).mem = s.mem := by simp [dutyAsk]
@[simp] theorem dutyBegin_mem (s : State) (w k) : (dutyBegin s w k).mem = s.mem := by simp [dutyBegin]

@[simp] theorem dutyNext_mem (s : State) (w) : (dutyNext s w).mem = s.mem := by
  unfold dutyNext
  split
  · simp
  · split <;> simp

@[simp] theorem dutyAdd_mem (s : State) (w k) : (dutyAdd s w k).mem = s.mem := by simp [dutyAdd]
@[simp] theorem assignTo_mem (s : State) (w new) : (assignTo s w new).mem = s.mem := by simp [assignTo]
@[simp] theorem assignAll_mem (s : State) : (assignAll s).mem = s.mem := by simp [assignAll]
@[simp] theorem workerJoins_mem (s : State) (w) : (workerJoins s w).mem = s.mem := by simp [workerJoins]
@[simp] theorem contentChanged_mem (s : State) (k) : (contentChanged s k).mem = s.mem := by simp [contentChanged]
@[simp] theorem neighboursChanged_mem (s : State) : (neighboursChanged s).mem = s.mem := by simp [neighboursChanged]
@[simp] theorem dutyOver_mem (s : State) (f) : (dutyOver s f).mem = s.mem := by simp [dutyOver]
@[simp] theorem dutySend_mem (s : State) (f h off) : (dutySend s f h off).mem = s.mem := by simp [dutySend]

@[simp] theorem dutyResponse_mem (s : State) (f status b) : (dutyResponse s f status b).mem = s.mem := by
  unfold dutyResponse
  split
  · simp
  · split <;> simp

theorem nextOk_execMeshBeacon (ext rx) (s : State) (h : Memory.wf s.mem = true) : NextOk (execMeshBeacon ext rx s) := by
  unfold execMeshBeacon
  rw [nextOk_next]
  rw [← openMesh_mem s ext.toNat rx] at h
  generalize openMesh s ext.toNat rx = x at h ⊢
  obtain ⟨_ | m, s1⟩ := x
  · exact h
  · dsimp only at h ⊢
    repeat' split
    all_goals simp [h]

/-! ### Issue of an engine instruction -/

@[simp] theorem issue_mem (k) (s : State) (f : Engine → State) (h : (f (engine s k)).mem = s.mem) : (issue k s f).mem = s.mem := by
  simp [issue, h]
theorem wf_issue (k) (s : State) (f : Engine → State) (h : Memory.wf s.mem = true) (hf : Memory.wf (f (engine s k)).mem = true) :
    Memory.wf (issue k s f).mem = true := by
  simp [issue, h, hf]

/-- An instruction that only changes its engine. -/
theorem nextOk_simple (k) (s : State) (f) (h : Memory.wf s.mem = true) : NextOk (simple k s f) :=
  (nextOk_next _).2 (wf_issue _ _ _ h h)

/-! ### Branches and loops -/

theorem nextOk_branch (k off) (s : State) (f) (h : Memory.wf s.mem = true) : NextOk (branch k off s f) := by
  unfold branch
  split
  · exact (nextOk_next _).2 (wf_issue _ _ _ h h)
  · split_ifs
    · exact nextOk_refused _
    · exact (nextOk_next _).2 (wf_issue _ _ _ h h)

theorem nextOk_execJal (k d off) (s : State) (h : Memory.wf s.mem = true) : NextOk (execJal k d off s) := by
  unfold execJal
  split
  · exact (nextOk_next _).2 (wf_issue _ _ _ h h)
  · split_ifs
    · exact nextOk_refused _
    · exact (nextOk_next _).2 (wf_issue _ _ _ h h)

theorem nextOk_execJr (k a) (s : State) (h : Memory.wf s.mem = true) : NextOk (execJr k a s) :=
  (nextOk_next _).2 (wf_issue _ _ _ h h)

theorem nextOk_execLoop (k unit count len) (s : State) (h : Memory.wf s.mem = true) : NextOk (execLoop k unit count len s) := by
  unfold execLoop
  dsimp only
  split
  · exact nextOk_refused _
  · exact (nextOk_next _).2 (wf_issue _ _ _ h h)

theorem nextOk_execLoopEnd (k unit) (s : State) (h : Memory.wf s.mem = true) : NextOk (execLoopEnd k unit s) := by simp [execLoopEnd, h]

/-! ### Vector instructions -/

/-! ### Memory, event, DMA and mailbox instructions -/

/-- An instruction that raises an exception stores nothing; one that does not does what `f` says. -/
@[simp] theorem nextOk_guarded (k) (s : State) (err) (f : Engine → State) (h : Memory.wf s.mem = true) (hf : ∀ e, Memory.wf (f e).mem = true) :
    NextOk (guarded k s err f) := by
  refine (nextOk_next _).2 (wf_issue _ _ _ h ?_)
  split
  · simp [h]
  · exact hf _

theorem nextOk_execVlut (k d a b sh g) (s : State) (h : Memory.wf s.mem = true) : NextOk (execVlut k d a b sh g s) := by simp [execVlut, h]
theorem nextOk_execVlutl (k d a b sh g) (s : State) (h : Memory.wf s.mem = true) : NextOk (execVlutl k d a b sh g s) := by simp [execVlutl, h]
theorem nextOk_execLd (k d a sz off) (s : State) (h : Memory.wf s.mem = true) : NextOk (execLd k d a sz off s) := by simp [execLd, h]
theorem nextOk_execLdu (k d a sz off) (s : State) (h : Memory.wf s.mem = true) : NextOk (execLdu k d a sz off s) := by simp [execLdu, h]
theorem nextOk_execSt (k d a sz off) (s : State) (h : Memory.wf s.mem = true) : NextOk (execSt k d a sz off s) := by simp [execSt, h]

@[simp] theorem wf_storeLanes (s : State) (k e d pg addr) (h : Memory.wf s.mem = true) : Memory.wf (storeLanes s k e d pg addr).mem = true := by
  unfold storeLanes
  exact wf_foldl (fun t x ht => by split_ifs <;> simp [ht]) _ h

theorem nextOk_execVld (k d a pg off) (s : State) (h : Memory.wf s.mem = true) : NextOk (execVld k d a pg off s) := by simp [execVld, h]
theorem nextOk_execVst (k d a pg off) (s : State) (h : Memory.wf s.mem = true) : NextOk (execVst k d a pg off s) := by simp [execVst, h]
theorem nextOk_execVgath (k d a b sh g) (s : State) (h : Memory.wf s.mem = true) : NextOk (execVgath k d a b sh g s) := by simp [execVgath, h]
theorem nextOk_execVscat (k d a b sh pg) (s : State) (h : Memory.wf s.mem = true) : NextOk (execVscat k d a b sh pg s) := by simp [execVscat, h]

@[simp] theorem wf_takeEvent (s : State) (k d addr e) (h : Memory.wf s.mem = true) : Memory.wf (takeEvent s k d addr e).mem = true := by
  unfold takeEvent
  split
  · exact h
  · exact wf_store _ _ _ h

theorem nextOk_execEwait (k d a) (s : State) (h : Memory.wf s.mem = true) : NextOk (execEwait k d a s) := by simp [execEwait, h]

theorem nextOk_execEwaitBlocking (k d a) (s : State) (h : Memory.wf s.mem = true) : NextOk (execEwaitBlocking k d a s) := by
  simp [execEwaitBlocking, h]

theorem nextOk_execEwaitWake (k) (s : State) (h : Memory.wf s.mem = true) : NextOk (execEwaitWake k s) := by
  unfold execEwaitWake
  rw [nextOk_next]
  split <;> simp [h]

@[simp] theorem wf_postDescriptor (s : State) (k a ch e) (h : Memory.wf s.mem = true) : Memory.wf (postDescriptor s k a ch e).mem = true := by
  simp [postDescriptor, h]

theorem nextOk_execDpost (k a ch) (s : State) (h : Memory.wf s.mem = true) : NextOk (execDpost k a ch s) := by simp [execDpost, h]

theorem nextOk_execDpostUnstall (k) (s : State) (h : Memory.wf s.mem = true) : NextOk (execDpostUnstall k s) := by
  unfold execDpostUnstall
  rw [nextOk_next]
  split <;> simp [h]

@[simp] theorem wf_handMailbox (s : State) (k a e) (h : Memory.wf s.mem = true) : Memory.wf (handMailbox s k a e).mem = true := by
  unfold handMailbox
  split_ifs
  · exact h
  · exact wf_store _ _ _ h

theorem nextOk_execMbox (k a) (s : State) (h : Memory.wf s.mem = true) : NextOk (execMbox k a s) := by simp [execMbox, h]

theorem nextOk_execMboxUnstall (k) (s : State) (h : Memory.wf s.mem = true) : NextOk (execMboxUnstall k s) := by
  unfold execMboxUnstall
  rw [nextOk_next]
  split <;> simp [h]

@[simp] theorem purgeRing_mem (s : State) : (purgeRing s).mem = s.mem := by simp [purgeRing]
@[simp] theorem postMessage_mem (s : State) (k msg) : (postMessage s k msg).mem = s.mem := by simp [postMessage]
theorem nextOk_mpost (k a) (s : State) (h : Memory.wf s.mem = true) : NextOk (mpost k a s) := by simp [mpost, h]
theorem nextOk_execFence (k) (s : State) (h : Memory.wf s.mem = true) : NextOk (execFence k s) := by simp [execFence, h]

/-! ### The floor bus -/

@[simp] theorem refreshKey_mem (s : State) (k ask) : (refreshKey s k ask).mem = s.mem := by simp [refreshKey]
@[simp] theorem showBus_mem (s : State) (k) : (showBus s k).mem = s.mem := by simp [showBus]
@[simp] theorem joinBus_mem (s : State) (k) : (joinBus s k).mem = s.mem := by simp [joinBus]
@[simp] theorem unrestrict_mem (s : State) (k) : (unrestrict s k).mem = s.mem := by simp [unrestrict]
@[simp] theorem enableBus_mem (s : State) (k) : (enableBus s k).mem = s.mem := by simp [enableBus]
@[simp] theorem startBuses_mem (s : State) : (startBuses s).mem = s.mem := by simp [startBuses]
@[simp] theorem masterServo_mem (s : State) : (masterServo s).mem = s.mem := by simp [masterServo]
@[simp] theorem sendReference_mem (s : State) (k r) : (sendReference s k r).mem = s.mem := by simp [sendReference]
@[simp] theorem takeMastership_mem (s : State) (k r) : (takeMastership s k r).mem = s.mem := by simp [takeMastership]
@[simp] theorem endReferenceLoss_mem (s : State) : (endReferenceLoss s).mem = s.mem := by simp [endReferenceLoss]

theorem nextOk_execJoinTimeout (k) (s : State) (h : Memory.wf s.mem = true) : NextOk (execJoinTimeout k s) := by
  unfold execJoinTimeout
  rw [nextOk_next]
  split
  · split <;> simp [h]
  · exact h

theorem nextOk_execMissingReference (k won) (s : State) (h : Memory.wf s.mem = true) : NextOk (execMissingReference k won s) := by
  unfold execMissingReference
  rw [nextOk_next]
  split <;> simp [h]

theorem nextOk_execReferenceLost (k) (s : State) (h : Memory.wf s.mem = true) : NextOk (execReferenceLost k s) := by simp [execReferenceLost, h]

@[simp] theorem referenceServo_mem (s : State) (k n prev) : (referenceServo s k n prev).mem = s.mem := by
  unfold referenceServo
  split <;> simp

@[simp] theorem noteMaster_mem (s : State) (k r) : (noteMaster s k r).mem = s.mem := by simp [noteMaster]
theorem nextOk_execReference (k r data) (s : State) (h : Memory.wf s.mem = true) : NextOk (execReference k r data s) := by simp [execReference, h]
@[simp] theorem actOnAlarm_mem (s : State) (k z) : (actOnAlarm s k z).mem = s.mem := by simp [actOnAlarm]
@[simp] theorem relayAlarm_mem (s : State) (k z) : (relayAlarm s k z).mem = s.mem := by simp [relayAlarm]
theorem nextOk_execAlarmFrame (k z data) (s : State) (h : Memory.wf s.mem = true) : NextOk (execAlarmFrame k z data s) := by simp [execAlarmFrame, h]

theorem nextOk_execStatusFrame (k node data) (s : State) (h : Memory.wf s.mem = true) : NextOk (execStatusFrame k node data s) := by
  simp [execStatusFrame, h]

@[simp] theorem sendAlarms_mem (k zs t) (s : State) : (sendAlarms k zs t s).mem = s.mem := by
  induction zs generalizing t s with
  | nil => rfl
  | cons z zs ih => simp [sendAlarms, ih]

@[simp] theorem exclusive_mem (s : State) (k t) (send : State → State) (h : (send s).mem = s.mem) : (exclusive s k t send).mem = s.mem := by
  simp [exclusive, h]

@[simp] theorem sendStatus_mem (s : State) (k n) : (sendStatus s k n).mem = s.mem := by simp [sendStatus]

@[simp] theorem sendDict_mem (s : State) (k n) : (sendDict s k n).mem = s.mem := by
  unfold sendDict
  split <;> simp

@[simp] theorem windowReference_mem (s : State) (k t) : (windowReference s k t).mem = s.mem := by
  unfold windowReference
  split_ifs
  · split <;> simp
  · split
    · split_ifs <;> simp
    · rfl

theorem nextOk_execWindowStart (k w t) (s : State) (h : Memory.wf s.mem = true) : NextOk (execWindowStart k w t s) := by
  unfold execWindowStart
  dsimp only
  rw [nextOk_next]
  repeat' split
  all_goals simp [h]

@[simp] theorem noteCounters_mem (s : State) (k tec rec_) : (noteCounters s k tec rec_).mem = s.mem := by simp [noteCounters]
@[simp] theorem endPassive_mem (s : State) (k) : (endPassive s k).mem = s.mem := by simp [endPassive]

theorem nextOk_execErrorPassive (k tec rec_) (s : State) (h : Memory.wf s.mem = true) : NextOk (execErrorPassive k tec rec_ s) := by
  simp [execErrorPassive, h]

theorem nextOk_execBusOff (k) (s : State) (h : Memory.wf s.mem = true) : NextOk (execBusOff k s) := by simp [execBusOff, h]
theorem nextOk_execBusOffRecovery (k) (s : State) (h : Memory.wf s.mem = true) : NextOk (execBusOffRecovery k s) := by simp [execBusOffRecovery, h]
@[simp] theorem cycleBuses_mem (s : State) : (cycleBuses s).mem = s.mem := by simp [cycleBuses]
@[simp] theorem afterBus_mem (s : State) (idx sub old) : (afterBus s idx sub old).mem = s.mem := by simp [afterBus]
@[simp] theorem commandBus_mem (s : State) (idx) : (commandBus s idx).mem = s.mem := by simp [commandBus]

/-! ### What applied requests do -/

@[simp] theorem gpioModeSet_mem (s : State) (n old) : (gpioModeSet s n old).mem = s.mem := by simp [gpioModeSet]
@[simp] theorem setAny_mem (s : State) (k v) : (setAny s k v).mem = s.mem := by simp [setAny]
@[simp] theorem afterWrite_mem (s : State) (idx sub old) : (afterWrite s idx sub old).mem = s.mem := by simp [afterWrite]

@[simp] theorem wf_runCommand (s : State) (idx sub v) (h : Memory.wf s.mem = true) : Memory.wf (runCommand s idx sub v).mem = true := by
  simp [runCommand, h]

@[simp] theorem wf_applyWrite (s : State) (i) (h : Memory.wf s.mem = true) : Memory.wf (applyWrite s i).mem = true := by simp [applyWrite, h]

@[simp] theorem wf_applyItems (s : State) (items) (h : Memory.wf s.mem = true) : Memory.wf (applyItems s items).mem = true := by
  unfold applyItems
  rw [journal_mem]
  exact wf_foldl wf_applyWrite _ h

@[simp] theorem makeDurable_mem (s : State) (items) : (makeDurable s items).mem = s.mem := by simp [makeDurable]
@[simp] theorem checkContent_mem (s : State) (k b) : (checkContent s k b).2.mem = s.mem := by simp [checkContent]

@[simp] theorem wf_afterContent (s : State) (k old) (h : Memory.wf s.mem = true) : Memory.wf (afterContent s k old).mem = true := by
  simp [afterContent, h]

@[simp] theorem storeContent_mem (s : State) (k b) : (storeContent s k b).mem = s.mem := by simp [storeContent]

@[simp] theorem wf_applyContent (s : State) (k old) (h : Memory.wf s.mem = true) : Memory.wf (applyContent s k old).mem = true := by
  simp [applyContent, h]

@[simp] theorem wf_answerMailbox (s : State) (k op status body) (h : Memory.wf s.mem = true) : Memory.wf (answerMailbox s k op status body).mem = true := by
  unfold answerMailbox
  dsimp only
  split
  · exact h
  · rw [postEvent_mem, putEngine_mem]
    split_ifs
    · exact wf_store _ _ _ (wf_store _ _ _ (wf_store _ _ _ h))
    · exact wf_store _ _ _ h

@[simp] theorem wf_respond (s : State) (sid tid op status body inner) (h : Memory.wf s.mem = true) : Memory.wf (respond s sid tid op status body inner).mem = true := by
  unfold respond
  split
  · exact wf_answerMailbox _ _ _ _ _ h
  split
  · exact h
  split
  · exact h
  · split <;> simp [h]

@[simp] theorem wf_runTask (s : State) (t) (h : Memory.wf s.mem = true) : Memory.wf (runTask s t).mem = true := by
  cases t <;> simp [runTask, h]

@[simp] theorem wf_finishChange (s : State) (w) (h : Memory.wf s.mem = true) : Memory.wf (finishChange s w).mem = true := by
  unfold finishChange
  split
  · exact wf_runTask _ _ h
  · refine wf_respond _ _ _ _ _ _ _ ?_
    split
    · exact wf_applyContent _ _ _ (wf_applyItems _ _ h)
    · exact wf_applyItems _ _ h

@[simp] theorem sendNotify_mem (s : State) (sid body) : (sendNotify s sid body).mem = s.mem := by simp [sendNotify]
@[simp] theorem putSub_mem (s : State) (b) : (putSub s b).mem = s.mem := by simp [putSub]

@[simp] theorem liveNotice_mem (s : State) (b sub) : (liveNotice s b sub).mem = s.mem := by
  unfold liveNotice
  dsimp only
  repeat' split
  all_goals simp

@[simp] theorem markNotified_mem (s : State) (b k) : (markNotified s b k).mem = s.mem := by
  unfold markNotified
  split <;> simp

theorem nextOk_execNotifyOnChange (sub) (s : State) (h : Memory.wf s.mem = true) : NextOk (execNotifyOnChange sub s) := by
  unfold execNotifyOnChange
  dsimp only
  rw [nextOk_next]
  repeat' split
  all_goals simp [h]

theorem nextOk_execNotifyPeriodic (sub) (s : State) (h : Memory.wf s.mem = true) : NextOk (execNotifyPeriodic sub s) := by
  unfold execNotifyPeriodic
  rw [nextOk_next]
  split <;> simp [h]

/-! ### Dictionary images -/

@[simp] theorem imageOk_mem (s : State) (sid p) : (imageOk s sid p).2.mem = s.mem := by
  unfold imageOk
  split
  · simp
  · split <;> simp

@[simp] theorem takeImage_mem (s : State) (p) : (takeImage s p).2.mem = s.mem := by simp [takeImage]

/-! ### The dictionary server -/

@[simp] theorem refuse_mem (s : State) (e) : (refuse s e).2.mem = s.mem := by simp [refuse]
@[simp] theorem fits_mem (s : State) (sid body) : (fits s sid body).2.mem = s.mem := by simp [fits]
@[simp] theorem serveRead_mem (s : State) (sid r) : (serveRead s sid r).2.mem = s.mem := by simp [serveRead]
@[simp] theorem serveReadMulti_mem (s : State) (sid rs) : (serveReadMulti s sid rs).2.mem = s.mem := by simp [serveReadMulti]

@[simp] theorem wf_acceptItems (s : State) (sid tid op asked inner) (h : Memory.wf s.mem = true) : Memory.wf (acceptItems s sid tid op asked inner).2.mem = true := by
  simp [acceptItems, h]

@[simp] theorem wf_serveWrite (s : State) (sid tid op isCmd r v inner) (h : Memory.wf s.mem = true) : Memory.wf (serveWrite s sid tid op isCmd r v inner).2.mem = true := by
  simp [serveWrite, h]

@[simp] theorem wf_serveWriteMulti (s : State) (sid tid op is inner) (h : Memory.wf s.mem = true) : Memory.wf (serveWriteMulti s sid tid op is inner).2.mem = true := by
  unfold serveWriteMulti
  dsimp only
  repeat' split
  all_goals simp [h]

@[simp] theorem putTransfer_mem (s : State) (t) : (putTransfer s t).mem = s.mem := by simp [putTransfer]
@[simp] theorem touchTransfer_mem (s : State) (t) : (touchTransfer s t).mem = s.mem := by simp [touchTransfer]

@[simp] theorem serveBegin_mem (s : State) (sid r write size crc) : (serveBegin s sid r write size crc).2.mem = s.mem := by
  unfold serveBegin
  split <;> simp

@[simp] theorem serveData_mem (s : State) (sid h off arg) : (serveData s sid h off arg).2.mem = s.mem := by
  unfold serveData
  dsimp only
  repeat' split
  all_goals simp

@[simp] theorem wf_acceptContent (s : State) (sid tid k b inner) (h : Memory.wf s.mem = true) : Memory.wf (acceptContent s sid tid k b inner).2.mem = true := by
  simp [acceptContent, h]

@[simp] theorem closedTransfer_mem (s : State) (t) : (closedTransfer s t).mem = s.mem := by simp [closedTransfer]

@[simp] theorem wf_acceptImage (s : State) (sid tid b inner) (h : Memory.wf s.mem = true) : Memory.wf (acceptImage s sid tid b inner).2.mem = true := by
  simp [acceptImage, h]

@[simp] theorem wf_endImage (s : State) (t sid tid inner) (h : Memory.wf s.mem = true) : Memory.wf (endImage s t sid tid inner).2.mem = true := by
  simp [endImage, h]

@[simp] theorem endPackage_mem (s : State) (t) : (endPackage s t).2.mem = s.mem := by simp [endPackage]

@[simp] theorem wf_endContent (s : State) (t sid tid inner) (h : Memory.wf s.mem = true) : Memory.wf (endContent s t sid tid inner).2.mem = true := by
  simp [endContent, h]

@[simp] theorem wf_serveEnd (s : State) (sid tid h' inner) (h : Memory.wf s.mem = true) : Memory.wf (serveEnd s sid tid h' inner).2.mem = true := by
  unfold serveEnd
  split
  · simp [h]
  · split_ifs <;> simp [h]

@[simp] theorem serveSubscribe_mem (s : State) (sid r mode interval) : (serveSubscribe s sid r mode interval).2.mem = s.mem := by
  unfold serveSubscribe
  dsimp only
  repeat' split
  all_goals simp

@[simp] theorem authFailed_mem (s : State) (sid) : (authFailed s sid).mem = s.mem := by simp [authFailed]
@[simp] theorem serveAuthBegin_mem (s : State) (sid n) : (serveAuthBegin s sid n).2.mem = s.mem := by simp [serveAuthBegin]

@[simp] theorem serveAuthProve_mem (s : State) (sid tid tag) : (serveAuthProve s sid tid tag).2.mem = s.mem := by
  unfold serveAuthProve
  split <;> simp

@[simp] theorem wf_perform (s : State) (sid tid o inner) (h : Memory.wf s.mem = true) : Memory.wf (perform s sid tid o inner).2.mem = true := by
  unfold perform
  dsimp only
  split_ifs
  · simp [h]
  · cases o <;> simp [h]

@[simp] theorem conclude_mem (s : State) (sid tid o r) : (conclude s sid tid o r).mem = s.mem := by
  unfold conclude
  dsimp only
  repeat' split
  all_goals simp

@[simp] theorem proxyAnswer_mem (s : State) (sid tid enclosed) : (proxyAnswer s sid tid enclosed).mem = s.mem := by simp [proxyAnswer]
@[simp] theorem setLimit_mem (s : State) (q) : (setLimit s q).mem = s.mem := by simp [setLimit]

@[simp] theorem mayRun_mem (s : State) (q code) : (mayRun s q code).2.mem = s.mem := by
  unfold mayRun
  dsimp only
  repeat' split
  all_goals simp

@[simp] theorem holdReq_mem (s : State) (h) : (holdReq s h).mem = s.mem := by simp [holdReq]
@[simp] theorem wf_serveNow (s : State) (q o) (h : Memory.wf s.mem = true) : Memory.wf (serveNow s q o).mem = true := by simp [serveNow, h]
@[simp] theorem wf_serve (s : State) (q o) (h : Memory.wf s.mem = true) : Memory.wf (serve s q o).mem = true := by simp [serve, h]

@[simp] theorem wf_performProxy (s : State) (q p) (h : Memory.wf s.mem = true) : Memory.wf (performProxy s q p).mem = true := by
  unfold performProxy
  dsimp only
  repeat' split
  all_goals simp [h]

@[simp] theorem wf_proxyNow (s : State) (q p) (h : Memory.wf s.mem = true) : Memory.wf (proxyNow s q p).mem = true := by
  unfold proxyNow
  split
  · simp [h]
  · simp [h]
  · simp [h]
  · split_ifs <;> simp [h]

@[simp] theorem wf_serveProxy (s : State) (q p) (h : Memory.wf s.mem = true) : Memory.wf (serveProxy s q p).mem = true := by simp [serveProxy, h]

@[simp] theorem wf_serveHeld (s : State) (x) (h : Memory.wf s.mem = true) : Memory.wf (serveHeld s x).mem = true := by
  unfold serveHeld
  dsimp only
  split
  · exact h
  · split <;> simp [h]

@[simp] theorem wf_drainHeld (hs) (s : State) (h : Memory.wf s.mem = true) : Memory.wf (drainHeld hs s).mem = true := by
  unfold drainHeld
  exact wf_foldl (fun t x ht => by simp [ht]) _ h

theorem nextOk_execInputChangeApplied (s : State) (h : Memory.wf s.mem = true) : NextOk (execInputChangeApplied s) := by
  unfold execInputChangeApplied
  rw [nextOk_next]
  split <;> simp [h]

theorem nextOk_execTransferTimeout (sid handle) (s : State) (h : Memory.wf s.mem = true) : NextOk (execTransferTimeout sid handle s) := by
  unfold execTransferTimeout
  rw [nextOk_next]
  split <;> simp [h]

theorem nextOk_execAuthLockoutEnd (t) (s : State) (h : Memory.wf s.mem = true) : NextOk (execAuthLockoutEnd t s) := by
  unfold execAuthLockoutEnd
  rw [nextOk_next]
  split <;> simp [h]

/-! ### Transports, console and mailboxes -/

theorem nextOk_execProxyRetry (n) (s : State) (h : Memory.wf s.mem = true) : NextOk (execProxyRetry n s) := by
  unfold execProxyRetry
  rw [nextOk_next]
  split <;> simp [h]

@[simp] theorem dropFlight_mem (s : State) (n) : (dropFlight s n).mem = s.mem := by simp [dropFlight]

theorem nextOk_execProxyResponse (n body) (s : State) (h : Memory.wf s.mem = true) : NextOk (execProxyResponse n body s) := by
  unfold execProxyResponse
  rw [nextOk_next]
  split_ifs
  · simp [h]
  · split <;> simp [h]

theorem nextOk_execProxyTimeout (n) (s : State) (h : Memory.wf s.mem = true) : NextOk (execProxyTimeout n s) := by
  unfold execProxyTimeout
  rw [nextOk_next]
  split <;> simp [h]

@[simp] theorem wf_takeMessage (s : State) (sid m) (h : Memory.wf s.mem = true) : Memory.wf (takeMessage s sid m).mem = true := by
  unfold takeMessage
  dsimp only
  split_ifs
  · exact h
  · simp [h]
  · exact h
  · simp [h]
  · split <;> simp [h]
  · simp [h]

@[simp] theorem hostError_mem (s : State) : (hostError s).mem = s.mem := by simp [hostError]

theorem nextOk_execHostSpiTransaction (xfer) (s : State) (h : Memory.wf s.mem = true) : NextOk (execHostSpiTransaction xfer s) := by
  simp [execHostSpiTransaction, h]

@[simp] theorem wf_consoleWrite (s : State) (isCmd r text) (h : Memory.wf s.mem = true) : Memory.wf (consoleWrite s isCmd r text).mem = true := by
  unfold consoleWrite
  dsimp only
  split
  · simp [h]
  · split <;> simp [h]

@[simp] theorem wf_consoleList (s : State) (idx) (h : Memory.wf s.mem = true) : Memory.wf (consoleList s idx).mem = true := by
  unfold consoleList
  split
  · exact h
  · exact wf_foldl (fun t x ht => wf_serve t _ _ ht) _ h

@[simp] theorem wf_consoleCommand (s : State) (line) (h : Memory.wf s.mem = true) : Memory.wf (consoleCommand s line).mem = true := by
  unfold consoleCommand
  dsimp only
  repeat' split
  all_goals simp [h]

theorem nextOk_execConsoleLine (line) (s : State) (h : Memory.wf s.mem = true) : NextOk (execConsoleLine line s) := by simp [execConsoleLine, h]
@[simp] theorem putAsm_mem (s : State) (key r) : (putAsm s key r).mem = s.mem := by simp [putAsm]

@[simp] theorem asmFail_mem (s : State) (key) : (asmFail s key).mem = s.mem := by
  unfold asmFail
  split <;> simp

@[simp] theorem asmClose_mem (s : State) (key last) : (asmClose s key last).mem = s.mem := by simp [asmClose]

@[simp] theorem wf_joinSegment (s : State) (k node r tag seg last data) (h : Memory.wf s.mem = true) : Memory.wf (joinSegment s k node r tag seg last data).mem = true := by
  simp [joinSegment, h]

@[simp] theorem wf_takeSegment (s : State) (k node d) (h : Memory.wf s.mem = true) : Memory.wf (takeSegment s k node d).mem = true := by
  unfold takeSegment
  dsimp only
  repeat' split
  all_goals simp [h]

theorem nextOk_execDictFrame (k toNode node data) (s : State) (h : Memory.wf s.mem = true) : NextOk (execDictFrame k toNode node data s) := by
  simp [execDictFrame, h]

theorem nextOk_execFloorSegmentTimeout (k node tag) (s : State) (h : Memory.wf s.mem = true) : NextOk (execFloorSegmentTimeout k node tag s) := by
  simp [execFloorSegmentTimeout, h]

theorem nextOk_execAirMdp (h rx) (s : State) (hm : Memory.wf s.mem = true) : NextOk (execAirMdp h rx s) := by
  unfold execAirMdp
  rw [nextOk_next]
  rw [← receiveAir_mem s h 2 (fun m => recFlag (partnerRec s h) 2 && m.length ≤ 65) rx] at hm
  generalize receiveAir s h 2 (fun m => recFlag (partnerRec s h) 2 && m.length ≤ 65) rx = x at hm ⊢
  obtain ⟨_ | m, s1⟩ := x
  · exact hm
  · exact wf_takeMessage _ _ _ (by simpa using hm)

@[simp] theorem refuseHandshake_mem (s : State) (sid alert) : (refuseHandshake s sid alert).mem = s.mem := by simp [refuseHandshake]
@[simp] theorem takeHandshake_mem (s : State) (hs) : (takeHandshake s hs).mem = s.mem := by simp [takeHandshake]

theorem nextOk_execDtlsHandshake (d) (s : State) (h : Memory.wf s.mem = true) : NextOk (execDtlsHandshake d s) := by
  unfold execDtlsHandshake
  dsimp only
  rw [nextOk_next]
  repeat' split
  all_goals simp [h]

theorem nextOk_execSessionTimeout (sid) (s : State) (h : Memory.wf s.mem = true) : NextOk (execSessionTimeout sid s) := by
  simp [execSessionTimeout, h]

@[simp] theorem wf_serveMailbox (s : State) (k) (h : Memory.wf s.mem = true) : Memory.wf (serveMailbox s k).mem = true := by
  unfold serveMailbox
  dsimp only
  repeat' split
  all_goals simp [h]

theorem nextOk_execMailboxResponse (k) (s : State) (h : Memory.wf s.mem = true) : NextOk (execMailboxResponse k s) := by simp [execMailboxResponse, h]

/-! ### The redundant pair -/

@[simp] theorem setRole_mem (s : State) (r) : (setRole s r).mem = s.mem := by simp [setRole]
@[simp] theorem sendBeat_mem (s : State) : (sendBeat s).mem = s.mem := by simp [sendBeat]
@[simp] theorem sendMark_mem (s : State) : (sendMark s).mem = s.mem := by simp [sendMark]

@[simp] theorem sendCopy_mem (s : State) : (sendCopy s).mem = s.mem := by
  unfold sendCopy
  dsimp only
  split_ifs
  · rfl
  · rw [emit_mem]
    rw [foldl_mem fun t i => emit_mem t _]

@[simp] theorem pairCycle_mem (s : State) : (pairCycle s).mem = s.mem := by
  unfold pairCycle
  dsimp only
  split <;> simp

theorem nextOk_execSegmentCycleStart (beat0 beat1) (s : State) (h : Memory.wf s.mem = true) : NextOk (execSegmentCycleStart beat0 beat1 s) := by
  simp [execSegmentCycleStart, h]

@[simp] theorem takeLane_mem (s : State) (n) : (takeLane s n).mem = s.mem := by simp [takeLane]

@[simp] theorem keepCopied_mem (s : State) (x) : (keepCopied s x).mem = s.mem := by
  unfold keepCopied
  split <;> simp

@[simp] theorem takeRole_mem (s : State) : (takeRole s).mem = s.mem := by simp [takeRole]
@[simp] theorem leaveRole_mem (s : State) : (leaveRole s).mem = s.mem := by simp [leaveRole]
@[simp] theorem resolveRole_mem (s : State) : (resolveRole s).mem = s.mem := by simp [resolveRole]
theorem nextOk_execArbGrantRise (s : State) (h : Memory.wf s.mem = true) : NextOk (execArbGrantRise s) := by simp [execArbGrantRise, h]
theorem nextOk_execArbGrantFall (s : State) (h : Memory.wf s.mem = true) : NextOk (execArbGrantFall s) := by simp [execArbGrantFall, h]
@[simp] theorem followFields_mem (s : State) (m) : (followFields s m).mem = s.mem := by simp [followFields]

@[simp] theorem compareEmg_mem (s : State) (emg) : (compareEmg s emg).mem = s.mem := by
  unfold compareEmg
  split
  · simp
  · split <;> simp

@[simp] theorem roleConflict_mem (s : State) (peerClaims) : (roleConflict s peerClaims).mem = s.mem := by simp [roleConflict]
@[simp] theorem seePeer_mem (s : State) (m) : (seePeer s m).mem = s.mem := by simp [seePeer]

theorem nextOk_execCycleMark (cycle valid queueFull m) (s : State) (h : Memory.wf s.mem = true) : NextOk (execCycleMark cycle valid queueFull m s) := by
  simp [execCycleMark, h]

theorem nextOk_execStitchLinkDown (s : State) (h : Memory.wf s.mem = true) : NextOk (execStitchLinkDown s) := by simp [execStitchLinkDown, h]
@[simp] theorem loseCopy_mem (s : State) : (loseCopy s).mem = s.mem := by simp [loseCopy]

theorem nextOk_execStateFrame (cycle arrival size item) (s : State) (h : Memory.wf s.mem = true) : NextOk (execStateFrame cycle arrival size item s) := by
  simp [execStateFrame, h]

theorem nextOk_execCopyEnd (cycle arrival total) (s : State) (h : Memory.wf s.mem = true) : NextOk (execCopyEnd cycle arrival total s) := by
  simp [execCopyEnd, h]

@[simp] theorem applySafety_mem (s : State) (zones alarm cancels trip clearing test) : (applySafety s zones alarm cancels trip clearing test).mem = s.mem := by
  simp [applySafety]

@[simp] theorem applyLane_mem (s : State) (n state present adv stream) : (applyLane s n state present adv stream).mem = s.mem := by simp [applyLane]
@[simp] theorem applyPartner_mem (s : State) (h b) : (applyPartner s h b).mem = s.mem := by simp [applyPartner]

@[simp] theorem wf_applyCopy (s : State) (i) (h : Memory.wf s.mem = true) : Memory.wf (applyCopy s i).mem = true := by
  cases i with
  | cells block off d => exact wf_store _ _ _ h
  | _ => simp [applyCopy, h]

@[simp] theorem wf_applyCopies (s : State) (h : Memory.wf s.mem = true) : Memory.wf (applyCopies s).mem = true := by
  have hc := wf_foldl wf_applyCopy (s.pair.ready.flatMap Prod.snd) (s := { s with pair := { s.pair with
    ready := [], applied := s.pair.applied + if stitch s = 2 then 0 else s.pair.ready.length } }) h
  simp [applyCopies, hc]

theorem nextOk_execCopyApply (s : State) (h : Memory.wf s.mem = true) : NextOk (execCopyApply s) := by simp [execCopyApply, h]

@[simp] theorem wf_applyJournal (s : State) (i) (h : Memory.wf s.mem = true) : Memory.wf (applyJournal s i).mem = true := by
  unfold applyJournal
  split
  · exact h
  · cases i with
    | write r v => simp [h]
    | chunk r off v last =>
      dsimp only
      split_ifs
      · exact wf_applyContent _ _ _ ((storeContent_mem _ _ _).symm ▸ h)
      · exact h

@[simp] theorem wf_applyDue (s : State) (h : Memory.wf s.mem = true) : Memory.wf (applyDue s).mem = true := by
  unfold applyDue
  exact wf_foldl (fun t i ht => wf_applyJournal t _ ht) _ h

theorem nextOk_execTickStart (s : State) (h : Memory.wf s.mem = true) : NextOk (execTickStart s) := by simp [execTickStart, h]
theorem nextOk_execMirror (arrival n r) (s : State) (h : Memory.wf s.mem = true) : NextOk (execMirror arrival n r s) := by simp [execMirror, h]
theorem nextOk_execSwapOverdue (s : State) (h : Memory.wf s.mem = true) : NextOk (execSwapOverdue s) := by simp [execSwapOverdue, h]

/-! ### Resets and the start sequence -/

@[simp] theorem resetState_mem (s : State) (held) : (resetState s held).mem = [] := rfl

/-- A reset leaves nothing listed in memory. -/
@[simp] theorem hardReset_mem (s : State) (cause detail held) : (hardReset s cause detail held).mem = [] := by
  simp [hardReset]

theorem nextOk_hardReset (s : State) (cause detail held) : NextOk (.next (hardReset s cause detail held)) := by
  simp

@[simp] theorem holdBook_mem (s : State) (b) : (holdBook s b).mem = s.mem := by simp [holdBook]
@[simp] theorem pushHistory_mem (s : State) (b) : (pushHistory s b).mem = s.mem := by simp [pushHistory]
@[simp] theorem markEnd_mem (s : State) : (markEnd s).mem = s.mem := by simp [markEnd]
@[simp] theorem openBookmark_mem (s : State) (b bootAlt) : (openBookmark s b bootAlt).mem = s.mem := by simp [openBookmark]

@[simp] theorem bookmarkCheck_mem (s : State) (bootAlt) : (bookmarkCheck s bootAlt).mem = s.mem := by
  unfold bookmarkCheck
  split <;> simp

@[simp] theorem bookmarkFromMram_mem (s : State) : (bookmarkFromMram s).mem = s.mem := by
  unfold bookmarkFromMram
  dsimp only
  repeat' split
  all_goals simp

@[simp] theorem storeReset_mem (s : State) : (storeReset s).mem = s.mem := by simp [storeReset]
@[simp] theorem switchStaged_mem (s : State) : (switchStaged s).mem = s.mem := by simp [switchStaged]
@[simp] theorem replaySlots_mem (s : State) : (replaySlots s).mem = s.mem := by simp [replaySlots]
@[simp] theorem dropWritten_mem (s : State) : (dropWritten s).mem = s.mem := by simp [dropWritten]
@[simp] theorem loadOffsets_mem (s : State) : (loadOffsets s).mem = s.mem := by simp [loadOffsets]

@[simp] theorem loadHomes_mem (s : State) : (loadHomes s).mem = s.mem := by
  unfold loadHomes
  rw [loadOffsets_mem]
  refine foldl_mem (fun t i => ?_) _ _
  split
  · split_ifs <;> simp
  · rfl

@[simp] theorem wf_dictionaryLoaded (s : State) (h : Memory.wf s.mem = true) : Memory.wf (dictionaryLoaded s).mem = true := by
  simp [dictionaryLoaded, h]

@[simp] theorem wf_loadStore (s : State) (ok code) (h : Memory.wf s.mem = true) : Memory.wf (loadStore s ok code).2.mem = true := by
  simp [loadStore, h]

@[simp] theorem loadPulses_mem (s : State) : (loadPulses s).mem = s.mem := by simp [loadPulses]
@[simp] theorem wf_beginBody (s : State) (n alt) (h : Memory.wf s.mem = true) : Memory.wf (beginBody s n alt).mem = true := by simp [beginBody, h]
@[simp] theorem wf_normalWay (s : State) (n r) (h : Memory.wf s.mem = true) : Memory.wf (normalWay s n r).2.mem = true := by simp [normalWay, h]
@[simp] theorem wf_otherWay (s : State) (n r) (h : Memory.wf s.mem = true) : Memory.wf (otherWay s n r).2.mem = true := by simp [otherWay, h]
@[simp] theorem holdBlock_mem (s : State) (n) : (holdBlock s n).mem = s.mem := by simp [holdBlock]
@[simp] theorem wf_beginStep (s : State) (n) (h : Memory.wf s.mem = true) : Memory.wf (beginStep s n).mem = true := by simp [beginStep, h]
@[simp] theorem showState_mem (s : State) (v) : (showState s v).mem = s.mem := by simp [showState]
@[simp] theorem enterSafe_mem (s : State) (stop) : (enterSafe s stop).mem = s.mem := by simp [enterSafe]
@[simp] theorem enterOperational_mem (s : State) : (enterOperational s).mem = s.mem := by simp [enterOperational]
@[simp] theorem wf_completeStep (s : State) (n) (h : Memory.wf s.mem = true) : Memory.wf (completeStep s n).mem = true := by simp [completeStep, h]

/-- A failed step goes on with the next one, resets the module, or tries the alternative. -/
@[simp] theorem wf_failStep (s : State) (n code alt r) (h : Memory.wf s.mem = true) : Memory.wf (failStep s n code alt r).mem = true := by
  unfold failStep
  dsimp only
  split_ifs
  · simp [h]
  · simp
  · simp [h]
  · exact wf_completeStep _ _ (by simpa using h)
  · generalize hx : otherWay _ n r = x
    have hm : Memory.wf x.2.mem = true := by simp [← hx, h]
    obtain ⟨_ | c, s3⟩ := x
    · exact wf_completeStep _ _ hm
    · simpa using hm
  · simp [h]

@[simp] theorem wf_runStep (s : State) (r) (h : Memory.wf s.mem = true) : Memory.wf (runStep s r).mem = true := by
  have h0 : Memory.wf (if s.start.next = 0 then beginStep (bookmarkCheck s r.bootAlt) 0 else s).mem = true := by simp [h]
  unfold runStep
  dsimp only
  generalize (if s.start.next = 0 then beginStep (bookmarkCheck s r.bootAlt) 0 else s) = s0 at h0 ⊢
  split_ifs
  · simp [h0]
  · have hm := wf_otherWay s0 s.start.next r h0
    generalize otherWay s0 s.start.next r = x at hm ⊢
    obtain ⟨_ | c, s1⟩ := x
    · exact wf_completeStep _ _ hm
    · exact wf_failStep _ _ _ _ _ hm
  · have hm := wf_normalWay s0 s.start.next r h0
    generalize normalWay s0 s.start.next r = x at hm ⊢
    obtain ⟨_ | c, s1⟩ := x
    · exact wf_completeStep _ _ (by simpa using hm)
    · exact wf_failStep _ _ _ _ _ hm

theorem nextOk_execStartStep (rep) (s : State) (h : Memory.wf s.mem = true) : NextOk (execStartStep rep s) := by simp [execStartStep, h]

theorem nextOk_execStartStepTimeout (rep) (s : State) (h : Memory.wf s.mem = true) : NextOk (execStartStepTimeout rep s) := by
  simp [execStartStepTimeout, h]

theorem nextOk_execModuleReset (s : State) (h : Memory.wf s.mem = true) : NextOk (execModuleReset s) := by
  unfold execModuleReset
  rw [nextOk_next]
  split <;> simp [h]

/-! ### Supplies and fixed fault sources -/

theorem nextOk_execExternalReset (lowNs) (s : State) (h : Memory.wf s.mem = true) : NextOk (execExternalReset lowNs s) := by
  simp [execExternalReset, h]

theorem nextOk_execResetRelease (vio33) (s : State) (h : Memory.wf s.mem = true) : NextOk (execResetRelease vio33 s) := by simp [execResetRelease, h]
theorem nextOk_execBackupDomainLoss (s : State) (h : Memory.wf s.mem = true) : NextOk (execBackupDomainLoss s) := by simp [execBackupDomainLoss, h]
theorem nextOk_execPowerFailWarning (s : State) (h : Memory.wf s.mem = true) : NextOk (execPowerFailWarning s) := by simp [execPowerFailWarning, h]
@[simp] theorem flushHeld_mem (s : State) : (flushHeld s).mem = s.mem := by simp [flushHeld]
theorem nextOk_execWarningCleared (s : State) (h : Memory.wf s.mem = true) : NextOk (execWarningCleared s) := by simp [execWarningCleared, h]

theorem nextOk_execModuleOverTemperature (s : State) (h : Memory.wf s.mem = true) : NextOk (execModuleOverTemperature s) := by
  simp [execModuleOverTemperature, h]

theorem nextOk_execFaultNMismatch (s : State) (h : Memory.wf s.mem = true) : NextOk (execFaultNMismatch s) := by simp [execFaultNMismatch, h]

theorem nextOk_execGpioLevelChange (pin level) (s : State) (h : Memory.wf s.mem = true) : NextOk (execGpioLevelChange pin level s) := by
  simp [execGpioLevelChange, h]

theorem nextOk_execRelaySample (pin level) (s : State) (h : Memory.wf s.mem = true) : NextOk (execRelaySample pin level s) := by
  simp [execRelaySample, h]

@[simp] theorem ntcInput_mem (s : State) (i uV) : (ntcInput s i uV).mem = s.mem := by simp [ntcInput]

theorem nextOk_execNtcConversion (uV1 uV2) (s : State) (h : Memory.wf s.mem = true) : NextOk (execNtcConversion uV1 uV2 s) := by
  simp [execNtcConversion, h]

@[simp] theorem wf_fixedReaction (s : State) (src kind) (h : Memory.wf s.mem = true) : Memory.wf (fixedReaction s src kind).mem = true := by
  simp [fixedReaction, h]

theorem nextOk_execSafetyCopy (w crcOk) (s : State) (h : Memory.wf s.mem = true) : NextOk (execSafetyCopy w crcOk s) := by simp [execSafetyCopy, h]
theorem nextOk_execCopyCheck (ok) (s : State) (h : Memory.wf s.mem = true) : NextOk (execCopyCheck ok s) := by simp [execCopyCheck, h]

theorem nextOk_execSafetyWatchdogExpiry (s : State) (h : Memory.wf s.mem = true) : NextOk (execSafetyWatchdogExpiry s) := by
  simp [execSafetyWatchdogExpiry, h]

theorem nextOk_execLockstepMismatch (s : State) (h : Memory.wf s.mem = true) : NextOk (execLockstepMismatch s) := by simp [execLockstepMismatch, h]
theorem nextOk_execRefLoss (s : State) (h : Memory.wf s.mem = true) : NextOk (execRefLoss s) := by simp [execRefLoss, h]
theorem nextOk_execSystemPllUnlock (s : State) (h : Memory.wf s.mem = true) : NextOk (execSystemPllUnlock s) := by simp [execSystemPllUnlock, h]

theorem nextOk_execEthernetLinkLoss (port) (s : State) (h : Memory.wf s.mem = true) : NextOk (execEthernetLinkLoss port s) := by
  simp [execEthernetLinkLoss, h]

/-! ### Rows -/

/-! ### The step -/

/-- Every command keeps the canonical form. The arms go by what a command is: an instruction that only changes its engine, a branch, a message or fault post,
a request of a session, a reset from outside, and the events, each by the lemma about it. -/
theorem nextOk_exec (i : Instr) (s : State) (h : Memory.wf s.mem = true) : NextOk (exec i s) := by
  cases i with
  | add | sub | and | or | xor | sll | srl | sra | mul | mulh | mulhu | slt | sltu | min | max | minu | maxu | adds | subs | clz | addi | andi
  | ori | xori | slli | srli | srai | slti | sltiu | lui | vadd | vadds | vaddus | vsub | vsubs | vsubus | vand | vor | vxor | vandn | vsll
  | vsrl | vsra | vslli | vsrli | vsrai | vrsrai | vmul | vmulq | vmulqu | vmulqsu | vmulhu | vmin | vmax | vminu | vmaxu | vabs | vclz | vmov
  | vavgu | vsel | vmovi | vaddi | vandi | vori | vins | vext | vextu | vsplat | vperm | vsum | vsumu | vmulA | vmuluA | vmulsuA | vmac | vmacu
  | vmacsu | vmsb | vaccSet | vaccuSet | vrdS | vrdU | vrdW | vceq | vcne | vclt | vcle | vcltu | vcleu | pand | por | pxor | pandn | pnot | pcnt
  | pget | pset | vrcp | vrsqrt | vexp2 | vlog2 | stat | statclr | cyc | tbns | tbep | eng | nop =>
    exact nextOk_simple _ _ _ h
  | beq | bne | blt | bge | bltu | bgeu | jmp => exact nextOk_branch _ _ _ _ h
  | mpostMessage | mpostFault => exact nextOk_mpost _ _ _ h
  | gpioMode | restart | restartSafe | bookmarkClear | read | write | readMulti | writeMulti | blockBeginRead | blockBeginWrite | blockData
  | blockEnd | zoneMap | calibration | imageLoad | storeReset | subscribeOnChange | subscribePeriodic | subscribeCancel | authBegin | authProve
  | close | mdpEthEnable | zoneTarget | sceneRecall | groupTarget | groupRelease | targetSkipsClear | burnReset | programSet | engineStop
  | engineStart | engineRestart | engineStatsClear | repartition | laneStart | laneStop | laneRestart | laneStatsClear | discoverLane
  | faultCellClear | dmaChannelStop | dmaChannelStart | dmaChannelRestart | dmaStatsClear | meterStart | meterStop | meterRestart | calibrate
  | energyReset | maxClear | lumEnergyReset | tbSet | toMode | rtcTime | rtcStep | alarmArm | alarmDisarm | matrix | busStatsClear | channelMap
  | mapPhase | partnerTable | radioStart | radioStop | radioRestart | radioStatsClear | emgTestStart | emgTestEnd | emgCancel | emgAcknowledge
  | groupClear | functionTest | durationTest | testAbort | faultClear | swap | shellImport | shellDerive | shellDestroy | attestChallenge
  | package | installAtStart | installAndReset | emptyQuire | healthConfirm | waveStart | wavePause | waveResume | waveAbort | closeNow =>
    exact (nextOk_next _).2 (wf_serve _ _ _ h)
  | proxy => exact (nextOk_next _).2 (wf_serveProxy _ _ _ h)
  | powerOnReset | brownOutReset => exact nextOk_hardReset _ _ _ _
  | externalReset => exact nextOk_execExternalReset _ _ h
  | backupDomainLoss => exact nextOk_execBackupDomainLoss _ h
  | resetRelease => exact nextOk_execResetRelease _ _ h
  | powerFailWarning => exact nextOk_execPowerFailWarning _ h
  | warningCleared => exact nextOk_execWarningCleared _ h
  | vafeOutOfRange => exact nextOk_execVafeOutOfRange _ h
  | moduleOverTemperature => exact nextOk_execModuleOverTemperature _ h
  | faultNMismatch => exact nextOk_execFaultNMismatch _ h
  | gpioLevelChange => exact nextOk_execGpioLevelChange _ _ _ h
  | relaySample => exact nextOk_execRelaySample _ _ _ h
  | ntcConversion => exact nextOk_execNtcConversion _ _ _ h
  | hostSpiTransaction => exact nextOk_execHostSpiTransaction _ _ h
  | consoleLine => exact nextOk_execConsoleLine _ _ h
  | startStep => exact nextOk_execStartStep _ _ h
  | startStepTimeout => exact nextOk_execStartStepTimeout _ _ h
  | moduleReset => exact nextOk_execModuleReset _ h
  | transferTimeout => exact nextOk_execTransferTimeout _ _ _ h
  | notifyOnChange => exact nextOk_execNotifyOnChange _ _ h
  | notifyPeriodic => exact nextOk_execNotifyPeriodic _ _ h
  | authLockoutEnd => exact nextOk_execAuthLockoutEnd _ _ h
  | dtlsHandshake => exact nextOk_execDtlsHandshake _ _ h
  | sessionTimeout => exact nextOk_execSessionTimeout _ _ h
  | proxyRetry => exact nextOk_execProxyRetry _ _ h
  | proxyResponse => exact nextOk_execProxyResponse _ _ _ h
  | proxyTimeout => exact nextOk_execProxyTimeout _ _ h
  | areaVacant => exact nextOk_execAreaVacant _ _ h
  | leadHoldEnd => exact nextOk_execLeadHoldEnd _ _ h
  | tickStart => exact nextOk_execTickStart _ h
  | engineOverrun => exact nextOk_execEngineOverrun _ _ h
  | inputChangeApplied => exact nextOk_execInputChangeApplied _ h
  | engineLoaded => exact nextOk_execEngineLoaded _ _ h
  | engineStopComplete => exact nextOk_execEngineStopComplete _ _ h
  | mailboxResponse => exact nextOk_execMailboxResponse _ _ h
  | jal => exact nextOk_execJal _ _ _ _ h
  | jr => exact nextOk_execJr _ _ _ h
  | loop => exact nextOk_execLoop _ _ _ _ _ h
  | loopEnd => exact nextOk_execLoopEnd _ _ _ h
  | vlut => exact nextOk_execVlut _ _ _ _ _ _ _ h
  | vlutl => exact nextOk_execVlutl _ _ _ _ _ _ _ h
  | ld => exact nextOk_execLd _ _ _ _ _ _ h
  | ldu => exact nextOk_execLdu _ _ _ _ _ _ h
  | st => exact nextOk_execSt _ _ _ _ _ _ h
  | vld => exact nextOk_execVld _ _ _ _ _ _ h
  | vst => exact nextOk_execVst _ _ _ _ _ _ h
  | vgath => exact nextOk_execVgath _ _ _ _ _ _ _ h
  | vscat => exact nextOk_execVscat _ _ _ _ _ _ _ h
  | ewait => exact nextOk_execEwait _ _ _ _ h
  | ewaitBlocking => exact nextOk_execEwaitBlocking _ _ _ _ h
  | ewaitWake => exact nextOk_execEwaitWake _ _ h
  | dpost => exact nextOk_execDpost _ _ _ _ h
  | dpostUnstall => exact nextOk_execDpostUnstall _ _ h
  | fence => exact nextOk_execFence _ _ h
  | mbox => exact nextOk_execMbox _ _ _ h
  | mboxUnstall => exact nextOk_execMboxUnstall _ _ h
  | fieldMark => exact nextOk_execFieldMark _ _ h
  | recordTransmit => exact nextOk_execRecordTransmit _ _ _ h
  | status => exact nextOk_execStatus _ _ _ h
  | configData => exact nextOk_execConfigData _ _ _ h
  | faultMap => exact nextOk_execFaultMap _ _ _ h
  | discoverReply => exact nextOk_execDiscoverReply _ _ _ h
  | firmwareAck => exact nextOk_execFirmwareAck _ _ _ h
  | controlResend => exact nextOk_execControlResend _ _ _ h
  | requestResend => exact nextOk_execRequestResend _ _ _ h
  | driverMissing => exact nextOk_execDriverMissing _ _ _ h
  | returnSilent => exact nextOk_execReturnSilent _ _ h
  | laneFaultCheck => exact nextOk_execLaneFaultCheck _ _ h
  | laneStartComplete => exact nextOk_execLaneStartComplete _ _ h
  | laneStopComplete => exact nextOk_execLaneStopComplete _ _ h
  | lanePllUnlock => exact nextOk_execLanePllUnlock _ h
  | lanePllLock => exact nextOk_execLanePllLock _ h
  | searchWatchEnd => exact nextOk_execSearchWatchEnd _ _ h
  | driverConfigUpdate => exact nextOk_execDriverConfigUpdate _ _ _ h
  | storedSceneUpdate => exact nextOk_execStoredSceneUpdate _ _ _ h
  | descriptorStart => exact nextOk_execDescriptorStart _ _ _ h
  | descriptorDone => exact nextOk_execDescriptorDone _ _ _ h
  | dmaStopComplete => exact nextOk_execDmaStopComplete _ _ h
  | sampleSet => exact nextOk_execSampleSet _ _ _ h
  | pulseStart => exact nextOk_execPulseStart _ _ h
  | pulseEnd => exact nextOk_execPulseEnd _ _ h
  | windowEnd => exact nextOk_execWindowEnd _ h
  | offsetCheckDone => exact nextOk_execOffsetCheckDone _ h
  | calibrationDone => exact nextOk_execCalibrationDone _ h
  | demandIntervalEnd => exact nextOk_execDemandIntervalEnd _ h
  | ptpSync => exact nextOk_execPtpSync _ _ _ _ h
  | ptpAnnounce => exact nextOk_execPtpAnnounce _ _ _ _ h
  | delayResp => exact nextOk_execDelayResp _ _ _ _ _ h
  | ptpInputLost => exact nextOk_execPtpInputLost _ _ h
  | holdoverExpiry => exact nextOk_execHoldoverExpiry _ _ h
  | fieldBaseReturn => exact nextOk_execFieldBaseReturn _ h
  | comparatorFire => exact nextOk_execComparatorFire _ _ h
  | ppsInCapture => exact nextOk_execPpsInCapture _ h
  | rtcSecond => exact nextOk_execRtcSecond _ h
  | offsetChange => exact nextOk_execOffsetChange _ h
  | leapSecond => exact nextOk_execLeapSecond _ h
  | calendarSync => exact nextOk_execCalendarSync _ h
  | trimMeasurement => exact nextOk_execTrimMeasurement _ _ h
  | oscillatorStopped => exact nextOk_execOscillatorStopped _ h
  | segmentCycleStart => exact nextOk_execSegmentCycleStart _ _ _ h
  | windowStart => exact nextOk_execWindowStart _ _ _ _ h
  | reference => exact nextOk_execReference _ _ _ _ h
  | missingReference => exact nextOk_execMissingReference _ _ _ h
  | referenceLost => exact nextOk_execReferenceLost _ _ h
  | joinTimeout => exact nextOk_execJoinTimeout _ _ h
  | alarmFrame => exact nextOk_execAlarmFrame _ _ _ _ h
  | statusFrame => exact nextOk_execStatusFrame _ _ _ _ h
  | dictFrame => exact nextOk_execDictFrame _ _ _ _ _ h
  | floorSegmentTimeout => exact nextOk_execFloorSegmentTimeout _ _ _ _ h
  | errorPassive => exact nextOk_execErrorPassive _ _ _ _ h
  | busOff => exact nextOk_execBusOff _ _ h
  | busOffRecovery => exact nextOk_execBusOffRecovery _ _ h
  | superframeStart => exact nextOk_execSuperframeStart _ h
  | slotStart => exact nextOk_execSlotStart _ _ h
  | joinRequest => exact nextOk_execJoinRequest _ _ _ h
  | report => exact nextOk_execReport _ _ _ h
  | airMdp => exact nextOk_execAirMdp _ _ _ h
  | keepalive => exact nextOk_execKeepalive _ _ _ h
  | leave => exact nextOk_execLeave _ _ _ h
  | enhAck => exact nextOk_execEnhAck _ _ _ h
  | eventMissed => exact nextOk_execEventMissed _ _ h
  | supervisionLoss => exact nextOk_execSupervisionLoss _ _ h
  | meshBeacon => exact nextOk_execMeshBeacon _ _ _ h
  | flood => exact nextOk_execFlood _ _ _ h
  | neighbourExpiry => exact nextOk_execNeighbourExpiry _ _ h
  | floodExpiry => exact nextOk_execFloodExpiry _ h
  | radioStopComplete => exact nextOk_execRadioStopComplete _ h
  | emgChannelOpen => exact nextOk_execEmgChannelOpen _ _ h
  | emgChannelClosed => exact nextOk_execEmgChannelClosed _ _ h
  | emgDiscrepancy => exact nextOk_execEmgDiscrepancy _ h
  | emgTestExpiry => exact nextOk_execEmgTestExpiry _ h
  | safetyCopy => exact nextOk_execSafetyCopy _ _ _ h
  | copyCheck => exact nextOk_execCopyCheck _ _ h
  | heartbeatLoss => exact nextOk_execHeartbeatLoss _ _ h
  | safetyWatchdogExpiry => exact nextOk_execSafetyWatchdogExpiry _ h
  | lockstepMismatch => exact nextOk_execLockstepMismatch _ h
  | refLoss => exact nextOk_execRefLoss _ h
  | systemPllUnlock => exact nextOk_execSystemPllUnlock _ h
  | groupClearComplete => exact nextOk_execGroupClearComplete _ _ h
  | guardHoldEnd => exact nextOk_execGuardHoldEnd _ _ h
  | testSchedule => exact nextOk_execTestSchedule _ h
  | testEnd => exact nextOk_execTestEnd _ h
  | faultConditionEnd => exact nextOk_execFaultConditionEnd _ _ h
  | quietPeriodExpiry => exact nextOk_execQuietPeriodExpiry _ _ h
  | escalationExpiry => exact nextOk_execEscalationExpiry _ _ h
  | arbGrantRise => exact nextOk_execArbGrantRise _ h
  | arbGrantFall => exact nextOk_execArbGrantFall _ h
  | cycleMark => exact nextOk_execCycleMark _ _ _ _ _ h
  | stateFrame => exact nextOk_execStateFrame _ _ _ _ _ h
  | copyEnd => exact nextOk_execCopyEnd _ _ _ _ h
  | copyApply => exact nextOk_execCopyApply _ h
  | mirror => exact nextOk_execMirror _ _ _ _ h
  | stitchLinkDown => exact nextOk_execStitchLinkDown _ h
  | shellCheck => exact nextOk_execShellCheck _ h
  | dbgChallenge => exact nextOk_execDbgChallenge _ h
  | dbgResponse => exact nextOk_execDbgResponse _ _ _ h
  | autoConfirm => exact nextOk_execAutoConfirm _ h
  | trialExpiry => exact nextOk_execTrialExpiry _ h
  | waveSettle => exact nextOk_execWaveSettle _ h
  | waveTimeout => exact nextOk_execWaveTimeout _ h
  | periodEnd => exact nextOk_execPeriodEnd _ h
  | headerWrite => exact nextOk_execHeaderWrite _ h
  | headerRebuildDone => exact nextOk_execHeaderRebuildDone _ h
  | ethernetLinkLoss => exact nextOk_execEthernetLinkLoss _ _ h
  | radioFault => exact nextOk_execRadioFault _ _ h
  | vafeReturn => exact nextOk_execVafeReturn _ h
  | delayReqSend => exact nextOk_execDelayReqSend _ _ h
  | swapOverdue => exact nextOk_execSwapOverdue _ h

/-- Settles O14: a step runs the front command on the rest of the queue, or lets a cycle of TIME pass; every command keeps the form
(`nextOk_exec`), and the passing of time leaves memory alone. -/
theorem memoryFormKept : Obligations.MemoryFormKept := by
  intro s t hs ht
  unfold step at ht
  split at ht
  · rename_i c rest _
    exact nextOk_exec c { s with pending := rest } hs t ht
  · cases ht
    exact hs

end Sys2Proof.Machine

section
open Sys2Proof.Claim
namespace Sys2Proof.Machine

/-! ## The cycle of a floor bus (O50)

`Keeps P s t` says that the registers of a kind `P` stand from `s` to `t`: one rule per operation of a segment cycle, of showing a
controller's status and of a raise gives the registers that the obligation names. Each event is then an equation of the state it
leaves, from which the frames sent and the controller's state are read. -/

/-! ### What stands while something else is done -/

/-- From `s` to `t` the requests held back and every register of a kind stand. -/
def Keeps (P : Key → Prop) (s t : State) : Prop := t.server.held = s.server.held ∧ ∀ j, P j → reg t j = reg s j

namespace Keeps
variable {P Q : Key → Prop} {s t u : State}

theorem refl (s : State) : Keeps P s s := ⟨rfl, fun _ _ => rfl⟩

theorem trans (h : Keeps P s t) (g : Keeps P t u) : Keeps P s u :=
  ⟨g.1.trans h.1, fun j hj => (g.2 j hj).trans (h.2 j hj)⟩

theorem mono (h : Keeps P s t) (hq : ∀ j, Q j → P j) : Keeps Q s t := ⟨h.1, fun j hj => h.2 j (hq j hj)⟩

theorem num_eq (h : Keeps P s t) {j : Key} (hj : P j) : num t j = num s j := by rw [num, num, h.2 j hj]

theorem nat_eq (h : Keeps P s t) {j : Key} (hj : P j) : nat t j = nat s j := by rw [nat, nat, h.num_eq hj]

/-- An update of neither the registers nor the requests held back. -/
theorem of_regs (h : Keeps P s t) (hr : u.regs = t.regs) (hh : u.server.held = t.server.held) : Keeps P s u :=
  h.trans ⟨hh, fun j _ => reg_congr hr j⟩

theorem putBase (h : Keeps P s t) (n : Nat) (b : Base) : Keeps P s (putBase t n b) := h.of_regs rfl rfl
theorem putFault (h : Keeps P s t) (n : Nat) (f : FaultSrc) : Keeps P s (putFault t n f) := h.of_regs rfl rfl
theorem putBus (h : Keeps P s t) (n : Nat) (b : Bus) : Keeps P s (putBus t n b) := h.of_regs rfl rfl
theorem emit (h : Keeps P s t) (o : Out) : Keeps P s (emit t o) := h.of_regs rfl rfl

theorem putFolios (h : Keeps P s t) (f : Folios) : Keeps P s (putFolios t f) := h.of_regs rfl rfl
theorem putSession (h : Keeps P s t) (n : Nat) (x : Session) : Keeps P s (putSession t n x) := h.of_regs rfl rfl

theorem ite {c : Prop} [Decidable c] (ht : Keeps P s t) (hu : Keeps P s u) : Keeps P s (if c then t else u) := by
  split
  · exact ht
  · exact hu

theorem foldl {β : Type} {g : State → β → State} {l : List β} (h : Keeps P s t) (hg : ∀ x ∈ l, ∀ u, Keeps P u (g u x)) :
    Keeps P s (l.foldl g t) := by
  induction l generalizing t with
  | nil => exact h
  | cons x l ih => exact ih (h.trans (hg x (by simp) t)) fun y hy => hg y (by simp [hy])

end Keeps

theorem queueNotice_held (sv : Server) (b : Sub) (k : Key) : (queueNotice sv b k).held = sv.held := by
  unfold queueNotice addNotice
  split_ifs <;> rfl

/-- A change of a register queues notifications (R99) and holds no request back. -/
theorem noteChange_held (sv : Server) (k : Key) : (noteChange sv k).held = sv.held := by
  unfold noteChange
  induction sv.subs.filter (fun b => !b.periodic && b.covers k) generalizing sv with
  | nil => rfl
  | cons b l ih => rw [List.foldl_cons, ih, queueNotice_held]

@[simp] theorem setVal_held (s : State) (k : Key) (v : Val) : (setVal s k v).server.held = s.server.held := by
  unfold setVal
  split
  · rfl
  · exact noteChange_held _ _

namespace Keeps
variable {P : Key → Prop} {s t : State} {k : Key}

theorem setVal (h : Keeps P s t) (hk : ¬P k) (v : Val) : Keeps P s (setVal t k v) :=
  h.trans ⟨setVal_held t k v, fun j hj => (reg_setVal t k j v).trans (if_neg (by rintro rfl; exact hk hj))⟩

theorem setNum (h : Keeps P s t) (hk : ¬P k) (n : Int) : Keeps P s (setNum t k n) := h.setVal hk _
theorem bump (h : Keeps P s t) (hk : ¬P k) : Keeps P s (bump t k) := h.setVal hk _
theorem setBit (h : Keeps P s t) (hk : ¬P k) (b : Nat) (v : Bool) : Keeps P s (setBit t k b v) := h.setVal hk _

end Keeps

/-- A register of a floor-bus controller, or the count of a fault source: what time keeping does not write. -/
def Aloof (j : Nat) : Prop :=
  (0x2400 ≤ j / 256 ∧ j / 256 ≤ 0x2401) ∨ (0x7100 ≤ j / 256 ∧ j / 256 < 0x7140 ∧ j % 256 = 8)

theorem not_aloof_kTb {n sub : Nat} (hn : n < 4) (hs : sub < 256 := by decide) : ¬Aloof (kTb n sub) := by
  unfold Aloof kTb; omega
theorem not_aloof_kTo {c sub : Nat} (hc : c < 16) (hs : sub < 256 := by decide) : ¬Aloof (kTo c sub) := by
  unfold Aloof kTo; omega
theorem not_aloof_kFt {sub : Nat} (hs : sub < 256 := by decide) : ¬Aloof (kFt sub) := by
  unfold Aloof kFt; omega

/-! ### Time keeping -/

theorem keeps_showField (s : State) : Keeps Aloof s (showField s) := by
  unfold showField
  refine .setNum (.setNum ?_ not_aloof_kFt _) not_aloof_kFt _
  split
  · exact ⟨rfl, fun _ _ => rfl⟩
  · exact .refl s

theorem keeps_noteFieldStep (s : State) : Keeps Aloof s (noteFieldStep s) :=
  ((Keeps.refl s).bump (k := kFt 6) not_aloof_kFt).of_regs rfl rfl

theorem keeps_moveGenerator (s : State) (d : Int) : Keeps Aloof s (moveGenerator s d) :=
  ((Keeps.refl s).of_regs rfl rfl).trans (keeps_showField _)

theorem keeps_fireComparator (s : State) {c : Nat} (hc : c < 16) (status target : Nat) :
    Keeps Aloof s (fireComparator s c status target) :=
  have h := ((Keeps.refl s).bump (not_aloof_kTo hc)).setNum (not_aloof_kTo hc) status
  .ite (h.setNum (not_aloof_kTo hc) target) (h.setNum (not_aloof_kTo hc) 0)

theorem keeps_stepComparator (s : State) {c : Nat} (hc : c < 16) (old now : Nat) : Keeps Aloof s (stepComparator s old now c) :=
  .ite (.ite ((keeps_fireComparator s hc _ _).setNum (not_aloof_kTo hc) _) (keeps_fireComparator s hc _ _)) (.refl s)

theorem keeps_stepBase (s : State) {n : Nat} (hn : n < 4) (tn : Nat) : Keeps Aloof s (stepBase s n tn) := by
  have h := ((Keeps.refl s).putBase n { base s n with t := tn % 2 ^ 64 * tUnit }).bump (not_aloof_kTb (sub := 0xB) hn)
  have h2 := h.foldl (l := [4 * n, 4 * n + 1, 4 * n + 2, 4 * n + 3]) (g := fun t c => stepComparator t (tbNs s n) tn c)
    fun c hc t => keeps_stepComparator t (by simp at hc; omega) _ _
  exact .ite ((h2.trans (keeps_noteFieldStep _)).trans (keeps_moveGenerator _ _)) h2

theorem keeps_showPps (s : State) : Keeps Aloof s (showPps s) :=
  (Keeps.refl s).foldl fun n hn t => by
    have hn : n < 4 := List.mem_range.1 hn
    exact ((Keeps.ite ((Keeps.refl t).setNum (not_aloof_kTo (by omega)) _) (.refl t)).setNum (not_aloof_kTo (by omega)) _).setNum
      (not_aloof_kTo (by omega)) _

theorem keeps_setFieldBase (s : State) (n : Nat) : Keeps Aloof s (setFieldBase s n) :=
  have h := (Keeps.refl s).setNum (k := kFt 2) not_aloof_kFt n
  .ite (.refl s) (((Keeps.ite (h.trans (keeps_noteFieldStep _)) h).trans (keeps_moveGenerator _ _)).trans (keeps_showPps _))

theorem not_aloof_kFault {src sub : Nat} (hs : sub < 256) (h8 : sub ≠ 8) : ¬Aloof (kFault src sub) := by
  unfold Aloof kFault; omega

theorem keeps_endCondition {P : Key → Prop} {src : Nat} (h7 : ¬P (kFault src 7)) (s : State) : Keeps P s (endCondition s src) := by
  unfold endCondition
  have h := (Keeps.refl (P := P) s).putFault src { faultSrc s src with standing := false }
  exact .ite (.ite (h.setNum h7 2) h) (.refl s)

theorem keeps_setTbState (s : State) {n : Nat} (hn : n < 4) (st : Nat) : Keeps Aloof s (setTbState s n st) := by
  unfold setTbState
  have h := ((Keeps.refl s).putBase n { base s n with good := 0, bad := 0, ever := (base s n).ever || st == 2 }).setNum
    (not_aloof_kTb (sub := 2) hn) st
  refine .trans ?_ (keeps_setFieldBase _ _)
  split
  · exact .trans (h.of_regs rfl rfl) (keeps_endCondition (not_aloof_kFault (by decide) (by decide)) _)
  · exact h

theorem keeps_servoState (s : State) {n : Nat} (hn : n < 4) (theta : Int) : Keeps Aloof s (servoState s n theta) :=
  .ite (keeps_setTbState s hn 1) (.ite (keeps_setTbState s hn 2) (.ite (keeps_setTbState s hn 1) ((Keeps.refl s).putBase _ _)))

theorem keeps_servoUpdateAt (s : State) {n : Nat} (hn : n < 4) (theta : Int) (now : Nat) : Keeps Aloof s (servoUpdateAt s n theta now) := by
  unfold servoUpdateAt
  have h := ((Keeps.refl s).putBase n { base s n with lastAt := some now }).setNum (not_aloof_kTb (sub := 4) hn)
    (clampInt (-2147483648) 2147483647 theta)
  dsimp only
  split
  · exact ((h.trans (keeps_stepBase _ hn _)).putBase _ _).trans (keeps_setTbState _ hn 1)
  · exact ((h.setNum (not_aloof_kTb hn) _).putBase _ _).trans (keeps_servoState _ hn theta)

theorem keeps_servoUpdate (s : State) {n : Nat} (hn : n < 4) (theta : Int) : Keeps Aloof s (servoUpdate s n theta) :=
  keeps_servoUpdateAt s hn theta s.clk

theorem keeps_inputLost (s : State) {n : Nat} (hn : n < 4) : Keeps Aloof s (inputLost s n) :=
  .ite (keeps_setTbState s hn 0)
    (.ite ((Keeps.ite (.refl s) ((Keeps.refl s).setNum (not_aloof_kTb hn) _)).trans (keeps_setTbState _ hn 3)) (.refl s))

theorem keeps_masterServo (s : State) : Keeps Aloof s (masterServo s) := by
  unfold masterServo
  split_ifs
  · exact keeps_inputLost s (by decide)
  · exact keeps_servoUpdate s (by decide) _
  · exact .refl s

theorem keeps_elapse {P : Key → Prop} (s : State) (n : Nat) : Keeps P s (elapse s n) := ⟨rfl, fun _ _ => rfl⟩

theorem keeps_reachMultiple {P : Key → Prop} (s : State) (n period offset slack : Nat) : Keeps P s (reachMultiple s n period offset slack) := by
  unfold reachMultiple
  dsimp only
  split
  · exact .refl s
  · exact keeps_elapse s _

/-! ### Keys -/

/-- The count of a fault source: what a segment cycle changes by its heartbeats only. -/
def IsCount (j : Nat) : Prop := 0x7100 ≤ j / 256 ∧ j / 256 < 0x7140 ∧ j % 256 = 8

theorem not_isCount {j : Nat} (h : j / 256 < 0x7100 ∨ 0x7140 ≤ j / 256 ∨ j % 256 ≠ 8) : ¬IsCount j := by unfold IsCount; omega

theorem Keeps.counts {s t : State} (h : Keeps Aloof s t) : Keeps IsCount s t := h.mono fun _ hj => .inr hj

theorem keeps_setQuire (s : State) (st : Nat) : Keeps IsCount s (setQuire s st) :=
  ((Keeps.refl s).putFolios _).setNum (not_isCount (by decide)) _

theorem keeps_drbg {P : Key → Prop} (s : State) (n : Nat) : Keeps P s (drbg s n).2 := by
  induction n generalizing s with
  | zero => exact .refl s
  | succ n ih => exact ((Keeps.refl s).of_regs (u := (takeFresh s).2) rfl rfl).trans (ih _)

theorem keeps_keyChange {P : Key → Prop} (s : State) (a : KeyArea) : Keeps P s (keyChange s a) :=
  (keeps_drbg s 16).of_regs rfl rfl

theorem keeps_dropTransfer (s : State) (x : Transfer) : Keeps IsCount s (dropTransfer s x) := by
  have h : Keeps IsCount s { s with server := { s.server with transfers := s.server.transfers.filter fun y => !(y.sid == x.sid && y.handle == x.handle) } } :=
    (Keeps.refl s).of_regs rfl rfl
  unfold dropTransfer
  dsimp only
  split
  · exact (h.putFolios _).trans (keeps_setQuire _ 0)
  · exact h

theorem keeps_dropOpen (s : State) (sid : Nat) : Keeps IsCount s (dropOpen s sid) :=
  ((Keeps.refl s).foldl (l := s.server.transfers.filter fun t => t.sid == sid) (g := dropTransfer)
    fun x _ u => keeps_dropTransfer u x).of_regs rfl rfl

theorem keeps_closeSession (s : State) (sid : Nat) : Keeps IsCount s (closeSession s sid) := (keeps_dropOpen s sid).putSession _ _

theorem keeps_closeShellSessions (s : State) (n gen : Nat) : Keeps IsCount s (closeShellSessions s n gen) :=
  (Keeps.refl s).foldl fun p _ u => keeps_closeSession u p.1

theorem keeps_destroyShell (s : State) (n : Nat) : Keeps IsCount s (destroyShell s n) :=
  (keeps_keyChange s _).trans (keeps_closeShellSessions _ _ _)

theorem keeps_useShell (s : State) (n : Nat) : Keeps IsCount s (useShell s n) :=
  .ite ((keeps_keyChange s _).trans (keeps_destroyShell _ n)) (keeps_keyChange s _)

/-- The once-per-cycle check of a bus key; a request, which may raise source 47 (R445), is not one. -/
theorem keeps_refreshKey (s : State) (k : Nat) : Keeps IsCount s (refreshKey s k false) := by
  have h := (Keeps.refl s (P := IsCount)).putBus k { bus s k with key := none }
  unfold refreshKey
  dsimp only
  simp only [Bool.false_eq_true, if_false]
  split_ifs
  · exact .refl s
  · exact h
  · exact (h.trans (keeps_useShell _ _)).putBus _ _
  · exact h

/-! ### The buses at a cycle's start -/

theorem not_isCount_kBus {k sub : Nat} (hk : k < 2) (hs : sub < 256 := by decide) : ¬IsCount (kBus k sub) := by
  unfold IsCount kBus; omega

/-- `showBus` before it enters restricted operation: the status registers follow. -/
def shown (s : State) (k : Nat) : State :=
  let b := fun (v : Bool) (n : Nat) => if v then 2 ^ n else 0
  let s0 := if matrixConflict s k then setBit s kAddrStatus 0 true else s
  let s1 := setNum s0 (kBus k 0xA) (b (bus s0 k).key.isNone 5 + b ((ownNode s0 k).isNone || (bus s0 k).dupNode) 4
    + b (matrixMismatch s0 k) 3 + b (busStandby s0) 2 + b (busState s0 k == 6) 1 + b (bus s0 k).passive 0 : Nat)
  let s2 := setNum s1 (kBus k 0xB) (match ownNode s1 k with | some n => n | none => 0xFF)
  if isMatrix (matrix s2 k) then setNum s2 (kBus k 0xE) (matrixTag (matrix s2 k)) else s2

theorem showBus_eq (s : State) (k : Nat) : showBus s k = if busState s k = 0 then s
    else if 3 ≤ busState (shown s k) k ∧ busState (shown s k) k ≤ 5 ∧ restrictedCase (shown s k) k then setNum (shown s k) (kBus k 9) 2
    else shown s k := rfl

theorem keeps_shown {P : Key → Prop} (s : State) (k : Nat) (ha : ¬P kAddrStatus) (hA : ¬P (kBus k 0xA)) (hB : ¬P (kBus k 0xB))
    (hE : ¬P (kBus k 0xE)) : Keeps P s (shown s k) := by
  unfold shown
  have h2 := fun a b => (((Keeps.refl s).setBit ha 0 true).ite (c := matrixConflict s k) (.refl s) |>.setNum hA a).setNum hB b
  exact .ite ((h2 _ _).setNum hE _) (h2 _ _)

theorem keeps_showBus {P : Key → Prop} (s : State) (k : Nat) (ha : ¬P kAddrStatus) (h9 : ¬P (kBus k 9)) (hA : ¬P (kBus k 0xA))
    (hB : ¬P (kBus k 0xB)) (hE : ¬P (kBus k 0xE)) : Keeps P s (showBus s k) := by
  have h := keeps_shown s k ha hA hB hE
  rw [showBus_eq]
  exact .ite (.refl s) (.ite (h.setNum h9 2) h)

theorem keeps_showBus_counts (s : State) {k : Nat} (hk : k < 2) : Keeps IsCount s (showBus s k) :=
  keeps_showBus s k (not_isCount (by decide)) (not_isCount_kBus hk) (not_isCount_kBus hk) (not_isCount_kBus hk) (not_isCount_kBus hk)

theorem keeps_joinBus (s : State) {k : Nat} (hk : k < 2) : Keeps IsCount s (joinBus s k) :=
  .ite ((Keeps.refl s).setNum (not_isCount_kBus hk) _) (.refl s)

theorem keeps_unrestrict (s : State) {k : Nat} (hk : k < 2) : Keeps IsCount s (unrestrict s k) :=
  .ite ((Keeps.refl s).setNum (not_isCount_kBus hk) _) (.refl s)

theorem keeps_cycleBuses (s : State) : Keeps IsCount s (cycleBuses s) := by
  have hbus : ∀ k ∈ [0, 1], ∀ t, Keeps IsCount t
      (if busState t k = 0 then t else joinBus (unrestrict (showBus (refreshKey t k false) k) k) k) := by
    intro k hk t
    have hk : k < 2 := by simp at hk; omega
    exact .ite (.refl t)
      ((((keeps_refreshKey t k).trans (keeps_showBus_counts _ hk)).trans (keeps_unrestrict _ hk)).trans (keeps_joinBus _ hk))
  unfold cycleBuses
  dsimp only
  refine .trans (.foldl ?_ hbus) (keeps_masterServo _).counts
  split
  · exact (Keeps.refl s).of_regs rfl rfl
  · exact .refl s

/-! ### The wave and the pair -/

theorem keeps_forwardOp {P : Key → Prop} (s : State) (sid : Nat) (tid : Half) (target side : Nat) (inner : MdpOp) (role : Role)
    (timeout : Nat) (itid : Half) (content : Bytes) : Keeps P s (forwardOp s sid tid target side inner role timeout itid content) :=
  (Keeps.refl s).of_regs rfl rfl

theorem keeps_holdWave (s : State) (cause : Nat) : Keeps IsCount s (holdWave s cause) :=
  (((Keeps.refl s).of_regs (u := dropWave s) rfl rfl).setNum (not_isCount (by decide)) _).setNum (not_isCount (by decide)) _

theorem keeps_orderReset {P : Key → Prop} (s : State) (cause detail : Nat) : Keeps P s (orderReset s cause detail) :=
  (Keeps.refl s).of_regs (by simp) (by simp)

theorem keeps_resetPending (s : State) : Keeps IsCount s (resetPending s) :=
  ((Keeps.refl s).setNum (not_isCount (by decide)) _).setNum (not_isCount (by decide)) _

theorem keeps_install (s : State) (v : Nat) : Keeps IsCount s (install s v) :=
  .ite ((((Keeps.refl s).putFolios _).trans (keeps_setQuire _ 0)).setNum (not_isCount (by decide)) _)
    (.ite (((keeps_setQuire s 3).trans (keeps_resetPending _)).trans (keeps_orderReset _ 5 1)) (keeps_setQuire s 3))

theorem keeps_waveWrite (s : State) : Keeps IsCount s (waveWrite s) := by
  have h : Keeps IsCount s (setNum s (kWave 4) 2) := (Keeps.refl s).setNum (not_isCount (by decide)) _
  unfold waveWrite
  dsimp only
  split_ifs
  · exact .trans (h.of_regs (u := setPhase (setNum s (kWave 4) 2) .install) rfl rfl) (keeps_install _ 2)
  · exact h.trans (keeps_holdWave _ 3)
  · exact .trans (h.of_regs (u := setPhase (setNum s (kWave 4) 2) .begin_) rfl rfl) (keeps_forwardOp _ _ _ _ _ _ _ _ _ _)

theorem keeps_wavePoll (s : State) : Keeps IsCount s (wavePoll s) := by
  unfold wavePoll
  split
  · exact ((Keeps.refl s).of_regs rfl rfl).trans (keeps_waveWrite _)
  · exact .refl s

theorem keeps_pairCycle (s : State) : Keeps IsCount s (pairCycle s) := by
  have h1 : Keeps IsCount s (if s.pair.peer.isSome then setNum s (kRed 4) (min 0xFFFF (nat s (kRed 4) + 1)) else s) :=
    .ite ((Keeps.refl s).setNum (not_isCount (by decide)) _) (.refl s)
  unfold pairCycle
  dsimp only
  generalize (if s.pair.peer.isSome then setNum s (kRed 4) (min 0xFFFF (nat s (kRed 4) + 1)) else s) = u at h1
  have h2 : Keeps IsCount s { u with pair := { u.pair with resync := u.pair.resync - 1 } } := h1.of_regs rfl rfl
  have hv := fun (c : Prop) [Decidable c] =>
    Keeps.ite (c := u.pair.resync = 0) h1 (.ite (c := c) (h2.setNum (k := kRed 3) (not_isCount (by decide)) 1) h2)
  split
  · exact .ite ((hv _).of_regs rfl rfl) (hv _)
  · exact hv _

theorem keeps_sendBeat (s : State) : Keeps IsCount s (sendBeat s) := by
  have h : Keeps IsCount s (setNum (setNum s (kRed 6) (beatCode s)) (kRed 7) (notReady s)) :=
    ((Keeps.refl s).setNum (not_isCount (by decide)) _).setNum (not_isCount (by decide)) _
  unfold sendBeat
  dsimp only
  split_ifs <;> exact h.of_regs rfl rfl

theorem sendBeat_out (s : State) : (sendBeat s).out =
    if beatCode s = 0 then s.out else .beat (if beatCode s = 1 then 100 else if beatCode s = 2 then 300 else 500) :: s.out := by
  unfold sendBeat
  dsimp only
  split_ifs <;> simp

theorem num_sendBeat_code (s : State) : num (sendBeat s) (kRed 6) = beatCode s := by
  have h : num (setNum (setNum s (kRed 6) (beatCode s)) (kRed 7) (notReady s)) (kRed 6) = beatCode s := by
    simp [show kRed 6 ≠ kRed 7 by decide]
  rw [← h]
  unfold sendBeat
  dsimp only
  split_ifs <;> rfl

/-- The state copy (R430) is frames out and a change of the pair's own record. -/
theorem sendCopy_cases (s : State) : (∃ p, sendCopy s = { s with pair := p }) ∨
    ∃ n m p, ∃ l : List CopyItem, sendCopy s = emit (l.foldl (fun t i => emit t (.copyState n i)) { s with pair := p }) (.copyEnd n m) := by
  unfold sendCopy
  by_cases h : copying s
  · exact .inr ⟨_, _, _, _, if_neg (by simpa using h)⟩
  · exact .inl ⟨_, if_pos (by simpa using h)⟩

theorem keeps_sendCopy {P : Key → Prop} (s : State) : Keeps P s (sendCopy s) := by
  obtain ⟨p, h⟩ | ⟨n, m, p, l, h⟩ := sendCopy_cases s <;> rw [h]
  · exact (Keeps.refl s).of_regs rfl rfl
  · refine .emit (.foldl ?_ fun _ _ u => (Keeps.refl u).emit _) _
    exact (Keeps.refl s).of_regs rfl rfl

theorem mem_foldl_emit {β : Type} {f : β → Out} {o : Out} (l : List β) {s : State} (h : o ∈ s.out) :
    o ∈ (l.foldl (fun t i => emit t (f i)) s).out := by
  induction l generalizing s with
  | nil => exact h
  | cons x l ih => exact ih (by simp [h])

/-- What has left the block before a copy is sent stands. -/
theorem mem_sendCopy_out {s : State} {o : Out} (h : o ∈ s.out) : o ∈ (sendCopy s).out := by
  obtain ⟨p, hs⟩ | ⟨n, m, p, l, hs⟩ := sendCopy_cases s <;> rw [hs]
  · exact h
  · exact List.mem_cons_of_mem _ (mem_foldl_emit _ h)

/-! ### Faults -/

/-- The sources whose block a reaction may reset (Table 16-10). -/
def HasBlock (src : Nat) : Prop := src < 8 ∨ src ∈ [11, 12, 13, 30, 31, 35, 38, 52]

theorem blockReset_of_not_hasBlock {src : Nat} (h : ¬HasBlock src) (s : State) (blk : Nat) : blockReset s src blk = showPending s := by
  simp only [HasBlock, List.mem_cons, List.not_mem_nil, not_or] at h
  obtain ⟨h8, h11, h12, h13, h30, h31, h35, h38, h52, -⟩ := h
  simp [blockReset, h8, h11, h12, h13, h30, h31, h35, h38, h52]

/-- A fact about a state that nothing a raise does after its count breaks, as long as no block is reset. -/
structure RaiseClosed (src : Nat) (C : State → Prop) : Prop where
  emit : ∀ u o, C u → C (emit u o)
  putKept : ∀ u f, C u → C (putKept u src f)
  putFault : ∀ u f, C u → C (putFault u src f)
  orderReset : ∀ u cause detail, C u → C (orderReset u cause detail)
  showPending : ∀ u, C u → C (showPending u)
  status : ∀ u x, C u → C (setNum u (kFault src 7) x)
  log : ∀ u code, C u → C (logMessage u code)

namespace RaiseClosed
variable {src : Nat} {C : State → Prop} {s : State}

theorem react (hC : RaiseClosed src C) {blk code : Nat} (hq : code = 3 → ¬HasBlock src) (h : C s) : C (react s src blk code) := by
  unfold Machine.react
  split_ifs with h1 h2 h3 h4
  · exact hC.emit _ _ h
  · exact hC.emit _ _ h
  · rw [blockReset_of_not_hasBlock (hq h3)]
    exact hC.showPending _ h
  · exact hC.orderReset _ _ _ (hC.putKept _ _ h)
  · exact h

end RaiseClosed

/-- A raise as it is counted and logged, before its reaction (R412, R417). -/
def noted (s : State) (src code : Nat) : State :=
  let s1 := countRaise s src code
  let s2 := if codedPhase s src then logMessage s1 code else s1
  if (faultKept s2 src).reset then putKept s2 src { faultKept s2 src with reset := false } else s2

theorem raise_eq (s : State) (src kind addr blk : Nat) :
    let u := noted s src (faultCode src kind addr)
    let f := { faultSrc u src with blk := blk }
    let reaction := nat u (kFault src 1)
    raise s src kind addr blk =
      if nat u (kFault src 6) = 1 then react u src blk reaction
      else if nat u (kFault src 7) = 0 ∨ nat u (kFault src 7) = 2 then
        react (setNum (putFault u src { f with standing := !isOnce src, timer := (reaction == 1 || reaction == 2) && nat u (kFault src 4) != 0 })
          (kFault src 7) (if isOnce src then 2 else 1)) src blk reaction
      else putFault u src { f with standing := f.standing || !isOnce src } := rfl

namespace RaiseClosed
variable {src : Nat} {C : State → Prop} {s : State}

theorem noted (hC : RaiseClosed src C) {code : Nat} (h : C (countRaise s src code)) : C (noted s src code) := by
  have h2 : C (if codedPhase s src then logMessage (countRaise s src code) code else countRaise s src code) := by
    split
    · exact hC.log _ _ h
    · exact h
  unfold Machine.noted
  dsimp only
  generalize (if codedPhase s src then logMessage (countRaise s src code) code else countRaise s src code) = u at h2
  split
  · exact hC.putKept _ _ h2
  · exact h2

/-- Whatever a raise does beyond its count keeps a closed fact, where its reaction resets no block. -/
theorem raise (hC : RaiseClosed src C) {kind addr blk : Nat} (hq : nat (Machine.noted s src (faultCode src kind addr)) (kFault src 1) = 3 → ¬HasBlock src)
    (h : C (countRaise s src (faultCode src kind addr))) : C (raise s src kind addr blk) := by
  have hn := hC.noted h
  rw [raise_eq]
  dsimp only
  split_ifs
  · exact hC.react hq hn
  · exact hC.react hq (hC.status _ _ (hC.putFault _ _ hn))
  · exact hC.react hq (hC.status _ _ (hC.putFault _ _ hn))
  · exact hC.putFault _ _ hn

end RaiseClosed

theorem keeps_countRaise {P : Key → Prop} {src : Nat} (h8 : ¬P (kFault src 8)) (hA : ¬P (kFault src 0xA)) (hB : ¬P (kFault src 0xB))
    (s : State) (code : Nat) : Keeps P s (countRaise s src code) :=
  (((Keeps.refl s).bump h8).setNum hA _).setNum hB _

theorem not_aloof_kFault_active {src : Nat} : ¬Aloof (kFault src 7) := not_aloof_kFault (by decide) (by decide)

theorem raiseClosed_keeps {P : Key → Prop} {src : Nat} (s : State) (hp : ¬P kRestartPending) (h7 : ¬P (kFault src 7))
    (hc : ¬P kLogCount) (hl : ¬P kLogLast) : RaiseClosed src (Keeps P s) where
  emit u o h := h.emit o
  putKept u f h := h.of_regs (by simp) (by simp)
  putFault u f h := h.putFault _ _
  orderReset u c d h := h.trans (keeps_orderReset u c d)
  showPending u h := (((h.setBit hp _ _).setBit hp _ _).setBit hp _ _).setBit hp _ _
  status u x h := h.setNum h7 x
  log u code h := by
    have h2 := (h.bump hc).setVal hl (.bytes (leBytes 4 code ++ leBytes 8 (now64 u)))
    unfold logMessage
    dsimp only
    refine .emit ?_ _
    split <;> exact h2.of_regs rfl rfl

theorem raiseClosed_bus (src : Nat) (b : Tab Bus) : RaiseClosed src fun u => u.bus = b where
  emit _ _ h := h
  putKept u f h := (putKept_bus u src f).trans h
  putFault _ _ h := h
  orderReset u c d h := (orderReset_bus u c d).trans h
  showPending u h := (showPending_bus u).trans h
  status u x h := (setNum_bus u _ x).trans h
  log u code h := (logMessage_bus u code).trans h

theorem raiseClosed_store (src : Nat) (m : Store) : RaiseClosed src fun u => u.mram.store = m where
  emit _ _ h := h
  putKept u f h := by rw [← h]; unfold Machine.putKept; split <;> rfl
  putFault _ _ h := h
  orderReset u c d h := (congrArg Mram.store (orderReset_mram u c d)).trans h
  showPending u h := (congrArg Mram.store (showPending_mram u)).trans h
  status u x h := (congrArg Mram.store (setNum_mram u _ x)).trans h
  log u code h := by rw [← h]; unfold logMessage; dsimp only; split <;> simp

/-- A source below 64, whose reaction is not the reset of a block of its own. -/
def Quiet (s : State) (src : Nat) : Prop := src < 64 ∧ (nat s (kFault src 1) = 3 → ¬HasBlock src)

/-- The reaction set for a fault source. -/
def IsReaction (j : Nat) : Prop := 0x7100 ≤ j / 256 ∧ j / 256 < 0x7140 ∧ j % 256 = 1

theorem not_isReaction_kFault {src sub : Nat} (hs : sub < 256) (h1 : sub ≠ 1) : ¬IsReaction (kFault src sub) := by
  unfold IsReaction kFault; omega

section raise
variable {s : State} {src : Nat} (hq : Quiet s src) (kind addr blk : Nat)
include hq

/-- Counting and logging leave a source's reaction as it is set. -/
theorem noted_reaction (code : Nat) : nat (noted s src code) (kFault src 1) = 3 → ¬HasBlock src := by
  have hr := fun {sub} hs h1 => not_isReaction_kFault (src := src) (sub := sub) hs h1
  have h : Keeps IsReaction s (noted s src code) :=
    (raiseClosed_keeps s (by unfold IsReaction; decide) (hr (by decide) (by decide)) (by unfold IsReaction; decide)
      (by unfold IsReaction; decide)).noted
      (keeps_countRaise (hr (by decide) (by decide)) (hr (by decide) (by decide)) (hr (by decide) (by decide)) s code)
  have hs := hq.1
  rw [h.nat_eq (by unfold IsReaction kFault; omega)]
  exact hq.2

/-- To the aloof registers a raise is a bump of its source's count. -/
theorem keeps_raise : Keeps Aloof (bump s (kFault src 8)) (raise s src kind addr blk) :=
  (raiseClosed_keeps _ (by unfold Aloof; decide) not_aloof_kFault_active (by unfold Aloof; decide) (by unfold Aloof; decide)).raise
    (noted_reaction hq _)
    (((Keeps.refl _).setNum (not_aloof_kFault (by decide) (by decide)) _).setNum (not_aloof_kFault (by decide) (by decide)) _)

theorem raise_bus : (raise s src kind addr blk).bus = s.bus :=
  (raiseClosed_bus src s.bus).raise (noted_reaction hq _) (countRaise_bus s src _)

theorem raise_store : (raise s src kind addr blk).mram.store = s.mram.store :=
  (raiseClosed_store src s.mram.store).raise (noted_reaction hq _) (congrArg Mram.store (countRaise_mram s src _))

end raise

theorem isCount_kFault {src : Nat} (h : src < 64) : IsCount (kFault src 8) := by unfold IsCount kFault; omega

/-! ### Heartbeats (R392) -/

theorem quiet_heartbeat (s : State) : Quiet s 18 := ⟨by decide, fun _ => by simp [HasBlock]⟩

/-- A core's third missed heartbeat is counted at source 18 (R392). -/
theorem keeps_heartbeat_third {s : State} {core : Nat} (h : tabFind s.safety.lost core = some 2) :
    Keeps IsCount (bump s (kFault 18 8)) (heartbeat s core false) := by
  have hr := (keeps_raise (quiet_heartbeat { s with safety := { s.safety with lost := tabPut s.safety.lost core 3 } }) 0 core 0).counts
  unfold heartbeat
  simp only [h, Option.getD_some, Bool.false_eq_true, if_false, if_true]
  exact .trans ⟨by simp [bump, setNum], fun j _ => by simp [bump]; rfl⟩ hr

theorem keeps_heartbeat_beat (s : State) (core : Nat) : Keeps IsCount s (heartbeat s core true) := by
  have h : Keeps IsCount s { s with safety := { s.safety with lost := tabDrop s.safety.lost core } } := (Keeps.refl s).of_regs rfl rfl
  exact .ite (h.trans (keeps_endCondition (not_isCount (by decide)) _)) h

/-! ### The segment cycle -/

/-- A segment cycle's start up to its beat. -/
def beforeBeat (beat0 beat1 : Bool) (s : State) : State :=
  let s0 := reachMultiple s (cycleBase s) 1000000 0 0
  let s1 := if s0.safety.enabled then heartbeat (heartbeat s0 0 beat0) 1 beat1 else s0
  let s2 := wavePoll (cycleBuses s1)
  pairCycle (drainHeld s2.server.held s2)

theorem segmentCycleStart_goes {s : State} (b0 b1 : Bool) (h : s.time.loaded = true) :
    Goes (.segmentCycleStart b0 b1) s (sendCopy (sendMark (sendBeat (beforeBeat b0 b1 s)))) := by
  show execSegmentCycleStart b0 b1 s = _
  unfold execSegmentCycleStart beforeBeat
  rw [if_neg (by simp [h])]

theorem elapse_safety (s : State) (n : Nat) : (elapse s n).safety = s.safety := rfl

theorem reachMultiple_cases (s : State) (n period offset slack : Nat) :
    reachMultiple s n period offset slack = s ∨ ∃ m, reachMultiple s n period offset slack = elapse s m := by
  unfold reachMultiple
  dsimp only
  split
  · exact .inl rfl
  · exact .inr ⟨_, rfl⟩

theorem reachMultiple_safety (s : State) (n period offset slack : Nat) : (reachMultiple s n period offset slack).safety = s.safety := by
  obtain h | ⟨m, h⟩ := reachMultiple_cases s n period offset slack <;> rw [h]
  rw [elapse_safety]

/-- Where no request is held back none is served. -/
theorem keeps_drainHeld_nil {P : Key → Prop} {s : State} (h : s.server.held = []) : Keeps P s (drainHeld s.server.held s) := by
  rw [h]
  exact ⟨h.symm, fun _ _ => rfl⟩

/-- R392 within a cycle: core 0 misses its third heartbeat while core 1 beats, and no request waits. -/
theorem keeps_beforeBeat_third {s : State} (he : s.safety.enabled = true) (hh : s.server.held = [])
    (hl : tabFind s.safety.lost 0 = some 2) : Keeps IsCount (bump s (kFault 18 8)) (beforeBeat false true s) := by
  have h0 := keeps_reachMultiple (P := fun _ => True) s (cycleBase s) 1000000 0 0
  have hs := reachMultiple_safety s (cycleBase s) 1000000 0 0
  unfold beforeBeat
  generalize reachMultiple s (cycleBase s) 1000000 0 0 = s0 at h0 hs
  have hbump : Keeps IsCount (bump s (kFault 18 8)) (bump s0 (kFault 18 8)) := by
    refine ⟨?_, fun j _ => ?_⟩
    · simpa [bump, setNum] using h0.1
    · simp [bump, h0.num_eq (j := kFault 18 8) trivial, h0.2 j trivial]
  have h1 := (hbump.trans (keeps_heartbeat_third (hs ▸ hl))).trans (keeps_heartbeat_beat _ 1)
  have h2 := (h1.trans (keeps_cycleBuses _)).trans (keeps_wavePoll _)
  simp only [hs, he, if_true]
  generalize wavePoll (cycleBuses (heartbeat (heartbeat s0 0 false) 1 true)) = s2 at h2
  have hheld : s2.server.held = [] := h2.1.trans (by simp [bump, setNum, hh])
  exact (h2.trans (keeps_drainHeld_nil hheld)).trans (keeps_pairCycle _)

theorem mem_out_segmentCycle {u : State} {o : Out} (h : o ∈ (sendBeat u).out) : o ∈ (sendCopy (sendMark (sendBeat u))).out :=
  mem_sendCopy_out (List.mem_cons_of_mem _ h)

/-- Table 17-3: the beat of the cycle left, of the length that its register shows. -/
theorem beat_of_code {u : State} {n : Nat} (h : num (sendCopy (sendMark (sendBeat u))) (kRed 6) = n) (hn : n ≠ 0) :
    Out.beat (if n = 1 then 100 else if n = 2 then 300 else 500) ∈ (sendCopy (sendMark (sendBeat u))).out := by
  have hc : num (sendCopy (sendMark (sendBeat u))) (kRed 6) = beatCode u :=
    ((keeps_sendCopy (P := fun _ => True) (sendMark (sendBeat u))).num_eq trivial).trans (num_sendBeat_code u)
  obtain rfl : beatCode u = n := by exact_mod_cast hc.symm.trans h
  refine mem_out_segmentCycle ?_
  simp [sendBeat_out, hn]

theorem segmentCycleStart_spec (s : State) (b0 b1 : Bool) :
    (s.time.loaded = false → Goes (.segmentCycleStart b0 b1) s s) ∧
    (s.time.loaded = true → ∃ t, Goes (.segmentCycleStart b0 b1) s t ∧ (∃ c m, Out.cycleMark c m ∈ t.out) ∧
      (num t (kRed 6) = 1 → Out.beat 100 ∈ t.out) ∧ (num t (kRed 6) = 2 → Out.beat 300 ∈ t.out) ∧ (num t (kRed 6) = 3 → Out.beat 500 ∈ t.out) ∧
      (s.safety.enabled = true → s.server.held = [] → b0 = false → b1 = true → tabFind s.safety.lost 0 = some 2 →
        num t (kFault 18 8) = (num s (kFault 18 8) + 1) % 2 ^ 32)) := by
  refine ⟨fun h => ?_, fun h => ⟨_, segmentCycleStart_goes b0 b1 h, ?_, ?_, ?_, ?_, ?_⟩⟩
  · show execSegmentCycleStart b0 b1 s = _
    simp [execSegmentCycleStart, h]
  · exact ⟨_, _, mem_sendCopy_out (List.mem_cons_self ..)⟩
  · exact fun h1 => beat_of_code (n := 1) h1 (by decide)
  · exact fun h2 => beat_of_code (n := 2) h2 (by decide)
  · exact fun h3 => beat_of_code (n := 3) h3 (by decide)
  · rintro he hh rfl rfl hl
    have hk := ((keeps_beforeBeat_third he hh hl).trans (keeps_sendBeat _)).trans
      (((Keeps.refl _).emit _).trans (keeps_sendCopy (sendMark _)))
    simpa using hk.num_eq (isCount_kFault (src := 18) (by decide))

/-! ### What a window reads -/

/-- What the rules of the windows read of controller `k` is in `t` as in `s`; TB2 may have moved, and the ALARM frames seen are forgotten. -/
structure SameBus (s t : State) (k : Nat) : Prop where
  regs : t.regs = s.regs
  mram : t.mram = s.mram
  start : t.start = s.start
  safety : t.safety = s.safety
  out : t.out = s.out
  bus : bus t k = { bus s k with seen := [] }

namespace SameBus
variable {s t : State} {k : Nat} (h : SameBus s t k)
include h

theorem num (j : Key) : num t j = num s j := by rw [Machine.num, Machine.num, reg_congr h.regs]
theorem nat (j : Key) : nat t j = nat s j := by rw [Machine.nat, Machine.nat, h.num]
theorem bit (j : Key) (n : Nat) : bit t j n = bit s j n := by rw [Machine.bit, Machine.bit, h.nat]
theorem busState (i : Nat) : busState t i = busState s i := h.nat _
theorem serial : serial t = serial s := congrArg Mram.serial h.mram
theorem domain (j : Key) : domain t j = domain s j := by unfold Machine.domain storeDegraded; rw [h.bit, h.mram]
theorem matrix : matrix t k = matrix s k := by unfold Machine.matrix; rw [h.domain, h.bus]
theorem matrixMismatch : matrixMismatch t k = matrixMismatch s k := by unfold Machine.matrixMismatch; rw [h.matrix, h.bus]
theorem ownNode : ownNode t k = ownNode s k := by unfold Machine.ownNode; rw [h.matrix, h.serial]
theorem ownRank : ownRank t k = ownRank s k := by unfold Machine.ownRank; rw [h.ownNode, h.matrix]
theorem isManagerOn : isManagerOn t k = isManagerOn s k := by unfold Machine.isManagerOn; rw [h.ownNode, h.matrix]

theorem busStandby : busStandby t = busStandby s := by
  unfold Machine.busStandby isStandby safeMode; rw [h.nat, h.nat, h.bit, h.start]

theorem restrictedCase : restrictedCase t k = restrictedCase s k := by
  unfold Machine.restrictedCase; rw [h.busStandby, h.matrixMismatch, h.ownNode, h.bus]

theorem maySend : maySend t k = maySend s k := by unfold Machine.maySend; rw [h.busState, h.restrictedCase]

theorem statusZones : statusZones t k = statusZones s k := by
  unfold Machine.statusZones coreZone copy; rw [h.safety, h.bus]; simp only [h.bit]

end SameBus

theorem sameBus_elapse (s : State) (k n : Nat) : SameBus s (putBus (elapse s n) k { bus (elapse s n) k with seen := [] }) k :=
  ⟨rfl, rfl, rfl, rfl, rfl, by rw [bus_putBus, if_pos rfl]; rfl⟩

/-- The state at window `w` of a basic cycle of controller `k`: TB2 has come to it (R341), and no ALARM frame has been seen in it. -/
def opened (s : State) (k w : Nat) : State := putBus (windowAt s w) k { bus (windowAt s w) k with seen := [] }

theorem sameBus_opened (s : State) (k w : Nat) : SameBus s (opened s k w) k := by
  have h : windowAt s w = s ∨ ∃ m, windowAt s w = elapse s m := by unfold windowAt; exact reachMultiple_cases ..
  unfold opened
  obtain h | ⟨m, h⟩ := h <;> rw [h]
  · exact ⟨rfl, rfl, rfl, rfl, rfl, by rw [bus_putBus, if_pos rfl]⟩
  · exact sameBus_elapse s k m

/-! ### A frame sent -/

theorem framed_putBus (s : State) (k : Nat) (b : Bus) (key : Bytes) (id : Nat) (data : Bytes) :
    framed (putBus s k b) key id data = framed s key id data := rfl

theorem tbNs_putBus (s : State) (k : Nat) (b : Bus) (n : Nat) : tbNs (putBus s k b) n = tbNs s n := rfl

theorem keeps_capture {P : Key → Prop} {src : Nat} (h : ¬P (0x6320 * 256 + src)) (s : State) : Keeps P s (capture s src) :=
  (Keeps.refl s).setVal h _

section sendCan
variable {s : State} {k : Nat}

/-- A controller that holds the bus key sends the frame of Table 14-4 and captures its start. -/
theorem sendCan_of_key {a b : Nat} {key : Bytes} (h : (bus s k).key = some (a, b, key)) (id : Nat) (data : Bytes) :
    sendCan s k id data = capture (emit s (.can k id (framed s key id data))) (2 + k) := by
  unfold sendCan
  rw [h]
  rfl

theorem sendCan_out {a b : Nat} {key : Bytes} (h : (bus s k).key = some (a, b, key)) (id : Nat) (data : Bytes) :
    (sendCan s k id data).out = .can k id (framed s key id data) :: s.out := by
  rw [sendCan_of_key h]
  simp [capture]

/-- Beyond the frame a sending changes a capture register alone. -/
theorem sendCan_cases (s : State) (k id : Nat) (data : Bytes) :
    sendCan s k id data = s ∨ ∃ o, sendCan s k id data = capture (emit s o) (2 + k) := by
  unfold sendCan
  split
  · exact .inr ⟨_, rfl⟩
  · exact .inl rfl

theorem sendCan_time (s : State) (k id : Nat) (data : Bytes) : (sendCan s k id data).time = s.time := by
  obtain h | ⟨o, h⟩ := sendCan_cases s k id data <;> simp [h, capture]

theorem keeps_sendCan {P : Key → Prop} (h : ¬P (0x6320 * 256 + (2 + k))) (s : State) (id : Nat) (data : Bytes) :
    Keeps P s (sendCan s k id data) := by
  obtain hs | ⟨o, hs⟩ := sendCan_cases s k id data <;> rw [hs]
  · exact .refl s
  · exact ((Keeps.refl s).emit o).trans (keeps_capture h _)

end sendCan

/-! ### What is sent in a window -/

/-- What a controller that may send does in window `w`, from `free` µs on (R346 to R348, R351, R353). -/
def windowSend (s : State) (k : Nat) (w : Fin 4) (free : Nat) : State :=
  if w.val % 2 = 0 then sendAlarms k ((bus s k).alarms.insertionSort (· ≤ ·)) free s
  else if w.val = 1 then windowReference s k free
  else
    match ownNode s k with
    | none => s
    | some n =>
        let m := matrix s k
        let b := ownCycle s % 16
        if !entryDue m b (ownCycle s / 16) ∨ entryNode m b ≠ n then s
        else if entryKind m b = 1 then exclusive s k free fun u => sendStatus u k n
        else if (bus s k).segments = [] then s
        else exclusive s k free fun u => sendDict u k n

theorem execWindowStart_eq {k : Fin 2} {w : Fin 4} {s u : State} (hu : opened s k w = u) (free : Nat) :
    execWindowStart k w free s = .next (if !busRuns s k then s
      else if !maySend u k ∨ busState u k = 5 then u
      else windowSend u k w free) := by
  unfold opened windowAt at hu
  unfold execWindowStart windowSend
  obtain ⟨s1, hs⟩ : ∃ s1, reachMultiple s 2 1000000 (250000 * w) 15 = s1 := ⟨_, rfl⟩
  rw [hs] at hu ⊢
  dsimp only
  rewrite [hu]
  cases ownNode u k <;> rfl

theorem busRuns_of_maySend {s : State} {k : Nat} (h : maySend s k = true) : busRuns s k = true := by
  simp only [maySend, busRuns, Bool.and_eq_true, Bool.or_eq_true, beq_iff_eq, bne_iff_ne] at h ⊢
  omega

section window
variable {s : State} {k : Fin 2} {w : Fin 4} {free : Nat}

theorem windowStart_goes_of_not_runs (h : busRuns s k = false) : Goes (.windowStart k w free) s s := by
  show execWindowStart k w free s = _
  rw [execWindowStart_eq rfl, if_pos (by simp [h])]

theorem windowStart_goes_of_not_maySend (hr : busRuns s k = true) (h : maySend s k = false) : Goes (.windowStart k w free) s (opened s k w) := by
  show execWindowStart k w free s = _
  rw [execWindowStart_eq rfl, if_neg (by simp [hr]), if_pos (by simp [(sameBus_opened s k w).maySend, h])]

theorem windowStart_goes (h : maySend s k = true) (h5 : busState s k ≠ 5) :
    Goes (.windowStart k w free) s (windowSend (opened s k w) k w free) := by
  have hs := sameBus_opened s k w
  show execWindowStart k w free s = _
  rw [execWindowStart_eq rfl, if_neg (by simp [busRuns_of_maySend h]), if_neg (by simp [hs.maySend, hs.busState, h, h5])]

end window

theorem framed_opened (s : State) (k w : Nat) : framed (opened s k w) = framed (windowAt s w) := by
  funext key id data
  unfold opened
  exact framed_putBus ..

theorem tbNs_opened (s : State) (k w n : Nat) : tbNs (opened s k w) n = tbNs (windowAt s w) n := by
  unfold opened
  exact tbNs_putBus ..

theorem ownCycle_opened (s : State) (k w : Nat) : ownCycle (opened s k w) = ownCycle (windowAt s w) := by
  unfold ownCycle
  rw [tbNs_opened]

/-- The frame's start was captured as TB2 stood when it was sent; a capture moves no time base. -/
theorem tbNs_sendCan (s : State) (k id : Nat) (data : Bytes) (n : Nat) : tbNs (sendCan s k id data) n = tbNs s n := by
  unfold tbNs base
  rw [sendCan_time]

/-! ### Single frames -/

/-- The data of a REFERENCE (Table 14-7): when the one before left, all ones for none, and the tag of the matrix. -/
def referenceData (s : State) (k : Nat) : Bytes :=
  (bus s k).sentSof.elim (List.replicate 8 0xFF) (leBytes 8) ++ leBytes 2 (matrixTag (domain s (kMatrix k)))

theorem sendReference_eq (s : State) (k r : Nat) : sendReference s k r =
    let s1 := sendCan s k (0x10 + r) (referenceData s k)
    putBus s1 k { bus s1 k with sentSof := some (tbNs s1 2) } := by
  unfold sendReference referenceData
  cases (bus s k).sentSof <;> rfl

section frames
variable {u : State} {k a b : Nat} {key : Bytes} (hk : (bus u k).key = some (a, b, key))
include hk

theorem sendAlarms_one_starts {z free : Nat} (hf : free < lastStart (bus u k).rates) (ha : (bus u k).alarms = [z]) :
    (sendAlarms k [z] free u).out = .can k z (framed u key z (alarmData z)) :: u.out ∧ (bus (sendAlarms k [z] free u) k).alarms = [] := by
  unfold sendAlarms sendAlarms
  rw [if_pos (.inl hf)]
  exact ⟨sendCan_out hk _ _, by simp [ha]⟩

theorem sendReference_spec (r : Nat) : (bus (sendReference u k r) k).sentSof = some (tbNs u 2) ∧
    (sendReference u k r).out = .can k (0x10 + r) (framed u key (0x10 + r) (referenceData u k)) :: u.out := by
  rw [sendReference_eq]
  exact ⟨by simp [tbNs_sendCan], sendCan_out hk _ _⟩

/-- The data of a STATUS (Table 14-8): its zones, what a manager cancels, flags, active sources, and the serial. -/
theorem sendStatus_spec (n : Nat) : ∃ c f m, (sendStatus u k n).out =
    .can k (0x20 + n) (framed u key (0x20 + n) (leBytes 2 (statusZones u k) ++ leBytes 2 c ++ [f, m] ++ leBytes 4 (serial u))) :: u.out :=
  ⟨_, _, _, sendCan_out hk _ _⟩

theorem sendDict_spec {n dst : Nat} {seg : Bytes} {rest : List (Nat × Bytes)} (hs : (bus u k).segments = (dst, seg) :: rest) :
    (bus (sendDict u k n) k).segments = rest ∧
    (sendDict u k n).out = .can k (if isManagerOn u k then 0x40 + dst else 0x60 + n)
      (framed u key (if isManagerOn u k then 0x40 + dst else 0x60 + n) seg) :: u.out := by
  unfold sendDict
  rw [hs]
  exact ⟨by simp, sendCan_out hk _ _⟩

end frames

/-- From the last permitted start on an ALARM frame that does not fit either waits, and is counted (R347). -/
theorem sendAlarms_one_waits {u : State} {k z free : Nat} (hl : lastStart (bus u k).rates ≤ free) (hf : 320 < free + frameMax (bus u k).rates) :
    sendAlarms k [z] free u = bump u (kBus k 0x11) := by
  unfold sendAlarms sendAlarms
  exact if_neg (by omega)

theorem fieldAt_zones (z c : Nat) (f m : Byte) (n : Nat) : fieldAt (leBytes 2 z ++ leBytes 2 c ++ [f, m] ++ leBytes 4 n) 0 2 = z % 65536 := by
  simp [fieldAt, slice, leBytes, leNat]
  omega

theorem fieldAt_serial (z c : Nat) (f m : Byte) (n : Nat) : fieldAt (leBytes 2 z ++ leBytes 2 c ++ [f, m] ++ leBytes 4 n) 6 4 = n % 2 ^ 32 := by
  simp [fieldAt, slice, leBytes, leNat]
  omega

/-! ### The windows of a controller that may send -/

section window
variable {s : State} {k : Fin 2} {w : Fin 4} {free : Nat}

theorem windowStart_alarms_goes (hm : maySend s k = true) (h5 : busState s k ≠ 5) (hw : w.val % 2 = 0) {z : Nat} (ha : (bus s k).alarms = [z]) :
    Goes (.windowStart k w free) s (sendAlarms k [z] free (opened s k w)) := by
  have h := windowStart_goes (w := w) (free := free) hm h5
  unfold windowSend at h
  rw [if_pos hw, (sameBus_opened s k w).bus, ha] at h
  exact h

theorem windowStart_reference_goes (hm : maySend s k = true) (h4 : busState s k = 4) (hw : w.val = 1) {r : Nat} (hr : ownRank s k = some r)
    (hf : free < lastStart (bus s k).rates) : Goes (.windowStart k w free) s (sendReference (opened s k w) k r) := by
  have hs := sameBus_opened s k w
  have h := windowStart_goes (w := w) (free := free) hm (by omega)
  unfold windowSend at h
  rw [if_neg (by omega), if_pos hw, windowReference, if_pos (hs.busState k ▸ h4), hs.ownRank, hr] at h
  dsimp only at h
  rwa [exclusive, if_pos (by rw [hs.bus]; exact hf)] at h

theorem windowStart_exclusive_goes (hm : maySend s k = true) (h5 : busState s k ≠ 5) (hw : w.val = 3) {n : Nat} (hn : ownNode s k = some n)
    (hd : entryDue (matrix s k) (ownCycle (windowAt s w) % 16) (ownCycle (windowAt s w) / 16) = true)
    (he : entryNode (matrix s k) (ownCycle (windowAt s w) % 16) = n) (hf : free < lastStart (bus s k).rates) :
    (entryKind (matrix s k) (ownCycle (windowAt s w) % 16) = 1 → Goes (.windowStart k w free) s (sendStatus (opened s k w) k n)) ∧
    (entryKind (matrix s k) (ownCycle (windowAt s w) % 16) = 2 → (bus s k).segments ≠ [] →
      Goes (.windowStart k w free) s (sendDict (opened s k w) k n)) := by
  have hs := sameBus_opened s k w
  have h := windowStart_goes (w := w) (free := free) hm h5
  have hx : ∀ send, exclusive (opened s k w) k free send = send (opened s k w) := fun send => by
    rw [exclusive, if_pos (by rw [hs.bus]; exact hf)]
  unfold windowSend at h
  rw [if_neg (by omega), if_neg (by omega), hs.ownNode, hn] at h
  dsimp only at h
  rw [hs.matrix, ownCycle_opened, if_neg (by simp [hd, he]), hs.bus, hx, hx] at h
  exact ⟨fun h1 => by rwa [if_pos h1] at h, fun h2 hne => by rwa [if_neg (by omega), if_neg hne] at h⟩

theorem windowStart_spec (s : State) (k : Fin 2) (w : Fin 4) (free : Nat) :
    let u := windowAt s w
    let cleared := putBus u k { bus u k with seen := [] }
    (busRuns s k = false → Goes (.windowStart k w free) s s) ∧
    (busRuns s k = true → maySend s k = false → Goes (.windowStart k w free) s cleared) ∧
    (∀ z a b key, maySend s k = true → busState s k ≠ 5 → w.val % 2 = 0 → (bus s k).alarms = [z] → (bus s k).key = some (a, b, key) →
      (free < lastStart (bus s k).rates → ∃ t, Goes (.windowStart k w free) s t ∧ t.out = Out.can k z (framed u key z (alarmData z)) :: s.out ∧ (bus t k).alarms = []) ∧
      (lastStart (bus s k).rates ≤ free → 320 < free + frameMax (bus s k).rates → ∃ t, Goes (.windowStart k w free) s t ∧ t.out = s.out ∧
        (bus t k).alarms = [z] ∧ num t (kBus k 0x11) = (num s (kBus k 0x11) + 1) % 2 ^ 32)) ∧
    (∀ r a b key, maySend s k = true → busState s k = 4 → w.val = 1 → ownRank s k = some r → (bus s k).key = some (a, b, key) → free < lastStart (bus s k).rates →
      ∃ t, Goes (.windowStart k w free) s t ∧ (bus t k).sentSof = some (tbNs u 2) ∧
        t.out = Out.can k (0x10 + r) (framed u key (0x10 + r) (((bus s k).sentSof.elim (List.replicate 8 0xFF) (leBytes 8)) ++
          leBytes 2 (matrixTag (domain s (kMatrix k))))) :: s.out) ∧
    ∀ n a b key, maySend s k = true → busState s k ≠ 5 → w.val = 3 → ownNode s k = some n → (bus s k).key = some (a, b, key) →
      entryDue (matrix s k) (ownCycle u % 16) (ownCycle u / 16) = true → entryNode (matrix s k) (ownCycle u % 16) = n → free < lastStart (bus s k).rates →
      (entryKind (matrix s k) (ownCycle u % 16) = 1 → ∃ t d, Goes (.windowStart k w free) s t ∧ t.out = Out.can k (0x20 + n) (framed u key (0x20 + n) d) :: s.out ∧
        fieldAt d 0 2 = statusZones s k % 65536 ∧ fieldAt d 6 4 = serial s % 2 ^ 32) ∧
      ∀ dst seg rest, entryKind (matrix s k) (ownCycle u % 16) = 2 → (bus s k).segments = (dst, seg) :: rest → ∃ t, Goes (.windowStart k w free) s t ∧
        (bus t k).segments = rest ∧
        t.out = Out.can k (if isManagerOn s k then 0x40 + dst else 0x60 + n) (framed u key (if isManagerOn s k then 0x40 + dst else 0x60 + n) seg) :: s.out := by
  have hs := sameBus_opened s k w
  have hb := hs.bus
  have hkey : ∀ {a b key}, (bus s k).key = some (a, b, key) → (bus (opened s k w) k).key = some (a, b, key) := fun h => by rw [hb]; exact h
  dsimp only
  refine ⟨windowStart_goes_of_not_runs, windowStart_goes_of_not_maySend, ?_, ?_, ?_⟩
  · intro z a b key hm h5 hw ha hk
    refine ⟨fun hf => ⟨_, windowStart_alarms_goes hm h5 hw ha, ?_⟩, fun hl hf => ⟨_, windowStart_alarms_goes hm h5 hw ha, ?_⟩⟩
    · rw [← framed_opened s k w, ← hs.out]
      exact sendAlarms_one_starts (hkey hk) (by rw [hb]; exact hf) (by rw [hb]; exact ha)
    · rw [sendAlarms_one_waits (by rw [hb]; exact hl) (by rw [hb]; exact hf), bump_out, bus_bump, hb, num_bump, if_pos rfl, hs.num]
      exact ⟨hs.out, ha, rfl⟩
  · intro r a b key hm h4 hw hr hk hf
    refine ⟨_, windowStart_reference_goes hm h4 hw hr hf, ?_⟩
    have h := sendReference_spec (hkey hk) r
    rwa [referenceData, tbNs_opened, framed_opened, hs.out, hs.domain, hb] at h
  · intro n a b key hm h5 hw hn hk hd he hf
    obtain ⟨hstatus, hdict⟩ := windowStart_exclusive_goes hm h5 hw hn hd he hf
    refine ⟨fun h1 => ?_, fun dst seg rest h2 hseg => ⟨_, hdict h2 (by simp [hseg]), ?_⟩⟩
    · obtain ⟨c, f, m, ho⟩ := sendStatus_spec (hkey hk) n
      rw [framed_opened, hs.out, hs.statusZones, hs.serial] at ho
      exact ⟨_, _, hstatus h1, ho, fieldAt_zones .., fieldAt_serial ..⟩
    · have h := sendDict_spec (n := n) (hkey hk) (by rw [hb]; exact hseg)
      rwa [framed_opened, hs.out, hs.isManagerOn] at h

end window

/-! ### A controller's registers -/

theorem kBus_ne {k a b : Nat} (h : a ≠ b) : @Ne Nat (kBus k a) (kBus k b) := by unfold kBus; omega

theorem kBus_ne_kFault {k sub src x : Nat} (hk : k < 2) (hs : sub < 256 := by decide) : @Ne Nat (kBus k sub) (kFault src x) := by
  unfold kBus kFault; omega

theorem kBus_ne_kAddrStatus {k sub : Nat} (hk : k < 2) (hs : sub < 256 := by decide) : @Ne Nat (kBus k sub) kAddrStatus := by
  unfold kBus kAddrStatus; omega

theorem aloof_kBus {k sub : Nat} (hk : k < 2) (hs : sub < 256 := by decide) : Aloof (kBus k sub) := by unfold Aloof kBus; omega

theorem aloof_kFault {src : Nat} (h : src < 64) : Aloof (kFault src 8) := .inr (isCount_kFault h)

theorem isReaction_kFault {src : Nat} (h : src < 64) : IsReaction (kFault src 1) := by unfold IsReaction kFault; omega

theorem not_isReaction_kBus {k sub : Nat} (hk : k < 2) (hs : sub < 256 := by decide) : ¬IsReaction (kBus k sub) := by
  unfold IsReaction kBus; omega

/-! ### Showing a controller's status -/

/-- What no write of a register breaks holds when the status is shown. -/
theorem showBus_induction {C : State → Prop} (hset : ∀ u j n, C u → C (setNum u j n)) {s : State} (h : C s) (k : Nat) : C (showBus s k) := by
  have hs : C (shown s k) := by
    have h2 := fun c a b => hset _ (kBus k 0xB) b (hset _ (kBus k 0xA) a
      (iteInduction (motive := C) (c := matrixConflict s k = true) (fun _ => hset s kAddrStatus c h) fun _ => h))
    exact iteInduction (motive := C) (fun _ => hset _ _ _ (h2 _ _ _)) fun _ => h2 _ _ _
  rw [showBus_eq]
  split_ifs
  · exact h
  · exact hset _ _ _ hs
  · exact hs

theorem showBus_bus (s : State) (k : Nat) : (showBus s k).bus = s.bus :=
  showBus_induction (C := fun u => u.bus = s.bus) (fun u j n h => (setNum_bus u j n).trans h) rfl k

theorem showBus_mram (s : State) (k : Nat) : (showBus s k).mram = s.mram :=
  showBus_induction (C := fun u => u.mram = s.mram) (fun u j n h => (setNum_mram u j n).trans h) rfl k

theorem bus_showBus (s : State) (k j : Nat) : bus (showBus s k) j = bus s j := by rw [bus, bus, showBus_bus]

theorem busState_shown (s : State) {k : Nat} (hk : k < 2) : busState (shown s k) k = busState s k :=
  (keeps_shown (P := (· = kBus k 9)) s k (kBus_ne_kAddrStatus hk).symm (kBus_ne (by decide)) (kBus_ne (by decide)) (kBus_ne (by decide))).nat_eq rfl

/-- Out of the states of Table 14-9 that take part, showing the status enters no restricted operation. -/
theorem busState_showBus {s : State} {k : Nat} (hk : k < 2) (h : ¬(3 ≤ busState s k ∧ busState s k ≤ 5)) :
    busState (showBus s k) k = busState s k := by
  rw [showBus_eq]
  split_ifs with h0 h1
  · rfl
  · rw [busState_shown s hk] at h1
    exact absurd ⟨h1.1, h1.2.1⟩ h
  · exact busState_shown s hk

/-- The registers of a controller that its status is not shown in. -/
theorem num_showBus (s : State) {k sub : Nat} (hk : k < 2) (hs : sub < 256 := by decide) (h : sub ∉ [9, 0xA, 0xB, 0xE] := by decide) :
    num (showBus s k) (kBus k sub) = num s (kBus k sub) := by
  simp only [List.mem_cons, List.not_mem_nil, not_or] at h
  obtain ⟨h9, hA, hB, hE, -⟩ := h
  exact (keeps_showBus (P := (· = kBus k sub)) s k (kBus_ne_kAddrStatus hk hs).symm (kBus_ne (Ne.symm h9)) (kBus_ne (Ne.symm hA))
    (kBus_ne (Ne.symm hB)) (kBus_ne (Ne.symm hE))).num_eq rfl

/-! ### Joining and mastership -/

theorem joinTimeout_goes {s : State} {k : Fin 2} {r : Nat} (h1 : busState s k = 1) (hh : (bus s k).heard = false)
    (hr : restrictedCase s k = false) (hn : ownRank s k = some r) : Goes (.joinTimeout k) s
      (takeMastership (if fieldBase s = 2 ∨ mastersBus s then s else stepBase s 2 (fieldNs s)) k r) := by
  show execJoinTimeout k s = _
  rw [execJoinTimeout, if_pos ⟨h1, by simp [hh], by simp [hr]⟩, hn]

theorem joinTimeout_goes_of_not {s : State} {k : Fin 2} (h : busState s k ≠ 1 ∨ (bus s k).heard = true ∨ restrictedCase s k = true) :
    Goes (.joinTimeout k) s s := by
  show execJoinTimeout k s = _
  rw [execJoinTimeout, if_neg]
  rintro ⟨h1, hh, hr⟩
  simp [h1] at h
  simp_all

theorem takeMastership_heard (s : State) (k r : Nat) : (bus (takeMastership s k r) k).heard = true := by
  unfold takeMastership
  rw [bus_showBus]
  simp

theorem num_takeMastership_rank (s : State) {k : Nat} (hk : k < 2) (r : Nat) : num (takeMastership s k r) (kBus k 0xC) = r := by
  unfold takeMastership
  rw [num_showBus _ hk, num_setNum, if_pos rfl]

/-- A potential master is not restricted, so it holds the bus key. -/
theorem key_of_potentialMaster {s : State} {k r : Nat} (h : potentialMaster s k = some r) : ∃ a b key, (bus s k).key = some (a, b, key) := by
  unfold potentialMaster at h
  split at h
  · rename_i hc
    obtain ⟨⟨a, b, key⟩, hk⟩ : ∃ x, (bus s k).key = some x := by
      have hr := hc.2
      simp [restrictedCase] at hr
      exact Option.isSome_iff_exists.1 hr.2
    exact ⟨a, b, key, hk⟩
  · cases h

theorem missingReference_goes_of_none {s : State} {k : Fin 2} (h : potentialMaster s k = none) (won : Bool) : Goes (.missingReference k won) s s := by
  show execMissingReference k won s = _
  rw [execMissingReference, h]

theorem missingReference_goes_master {s : State} {k : Fin 2} {r : Nat} (h : potentialMaster s k = some r) (h4 : busState s k = 4) :
    Goes (.missingReference k true) s (sendReference s k r) ∧ Goes (.missingReference k false) s (setNum s (kBus k 9) 3) := by
  constructor
  · show execMissingReference k true s = _
    rw [execMissingReference, h]
    simp [h4]
  · show execMissingReference k false s = _
    rw [execMissingReference, h]
    simp [h4]

/-! ### References lost (R354) -/

theorem keeps_flushAlarms {P : Key → Prop} (s : State) {k : Nat} (hc : ¬P (0x6320 * 256 + (2 + k))) : Keeps P s (flushAlarms s k) := by
  unfold flushAlarms
  split
  · exact .foldl ((Keeps.refl s).putBus _ _) fun z _ t => keeps_sendCan hc t z _
  · exact .refl s

theorem not_aloof_capture {k : Nat} (hk : k < 2) : ¬Aloof (0x6320 * 256 + (2 + k)) := by unfold Aloof; omega

theorem quiet_busLoss (s : State) : Quiet s 32 := ⟨by decide, fun _ => by simp [HasBlock]⟩

/-- TB2 loses its input where it came from controller `k` (R352). -/
def inputGone (s : State) (k : Nat) : State := if feedsTb2 s k ∧ (busRuns s k ∨ busState s k = 6) then inputLost s 2 else s

theorem keeps_inputGone (s : State) (k : Nat) : Keeps Aloof s (inputGone s k) := .ite (keeps_inputLost s (by decide)) (.refl s)

/-- The controller is UNSCHEDULED and knows no master. -/
def unscheduled (s : State) (k : Nat) : State := setNum (setNum (putBus s k { bus s k with lastSof := none }) (kBus k 9) 5) (kBus k 0xC) 0xFF

theorem referenceLost_goes_member {s : State} {k : Fin 2} (h : busState s k = 3) :
    Goes (.referenceLost k) s (flushAlarms (raise (unscheduled (inputGone s k) k) 32 2 (16 * k + 15)) k) := by
  show execReferenceLost k s = _
  unfold execReferenceLost
  dsimp only
  rw [if_pos h]
  rfl

theorem referenceLost_goes_restricted {s : State} {k : Fin 2} (h : busState s k = 2) :
    Goes (.referenceLost k) s (setNum (inputGone s k) (kBus k 0xC) 0xFF) := by
  show execReferenceLost k s = _
  unfold execReferenceLost
  dsimp only
  rw [if_neg (by omega), if_pos h]
  rfl

theorem referenceLost_member {s : State} {k : Fin 2} (h : busState s k = 3) :
    ∃ t, Goes (.referenceLost k) s t ∧ busState t k = 5 ∧ num t (kBus k 0xC) = 0xFF ∧ num t (kFault 32 8) = (num s (kFault 32 8) + 1) % 2 ^ 32 := by
  have hk := k.isLt
  refine ⟨_, referenceLost_goes_member h, ?_⟩
  have hg := keeps_inputGone s k
  generalize inputGone s k = u at hg
  have ht := (keeps_raise (quiet_busLoss (unscheduled u k)) 2 (16 * k + 15) 0).trans (keeps_flushAlarms _ (not_aloof_capture hk))
  have hcount : num (unscheduled u k) (kFault 32 8) = num s (kFault 32 8) := by
    rw [unscheduled, num_setNum, if_neg (kBus_ne_kFault (sub := 0xC) hk).symm, num_setNum, if_neg (kBus_ne_kFault (sub := 9) hk).symm,
      num_putBus, hg.num_eq (aloof_kFault (by decide))]
  refine ⟨?_, ?_, ?_⟩
  · rw [busState, ht.nat_eq (aloof_kBus hk), nat, num_bump, if_neg (kBus_ne_kFault hk)]
    simp [unscheduled, kBus_ne]
  · rw [ht.num_eq (aloof_kBus hk), num_bump, if_neg (kBus_ne_kFault hk)]
    simp [unscheduled]
  · rw [ht.num_eq (aloof_kFault (by decide)), num_bump, if_pos rfl, hcount]

theorem referenceLost_restricted {s : State} {k : Fin 2} (h : busState s k = 2) :
    ∃ t, Goes (.referenceLost k) s t ∧ busState t k = 2 ∧ num t (kBus k 0xC) = 0xFF := by
  refine ⟨_, referenceLost_goes_restricted h, ?_, by simp⟩
  rw [busState, nat, num_setNum, if_neg (kBus_ne (by decide))]
  exact ((keeps_inputGone s k).nat_eq (aloof_kBus k.isLt)).trans h

/-! ### Errors (R361) -/

theorem errorPassive_goes {s : State} {k : Fin 2} (h : busRuns s k = true) (tec rec_ : Byte) : Goes (.errorPassive k tec rec_) s
    (showBus (if tec.toNat < 128 ∧ rec_.toNat < 128 then endPassive (noteCounters s k tec.toNat rec_.toNat) k
      else raise (putBus (noteCounters s k tec.toNat rec_.toNat) k { bus (noteCounters s k tec.toNat rec_.toNat) k with passive := true }) 30 0 k k) k) := by
  show execErrorPassive k tec rec_ s = _
  rw [execErrorPassive, if_neg (by simp [h])]

/-- BUS_OFF before its report: no frame of the controller's own or a master's is known, and it is error passive no longer. -/
def busGone (s : State) (k : Nat) : State :=
  endPassive (noteCounters (setNum (setNum (putBus s k { bus s k with lastSof := none, sentSof := none }) (kBus k 9) 6) (kBus k 0xC) 0xFF) k 255
    (nat s (kBus k 0xD) % 256)) k

theorem busOff_goes {s : State} {k : Fin 2} (h : busRuns s k = true) : Goes (.busOff k) s (showBus (raise (busGone s k) 31 0 k k) k) := by
  show execBusOff k s = _
  rw [execBusOff, if_neg (by simp [h])]
  rfl

theorem errors_goes_of_not_runs {s : State} {k : Fin 2} (h : busRuns s k = false) (tec rec_ : Byte) :
    Goes (.errorPassive k tec rec_) s s ∧ Goes (.busOff k) s s := by
  constructor
  · show execErrorPassive k tec rec_ s = _
    rw [execErrorPassive, if_pos (by simp [h])]
  · show execBusOff k s = _
    rw [execBusOff, if_pos (by simp [h])]

theorem keeps_noteCounters {P : Key → Prop} (s : State) {k : Nat} (h : ¬P (kBus k 0xD)) (tec rec_ : Nat) : Keeps P s (noteCounters s k tec rec_) :=
  ((Keeps.refl s).setNum h _).of_regs rfl rfl

theorem num_noteCounters (s : State) (k tec rec_ : Nat) : num (noteCounters s k tec rec_) (kBus k 0xD) = (tec * 256 + rec_ : Nat) :=
  (num_setNum s (kBus k 0xD) (kBus k 0xD) _).trans (if_pos rfl)

theorem keeps_endPassive {P : Key → Prop} (s : State) (k : Nat) (h : ¬P (kFault 30 7)) : Keeps P s (endPassive s k) :=
  have hb := (Keeps.refl s).putBus k { bus s k with passive := false }
  .ite hb (hb.trans (keeps_endCondition h _))

theorem bus_endPassive (s : State) (k : Nat) : bus (endPassive s k) k = { bus s k with passive := false } := by
  unfold endPassive
  dsimp only
  split
  · simp
  · rw [bus, endCondition_bus]
    exact (bus_putBus s k k _).trans (if_pos rfl)

theorem endPassive_mram (s : State) (k : Nat) : (endPassive s k).mram = s.mram := by
  unfold endPassive
  dsimp only
  split <;> simp

theorem bus_raise {s : State} {src : Nat} (hq : Quiet s src) (kind addr blk k : Nat) : bus (raise s src kind addr blk) k = bus s k := by
  rw [bus, bus, raise_bus hq]

/-- The registers of a raise, as the status shows beside it: its count is one more, and a controller's registers stand. -/
theorem num_showBus_raise {s : State} {src k : Nat} (hq : Quiet s src) (hk : k < 2) (kind addr blk : Nat) :
    num (showBus (raise s src kind addr blk) k) (kFault src 8) = (num s (kFault src 8) + 1) % 2 ^ 32 ∧
    num (showBus (raise s src kind addr blk) k) (kBus k 0xD) = num s (kBus k 0xD) := by
  have hr := keeps_raise hq kind addr blk
  constructor
  · rw [(keeps_showBus_counts _ hk).num_eq (isCount_kFault hq.1), hr.num_eq (aloof_kFault hq.1), num_bump, if_pos rfl]
  · rw [num_showBus _ hk, hr.num_eq (aloof_kBus hk), num_bump, if_neg (kBus_ne_kFault hk)]

theorem raised_showBus_raise {s u : State} {src k : Nat} (hq : Quiet u src) (hk : k < 2) (kind addr blk : Nat)
    (hc : num u (kFault src 8) = num s (kFault src 8)) (hm : u.mem = s.mem) (hs : u.mram.store = s.mram.store) :
    Raised s (showBus (raise u src kind addr blk) k) src := by
  refine ⟨?_, ?_, ?_⟩
  · rw [(num_showBus_raise hq hk kind addr blk).1, hc]
  · rw [showBus_mem, raise_mem, hm]
  · rw [showBus_mram, raise_store hq, hs]

theorem errorPassive_spec {s : State} {k : Fin 2} (tec rec_ : Byte) (h : busRuns s k = true) (h3 : nat s (kFault 30 1) ≠ 3) :
    ∃ t, Goes (.errorPassive k tec rec_) s t ∧
      num t (kBus k 0xD) = (tec.toNat * 256 + rec_.toNat : Nat) ∧ (bus t k).passive = decide (128 ≤ tec.toNat ∨ 128 ≤ rec_.toNat) ∧
      ((bus t k).passive = true → Raised s t 30) := by
  have hk := k.isLt
  refine ⟨_, errorPassive_goes h tec rec_, ?_⟩
  have hd := num_noteCounters s k tec.toNat rec_.toNat
  have ha := keeps_noteCounters (P := IsReaction) s (not_isReaction_kBus hk) tec.toNat rec_.toNat
  have hc := keeps_noteCounters (P := IsCount) s (not_isCount_kBus hk) tec.toNat rec_.toNat
  have hmem : (noteCounters s k tec.toNat rec_.toNat).mem = s.mem := setNum_mem s _ _
  have hmram : (noteCounters s k tec.toNat rec_.toNat).mram = s.mram := setNum_mram s _ _
  generalize noteCounters s k tec.toNat rec_.toNat = u at *
  split
  case isTrue hlow =>
    have hp : (bus (showBus (endPassive u k) k) k).passive = false := by rw [bus_showBus, bus_endPassive]
    refine ⟨?_, ?_, fun hx => by simp [hp] at hx⟩
    · rw [num_showBus _ hk, (keeps_endPassive (P := Aloof) u k not_aloof_kFault_active).num_eq (aloof_kBus hk), hd]
    · rw [hp]
      exact (decide_eq_false (by omega)).symm
  case isFalse hhigh =>
    have hq : Quiet (putBus u k { bus u k with passive := true }) 30 := ⟨by decide, fun hx => by
      rw [nat_putBus, ha.nat_eq (isReaction_kFault (src := 30) (by decide))] at hx
      exact absurd hx h3⟩
    refine ⟨?_, ?_, fun _ => ?_⟩
    · rw [(num_showBus_raise hq hk _ _ _).2, num_putBus, hd]
    · rw [bus_showBus, bus_raise hq, bus_putBus, if_pos rfl]
      exact (decide_eq_true (by omega)).symm
    · exact raised_showBus_raise hq hk _ _ _ (hc.num_eq (isCount_kFault (src := 30) (by decide))) hmem (congrArg Mram.store hmram)

/-! ### Bus-off and the way back (R361) -/

theorem keeps_busGone {P : Key → Prop} (s : State) {k : Nat} (h9 : ¬P (kBus k 9)) (hC : ¬P (kBus k 0xC)) (hD : ¬P (kBus k 0xD))
    (h7 : ¬P (kFault 30 7)) : Keeps P s (busGone s k) :=
  have hb := (((Keeps.refl s).putBus k { bus s k with lastSof := none, sentSof := none }).setNum h9 6).setNum hC 0xFF
  (hb.trans (keeps_noteCounters _ hD _ _)).trans (keeps_endPassive _ k h7)

theorem busGone_mem (s : State) (k : Nat) : (busGone s k).mem = s.mem := by
  rw [busGone, endPassive_mem, noteCounters_mem, setNum_mem, setNum_mem]
  rfl

theorem busGone_mram (s : State) (k : Nat) : (busGone s k).mram = s.mram := by
  rw [busGone, endPassive_mram, noteCounters, setNum_mram, setNum_mram, setNum_mram]
  rfl

theorem busGone_passive (s : State) (k : Nat) : (bus (busGone s k) k).passive = false := by rw [busGone, bus_endPassive]

theorem busState_busGone (s : State) {k : Nat} (hk : k < 2) : busState (busGone s k) k = 6 := by
  rw [busGone, busState, (keeps_endPassive (P := Aloof) _ k not_aloof_kFault_active).nat_eq (aloof_kBus hk),
    (keeps_noteCounters (P := (· = kBus k 9)) _ (kBus_ne (by decide)) _ _).nat_eq rfl, nat, num_setNum, if_neg (kBus_ne (by decide)),
    num_setNum, if_pos rfl]
  rfl

theorem num_busGone_counters (s : State) {k : Nat} (hk : k < 2) :
    num (busGone s k) (kBus k 0xD) = (255 * 256 + nat s (kBus k 0xD) % 256 : Nat) := by
  rw [busGone, (keeps_endPassive (P := Aloof) _ k not_aloof_kFault_active).num_eq (aloof_kBus hk), num_noteCounters]

theorem busOff_spec {s : State} {k : Fin 2} (h : busRuns s k = true) (h3 : nat s (kFault 31 1) ≠ 3) :
    ∃ t, Goes (.busOff k) s t ∧ Raised s t 31 ∧ busState t k = 6 ∧ (bus t k).passive = false ∧
      num t (kBus k 0xD) = (255 * 256 + nat s (kBus k 0xD) % 256 : Nat) := by
  have hk := k.isLt
  have hreact := keeps_busGone (P := IsReaction) s (not_isReaction_kBus hk) (not_isReaction_kBus hk) (not_isReaction_kBus hk)
    (not_isReaction_kFault (by decide) (by decide))
  have hcount := keeps_busGone (P := IsCount) s (not_isCount_kBus hk) (not_isCount_kBus hk) (not_isCount_kBus hk)
    (fun hc => not_aloof_kFault_active (.inr hc))
  have hq : Quiet (busGone s k) 31 := ⟨by decide, fun hx => by
    rw [hreact.nat_eq (isReaction_kFault (by decide))] at hx
    exact absurd hx h3⟩
  have hstate : busState (raise (busGone s k) 31 0 k k) k = 6 := by
    rw [busState, (keeps_raise hq 0 k k).nat_eq (aloof_kBus hk), nat, num_bump, if_neg (kBus_ne_kFault hk)]
    exact busState_busGone s hk
  refine ⟨_, busOff_goes h, ?_, ?_, ?_, ?_⟩
  · exact raised_showBus_raise hq hk 0 k k (hcount.num_eq (isCount_kFault (by decide))) (busGone_mem s k) (congrArg Mram.store (busGone_mram s k))
  · rw [busState_showBus hk (by omega), hstate]
  · rw [bus_showBus, bus_raise hq, busGone_passive]
  · rw [(num_showBus_raise hq hk 0 k k).2, num_busGone_counters s hk]

/-- A controller that rejoins: it has heard no REFERENCE, and its counters start anew. -/
def rejoining (s : State) (k : Nat) : State := setNum (setNum (putBus s k { bus s k with heard := false }) (kBus k 9) 1) (kBus k 0xD) 0

theorem busOffRecovery_goes {s : State} {k : Fin 2} (h : busState s k = 6) : Goes (.busOffRecovery k) s
    (showBus (if busState (rejoining s k) (1 - k) = 6 then rejoining s k else endCondition (rejoining s k) 31) k) := by
  show execBusOffRecovery k s = _
  rw [execBusOffRecovery, if_pos h]
  rfl

theorem busOffRecovery_goes_of_not {s : State} {k : Fin 2} (h : busState s k ≠ 6) : Goes (.busOffRecovery k) s s := by
  show execBusOffRecovery k s = _
  rw [execBusOffRecovery, if_neg h]

theorem busState_rejoining (s : State) (k : Nat) : busState (rejoining s k) k = 1 := by
  rw [rejoining, busState, nat, num_setNum, if_neg (kBus_ne (by decide)), num_setNum, if_pos rfl]
  rfl

theorem busOffRecovery_spec {s : State} {k : Fin 2} (h : busState s k = 6) :
    ∃ t, Goes (.busOffRecovery k) s t ∧ busState t k = 1 ∧ (bus t k).heard = false ∧ t.mem = s.mem := by
  refine ⟨_, busOffRecovery_goes h, ?_⟩
  have hheard : (bus (rejoining s k) k).heard = false := by simp [rejoining]
  have hmem : (rejoining s k).mem = s.mem := by simp [rejoining]
  have hstate := busState_rejoining s k
  generalize rejoining s k = u at *
  have hended : busState (endCondition u 31) k = 1 :=
    ((keeps_endCondition (P := Aloof) not_aloof_kFault_active u).nat_eq (aloof_kBus k.isLt)).trans hstate
  split
  · exact ⟨by rw [busState_showBus k.isLt (by omega), hstate], by rw [bus_showBus, hheard], by rw [showBus_mem, hmem]⟩
  · exact ⟨by rw [busState_showBus k.isLt (by omega), hended], by rw [bus_showBus, bus, endCondition_bus]; exact hheard,
      by rw [showBus_mem, endCondition_mem, hmem]⟩

/-! ### The obligation -/

theorem joinTimeout_spec {s : State} {k : Fin 2} {r : Nat} (h1 : busState s k = 1) (hh : (bus s k).heard = false)
    (hr : restrictedCase s k = false) (hn : ownRank s k = some r) :
    ∃ t, Goes (.joinTimeout k) s t ∧ (bus t k).heard = true ∧ num t (kBus k 0xC) = r :=
  ⟨_, joinTimeout_goes h1 hh hr hn, takeMastership_heard _ _ _, num_takeMastership_rank _ k.isLt _⟩

theorem missingReference_master {s : State} {k : Fin 2} {r : Nat} (h : potentialMaster s k = some r) (h4 : busState s k = 4) :
    (∃ t d, Goes (.missingReference k true) s t ∧ t.out = Out.can k (0x10 + r) d :: s.out) ∧
    ∃ t, Goes (.missingReference k false) s t ∧ busState t k = 3 := by
  obtain ⟨a, b, key, hkey⟩ := key_of_potentialMaster h
  obtain ⟨hwon, hlost⟩ := missingReference_goes_master h h4
  exact ⟨⟨_, _, hwon, (sendReference_spec hkey r).2⟩, _, hlost, by simp [busState, nat]⟩

/-- Settles O50: each event as an equation of the state it leaves, and the frames' and registers' values read through what that state keeps. -/
theorem busCycle : Obligations.BusCycle := by
  refine ⟨segmentCycleStart_spec, windowStart_spec, fun s k => ⟨?_, joinTimeout_goes_of_not, missingReference_goes_of_none,
    fun r => missingReference_master, referenceLost_member, referenceLost_restricted, fun tec rec_ h => errors_goes_of_not_runs h tec rec_,
    errorPassive_spec, busOff_spec, busOffRecovery_spec, busOffRecovery_goes_of_not⟩⟩
  exact fun h1 hh hr r => joinTimeout_spec h1 hh hr

end Sys2Proof.Machine
end

section
open Sys2Proof.Claim

-- One declaration after the other: the whole text compiles near the check's limit on memory, and threads that wait for each other add to it.
set_option Elab.async false

namespace Sys2Proof.Machine

/-! ## What a raise changes

`Reports s t` says that from `s` to `t` only what a report of a fault writes has changed: registers, the server's notices, what has left the
block, the fault records, what waits of them, and a reset ordered. A raise whose reaction resets no block is one. -/

/-- Only what a report of a fault writes has changed, and what had left the block stands in front of it. -/
def Reports (s t : State) : Prop :=
  { t with
    regs := s.regs, server := s.server, out := s.out, faults := s.faults, keptHeld := s.keptHeld, logHeld := s.logHeld
    mram := { t.mram with faults := s.mram.faults, faultLog := s.mram.faultLog }
    start := { t.start with ordered := s.start.ordered } } = s ∧ s.out <:+ t.out

namespace Reports
variable {s t u : State}

theorem refl (s : State) : Reports s s := ⟨rfl, List.suffix_refl _⟩

theorem trans (h : Reports s t) (g : Reports t u) : Reports s u := by
  obtain ⟨h1, h2⟩ := h
  obtain ⟨g1, g2⟩ := g
  refine ⟨?_, h2.trans g2⟩
  rw [← h1, ← g1]

theorem setVal (h : Reports s t) (k : Key) (v : Val) : Reports s (setVal t k v) := by
  refine h.trans ⟨?_, by simp⟩
  unfold Machine.setVal
  split <;> rfl

theorem setNum (h : Reports s t) (k : Key) (n : Int) : Reports s (setNum t k n) := h.setVal _ _
theorem bump (h : Reports s t) (k : Key) : Reports s (bump t k) := h.setVal _ _
theorem setBit (h : Reports s t) (k : Key) (b : Nat) (v : Bool) : Reports s (setBit t k b v) := h.setVal _ _
theorem emit (h : Reports s t) (o : Out) : Reports s (emit t o) := h.trans ⟨rfl, List.suffix_cons _ _⟩
theorem putFault (h : Reports s t) (n : Nat) (f : FaultSrc) : Reports s (putFault t n f) := h.trans ⟨rfl, List.suffix_refl _⟩

theorem putKept (h : Reports s t) (n : Nat) (f : FaultKept) : Reports s (putKept t n f) := by
  refine h.trans ⟨?_, by simp⟩
  unfold Machine.putKept
  split <;> rfl

theorem orderReset (h : Reports s t) (c d : Nat) : Reports s (orderReset t c d) := by
  refine h.trans ⟨?_, by simp⟩
  unfold Machine.orderReset
  split
  · split <;> rfl
  · rfl

theorem showPending (h : Reports s t) : Reports s (showPending t) := (((h.setBit _ _ _).setBit _ _ _).setBit _ _ _).setBit _ _ _

theorem logMessage (h : Reports s t) (code : Nat) : Reports s (logMessage t code) := by
  have h2 := (h.bump kLogCount).setVal kLogLast (.bytes (leBytes 4 code ++ leBytes 8 (now64 t)))
  unfold Machine.logMessage
  dsimp only
  refine .emit ?_ _
  split
  · exact h2.trans ⟨rfl, List.suffix_refl _⟩
  · exact h2.trans ⟨rfl, List.suffix_refl _⟩

theorem ite {c : Prop} [Decidable c] (ht : Reports s t) (hu : Reports s u) : Reports s (if c then t else u) := by
  split
  · exact ht
  · exact hu

theorem foldl {β : Type} {g : State → β → State} {l : List β} (h : Reports s t) (hg : ∀ x ∈ l, ∀ u, Reports u (g u x)) :
    Reports s (l.foldl g t) := by
  induction l generalizing t with
  | nil => exact h
  | cons x l ih => exact ih (h.trans (hg x (by simp) t)) fun y hy => hg y (by simp [hy])

/-- A field that a report leaves alone. -/
theorem field {α : Type} (f : State → α) (h : Reports s t)
    (hf : ∀ u regs server out faults keptHeld logHeld fs log o, f { u with
      regs := regs, server := server, out := out, faults := faults, keptHeld := keptHeld, logHeld := logHeld
      mram := { u.mram with faults := fs, faultLog := log }, start := { u.start with ordered := o } } = f u := by intros; rfl) : f t = f s := by
  conv_rhs => rw [← h.1]
  exact (hf ..).symm

theorem mem_out (h : Reports s t) {o : Out} (ho : o ∈ s.out) : o ∈ t.out := h.2.subset ho

theorem lanes (h : Reports s t) : t.lanes = s.lanes := h.field State.lanes
theorem engines (h : Reports s t) : t.engines = s.engines := h.field State.engines
theorem meter (h : Reports s t) : t.meter = s.meter := h.field State.meter
theorem pads (h : Reports s t) : t.pads = s.pads := h.field State.pads
theorem pair (h : Reports s t) : t.pair = s.pair := h.field State.pair
theorem clk (h : Reports s t) : t.clk = s.clk := h.field State.clk
theorem mem (h : Reports s t) : t.mem = s.mem := h.field State.mem
theorem store (h : Reports s t) : t.mram.store = s.mram.store := h.field fun u => u.mram.store

end Reports

theorem reports_countRaise (s : State) (src code : Nat) : Reports s (countRaise s src code) :=
  (((Reports.refl s).bump _).setNum _ _).setNum _ _

theorem raiseClosed_reports (src : Nat) (s : State) : RaiseClosed src (Reports s) where
  emit _ o h := h.emit o
  putKept _ f h := h.putKept _ f
  putFault _ f h := h.putFault _ f
  orderReset _ c d h := h.orderReset c d
  showPending _ h := h.showPending
  status _ x h := h.setNum _ x
  log _ code h := h.logMessage code

theorem reports_raise {s : State} {src : Nat} (hq : Quiet s src) (kind addr blk : Nat) : Reports s (raise s src kind addr blk) :=
  (raiseClosed_reports src s).raise (noted_reaction hq _) (reports_countRaise s src _)

theorem reports_endCondition (s : State) (src : Nat) : Reports s (endCondition s src) := by
  unfold endCondition
  have h := (Reports.refl s).putFault src { faultSrc s src with standing := false }
  exact .ite (.ite (h.setNum _ 2) h) (.refl s)

theorem quiet_of_not_hasBlock {s : State} {src : Nat} (h : src < 64) (hb : ¬HasBlock src) : Quiet s src := ⟨h, fun _ => hb⟩

/-! ### The registers that a raise leaves -/

/-- A register that no raise writes, but to count it. -/
def Plain (j : Nat) : Prop :=
  j ≠ kRestartPending ∧ j ≠ kLogCount ∧ j ≠ kLogLast ∧ (j / 256 < 0x7100 ∨ 0x7140 ≤ j / 256 ∨ j % 256 = 8 ∨ j % 256 = 1)

theorem not_plain_kFault {src sub : Nat} (hsrc : src < 64) (hs : sub < 256) (h8 : sub ≠ 8) (h1 : sub ≠ 1) : ¬Plain (kFault src sub) := by
  unfold Plain kFault; omega

theorem plain_isCount {j : Nat} (h : IsCount j) : Plain j := by
  unfold IsCount at h
  unfold Plain kRestartPending kLogCount kLogLast
  omega

theorem plain_kFault {src : Nat} (h : src < 64) : Plain (kFault src 8) := plain_isCount (isCount_kFault h)

/-- To the plain registers a raise is a bump of its source's count. -/
theorem plain_raise {s : State} {src : Nat} (hq : Quiet s src) (kind addr blk : Nat) :
    Keeps Plain (bump s (kFault src 8)) (raise s src kind addr blk) := by
  have hn := fun {sub} hs h8 h1 => not_plain_kFault (sub := sub) hq.1 hs h8 h1
  exact (raiseClosed_keeps _ (by unfold Plain; decide) (hn (by decide) (by decide) (by decide)) (by unfold Plain; decide)
    (by unfold Plain; decide)).raise (noted_reaction hq _)
    (((Keeps.refl _).setNum (hn (by decide) (by decide) (by decide)) _).setNum (hn (by decide) (by decide) (by decide)) _)

/-- A plain register other than the count reads as before the raise. -/
theorem num_raise {s : State} {src : Nat} (hq : Quiet s src) (kind addr blk : Nat) {j : Key} (hp : Plain j) (hj : j ≠ kFault src 8) :
    num (raise s src kind addr blk) j = num s j := by
  rw [(plain_raise hq kind addr blk).num_eq hp, num_bump, if_neg hj]

theorem reg_raise {s : State} {src : Nat} (hq : Quiet s src) (kind addr blk : Nat) {j : Key} (hp : Plain j) (hj : j ≠ kFault src 8) :
    reg (raise s src kind addr blk) j = reg s j := by
  rw [(plain_raise hq kind addr blk).2 j hp, bump, setNum, reg_setVal, if_neg hj]

/-! ### A raise counts its source, whatever its reaction -/

theorem keeps_resetRegs {P : Key → Prop} {idx : Nat} (h : ∀ j : Nat, j / 256 = idx → ¬P j) (s : State) : Keeps P s (resetRegs s idx) :=
  (Keeps.refl s).foldl fun p hp u => (Keeps.refl u).setVal (h p.1 (by
    have hp := (List.mem_filter.1 hp).2
    simp only [Bool.and_eq_true, beq_iff_eq] at hp
    exact hp.1)) _

theorem keeps_showPending {P : Key → Prop} (hp : ¬P kRestartPending) (s : State) : Keeps P s (showPending s) :=
  ((((Keeps.refl s).setBit hp _ _).setBit hp _ _).setBit hp _ _).setBit hp _ _

/-- What a session had open ends, and no count is written. -/
theorem reg_endSession (s : State) (sid : Nat) {j : Key} (hj : IsCount j) : reg (endSession s sid) j = reg s j :=
  (keeps_dropOpen s sid).2 j hj

theorem reg_endSessions (s : State) (p : Nat → Bool) {j : Key} (hj : IsCount j) : reg (endSessions s p) j = reg s j :=
  foldl_keeps (g := endSession) (fun t => reg t j) (fun t sid => reg_endSession t sid hj) _ s

theorem dropTransfer_store (s : State) (x : Transfer) : (dropTransfer s x).mram.store = s.mram.store := by
  unfold dropTransfer
  dsimp only
  split
  · rw [setQuire, setNum_mram]
    rfl
  · rfl

theorem endSession_store (s : State) (sid : Nat) : (endSession s sid).mram.store = s.mram.store :=
  foldl_keeps (g := dropTransfer) (fun t => t.mram.store) dropTransfer_store _ s

theorem endSessions_store (s : State) (p : Nat → Bool) : (endSessions s p).mram.store = s.mram.store :=
  foldl_keeps (g := endSession) (fun t => t.mram.store) endSession_store _ s

/-- A block reset writes no count; the blocks are numbered from 0 to 15. -/
theorem reg_blockReset (s : State) (src : Nat) {blk : Nat} (hb : blk < 16) {j : Key} (hj : IsCount j) :
    reg (blockReset s src blk) j = reg s j := by
  have hidx : ∀ {idx}, (idx < 0x7100 ∨ 0x7140 ≤ idx) → ∀ u, reg (resetRegs u idx) j = reg u j := fun h u =>
    (keeps_resetRegs (P := IsCount) (fun j hx hc => by unfold IsCount at hc; omega) u).2 j hj
  unfold blockReset
  rw [(keeps_showPending (P := IsCount) (not_isCount (by decide)) _).2 j hj]
  split_ifs
  · exact hidx (by omega) _
  · rfl
  · have hne : j ≠ kEngine blk 2 := by
      rintro rfl
      unfold IsCount kEngine at hj
      omega
    rw [setNum, reg_setVal, if_neg hne]
    rfl
  · exact hidx (by omega) _
  · exact hidx (by omega) _
  · exact (hidx (by omega) _).trans (reg_endSessions _ _ hj)
  · exact hidx (by omega) _
  · rfl

theorem blockReset_store (s : State) (src blk : Nat) : (blockReset s src blk).mram.store = s.mram.store := by
  unfold blockReset
  rw [showPending_mram]
  split_ifs
  all_goals simp [endSessions_store]

/-- Whatever a raise does beyond its count keeps a closed fact that the reset of the source's block keeps too. -/
theorem RaiseClosed.raise_block {src blk : Nat} {C : State → Prop} (hC : RaiseClosed src C) (hb : ∀ u, C u → C (blockReset u src blk))
    {s : State} {kind addr : Nat} (h : C (countRaise s src (faultCode src kind addr))) : C (Machine.raise s src kind addr blk) := by
  have hreact : ∀ {u code}, C u → C (Machine.react u src blk code) := by
    intro u code hu
    by_cases h3 : code = 3
    · subst h3
      exact hb u hu
    · exact hC.react (fun h => absurd h h3) hu
  have hn := hC.noted h
  rw [raise_eq]
  dsimp only
  split_ifs
  · exact hreact hn
  · exact hreact (hC.status _ _ (hC.putFault _ _ hn))
  · exact hreact (hC.status _ _ (hC.putFault _ _ hn))
  · exact hC.putFault _ _ hn

theorem raiseClosed_reg {src : Nat} (hs : src < 64) {j : Key} (hj : Plain j) (v : Val) : RaiseClosed src fun u => reg u j = v := by
  have hk := fun u => raiseClosed_keeps (P := (· = j)) (src := src) u (by rintro rfl; exact absurd hj (by unfold Plain; decide))
    (by rintro rfl; exact not_plain_kFault hs (by decide) (by decide) (by decide) hj) (by rintro rfl; exact absurd hj (by unfold Plain; decide))
    (by rintro rfl; exact absurd hj (by unfold Plain; decide))
  exact {
    emit := fun u o h => (((hk u).emit u o (.refl u)).2 j rfl).trans h
    putKept := fun u f h => (((hk u).putKept u f (.refl u)).2 j rfl).trans h
    putFault := fun u f h => (((hk u).putFault u f (.refl u)).2 j rfl).trans h
    orderReset := fun u c d h => (((hk u).orderReset u c d (.refl u)).2 j rfl).trans h
    showPending := fun u h => (((hk u).showPending u (.refl u)).2 j rfl).trans h
    status := fun u x h => (((hk u).status u x (.refl u)).2 j rfl).trans h
    log := fun u code h => (((hk u).log u code (.refl u)).2 j rfl).trans h }

/-- A raise counts its source, and leaves memory and the store, whatever its reaction. -/
theorem raised_raise (s : State) {src : Nat} (hs : src < 64) (kind addr : Nat) {blk : Nat} (hb : blk < 16) :
    Raised s (raise s src kind addr blk) src := by
  refine ⟨?_, raise_mem s src kind addr blk, ?_⟩
  · have hc : reg (countRaise s src (faultCode src kind addr)) (kFault src 8) = reg (bump s (kFault src 8)) (kFault src 8) := by
      have h := fun {sub} (hne : sub ≠ 8) => @id (@Ne Nat (kFault src 8) (kFault src sub)) (by unfold kFault; omega)
      rw [countRaise, setNum, reg_setVal, if_neg (h (by decide)), setNum, reg_setVal, if_neg (h (by decide))]
    have hr := (raiseClosed_reg hs (plain_kFault hs) _).raise_block (blk := blk)
      (fun u hu => (reg_blockReset u src hb (isCount_kFault hs)).trans hu) hc
    rw [num, hr]
    exact (num_bump s (kFault src 8) (kFault src 8)).trans (if_pos rfl)
  · exact (raiseClosed_store src s.mram.store).raise_block (fun u hu => (blockReset_store u src blk).trans hu)
      (congrArg Mram.store (countRaise_mram s src _))

/-- A raise of a state that agrees with `s` on the count, memory and the store. -/
theorem raised_of_eq {s u t : State} {src : Nat} (h : Raised u t src) (hc : num u (kFault src 8) = num s (kFault src 8))
    (hm : u.mem = s.mem) (hst : u.mram.store = s.mram.store) : Raised s t src := by
  obtain ⟨h1, h2, h3⟩ := h
  exact ⟨by rw [h1, hc], h2.trans hm, h3.trans hst⟩

/-- What comes after a raise and leaves the count, memory and the store. -/
theorem raised_then {s u t : State} {src : Nat} (h : Raised s u src) (hc : num t (kFault src 8) = num u (kFault src 8))
    (hm : t.mem = u.mem) (hst : t.mram.store = u.mram.store) : Raised s t src := by
  obtain ⟨h1, h2, h3⟩ := h
  exact ⟨by rw [hc, h1], hm.trans h2, hst.trans h3⟩

/-! ## A reset keeps the demand intervals (O32)

`ResetTo` asks for a metering block as after power-on. `resetState` keeps the demand intervals' record (log entry 96), so a reset of
a module that has begun an interval leaves one that differs. -/

/-- A reset of the whole module keeps the metering block's demand record. -/
theorem hardReset_demand (s : State) (cause detail : Nat) (held : Bool) :
    (hardReset s cause detail held).meter.demand = s.meter.demand := by
  rw [hardReset, setNum_meter, setNum_meter, resetState]

/-- A module whose first demand interval has counted one sample set. -/
def demandBegun : State := { State.reset with meter := { demand := { n := 1 } } }

/-- Refutes O32: the power-on reset of `demandBegun` leaves the demand record, so the block is not as after power-on. -/
theorem not_resetsAndBackupLoss : ¬ Obligations.ResetsAndBackupLoss := by
  rintro ⟨⟨hsupply, -⟩, -⟩
  obtain ⟨⟨t, hgoes, hreset⟩, -⟩ := hsupply demandBegun
  obtain ⟨-, -, -, -, -, -, -, -, -, -, -, hmeter, -⟩ := hreset
  obtain rfl : hardReset demandBegun 0 0 true = t := Host.Outcome.next.inj hgoes
  have hn := congrArg (fun m : Meter => m.demand.n) hmeter
  rw [hardReset_demand] at hn
  exact absurd hn (by decide)

/-! ## The events that raise a fault source (O33) -/

theorem moduleOverTemperature_goes {s : State} (h : s.start.held = false) : Goes .moduleOverTemperature s (raise s 25 0 0) := by
  show execModuleOverTemperature s = _
  rw [execModuleOverTemperature, if_neg (by simp [h])]

theorem faultNMismatch_goes {s : State} (h : s.start.held = false) : Goes .faultNMismatch s (raise s 58 0 0) := by
  show execFaultNMismatch s = _
  rw [execFaultNMismatch, if_neg (by simp [h])]

theorem ethernetLinkLoss_goes {s : State} (port : Fin 2) (h : stepRan s 8 = true) :
    Goes (.ethernetLinkLoss port) s (raise s (26 + port) 0 0 port) := by
  show execEthernetLinkLoss port s = _
  rw [execEthernetLinkLoss, if_pos h]

/-- What the host port has done when its transaction was lost at a full queue: it has clocked out what waited. -/
def clockedOut (s : State) (n : Nat) : State :=
  let frame := s.server.hostQueue.headD []
  let s1 := emit s (.host ((frame ++ List.replicate n 0).take n))
  if frame.length ≤ n then { s1 with server := { s1.server with hostQueue := s1.server.hostQueue.drop 1 } } else s1

theorem clockedOut_cases (s : State) (n : Nat) : ∃ o server, clockedOut s n = { s with out := o, server := server } := by
  unfold clockedOut
  dsimp only
  split
  · exact ⟨_, _, rfl⟩
  · exact ⟨_, s.server, rfl⟩

theorem hostSpiTransaction_lost_goes {s : State} (mosi : Bytes) (h : transportOpen s 0 = true) :
    Goes (.hostSpiTransaction ⟨mosi, true⟩) s (raise (clockedOut s mosi.length) 56 0 0) := by
  show execHostSpiTransaction _ s = _
  rw [execHostSpiTransaction, if_neg (by simp [h])]
  rfl

theorem hostSpiTransaction_lost {s : State} (mosi : Bytes) (h : transportOpen s 0 = true) :
    ∃ t, Goes (.hostSpiTransaction ⟨mosi, true⟩) s t ∧ Raised s t 56 := by
  refine ⟨_, hostSpiTransaction_lost_goes mosi h, ?_⟩
  obtain ⟨o, server, hc⟩ := clockedOut_cases s mosi.length
  rw [hc]
  exact raised_of_eq (raised_raise _ (by decide) 0 0 (by decide)) rfl rfl rfl

theorem dtlsHandshake_lost_goes {s : State} (h : ethOpen s = true) : Goes (.dtlsHandshake .lost) s (raise s 56 0 0) := by
  show execDtlsHandshake .lost s = _
  simp only [execDtlsHandshake, h, if_true]

theorem mirror_lost_goes (s : State) (n : Fin 8) (r : Bytes) : Goes (.mirror .lost n r) s (raise s 56 0 0) := by
  show execMirror .lost n r s = _
  rw [execMirror, if_pos rfl]

/-- The lanes when their PLL has lost its lock: none sends marks. -/
def lanesUnlocked (s : State) : State :=
  { s with lanes := { s.lanes with pll := false, list := s.lanes.list.map fun x => (x.1, { x.2 with marks := false }) } }

theorem lanePllUnlock_goes (s : State) : Goes .lanePllUnlock s (raise (lanesUnlocked s) 21 0 0) := rfl

theorem tabFind_map {α β : Type} (f : α → β) (l : Tab α) (k : Nat) : tabFind (l.map fun x => (x.1, f x.2)) k = (tabFind l k).map f := by
  induction l with
  | nil => rfl
  | cons x l ih =>
    obtain ⟨a, y⟩ := x
    by_cases h : k = a <;> simp [tabFind, h, ih]

theorem lane_lanesUnlocked (s : State) (n : Nat) :
    lane (lanesUnlocked s) n = ((tabFind s.lanes.list n).map fun l => { l with marks := false }).getD {} := by
  have h := tabFind_map (fun l : Lane => { l with marks := false }) s.lanes.list n
  exact congrArg (fun o : Option Lane => o.getD {}) h

theorem lanePllUnlock_spec (s : State) :
    ∃ t, Goes .lanePllUnlock s t ∧ Raised s t 21 ∧ t.lanes.pll = false ∧ ∀ n, (lane t n).marks = true → (tabFind s.lanes.list n).isNone := by
  have hl := (reports_raise (quiet_of_not_hasBlock (s := lanesUnlocked s) (src := 21) (by decide) (by simp [HasBlock])) 0 0 0).lanes
  refine ⟨_, lanePllUnlock_goes s, raised_of_eq (raised_raise _ (by decide) 0 0 (by decide)) rfl rfl rfl, by rw [hl]; rfl, fun n hn => ?_⟩
  rw [lane, hl, ← lane, lane_lanesUnlocked] at hn
  cases h : tabFind s.lanes.list n with
  | none => rfl
  | some l => simp [h] at hn

theorem faultEvents_raised : FaultEvents := by
  intro s kind port
  refine ⟨fun h => ⟨⟨_, moduleOverTemperature_goes h, raised_raise s (by decide) 0 0 (by decide)⟩,
      ⟨_, faultNMismatch_goes h, raised_raise s (by decide) 0 0 (by decide)⟩⟩,
    fun h => ⟨_, ethernetLinkLoss_goes port h, raised_raise s (by omega) 0 0 (by omega)⟩,
    ⟨_, rfl, raised_raise s (by decide) _ 0 (by decide)⟩, fun mosi => hostSpiTransaction_lost mosi,
    fun h => ⟨_, dtlsHandshake_lost_goes h, raised_raise s (by decide) 0 0 (by decide)⟩,
    fun n r => ⟨_, mirror_lost_goes s n r, raised_raise s (by decide) 0 0 (by decide)⟩, lanePllUnlock_spec s⟩

/-! ### The fixed sources (R413) -/

theorem raise_held (s : State) {src : Nat} (kind addr blk : Nat) : (raise s src kind addr blk).start.held = s.start.held := by
  have hC : RaiseClosed src fun u => u.start.held = s.start.held := {
    emit := fun _ _ h => h
    putKept := fun u f h => (congrArg Start.held (putKept_start u src f)).trans h
    putFault := fun _ _ h => h
    orderReset := fun u c d h => by
      rw [← h]
      exact ((Reports.refl u).orderReset c d).field fun u => u.start.held
    showPending := fun u h => (congrArg Start.held (showPending_start u)).trans h
    status := fun u x h => (congrArg Start.held (setNum_start u _ x)).trans h
    log := fun u c h => (congrArg Start.held (logMessage_start u c)).trans h }
  exact hC.raise_block (fun u h => (congrArg Start.held (blockReset_start u src blk)).trans h) (congrArg Start.held (countRaise_start s src _))

/-- A reset of a module that is not held shows its cause and its detail, and leaves neither memory nor engines nor lanes. -/
theorem hardReset_shows {s : State} (h : s.start.held = false) (cause detail : Nat) :
    let t := hardReset s cause detail false
    num t 0x103001 = cause ∧ num t 0x103002 = detail ∧ t.start.running = true ∧ t.mem = [] ∧ t.engines = {} ∧ t.lanes = {} := by
  have hne : (0x103001 : Nat) ≠ 0x103002 := by decide
  simp only [hardReset, h, Bool.false_eq_true, if_false, if_true, num_setNum, if_neg hne, setNum_start, setNum_mem, setNum_engines, setNum_lanes,
    true_and]
  exact ⟨rfl, rfl, rfl, rfl⟩

theorem fixedReaction_shows {s : State} (h : s.start.held = false) (src kind : Nat) :
    let t := fixedReaction s src kind
    num t 0x103001 = 3 ∧ num t 0x103002 = src ∧ t.start.running = true ∧ t.mem = [] ∧ t.engines = {} ∧ t.lanes = {} := by
  rw [fixedReaction, if_neg (by simp [h])]
  exact hardReset_shows (by rw [putKept_start, raise_held, h]) 3 src

section fixed
variable {s : State}

theorem safetyCopy_goes (w : Fin 4) (crcOk : Bool) (he : s.safety.enabled = true) :
    Goes (.safetyCopy w crcOk) s (if crcOk then handCopy s w else fixedReaction s 17 2) := by
  show execSafetyCopy w crcOk s = _
  rw [execSafetyCopy, if_neg (by simp [he])]

theorem copyCheck_goes (ok : Bool) (he : s.safety.enabled = true) : Goes (.copyCheck ok) s (if ok then s else fixedReaction s 17 2) := by
  show execCopyCheck ok s = _
  cases ok <;> simp [execCopyCheck, he]

theorem safetyWatchdogExpiry_goes (he : s.safety.enabled = true) : Goes .safetyWatchdogExpiry s (fixedReaction s 19 0) := by
  show execSafetyWatchdogExpiry s = _
  rw [execSafetyWatchdogExpiry, if_pos he]

theorem lockstepMismatch_goes (he : s.safety.enabled = true) : Goes .lockstepMismatch s (fixedReaction s 17 1) := by
  show execLockstepMismatch s = _
  rw [execLockstepMismatch, if_pos he]

theorem systemPllUnlock_goes (hl : s.time.loaded = true) : Goes .systemPllUnlock s (fixedReaction s 20 0) := by
  show execSystemPllUnlock s = _
  rw [execSystemPllUnlock, if_pos hl]

theorem fixedReaction_resets {c : Instr} {src kind : Nat} (hh : s.start.held = false) (hg : Goes c s (fixedReaction s src kind)) :
    ∃ t, Goes c s t ∧ num t 0x103001 = 3 ∧ num t 0x103002 = src ∧ t.start.running = true ∧ t.mem = [] ∧ t.engines = {} ∧ t.lanes = {} :=
  ⟨_, hg, fixedReaction_shows hh src kind⟩

theorem safetyCore_resets (hh : s.start.held = false) (he : s.safety.enabled = true) (w : Fin 4) :
    ∀ f ∈ ([(.safetyCopy w false, 17), (.copyCheck false, 17), (.safetyWatchdogExpiry, 19), (.lockstepMismatch, 17)] : List (Instr × Nat)),
      ∃ t, Goes f.1 s t ∧ num t 0x103001 = 3 ∧ num t 0x103002 = f.2 ∧ t.start.running = true ∧ t.mem = [] ∧ t.engines = {} ∧ t.lanes = {} := by
  simp only [List.forall_mem_cons, List.not_mem_nil, false_implies, implies_true, and_true]
  exact ⟨fixedReaction_resets hh (safetyCopy_goes w false he), fixedReaction_resets hh (copyCheck_goes false he),
    fixedReaction_resets hh (safetyWatchdogExpiry_goes he), fixedReaction_resets hh (lockstepMismatch_goes he)⟩

end fixed

theorem fixedSources : FixedSources := by
  refine ⟨fun s w hh => ⟨fun he => safetyCore_resets hh he w, ?_, fun hl => ?_⟩, fun s w he => ⟨copyCheck_goes true he, ?_⟩⟩
  · obtain ⟨t, hg, h1, h2, hr, hm, -⟩ := fixedReaction_resets (c := .refLoss) (src := 22) (kind := 0) hh rfl
    exact ⟨t, hg, h1, h2, hr, hm⟩
  · obtain ⟨t, hg, h1, h2, hr, hm, -⟩ := fixedReaction_resets hh (systemPllUnlock_goes hl)
    exact ⟨t, hg, h1, h2, hr, hm⟩
  · exact ⟨_, safetyCopy_goes w true he, rfl, by simp [handCopy]⟩

/-- Settles O33: each event is one raise, or the fixed reaction, of the state that it finds. -/
theorem sourcesRaised : Obligations.SourcesRaised := ⟨faultEvents_raised, fixedSources⟩

/-! ## The power-fail warning (O29) -/

/-! ### The recorder's writes -/

/-- Only the recorder and its region have changed, the backlog is as it was, and no registers but those that number the records. -/
def OnlyRecords (s t : State) : Prop :=
  { t with regs := s.regs, server := s.server, recorder := s.recorder, mram := { t.mram with recorder := s.mram.recorder } } = s ∧
    t.recorder.backlog = s.recorder.backlog ∧ Keeps (· ∉ [kRec 4, kRec 5, kRec 6, kRec 7]) s t

namespace OnlyRecords
variable {s t u : State}

theorem refl (s : State) : OnlyRecords s s := ⟨rfl, rfl, .refl s⟩

theorem trans (h : OnlyRecords s t) (g : OnlyRecords t u) : OnlyRecords s u := by
  obtain ⟨h1, h2, h3⟩ := h
  obtain ⟨g1, g2, g3⟩ := g
  refine ⟨?_, g2.trans h2, h3.trans g3⟩
  rw [← h1, ← g1]

theorem setNum (h : OnlyRecords s t) {k : Key} (hk : k ∈ [kRec 4, kRec 5, kRec 6, kRec 7]) (n : Int) : OnlyRecords s (setNum t k n) := by
  refine h.trans ⟨?_, by simp, (Keeps.refl t).setNum (fun h => h hk) n⟩
  unfold Machine.setNum setVal
  split <;> rfl

theorem putRegion (h : OnlyRecords s t) (r : RecRegion) : OnlyRecords s (putRegion t r) := h.trans ⟨rfl, rfl, (Keeps.refl t).of_regs rfl rfl⟩

theorem putRec (h : OnlyRecords s t) {r : Recorder} (hr : r.backlog = t.recorder.backlog) : OnlyRecords s (putRec t r) :=
  h.trans ⟨rfl, hr, (Keeps.refl t).of_regs rfl rfl⟩

theorem ite {c : Prop} [Decidable c] (ht : OnlyRecords s t) (hu : OnlyRecords s u) : OnlyRecords s (if c then t else u) := by
  split
  · exact ht
  · exact hu

theorem foldl {β : Type} {g : State → β → State} (hg : ∀ u x, OnlyRecords u (g u x)) (l : List β) (s : State) : OnlyRecords s (l.foldl g s) := by
  induction l generalizing s with
  | nil => exact refl s
  | cons x l ih => exact (hg s x).trans (ih _)

/-- What none of the recorder's writes touches. -/
theorem field {α : Type} (f : State → α) (h : OnlyRecords s t)
    (hf : ∀ u regs server r region, f { u with regs := regs, server := server, recorder := r, mram := { u.mram with recorder := region } } = f u := by intros; rfl) :
    f t = f s := by
  conv_rhs => rw [← h.1]
  exact (hf ..).symm

end OnlyRecords

theorem onlyRecords_writeRecord (s : State) (op type : Nat) (payload : Bytes) : OnlyRecords s (writeRecord s op type payload) := by
  unfold writeRecord showRecNo
  dsimp only
  refine .setNum (.setNum ?_ (by decide) _) (by decide) _
  have h : ∀ r, OnlyRecords s (putRec (putRegion s r) { s.recorder with next := s.recorder.next + 1 }) := fun r =>
    ((OnlyRecords.refl s).putRegion r).putRec rfl
  split
  · exact .setNum (.ite (.setNum ((h _).putRegion _) (by decide) _) ((h _).putRegion _)) (by decide) _
  · exact h _

theorem onlyRecords_writeHeader (s : State) : OnlyRecords s (writeHeader s) := by
  unfold writeHeader
  split
  · exact .refl s
  · exact ((OnlyRecords.refl s).putRegion _).putRec rfl

theorem onlyRecords_writeBurn (s : State) : OnlyRecords s (writeBurn s) := by
  unfold writeBurn
  split_ifs
  · exact .refl s
  · exact (OnlyRecords.refl s).putRec rfl
  · exact ((OnlyRecords.refl s).putRegion _).putRec rfl

/-- The backlog is written as records, and none is left of it (R466). -/
theorem onlyRecords_drainBacklog (s : State) : OnlyRecords (putRec s { s.recorder with backlog := [] }) (drainBacklog s) := by
  have h := OnlyRecords.foldl (g := fun t r => writeRecord t (leNat (r.2.take 4)) r.1 (r.2.drop 4)) (fun u r => onlyRecords_writeRecord u _ _ _)
    s.recorder.backlog (putRec s { s.recorder with backlog := [] })
  exact (h.trans (.ite (onlyRecords_writeBurn _) (.refl _))).trans (onlyRecords_writeHeader _)

/-- The recorder follows the warning: the register aside, only its records and their backlog change. -/
theorem showRecState_field {α : Type} (f : State → α) (s : State)
    (hf : ∀ u regs server r region, f { u with regs := regs, server := server, recorder := r, mram := { u.mram with recorder := region } } = f u := by
      intros; rfl) : f (showRecState s) = f s := by
  have hset : ∀ n, f (setNum s (kRec 3) n) = f s := fun n => by
    unfold setNum setVal
    split
    · rfl
    · exact hf s _ _ s.recorder s.mram.recorder
  unfold showRecState
  split_ifs
  · exact hset 3
  · exact ((onlyRecords_drainBacklog _).field f hf).trans ((hf (setNum s (kRec 3) 1) _ _ _ _).trans (hset 1))
  · rfl

theorem num_showRecState (s : State) {k : Key} (hk : k ∉ [kRec 3, kRec 4, kRec 5, kRec 6, kRec 7]) : num (showRecState s) k = num s k := by
  have h := not_or.1 (mt List.mem_cons.2 hk)
  unfold showRecState
  split_ifs
  · rw [num_setNum, if_neg h.1]
  · rw [(onlyRecords_drainBacklog _).2.2.num_eq h.2]
    exact (num_setNum s (kRec 3) k 1).trans (if_neg h.1)
  · rfl

/-- The state that the recorder is in once it has followed the warning (Table 19-6). -/
theorem recState_showRecState (s : State) : recState (showRecState s) =
    if recState s = 1 ∧ s.power.warning then 3 else if recState s = 3 ∧ !s.power.warning then 1 else recState s := by
  have hset : ∀ (u : State) (n : Nat), recState (setNum u (kRec 3) n) = n := fun u n =>
    congrArg Int.toNat ((num_setNum u (kRec 3) (kRec 3) n).trans (if_pos rfl))
  conv_lhs => unfold showRecState
  split_ifs
  · exact hset s 3
  · exact ((onlyRecords_drainBacklog _).2.2.nat_eq (j := kRec 3) (by decide)).trans (hset s 1)
  · rfl

theorem showRecState_backlog {s : State} (h : recState s = 3) (hw : s.power.warning = false) : (showRecState s).recorder.backlog = [] := by
  unfold showRecState
  rw [if_neg (by omega), if_pos (by simp [h, hw])]
  exact (onlyRecords_drainBacklog _).2.1

/-! ### The warning -/

/-- The state in which a warning is reported: it stands, and the MRAM keeps what it holds of the key area and the air counters. -/
def warned (s : State) : State :=
  { s with power := { s.power with warning := true }, durable := some (s.mram.keys, s.mram.airTx, s.mram.airRx) }

theorem powerFailWarning_goes {s : State} (hh : s.start.held = false) (hw : s.power.warning = false) :
    Goes .powerFailWarning s (showRecState (raise (warned s) 24 0 0)) := by
  show execPowerFailWarning s = _
  rw [execPowerFailWarning, if_neg (by simp [hh, hw])]
  rfl

theorem powerFailWarning_goes_of_stands {s : State} (h : s.start.held = true ∨ s.power.warning = true) : Goes .powerFailWarning s s := by
  show execPowerFailWarning s = _
  rw [execPowerFailWarning, if_pos h]

theorem powerFailWarning_spec {s : State} (hh : s.start.held = false) (hw : s.power.warning = false) :
    ∃ t, Goes .powerFailWarning s t ∧ t.power.warning = true ∧ Raised s t 24 ∧ t.durable = some (s.mram.keys, s.mram.airTx, s.mram.airRx) ∧
      recState t = if recState s = 1 then 3 else recState s := by
  refine ⟨_, powerFailWarning_goes hh hw, ?_⟩
  have hq : Quiet (warned s) 24 := quiet_of_not_hasBlock (by decide) (by simp [HasBlock])
  have hr : Raised s (raise (warned s) 24 0 0) 24 := raised_of_eq (raised_raise _ (by decide) 0 0 (by decide)) rfl rfl rfl
  have hp := (reports_raise hq 0 0 0).field fun u => u.power.warning
  have hd := (reports_raise hq 0 0 0).field State.durable
  have hs : recState (raise (warned s) 24 0 0) = recState s :=
    congrArg Int.toNat (num_raise hq 0 0 0 (j := kRec 3) (by unfold Plain; decide) (by decide))
  generalize raise (warned s) 24 0 0 = u at hr hp hd hs
  refine ⟨(showRecState_field (fun u => u.power.warning) u).trans hp, ?_, (showRecState_field State.durable u).trans hd, ?_⟩
  · exact raised_then hr (num_showRecState u (by decide)) (showRecState_field State.mem u) (showRecState_field (fun u => u.mram.store) u)
  · rw [recState_showRecState, hs, hp]
    simp [warned]

/-! ### Its end -/

/-- The writes of registers that waited, one after the other. -/
def deferredMade (s : State) : State :=
  s.deferred.foldl (fun t i =>
    if isRwp t i.1 then transact t [i] else { t with mram := { t.mram with kept := tabPut t.mram.kept i.1 i.2 } }) { s with deferred := [] }

theorem flushHeld_eq (s : State) : flushHeld s =
    let s1 := deferredMade s
    let log := s1.mram.faultLog ++ s1.logHeld
    let ring := s1.mram.history ++ s1.start.historyDue
    { s1 with
      mram := { s1.mram with
        faults := s1.keptHeld.foldl (fun t f => tabPut t f.1 f.2) s1.mram.faults
        faultLog := log.drop (log.length - 256)
        bookmark := if s1.bookmarkDue then some s1.start.bookmark else s1.mram.bookmark
        history := ring.drop (ring.length - 16) }
      keptHeld := [], logHeld := [], bookmarkDue := false
      start := { s1.start with historyDue := [] } } := rfl

/-- What a write of a register that waited leaves alone. -/
theorem deferredMade_field {α : Type} (f : State → α) (s : State)
    (hf : ∀ u regs server st kept, f { u with regs := regs, server := server, mram := { u.mram with store := st, kept := kept } } = f u := by
      intros; rfl) : f (deferredMade s) = f { s with deferred := [] } := by
  refine foldl_keeps f (fun t i => ?_) _ _
  have hset : ∀ (u : State) n, f (setNum u kTxnCount n) = f u := fun u n => by
    unfold setNum setVal
    split
    · rfl
    · exact hf u _ _ u.mram.store u.mram.kept
  split
  · unfold transact
    split
    · rfl
    · exact (hf (setNum _ kTxnCount _) _ _ _ _).trans ((hset _ _).trans (hf t t.regs t.server _ t.mram.kept))
  · exact hf t t.regs t.server t.mram.store _

theorem keeps_transact {P : Key → Prop} (hp : ¬P kTxnCount) (s : State) (items : List (Key × Val)) : Keeps P s (transact s items) := by
  unfold transact
  split
  · exact .refl s
  · exact Keeps.of_regs (Keeps.setNum (t := { s with mram := { s.mram with store := s.mram.store.transact (items.map fun i => (i.1, typeOf s i.1, i.2)) } })
      ((Keeps.refl s).of_regs rfl rfl) hp _) rfl rfl

theorem num_deferredMade (s : State) {k : Key} (hk : k ≠ kTxnCount) : num (deferredMade s) k = num s k := by
  refine foldl_keeps (fun u => num u k) (fun t i => ?_) _ _
  dsimp only
  split
  · exact (keeps_transact (P := (· = k)) (Ne.symm hk) t [i]).num_eq rfl
  · rfl

/-- The state in which the warning's end is reported. -/
def cleared (s : State) : State := flushHeld { s with power := { s.power with warning := false }, durable := none }

theorem warningCleared_goes {s : State} (h : s.power.warning = true) : Goes .warningCleared s (showRecState (endCondition (cleared s) 24)) := by
  show execWarningCleared s = _
  rw [execWarningCleared, if_pos h]
  rfl

theorem warningCleared_goes_of_none {s : State} (h : s.power.warning = false) : Goes .warningCleared s s := by
  show execWarningCleared s = _
  rw [execWarningCleared, if_neg (by simp [h])]

/-- What the MRAM holds of the writes that waited, once they are made. -/
theorem cleared_spec (s : State) : let t := cleared s
    t.power.warning = false ∧ t.deferred = [] ∧ t.keptHeld = [] ∧ t.logHeld = [] ∧ t.bookmarkDue = false ∧ t.start.historyDue = [] ∧ t.durable = none ∧
    t.mem = s.mem ∧ t.recorder = s.recorder ∧ recState t = recState s ∧
    t.mram.faults = s.keptHeld.foldl (fun t f => tabPut t f.1 f.2) s.mram.faults ∧
    t.mram.bookmark = if s.bookmarkDue then some s.start.bookmark else s.mram.bookmark := by
  have h := fun {α : Type} (f : State → α) hf => deferredMade_field f { s with power := { s.power with warning := false }, durable := none } hf
  rw [cleared, flushHeld_eq]
  dsimp only
  rw [h State.keptHeld (by intros; rfl), h (fun u => u.mram.faults) (by intros; rfl), h (fun u => u.mram.bookmark) (by intros; rfl),
    h (fun u => u.start.bookmark) (by intros; rfl), h State.bookmarkDue (by intros; rfl)]
  exact ⟨h (fun u => u.power.warning) (by intros; rfl), h State.deferred (by intros; rfl), rfl, rfl, rfl, rfl, h State.durable (by intros; rfl),
    h State.mem (by intros; rfl), h State.recorder (by intros; rfl), congrArg Int.toNat (num_deferredMade _ (k := kRec 3) (by decide)), rfl, rfl⟩

theorem warningCleared_spec {s : State} (h : s.power.warning = true) :
    ∃ t, Goes .warningCleared s t ∧ recState t = (if recState s = 3 then 1 else recState s) ∧ (recState s = 3 → t.recorder.backlog = []) ∧
      t.power.warning = false ∧ t.deferred = [] ∧ t.keptHeld = [] ∧ t.logHeld = [] ∧ t.bookmarkDue = false ∧
      t.start.historyDue = [] ∧ t.durable = none ∧ t.mem = s.mem ∧ (∀ p, s.keptHeld = [p] → tabFind t.mram.faults p.1 = some p.2) ∧
      (s.bookmarkDue = true → t.mram.bookmark = some s.start.bookmark) ∧ (s.bookmarkDue = false → t.mram.bookmark = s.mram.bookmark) := by
  refine ⟨_, warningCleared_goes h, ?_⟩
  obtain ⟨hw, hdef, hkept, hlog, hdue, hhist, hdur, hmem, hrec, hstate, hfaults, hbook⟩ := cleared_spec s
  generalize cleared s = u at *
  have hu : recState (endCondition u 24) = recState s := by
    rw [← hstate]
    exact (keeps_endCondition (P := (· = kRec 3)) (by decide) u).nat_eq rfl
  have hf := fun {α : Type} (f : State → α) hf => showRecState_field f (endCondition u 24) hf
  refine ⟨?_, fun h3 => ?_, ?_, ?_, ?_, ?_, ?_, ?_, ?_, ?_, fun p hp => ?_, fun hb => ?_, fun hb => ?_⟩
  · rw [recState_showRecState, hu, endCondition_power, hw]
    simp
  · exact showRecState_backlog (hu.trans h3) (by rw [endCondition_power, hw])
  · rw [hf (fun u => u.power.warning) (by intros; rfl), endCondition_power, hw]
  · rw [hf State.deferred (by intros; rfl), endCondition_deferred, hdef]
  · rw [hf State.keptHeld (by intros; rfl), endCondition_keptHeld, hkept]
  · rw [hf State.logHeld (by intros; rfl), endCondition_logHeld, hlog]
  · rw [hf State.bookmarkDue (by intros; rfl), endCondition_bookmarkDue, hdue]
  · rw [hf (fun u => u.start.historyDue) (by intros; rfl), endCondition_start, hhist]
  · rw [hf State.durable (by intros; rfl), endCondition_durable, hdur]
  · rw [hf State.mem (by intros; rfl), endCondition_mem, hmem]
  · rw [hf (fun u => u.mram.faults) (by intros; rfl), endCondition_mram, hfaults, hp]
    exact tabFind_tabPut_same _ _ _
  · rw [hf (fun u => u.mram.bookmark) (by intros; rfl), endCondition_mram, hbook, if_pos hb]
  · rw [hf (fun u => u.mram.bookmark) (by intros; rfl), endCondition_mram, hbook, if_neg (by simp [hb])]

/-- Settles O29: the warning is one raise with the recorder following it, its end the writes that waited with the recorder's behind them. -/
theorem powerFail : Obligations.PowerFail :=
  ⟨fun _ => powerFailWarning_spec, fun _ => powerFailWarning_goes_of_stands, fun _ => warningCleared_goes_of_none, fun _ => warningCleared_spec⟩

/-! ## Commands and writes as the server carries them out

A COMMAND or WRITE that is taken and passes its checks leaves what applying its item leaves, and its answer: `Concluded`. -/

/-! ### The answer -/

/-- From `u` to `t` only an answer has left, with the journal of a pair. -/
def Concluded (u t : State) : Prop :=
  { t with server := u.server, regs := u.regs, bus := u.bus, out := u.out, pair := { t.pair with journal := u.pair.journal } } = u ∧
    (∀ k, k ≠ kFrameErrors → reg t k = reg u k) ∧ u.out <:+ t.out

namespace Concluded
variable {s t u : State}

theorem refl (s : State) : Concluded s s := ⟨rfl, fun _ _ => rfl, List.suffix_refl _⟩

theorem trans (h : Concluded s t) (g : Concluded t u) : Concluded s u := by
  obtain ⟨h1, h2, h3⟩ := h
  obtain ⟨g1, g2, g3⟩ := g
  refine ⟨?_, fun k hk => (g2 k hk).trans (h2 k hk), h3.trans g3⟩
  rw [← h1, ← g1]

/-- What an answer leaves alone. -/
theorem field {α : Type} (f : State → α) (h : Concluded s t)
    (hf : ∀ u server regs bus out j, f { u with server := server, regs := regs, bus := bus, out := out, pair := { u.pair with journal := j } } = f u := by
      intros; rfl) : f t = f s := by
  conv_rhs => rw [← h.1]
  exact (hf ..).symm

theorem num_eq (h : Concluded s t) {k : Key} (hk : k ≠ kFrameErrors) : num t k = num s k := congrArg Val.toInt (h.2.1 k hk)

theorem mem_out (h : Concluded s t) {o : Out} (ho : o ∈ s.out) : o ∈ t.out := h.2.2.subset ho

theorem server (s : State) (v : Server) : Concluded s { s with server := v } := ⟨rfl, fun _ _ => rfl, List.suffix_refl _⟩

end Concluded

theorem concluded_journal (s : State) (items : List JournalItem) : Concluded s (journal s items) := by
  unfold journal
  split
  · exact ⟨rfl, fun _ _ => rfl, List.suffix_refl _⟩
  · exact .refl s

theorem concluded_sendTo (s : State) (sid : Nat) (msg : Bytes) : Concluded s (sendTo s sid msg) := by
  unfold sendTo
  split
  · exact .server s _
  · dsimp only
    split
    · exact .server s _
    · refine ⟨?_, fun k hk => by rw [bump, setNum, reg_setVal, if_neg hk], by simp⟩
      unfold bump setNum setVal
      split <;> rfl
  · exact ⟨rfl, fun _ _ => rfl, List.suffix_refl _⟩
  · exact ⟨rfl, fun _ _ => rfl, List.suffix_cons _ _⟩

theorem concluded_answer (s : State) (sid : Nat) (tid : Half) (op status : Byte) (body : Bytes) : Concluded s (answer s sid tid op status body) :=
  (Concluded.server s _).trans (concluded_sendTo _ _ _)

/-- The operations that a request of one register is. -/
def IsItem (o : MdpOp) (r : Ref) (v : Bytes) : Prop := o = .command r v ∨ o = .write r v

theorem concluded_conclude (s : State) {sid : Nat} (h1 : sid ≠ 1) (tid : Half) {o : MdpOp} {r : Ref} {v : Bytes} (ho : IsItem o r v) (x : Byte × Bytes) :
    Concluded s (conclude s sid tid o (some x)) := by
  have h : conclude s sid tid o (some x) = if sessionOpen s sid then answer s sid tid (opCode o) x.1 x.2 else s := by
    obtain rfl | rfl := ho <;> simp [conclude, h1]
  rw [h]
  split
  · exact concluded_answer _ _ _ _ _ _
  · exact .refl s

/-! ### The request -/

/-- A request that is taken is carried out at once. -/
theorem serve_of_taken {s : State} {q : Req} {o : MdpOp} (h : Taken s q o) (hop : opCode o ≠ 0x21) :
    serve s q o = conclude (perform (begun s q) q.sid q.tid o none).2 q.sid q.tid o (perform (begun s q) q.sid q.tid o none).1 := by
  obtain ⟨⟨h1, hopen, hmute, hclosed, hkept, hbusy, hlen⟩, ⟨hheld, hwait, hcarry⟩, hfit, hcarried⟩ := h
  have hfind : (session s q.sid).kept.find? (fun k => k.tid == q.tid && s.clk < k.at_ + secs 30) = none := by
    simp only [List.find?_eq_none, Bool.and_eq_true, beq_iff_eq, decide_eq_true_eq, not_and]
    exact fun k hk ht => Nat.not_lt.2 (hkept k hk ht)
  have hrun : mayRun s q (opCode o) = (true, begun s q) := by
    simp only [mayRun, if_neg h1, hfind]
    rw [if_neg (by simp [hbusy]), if_neg (by omega)]
    rfl
  have hholds : holds (begun s q) q.sid = false := by
    simp only [holds, List.any_eq_false, beq_iff_eq]
    exact hheld
  have hmust : mustWait (begun s q) q.sid (writesPersistent (begun s q) q.sid o) = false := by
    have hw : (begun s q).server.waiting.any (fun w => w.sid == q.sid) = false := by
      simp only [List.any_eq_false, beq_iff_eq]
      exact hwait
    obtain hc | hc := hcarry <;> simp [mustWait, hw, hc]
  have hsession : (session (begun s q) q.sid).closed = false := by simpa [begun] using hclosed
  simp only [serve, hopen, hmute, hop, hrun, hholds, hmust]
  simp [serveNow, hsession, Nat.not_lt.2 hfit, hcarried]

/-- A check that comes out 0 has been passed, and the next one too. -/
theorem passed {c : Prop} [Decidable c] {e x : Byte} (h : (if c then e else x) = 0) (he : c → e ≠ 0) : ¬c ∧ x = 0 := by
  by_cases hc : c
  · rw [if_pos hc] at h
    exact absurd h (he hc)
  · rw [if_neg hc] at h
    exact ⟨hc, h⟩

/-- An item that passes its checks has a declaration, which its value fits. -/
theorem checkWrite_eq_zero {s t : State} {sid : Nat} {isCmd : Bool} {r : Ref} {v : Bytes} (h : checkWrite s t sid isCmd r v = 0) :
    ∃ d, declOf s r.index.toNat r.sub.toNat = some d ∧ isCmd = (d.acc == .cmd) ∧ lengthError d v = 0 ∧ inTableRange d (decodeVal d.ty v) = true ∧
      entryCondition t r.index.toNat r.sub.toNat (decodeVal d.ty v) = 0 := by
  unfold checkWrite at h
  cases hd : declOf s r.index.toNat r.sub.toNat with
  | none => simp [hd, eNoObject] at h
  | some d =>
    simp only [hd] at h
    obtain ⟨-, h⟩ := passed h fun _ => by decide
    obtain ⟨hcmd, h⟩ := passed h fun _ => by decide
    obtain ⟨-, h⟩ := passed h fun _ => by decide
    obtain ⟨-, h⟩ := passed h fun _ => by decide
    obtain ⟨hlen, h⟩ := passed h id
    obtain ⟨hrange, h⟩ := passed h fun _ => by decide
    obtain ⟨hcond, -⟩ := passed h id
    simp only [Bool.or_eq_true, Bool.not_eq_true', not_or, Bool.not_eq_false] at hrange
    exact ⟨d, rfl, by simpa using hcmd, by simpa using hlen, hrange.1, by simpa using hcond⟩

/-- The key of a register, as it is named in a request. -/
def IsKey (k : Nat) : Prop := k < 2 ^ 24

theorem refOf_index {k : Nat} (h : IsKey k) : (refOf k).index.toNat = k / 256 := by
  unfold IsKey at h
  simp only [refOf, BitVec.toNat_ofNat]
  omega

theorem refOf_sub (k : Nat) : (refOf k).sub.toNat = k % 256 := by simp [refOf]

theorem refOf_key {k : Nat} (h : IsKey k) : (refOf k).index.toNat * 256 + (refOf k).sub.toNat = k := by
  rw [refOf_index h, refOf_sub]
  omega

theorem storedItem_key (s : State) {k : Nat} (h : IsKey k) (v : Bytes) : (storedItem s (refOf k) v).1 = k := by
  have hk := refOf_key h
  unfold storedItem
  cases declOf s (refOf k).index.toNat (refOf k).sub.toNat <;> exact hk

/-! ### The item -/

theorem isCommand_of_checkWrite {s t : State} {sid : Nat} {isCmd : Bool} {k : Nat} (hk : IsKey k) {v : Bytes}
    (h : checkWrite s t sid isCmd (refOf k) v = 0) : isCommand s k = isCmd := by
  obtain ⟨d, hd, hcmd, -⟩ := checkWrite_eq_zero h
  rw [refOf_index hk, refOf_sub] at hd
  rw [isCommand, hd, hcmd]
  rfl

theorem isRwp_of_isCommand {s : State} {k : Key} (h : isCommand s k = true) : isRwp s k = false := by
  unfold isCommand at h
  rw [isRwp, beq_iff_eq.1 h]
  rfl

theorem noReaders_congr {s t : State} (h : ∀ k, k < 16 → nat t (kEngine k 2) = nat s (kEngine k 2)) : noReaders t = noReaders s := by
  unfold noReaders
  rw [Bool.eq_iff_iff, List.all_eq_true, List.all_eq_true]
  refine forall₂_congr fun k hk => ?_
  simp only [engineState, h k (List.mem_range.1 hk)]

/-- Making values durable counts the transaction. -/
theorem keeps_makeDurable {P : Key → Prop} (hp : ¬P kTxnCount) (s : State) (items : List (Key × Val)) : Keeps P s (makeDurable s items) := by
  unfold makeDurable
  exact .ite (.refl s) (keeps_transact hp s _)

theorem noteChange_waiting (sv : Server) (k : Key) : (noteChange sv k).waiting = sv.waiting := by
  unfold noteChange
  induction sv.subs.filter (fun b => !b.periodic && b.covers k) generalizing sv with
  | nil => rfl
  | cons b l ih =>
    rw [List.foldl_cons, ih]
    unfold queueNotice addNotice
    split_ifs <;> rfl

@[simp] theorem setVal_waiting (s : State) (k : Key) (v : Val) : (setVal s k v).server.waiting = s.server.waiting := by
  unfold setVal
  split
  · rfl
  · exact noteChange_waiting _ _

theorem transact_waiting (s : State) (items : List (Key × Val)) : (transact s items).server.waiting = s.server.waiting := by
  unfold transact
  split
  · rfl
  · exact setVal_waiting _ _ _

theorem makeDurable_waiting (s : State) (items : List (Key × Val)) : (makeDurable s items).server.waiting = s.server.waiting := by
  unfold makeDurable
  dsimp only
  split
  · rfl
  · exact transact_waiting s _

/-- An item that need not wait is accepted: it is durable first, then in force (R86, R87, R177). -/
theorem acceptItems_of_atOnce {s : State} {q : Req} {i : Key × Val} (hat : AtOnce s i.1) (sid : Nat) (tid : Half) (op : Byte) :
    acceptItems (begun s q) sid tid op [i] none = (some (0, []), applyItems (makeDurable (begun s q) [i]) [i]) := by
  obtain ⟨hw, hin⟩ := hat
  have hclosing : closing (begun s q) = false := by
    have hb : (begun s q).server.waiting = [] := hw
    rw [closing, hb]
    rfl
  have hwait : (makeDurable (begun s q) [i]).server.waiting = [] := (makeDurable_waiting _ _).trans hw
  have hreaders : noReaders (makeDurable (begun s q) [i]) = noReaders s := noReaders_congr fun k hk =>
    (keeps_makeDurable (P := (· = kEngine k 2)) (show @Ne Nat kTxnCount (kEngine k 2) by unfold kEngine kTxnCount; omega) _ _).nat_eq rfl
  have hnone : ([i].any (fun j => isInput j.1 || j.1 == kRec 2) && !noReaders (makeDurable (begun s q) [i])) = false := by
    rw [hreaders]
    obtain ⟨h1, h2⟩ | h := hin
    · simp [h1, h2]
    · simp [h]
  rw [acceptItems, hclosing]
  simp only [Bool.false_eq_true, if_false, hwait, hnone, bne_self_eq_false, Bool.or_false]

theorem itemOf_key (s : State) (q : Req) {k : Nat} (h : IsKey k) (v : Bytes) : (itemOf s q k v).1 = k := storedItem_key _ h v

section request
variable {s : State} {q : Req} {k : Nat} {v : Bytes}

/-- A COMMAND leaves what its action leaves, and its answer. -/
theorem commanded_concludes (hk : IsKey k) (h : Commanded s q k v) :
    Concluded (applyWrite (begun s q) (itemOf s q k v)) (serveCommandOf s q k v) := by
  obtain ⟨htaken, hcheck, hat⟩ := h
  have hcmd : isCommand (begun s q) (itemOf s q k v).1 = true := by
    rw [itemOf_key s q hk]
    exact isCommand_of_checkWrite hk hcheck
  have hdur : makeDurable (begun s q) [itemOf s q k v] = begun s q := by simp [makeDurable, isRwp_of_isCommand hcmd]
  have hp : perform (begun s q) q.sid q.tid (.command (refOf k) v) none =
      (some (0, []), applyItems (begun s q) [itemOf s q k v]) := by
    have ha := acceptItems_of_atOnce (q := q) hat q.sid q.tid (outerOp (opCode (.command (refOf k) v)) none)
    rw [hdur] at ha
    simp only [perform, bodyOk, serveWrite, if_true, hcheck]
    exact ha
  rw [serveCommandOf, serve_of_taken htaken (by simp [opCode]), hp]
  exact (concluded_journal _ _).trans (concluded_conclude _ htaken.1.1 _ (.inl rfl) _)

/-- A WRITE leaves what its item leaves once it is durable, and its answer. -/
theorem written_concludes (h : Written s q k v) :
    Concluded (applyWrite (makeDurable (begun s q) [itemOf s q k v]) (itemOf s q k v)) (serveWriteOf s q k v) := by
  obtain ⟨htaken, hcheck, hat⟩ := h
  have hp : perform (begun s q) q.sid q.tid (.write (refOf k) v) none =
      (some (0, []), applyItems (makeDurable (begun s q) [itemOf s q k v]) [itemOf s q k v]) := by
    have ha := acceptItems_of_atOnce (q := q) hat q.sid q.tid (outerOp (opCode (.write (refOf k) v)) none)
    have hc : checkWrite (begun s q) (withItem (begun s q) (storedItem (begun s q) (refOf k) v)) q.sid false (refOf k) v = 0 := hcheck
    simp only [perform, bodyOk, serveWrite, Bool.false_eq_true, if_false, hc]
    exact ha
  rw [serveWriteOf, serve_of_taken htaken (by simp [opCode]), hp]
  exact (concluded_journal _ _).trans (concluded_conclude _ htaken.1.1 _ (.inr rfl) _)

/-- The action of a command that is no engine input. -/
theorem applyWrite_of_commanded (hk : IsKey k) (h : Commanded s q k v) (hi : isInput k = false) :
    applyWrite (begun s q) (itemOf s q k v) = runCommand (begun s q) (k / 256) (k % 256) (itemOf s q k v).2 := by
  have hcmd := isCommand_of_checkWrite hk h.2.1
  have hkey := itemOf_key s q hk v
  simp only [applyWrite, hkey, hi, hcmd, Bool.false_eq_true, if_false, if_true]

end request

/-! ## The GPIO pads (O31) -/

/-! ### Bits of a register -/

theorem and_mod_two_le (x m : Nat) : (x &&& m) % 2 ≤ x % 2 := by
  rw [show (2 : Nat) = 2 ^ 1 from rfl, Nat.and_mod_two_pow]
  exact Nat.and_le_left

/-- Taking the bits of a mask away from a number clears them. -/
theorem testBit_sub_and (x m j : Nat) : (x - (x &&& m)).testBit j = (x.testBit j && !m.testBit j) := by
  induction j generalizing x m with
  | zero =>
    have h := Nat.testBit_and x m 0
    have hle := Nat.and_le_left (n := x) (m := m)
    have hmod := and_mod_two_le x m
    simp only [Nat.testBit_zero] at h ⊢
    rw [Bool.eq_iff_iff] at h ⊢
    simp only [Bool.and_eq_true, decide_eq_true_eq, Bool.not_eq_true', decide_eq_false_iff_not] at h ⊢
    omega
  | succ j ih =>
    have hle := Nat.and_le_left (n := x) (m := m)
    have hmod := and_mod_two_le x m
    have hdiv : (x - (x &&& m)) / 2 = x / 2 - (x / 2 &&& m / 2) := by
      rw [← Nat.and_div_two]
      omega
    rw [Nat.testBit_succ, hdiv, ih, Nat.testBit_succ, Nat.testBit_succ]

theorem nat_setBit (s : State) (k : Key) (b : Nat) (v : Bool) :
    nat (setBit s k b v) k = if v then nat s k ||| 2 ^ b else nat s k - (nat s k &&& 2 ^ b) := by
  unfold setBit
  dsimp only
  rw [nat, num_setNum, if_pos rfl]
  cases v <;> rfl

theorem num_setBit_other (s : State) {k j : Key} (h : j ≠ k) (b : Nat) (v : Bool) : num (setBit s k b v) j = num s j :=
  (num_setNum s k j _).trans (if_neg h)

/-- A bit reads as it was set, and the others as before. -/
theorem bit_setBit (s : State) (k : Key) (b j : Nat) (v : Bool) : bit (setBit s k b v) k j = if j = b then v else bit s k j := by
  rw [bit, nat_setBit, bit]
  cases v with
  | true =>
    rw [if_pos rfl, Nat.testBit_or, Nat.testBit_two_pow]
    by_cases h : j = b
    · simp [h]
    · simp [h, Ne.symm h]
  | false =>
    rw [if_neg (by decide), testBit_sub_and, Nat.testBit_two_pow]
    by_cases h : j = b
    · simp [h]
    · simp [h, Ne.symm h]

/-! ### Levels (R45) -/

theorem kGpio_ne {n a b : Nat} (h : a ≠ b) : @Ne Nat (kGpio n a) (kGpio n b) := by unfold kGpio; omega

@[simp] theorem gpio_putGpio (s : State) (k j : Nat) (g : Gpio) : gpio (putGpio s k g) j = if j = k then g else gpio s j := by
  unfold gpio putGpio
  rw [tabFind_tabPut]
  split <;> rfl

theorem gpio_congr {s t : State} (h : t.pads = s.pads) (n : Nat) : gpio t n = gpio s n := by rw [gpio, gpio, h]

theorem gpioLevelChange_goes {s : State} {pin : Fin 8} {level : Bool} (hh : s.start.held = false) (hl : s.start.loaded = true)
    (hm : nat s (kGpio pin 1) = 2) (hv : flag s (kGpio pin 2) ≠ level) :
    Goes (.gpioLevelChange pin level) s
      (bump (setNum (putGpio s pin { gpio s pin with raw := level }) (kGpio pin 2) (if level then 1 else 0)) (kGpio pin 5)) := by
  have hv' : flag (putGpio s pin { gpio s pin with raw := level }) (kGpio pin 2) ≠ level := hv
  show execGpioLevelChange pin level s = _
  rw [execGpioLevelChange, if_neg (by simp [hh, hl]), if_neg hv', if_pos (by simp [hm]), if_neg (by simp [hm])]

theorem gpioLevelChange_spec {s : State} {pin : Fin 8} {level : Bool} (hh : s.start.held = false) (hl : s.start.loaded = true)
    (hm : nat s (kGpio pin 1) = 2) (hv : flag s (kGpio pin 2) ≠ level) :
    ∃ t, Goes (.gpioLevelChange pin level) s t ∧ num t (kGpio pin 2) = (if level then 1 else 0) ∧
      num t (kGpio pin 5) = (num s (kGpio pin 5) + 1) % 2 ^ 32 ∧ (gpio t pin).raw = level := by
  refine ⟨_, gpioLevelChange_goes hh hl hm hv, ?_, ?_, ?_⟩
  · rw [num_bump, if_neg (kGpio_ne (by decide)), num_setNum, if_pos rfl]
  · rw [num_bump, if_pos rfl, num_setNum, if_neg (kGpio_ne (by decide))]
    rfl
  · rw [gpio_congr (s := putGpio s pin { gpio s pin with raw := level }) (by simp), gpio_putGpio, if_pos rfl]

/-! ### Relay pads (R46) -/

/-- The state in which the sample of a relay that differs has been taken. -/
def sampled (s : State) (pin : Nat) (level : Bool) : State :=
  let s1 := setNum (putGpio s pin { gpio s pin with raw := level }) (kGpio pin 2) (if level then 1 else 0)
  putGpio s1 pin { gpio s1 pin with differ := min 3 ((gpio s pin).differ + 1) }

theorem not_any_later {o : Option Nat} {d c : Nat} (h : ∀ t ∈ o, t + d ≤ c) : o.any (fun t => c < t + d) = false := by
  cases o with
  | none => rfl
  | some t => simpa using h t rfl

theorem relaySample_goes {s : State} {pin : Fin 8} {level : Bool} (hm : nat s (kGpio pin 1) = 6) (hy : ∀ t ∈ (gpio s pin).wroteAt, t + msec 1 ≤ s.clk)
    (hv : flag s (kGpio pin 3) ≠ level) :
    Goes (.relaySample pin level) s (if (gpio s pin).differ = 2 then raise (sampled s pin level) 59 0 pin else sampled s pin level) := by
  have hyoung := not_any_later hy
  show execRelaySample pin level s = _
  rw [execRelaySample, if_neg (by simp [hm]), if_neg (by simp [hyoung]), if_neg hv]
  rfl

theorem num_sampled (s : State) (pin : Nat) (level : Bool) (k : Key) :
    num (sampled s pin level) k = if k = kGpio pin 2 then (if level then 1 else 0) else num s k :=
  num_setNum (putGpio s pin { gpio s pin with raw := level }) (kGpio pin 2) k _

theorem gpio_sampled_differ (s : State) (pin : Nat) (level : Bool) : (gpio (sampled s pin level) pin).differ = min 3 ((gpio s pin).differ + 1) := by
  rw [sampled, gpio_putGpio, if_pos rfl]

theorem quiet_relay (s : State) : Quiet s 59 := quiet_of_not_hasBlock (by decide) (by simp [HasBlock])

theorem plain_kGpio {n sub : Nat} (hn : n < 8) (hs : sub < 256) : Plain (kGpio n sub) := by
  unfold Plain kGpio kRestartPending kLogCount kLogLast
  omega

theorem kGpio_ne_kFault {n sub src x : Nat} (hn : n < 8) (hs : sub < 256) : @Ne Nat (kGpio n sub) (kFault src x) := by
  unfold kGpio kFault; omega

theorem relaySample_spec {s : State} {pin : Fin 8} {level : Bool} (hm : nat s (kGpio pin 1) = 6)
    (hy : ∀ t ∈ (gpio s pin).wroteAt, t + msec 1 ≤ s.clk) (hv : flag s (kGpio pin 3) ≠ level) :
    ∃ t, Goes (.relaySample pin level) s t ∧ num t (kGpio pin 2) = (if level then 1 else 0) ∧ (gpio t pin).differ = min 3 ((gpio s pin).differ + 1) ∧
      num t (kFault 59 8) = if (gpio s pin).differ = 2 then (num s (kFault 59 8) + 1) % 2 ^ 32 else num s (kFault 59 8) := by
  refine ⟨_, relaySample_goes hm hy hv, ?_⟩
  have hne := kGpio_ne_kFault (sub := 2) (src := 59) (x := 8) pin.isLt (by decide)
  have hlevel := num_sampled s pin level (kGpio pin 2)
  have hcount := num_sampled s pin level (kFault 59 8)
  have hdiffer := gpio_sampled_differ s pin level
  rw [if_pos rfl] at hlevel
  rw [if_neg hne.symm] at hcount
  generalize sampled s pin level = u at *
  split
  · have hr := reports_raise (quiet_relay u) 0 pin 0
    refine ⟨?_, by rw [gpio_congr hr.pads, hdiffer], ?_⟩
    · rw [num_raise (quiet_relay u) _ _ _ (plain_kGpio pin.isLt (by decide)) hne, hlevel]
    · rw [(raised_raise u (by decide) 0 pin (by decide)).1, hcount]
  · exact ⟨hlevel, hdiffer, hcount⟩

/-! ### Modes (Table 2-5) -/

/-- Pad `n` in mode `m`, with its output bit. -/
def modeDrive (m : Int) (high : Bool) : Drive :=
  if m = 2 ∨ m = 3 then .pullUp else if m = 4 ∨ m = 6 then (if high then .high else .low) else if m = 5 then (if high then .z else .low) else .z

theorem gpioDrive_eq (s : State) (n : Nat) : gpioDrive s n = modeDrive (num s (kGpio n 1)) (flag s (kGpio n 3)) := by
  have hm : ∀ c : Nat, 0 < c → ((num s (kGpio n 1)).toNat = c ↔ num s (kGpio n 1) = c) := fun c hc => by omega
  unfold gpioDrive modeDrive
  simp only [nat, kGpio] at hm ⊢
  simp only [hm 2 (by decide), hm 3 (by decide), hm 4 (by decide), hm 5 (by decide), hm 6 (by decide), Nat.cast_ofNat]
  rfl

theorem gpioModeSet_num (s : State) (n old : Nat) {k : Key} (hk : k ≠ kGpio n 2) : num (gpioModeSet s n old) k = num s k := by
  have hs1 : ∀ c : Prop, [Decidable c] → ∀ u : State, num (emit (if c then emit u (.gpio n .z) else u) (.gpio n (gpioDrive u n))) k = num u k := by
    intro c _ u
    split <;> rfl
  unfold gpioModeSet
  dsimp only
  split
  · exact hs1 _ _
  · exact ((num_setNum _ _ k _).trans (if_neg hk)).trans (hs1 _ _)

theorem isCommand_of_entry (s : State) {k : Key} {e : Entry} (ho : isOem (k / 256) = false) (h0 : k % 256 ≠ 0)
    (he : entryOf (k / 256) (k % 256) = some e) (ha : e.acc ≠ .cmd) : isCommand s k = false := by
  unfold isCommand declOf
  split
  · rfl
  · rw [if_neg (by simp [ho]), he]
    simp [ha]

/-- A write of GPIO_MODE is no command and no engine input. -/
theorem gpioMode_plain (pin : Fin 8) (s : State) : isInput (kGpio pin 1) = false ∧ isCommand s (kGpio pin 1) = false ∧ isOem (kGpio pin 1 / 256) = false := by
  have h : ∀ p : Fin 8, isInput (kGpio p 1) = false ∧ isOem (kGpio p 1 / 256) = false ∧ kGpio p 1 % 256 ≠ 0 ∧
      (entryOf (kGpio p 1 / 256) (kGpio p 1 % 256)).map (·.acc) = some .rwp := by decide
  obtain ⟨hi, ho, h0, hacc⟩ := h pin
  obtain ⟨e, he, hacc⟩ := Option.map_eq_some_iff.1 hacc
  exact ⟨hi, isCommand_of_entry s ho h0 he (by simp [hacc]), ho⟩

theorem applyWrite_gpioMode (u : State) (pin : Fin 8) (x : Val) :
    applyWrite u (kGpio pin 1, x) = gpioModeSet (setVal u (kGpio pin 1) x) pin (nat u (kGpio pin 1)) := by
  obtain ⟨hi, hc, ho⟩ := gpioMode_plain pin u
  have hidx : (kGpio pin 1 : Nat) / 256 = 0x1100 + pin := by
    show ((0x1100 + pin.val) * 256 + 1) / 256 = 0x1100 + pin.val
    omega
  have hsub : (kGpio pin 1 : Nat) % 256 = 1 := by
    show ((0x1100 + pin.val) * 256 + 1) % 256 = 1
    omega
  have hset : setAny u (kGpio pin 1) x = setVal u (kGpio pin 1) x := by rw [setAny, if_neg (by simp [ho])]
  have hafter : ∀ w old, afterWrite w (0x1100 + pin) 1 old = gpioModeSet w pin old.toInt.toNat := fun w old => by
    unfold afterWrite
    rw [if_neg (by omega), if_pos (by omega), if_pos rfl, Nat.add_sub_cancel_left]
  simp only [applyWrite, hi, hc, Bool.false_eq_true, if_false, hidx, hsub, hset]
  exact hafter _ _

theorem num_gpioMode (u : State) (pin : Fin 8) (x : Val) {k : Key} (hk : k ≠ kGpio pin 2) :
    num (applyWrite u (kGpio pin 1, x)) k = if k = kGpio pin 1 then x.toInt else num u k := by
  rw [applyWrite_gpioMode, gpioModeSet_num _ _ _ hk, num, reg_setVal]
  split <;> rfl

theorem gpioModeSet_start (s : State) (n old : Nat) : (gpioModeSet s n old).start = s.start := by
  unfold gpioModeSet
  dsimp only
  split_ifs <;> simp

theorem makeDurable_start (s : State) (items : List (Key × Val)) : (makeDurable s items).start = s.start := by
  unfold makeDurable
  dsimp only
  split <;> simp

/-- A write of a pad's mode leaves the start as it is. -/
theorem gpioMode_start {s : State} {q : Req} {pin : Fin 8} {v : Bytes} (h : Written s q (kGpio pin 1) v) :
    (serveWriteOf s q (kGpio pin 1) v).start = s.start := by
  have hkey : (itemOf s q (kGpio pin 1) v).1 = kGpio pin 1 := itemOf_key s q (by unfold IsKey kGpio; omega) v
  rw [(written_concludes h).field State.start]
  generalize itemOf s q (kGpio pin 1) v = i at *
  obtain ⟨k, x⟩ := i
  subst hkey
  rw [applyWrite_gpioMode, gpioModeSet_start, setVal_start, makeDurable_start]
  rfl

/-- After a write of a pad's mode the mode reads as written, and the output bit as before. -/
theorem gpioMode_regs {s : State} {q : Req} {pin : Fin 8} {v : Bytes} (h : Written s q (kGpio pin 1) v) :
    num (serveWriteOf s q (kGpio pin 1) v) (kGpio pin 1) = (itemOf s q (kGpio pin 1) v).2.toInt ∧
    flag (serveWriteOf s q (kGpio pin 1) v) (kGpio pin 3) = flag s (kGpio pin 3) := by
  have hkey : (itemOf s q (kGpio pin 1) v).1 = kGpio pin 1 := itemOf_key s q (by unfold IsKey kGpio; omega) v
  have hc := written_concludes h
  have hd := keeps_makeDurable (P := (· = kGpio pin 3)) (show @Ne Nat kTxnCount (kGpio pin 3) by unfold kGpio kTxnCount; omega) (begun s q)
    [itemOf s q (kGpio pin 1) v]
  have hset := fun {k} hk => num_gpioMode (makeDurable (begun s q) [itemOf s q (kGpio pin 1) v]) pin (itemOf s q (kGpio pin 1) v).2 (k := k) hk
  have hne : ∀ sub, sub < 256 → @Ne Nat (kGpio pin sub) kFrameErrors := fun sub hs => by unfold kGpio kFrameErrors; omega
  generalize hi : itemOf s q (kGpio pin 1) v = i at *
  obtain ⟨k, x⟩ := i
  subst hkey
  constructor
  · rw [hc.num_eq (hne 1 (by decide)), hset (kGpio_ne (by decide)), if_pos rfl]
  · rw [flag, hc.num_eq (hne 3 (by decide)), hset (kGpio_ne (by decide)), if_neg (kGpio_ne (by decide)), hd.num_eq rfl]
    rfl

theorem gpioMode_spec {s : State} {q : Req} {pin : Fin 8} {v : Bytes} (h : Written s q (kGpio pin 1) v) (hh : s.start.held = false)
    (hl : s.start.loaded = true) :
    ∃ t, Goes (.gpioMode q pin v) s t ∧ num t (kGpio pin 1) = (itemOf s q (kGpio pin 1) v).2.toInt ∧
      padDrive t (.gp pin) = modeDrive (itemOf s q (kGpio pin 1) v).2.toInt (flag s (kGpio pin 3)) := by
  obtain ⟨hmode, hflag⟩ := gpioMode_regs h
  refine ⟨serveWriteOf s q (kGpio pin 1) v, rfl, hmode, ?_⟩
  rw [← hmode, ← hflag, ← gpioDrive_eq, padDrive, gpioMode_start h, if_neg (by simp [hh]), if_pos hl]

/-! ### Thermistors (R47) -/

theorem ntcConversion_goes {s : State} (hh : s.start.held = false) (hl : s.start.loaded = true) (a b : Nat) :
    Goes (.ntcConversion a b) s (ntcInput (ntcInput s 0 a) 1 b) := by
  show execNtcConversion a b s = _
  rw [execNtcConversion, if_neg (by simp [hh, hl])]

theorem ntcInput_eq (s : State) (i u : Nat) : ntcInput s i u =
    setBit (setNum s (0x110801 + i) (if 1220000 < u ∨ u < 20000 then -32768 else ntcTemp (nat s 0x110803) u)) 0x110804 i
      (decide (1220000 < u ∨ u < 20000)) := by
  simp [ntcInput]

theorem num_ntcInput (s : State) {i u : Nat} {k : Key} (hk : k ≠ 0x110804) :
    num (ntcInput s i u) k = if k = 0x110801 + i then (if 1220000 < u ∨ u < 20000 then -32768 else ntcTemp (nat s 0x110803) u) else num s k := by
  rw [ntcInput_eq, num_setBit_other _ hk, num_setNum]

theorem bit_ntcInput (s : State) {i : Nat} (u j : Nat) (hi : i < 2) :
    bit (ntcInput s i u) 0x110804 j = if j = i then decide (1220000 < u ∨ u < 20000) else bit s 0x110804 j := by
  have hne : @Ne Nat 0x110804 (0x110801 + i) := by omega
  rw [ntcInput_eq, bit_setBit, bit, nat, num_setNum, if_neg hne]
  rfl

theorem ntcConversion_spec {s : State} (hh : s.start.held = false) (hl : s.start.loaded = true) (a b : Nat) :
    ∃ t, Goes (.ntcConversion a b) s t ∧
      num t 0x110801 = (if 1220000 < a ∨ a < 20000 then -32768 else ntcTemp (nat s 0x110803) a) ∧ bit t 0x110804 0 = decide (1220000 < a ∨ a < 20000) ∧
      num t 0x110802 = (if 1220000 < b ∨ b < 20000 then -32768 else ntcTemp (nat s 0x110803) b) ∧ bit t 0x110804 1 = decide (1220000 < b ∨ b < 20000) := by
  have hbeta : nat (ntcInput s 0 a) 0x110803 = nat s 0x110803 := congrArg Int.toNat ((num_ntcInput s (by decide)).trans (if_neg (by decide)))
  refine ⟨_, ntcConversion_goes hh hl a b, ?_, ?_, ?_, ?_⟩
  · rw [num_ntcInput _ (by decide), if_neg (by decide), num_ntcInput _ (by decide), if_pos rfl]
  · rw [bit_ntcInput _ _ _ (by decide), if_neg (by decide), bit_ntcInput _ _ _ (by decide), if_pos rfl]
  · rw [num_ntcInput _ (by decide), if_pos rfl, hbeta]
  · rw [bit_ntcInput _ _ _ (by decide), if_pos rfl]

/-- Settles O31: each event is one equation of the state it leaves, and a mode's write the pad's drive read in the state that the server leaves. -/
theorem pads : Obligations.Pads :=
  ⟨fun _ _ _ => gpioLevelChange_spec, fun _ _ _ => relaySample_spec, fun _ _ hh => if_pos hh,
    fun _ _ _ _ h hh hl => gpioMode_spec h hh hl, fun _ a b hh hl => ntcConversion_spec hh hl a b⟩

/-! ## What stands of a part of the state

`Stands f P s t` says that from `s` to `t` the part `f` of the state and the registers of a kind `P` stand. The part is `Blind` to what a
report of a fault writes, so writes of registers and raises need no case of their own in what follows. -/

/-- A part of the state that no report of a fault changes. -/
def Blind {α : Type} (f : State → α) : Prop := ∀ u regs server out faults keptHeld logHeld fs log o, f { u with
  regs := regs, server := server, out := out, faults := faults, keptHeld := keptHeld, logHeld := logHeld
  mram := { u.mram with faults := fs, faultLog := log }, start := { u.start with ordered := o } } = f u

theorem Reports.blind {α : Type} {f : State → α} {s t : State} (h : Reports s t) (hf : Blind f) : f t = f s := h.field f hf

structure Stands {α : Type} (f : State → α) (P : Key → Prop) (s t : State) : Prop where
  same : f t = f s
  regs : ∀ j, P j → reg t j = reg s j

namespace Stands
variable {α : Type} {f : State → α} {P Q : Key → Prop} {s t u : State} {k : Key}

theorem refl (s : State) : Stands f P s s := ⟨rfl, fun _ _ => rfl⟩

theorem trans (h : Stands f P s t) (g : Stands f P t u) : Stands f P s u :=
  ⟨g.same.trans h.same, fun j hj => (g.regs j hj).trans (h.regs j hj)⟩

theorem num_eq (h : Stands f P s t) (hk : P k) : num t k = num s k := congrArg Val.toInt (h.regs k hk)
theorem nat_eq (h : Stands f P s t) (hk : P k) : nat t k = nat s k := congrArg Int.toNat (h.num_eq hk)

/-- An update of neither the part nor the registers. -/
theorem of_eq (h : Stands f P s t) (hf : f u = f t) (hr : u.regs = t.regs) : Stands f P s u :=
  h.trans ⟨hf, fun j _ => reg_congr hr j⟩

theorem reports (h : Stands f P s t) (hf : Blind f) (hr : Reports t u) (hk : Keeps P t u) : Stands f P s u :=
  h.trans ⟨hr.blind hf, hk.2⟩

theorem setVal (h : Stands f P s t) (hf : Blind f) (hk : ¬P k) (v : Val) : Stands f P s (setVal t k v) :=
  h.reports hf ((Reports.refl t).setVal k v) ((Keeps.refl t).setVal hk v)

theorem setNum (h : Stands f P s t) (hf : Blind f) (hk : ¬P k) (n : Int) : Stands f P s (setNum t k n) := h.setVal hf hk _
theorem bump (h : Stands f P s t) (hf : Blind f) (hk : ¬P k) : Stands f P s (bump t k) := h.setVal hf hk _
theorem setBit (h : Stands f P s t) (hf : Blind f) (hk : ¬P k) (b : Nat) (v : Bool) : Stands f P s (setBit t k b v) := h.setVal hf hk _

theorem emit (h : Stands f P s t) (hf : Blind f) (o : Out) : Stands f P s (emit t o) :=
  h.reports hf ((Reports.refl t).emit o) ((Keeps.refl t).emit o)

theorem endCondition (h : Stands f P s t) (hf : Blind f) {src : Nat} (h7 : ¬P (kFault src 7)) : Stands f P s (endCondition t src) :=
  h.reports hf (reports_endCondition t src) (keeps_endCondition h7 t)

/-- A raise leaves the plain registers but its count. -/
theorem raise (h : Stands f P s t) (hf : Blind f) {src : Nat} (hq : Quiet t src) (hp : ∀ j, P j → Plain j ∧ j ≠ kFault src 8) (kind addr blk : Nat) :
    Stands f P s (raise t src kind addr blk) :=
  h.trans ⟨(reports_raise hq kind addr blk).blind hf, fun j hj => reg_raise hq kind addr blk (hp j hj).1 (hp j hj).2⟩

theorem ite {c : Prop} [Decidable c] (ht : Stands f P s t) (hu : Stands f P s u) : Stands f P s (if c then t else u) := by
  split
  · exact ht
  · exact hu

theorem foldl {β : Type} {g : State → β → State} {l : List β} (h : Stands f P s t) (hg : ∀ x ∈ l, ∀ u, Stands f P u (g u x)) :
    Stands f P s (l.foldl g t) := by
  induction l generalizing t with
  | nil => exact h
  | cons x l ih => exact ih (h.trans (hg x (by simp) t)) fun y hy => hg y (by simp [hy])

end Stands

/-! ### Sessions and shells -/

section sessions
variable {α : Type} {f : State → α} {P : Key → Prop} {s t : State}

/-- What the end of a session or of a shell changes beside registers and the server: folios, keys, and the free values drawn. -/
def BlindKeys {α : Type} (f : State → α) : Prop :=
  ∀ u server folios keys fresh, f { u with server := server, fresh := fresh, mram := { u.mram with folios := folios, keys := keys } } = f u

theorem Stands.server (h : Stands f P s t) (hk : BlindKeys f) (v : Server) : Stands f P s { t with server := v } :=
  h.of_eq (hk t v t.mram.folios t.mram.keys t.fresh) rfl

theorem Stands.putFolios (h : Stands f P s t) (hk : BlindKeys f) (x : Folios) : Stands f P s (putFolios t x) :=
  h.of_eq (hk t t.server x t.mram.keys t.fresh) rfl

theorem Stands.setQuire (h : Stands f P s t) (hf : Blind f) (hk : BlindKeys f) (hP : ¬P (kUpdate 7)) (n : Nat) : Stands f P s (setQuire t n) :=
  (h.putFolios hk _).setNum hf hP _

variable (hf : Blind f) (hk : BlindKeys f) (hP : ¬P (kUpdate 7))
include hf hk hP

theorem stands_dropTransfer (s : State) (x : Transfer) : Stands f P s (dropTransfer s x) := by
  have h := (Stands.refl (f := f) (P := P) s).server hk
    { s.server with transfers := s.server.transfers.filter fun y => !(y.sid == x.sid && y.handle == x.handle) }
  unfold dropTransfer
  dsimp only
  split
  · exact (h.putFolios hk _).setQuire hf hk hP 0
  · exact h

theorem stands_dropOpen (s : State) (sid : Nat) : Stands f P s (dropOpen s sid) := by
  have h := (Stands.refl (f := f) (P := P) s).foldl (l := s.server.transfers.filter fun t => t.sid == sid) (g := dropTransfer)
    fun x _ u => stands_dropTransfer hf hk hP u x
  exact h.of_eq (hk _ _ _ _ _) rfl

theorem stands_endSession (s : State) (sid : Nat) : Stands f P s (endSession s sid) :=
  (stands_dropOpen hf hk hP s sid).of_eq (hk _ _ _ _ _) rfl

theorem stands_endSessions (s : State) (p : Nat → Bool) : Stands f P s (endSessions s p) :=
  (Stands.refl s).foldl fun sid _ u => stands_endSession hf hk hP u sid

theorem stands_closeSession (s : State) (sid : Nat) : Stands f P s (closeSession s sid) :=
  (stands_dropOpen hf hk hP s sid).of_eq (hk _ _ _ _ _) rfl

omit hf hP in
theorem stands_keyChange (s : State) (a : KeyArea) : Stands f P s (keyChange s a) := by
  have h : ∀ n (u : State), Stands f P u (drbg u n).2 := by
    intro n
    induction n with
    | zero => exact fun u => .refl u
    | succ n ih => exact fun u => ((Stands.refl u).of_eq (hk u u.server u.mram.folios u.mram.keys (u.fresh + 1)) rfl).trans (ih _)
  exact (h 16 s).of_eq (hk _ _ _ _ _) rfl

theorem stands_destroyShell (s : State) (n : Nat) : Stands f P s (destroyShell s n) :=
  (stands_keyChange hk s _).foldl fun p _ u => stands_closeSession hf hk hP u p.1

theorem stands_useShell (s : State) (n : Nat) : Stands f P s (useShell s n) :=
  .ite ((stands_keyChange hk s _).trans (stands_destroyShell hf hk hP _ n)) (stands_keyChange hk s _)

end sessions

/-! ## The roles of a redundant pair (O57) -/

/-! ### What stands of the pair -/

/-- The grant and the peer that the module has seen. -/
def pairSeen (s : State) : Bool × Option Peer := (s.pair.grant, s.pair.peer)

/-- The registers that show the pair: the role, the peer's serial, the state of the stitch link. -/
def IsPairReg (j : Nat) : Prop := j = kRole ∨ j = kPeerSerial ∨ j = kRed 3

theorem not_isPairReg {j : Nat} (h : j / 256 ≠ 0x7400 ∨ 3 < j % 256) : ¬IsPairReg j := by
  unfold IsPairReg kRole kPeerSerial kRed
  omega

theorem blind_pairSeen : Blind pairSeen := by intros u regs server out faults keptHeld logHeld fs log o; rfl
theorem blindKeys_pairSeen : BlindKeys pairSeen := by intros u server folios keys fresh; rfl

theorem grant_of_pairSeen {s t : State} (h : pairSeen t = pairSeen s) : t.pair.grant = s.pair.grant := congrArg Prod.fst h

theorem plain_isPairReg {j : Key} (h : IsPairReg j) (src : Nat) : Plain j ∧ j ≠ kFault src 8 := by
  obtain rfl | rfl | rfl := h <;> refine ⟨by unfold Plain; decide, ?_⟩
  all_goals
    show @Ne Nat _ _
    simp only [kFault, kRole, kPeerSerial, kRed]
    omega

abbrev PairStands (s t : State) : Prop := Stands pairSeen IsPairReg s t

namespace PairStands
variable {s t u : State} {k : Key}

theorem setNum (h : PairStands s t) (hk : k / 256 ≠ 0x7400 ∨ 3 < k % 256) (n : Int) : PairStands s (setNum t k n) :=
  Stands.setNum h blind_pairSeen (not_isPairReg hk) n

theorem setBit (h : PairStands s t) (hk : k / 256 ≠ 0x7400 ∨ 3 < k % 256) (b : Nat) (v : Bool) : PairStands s (setBit t k b v) :=
  Stands.setBit h blind_pairSeen (not_isPairReg hk) b v

theorem bump (h : PairStands s t) (hk : k / 256 ≠ 0x7400 ∨ 3 < k % 256) : PairStands s (bump t k) :=
  Stands.bump h blind_pairSeen (not_isPairReg hk)

theorem raise (h : PairStands s t) {src : Nat} (hs : src < 64) (hb : ¬HasBlock src) (kind addr blk : Nat) : PairStands s (raise t src kind addr blk) :=
  Stands.raise h blind_pairSeen (quiet_of_not_hasBlock hs hb) (fun _ hj => plain_isPairReg hj src) kind addr blk

theorem endCondition (h : PairStands s t) (src : Nat) : PairStands s (endCondition t src) :=
  Stands.endCondition h blind_pairSeen (not_isPairReg (by unfold kFault; omega))

end PairStands

/-! ### Roles (R425, R432) -/

theorem nat_setRole (s : State) (r : Nat) : nat (setRole s r) kRole = r := by
  unfold setRole
  split_ifs with h
  · exact h
  · have h9 : @Ne Nat kRole (kRed 9) := by decide
    have h8 : @Ne Nat kRole (kRed 8) := by decide
    rw [nat, num_setNum, if_neg h9, num_bump, if_neg h8, num_setNum, if_pos rfl]
    rfl

/-- A change of the role shows in its own registers. -/
theorem stands_setRole {P : Key → Prop} (s : State) (r : Nat) (h1 : ¬P kRole) (h8 : ¬P (kRed 8)) (h9 : ¬P (kRed 9)) :
    Stands pairSeen P s (setRole s r) := by
  have hb := blind_pairSeen
  exact .ite (.refl s) ((((Stands.refl s).setNum hb h1 r).bump hb h8).setNum hb h9 _)

theorem pairStands_radioPending (s : State) (v : Bool) : PairStands s (radioPending s v) := by
  have h : PairStands s { s with air := { s.air with startAsked := v } } := .of_eq (.refl s) rfl rfl
  have hp : (kRestartPending : Nat) / 256 ≠ 0x7400 ∨ 3 < (kRestartPending : Nat) % 256 := by decide
  have ha : kAir 0xF / 256 ≠ 0x7400 ∨ 3 < kAir 0xF % 256 := by decide
  exact ((((h.setBit hp 1 v).setBit ha 1 _).setBit ha 2 _).setBit ha 3 _).setBit ha 4 _

theorem pairStands_radioStop (s : State) : PairStands s (radioStop s) :=
  .ite (PairStands.setNum (.refl s) (by decide) 3) (.ite (pairStands_radioPending s false) (.refl s))

/-- The beacon key is derived by no request, so no fault is raised for it. -/
theorem pairStands_beaconKey (s : State) : PairStands s (beaconKey s).2 := by
  have h : ∀ keys, PairStands s { s with air := { s.air with keys := keys } } := fun keys => (Stands.refl s).of_eq rfl rfl
  have huse := fun u n => stands_useShell blind_pairSeen blindKeys_pairSeen (not_isPairReg (by decide)) (P := IsPairReg) u n
  unfold beaconKey airKey
  dsimp only
  split
  · exact .refl s
  · simp only [Bool.false_eq_true, if_false]
    split_ifs
    · exact h _
    · exact ((h _).trans (huse _ _)).of_eq rfl rfl
    · exact h _

theorem pairStands_radioStart (s : State) : PairStands s (radioStart s) :=
  .ite (.refl s) (.ite (PairStands.setNum (pairStands_beaconKey s) (by decide) 1) (.ite (pairStands_radioPending s true) (.refl s)))

theorem pairStands_putPos (s : State) (n p : Nat) (x : Pos) : PairStands s (putPos s n p x) := (Stands.refl s).of_eq rfl rfl

theorem pairStands_resend (s : State) {n : Nat} (hn : n < 8) (p : Nat) (cs : List Ctrl) : PairStands s (resend s n p cs) := by
  unfold resend
  refine .foldl (pairStands_putPos s n p _) fun c _ u => PairStands.bump ((Stands.refl u).of_eq rfl rfl) ?_
  have h : ((0x3000 + n) * 256 + 0xF) / 256 = 0x3000 + n := by omega
  exact .inl (h.trans_ne (by omega))

theorem pairStands_takeLane (s : State) {n : Nat} (hn : n < 8) : PairStands s (takeLane s n) := by
  have h : PairStands s (putLane s n { lane s n with buffer := (lane s n).buffer.filter fun r => !(isControl r.type) || r.stream.isSome }) :=
    (Stands.refl s).of_eq rfl rfl
  unfold takeLane
  extract_lets l s1 s2
  have h2 : PairStands s s2 := .ite (h.foldl fun p _ u => .ite (.refl u) (pairStands_resend u hn p _))
    (h.foldl fun p _ u => pairStands_putPos u n p _)
  exact h2.of_eq rfl rfl

theorem pairSeen_keepCopied (s : State) (c : CopyItem) : pairSeen (keepCopied s c) = pairSeen s := by cases c <;> rfl

/-- Taking the role leaves the grant and the peer; it is ACTIVE where a peer has been seen, otherwise SINGLE. -/
theorem takeRole_spec (s : State) : pairSeen (takeRole s) = pairSeen s ∧ nat (takeRole s) kRole = if s.pair.peer.isSome then 1 else 0 := by
  have hcopied := foldl_keeps pairSeen pairSeen_keepCopied (s.pair.ready.flatMap Prod.snd) s
  have hset := (stands_setRole (P := fun _ => False) ((s.pair.ready.flatMap Prod.snd).foldl keepCopied s) (if s.pair.peer.isSome then 1 else 0)
    id id id).same
  have hrole := nat_setRole ((s.pair.ready.flatMap Prod.snd).foldl keepCopied s) (if s.pair.peer.isSome then 1 else 0)
  have h : PairStands (setRole ((s.pair.ready.flatMap Prod.snd).foldl keepCopied s) (if s.pair.peer.isSome then 1 else 0)) (takeRole s) := by
    unfold takeRole
    extract_lets peer swap s1 _ s2 s3 s4 s5 s6
    have h2 : PairStands s1 s2 := .of_eq (.refl s1) rfl rfl
    have h3 : PairStands s1 s3 := .ite ((h2.setNum (by decide) _).setBit (by decide) _ _) h2
    have h4 : PairStands s1 s4 := .ite (h3.raise (by decide) (by simp [HasBlock]) _ _ _) h3
    have h5 : PairStands s1 s5 := .ite (h4.trans (pairStands_radioStart s4)) h4
    have h6 : PairStands s1 s6 := .ite (h5.setNum (by decide) 0) h5
    exact h6.foldl fun n hn u => .ite (pairStands_takeLane u (List.mem_range.1 hn)) (.refl u)
  exact ⟨(h.same.trans hset).trans hcopied, (h.nat_eq (.inl rfl)).trans hrole⟩

theorem pairStands_leaveRole (s : State) : PairStands (setRole s 2) (leaveRole s) := by
  unfold leaveRole
  extract_lets s1 s2 s3 _ s4
  have h1 : PairStands (setRole s 2) s1 := pairStands_radioStop _
  have h2 : PairStands (setRole s 2) s2 := h1.trans (stands_endSessions blind_pairSeen blindKeys_pairSeen (not_isPairReg (by decide)) s1 _)
  have h3 : PairStands (setRole s 2) s3 := .ite ((h2.setNum (by decide) _).setBit (by decide) _ _) h2
  have h4 : PairStands (setRole s 2) s4 := .of_eq h3 rfl rfl
  refine h4.foldl fun o ho u => PairStands.setNum (t := putPulse u o { pulseOut u o with dues := [], high := false }) (.of_eq (.refl u) rfl rfl) ?_ 0
  have hidx : ((0x5400 + o) * 256 + 5) / 256 = 0x5400 + o := by omega
  simp only [List.mem_cons, List.not_mem_nil, or_false] at ho
  exact .inl (hidx.trans_ne (by omega))

theorem leaveRole_spec (s : State) : pairSeen (leaveRole s) = pairSeen s ∧ nat (leaveRole s) kRole = 2 := by
  have h := pairStands_leaveRole s
  exact ⟨h.same.trans (stands_setRole (P := fun _ => False) s 2 id id id).same, (h.nat_eq (.inl rfl)).trans (nat_setRole s 2)⟩

/-- The pads' grant, as the arbitration gives it. -/
def granted (s : State) (g : Bool) : State := { s with pair := { s.pair with grant := g, yielded := if g then false else s.pair.yielded } }

theorem arbGrantRise_goes (s : State) : Goes .arbGrantRise s
    (if nat s kRole = 2 ∧ !safeMode s then takeRole (granted s true) else granted s true) := rfl

theorem arbGrantFall_goes (s : State) : Goes .arbGrantFall s (if nat s kRole ≤ 1 then leaveRole (granted s false) else granted s false) := rfl

theorem arbGrantRise_spec (s : State) : ∃ t, Goes .arbGrantRise s t ∧ t.pair.grant = true ∧
    nat t kRole = (if nat s kRole = 2 ∧ safeMode s = false then (if s.pair.peer.isSome then 1 else 0) else nat s kRole) := by
  refine ⟨_, arbGrantRise_goes s, ?_⟩
  by_cases h : nat s kRole = 2 ∧ safeMode s = false
  · obtain ⟨hseen, hrole⟩ := takeRole_spec (granted s true)
    rw [if_pos (by simp [h]), if_pos h]
    exact ⟨grant_of_pairSeen hseen, hrole⟩
  · rw [if_neg (by simpa using h), if_neg h]
    exact ⟨rfl, rfl⟩

theorem arbGrantFall_spec (s : State) : ∃ t, Goes .arbGrantFall s t ∧ t.pair.grant = false ∧
    nat t kRole = (if nat s kRole ≤ 1 then 2 else nat s kRole) := by
  refine ⟨_, arbGrantFall_goes s, ?_⟩
  split
  · obtain ⟨hseen, hrole⟩ := leaveRole_spec (granted s false)
    exact ⟨grant_of_pairSeen hseen, hrole⟩
  · exact ⟨rfl, rfl⟩

/-! ### The link goes down, and swaps (R428, R435) -/

/-- The state in which the loss of the link is reported. -/
def linkLost (s : State) : State :=
  let s1 := setBit (setNum s (kRed 3) 0) (kRed 0xD) 1 true
  { s1 with pair := { s1.pair with applied := 0, items := [], cycle := none, bytes := 0, resync := 0, journal := [] } }

theorem stitchLinkDown_goes {s : State} (hp : s.pair.peer ≠ none) (hl : stitch s ≠ 0) : Goes .stitchLinkDown s (raise (linkLost s) 42 0 0) := by
  show execStitchLinkDown s = _
  rw [execStitchLinkDown, if_neg (by simp [hp, hl])]
  rfl

theorem stitchLinkDown_goes_of_down {s : State} (h : s.pair.peer = none ∨ stitch s = 0) : Goes .stitchLinkDown s s := by
  show execStitchLinkDown s = _
  rw [execStitchLinkDown, if_pos (by simpa using h)]

theorem kRed_ne {a b : Nat} (h : a ≠ b) : @Ne Nat (kRed a) (kRed b) := by unfold kRed; omega

theorem num_linkLost (s : State) {k : Key} (h3 : k ≠ kRed 3) (hD : k ≠ kRed 0xD) : num (linkLost s) k = num s k :=
  (num_setBit_other (setNum s (kRed 3) 0) hD 1 true).trans ((num_setNum s (kRed 3) k 0).trans (if_neg h3))

theorem stitch_linkLost (s : State) : stitch (linkLost s) = 0 := by
  have h := num_setBit_other (setNum s (kRed 3) 0) (kRed_ne (a := 3) (b := 0xD) (by decide)) 1 true
  rw [num_setNum, if_pos rfl] at h
  exact congrArg Int.toNat h

theorem stitchLinkDown_spec {s : State} (hp : s.pair.peer ≠ none) (hl : stitch s ≠ 0) :
    ∃ t, Goes .stitchLinkDown s t ∧ stitch t = 0 ∧ bit t (kRed 0xD) 1 = true ∧ t.pair.applied = 0 ∧ t.pair.ready = s.pair.ready ∧ t.pair.journal = [] ∧
      Raised s t 42 := by
  refine ⟨_, stitchLinkDown_goes hp hl, ?_⟩
  have hq : Quiet (linkLost s) 42 := quiet_of_not_hasBlock (by decide) (by simp [HasBlock])
  have hpair := (reports_raise hq 0 0 0).pair
  have hreg := fun {j} hj hne => num_raise hq 0 0 0 (j := j) hj hne
  have hbit : bit (linkLost s) (kRed 0xD) 1 = true := (bit_setBit (setNum s (kRed 3) 0) (kRed 0xD) 1 1 true).trans (if_pos rfl)
  have hmem : (linkLost s).mem = s.mem := by simp [linkLost]
  have hmram : (linkLost s).mram = s.mram := by simp [linkLost]
  have hready : (linkLost s).pair.ready = s.pair.ready := by simp [linkLost]
  refine ⟨?_, ?_, by rw [hpair]; rfl, by rw [hpair, hready], by rw [hpair]; rfl, ?_⟩
  · rw [stitch, nat, hreg (by unfold Plain; decide) (by decide), ← nat, ← stitch, stitch_linkLost]
  · rw [bit, nat, hreg (by unfold Plain; decide) (by decide), ← nat, ← bit, hbit]
  · exact raised_of_eq (raised_raise _ (by decide) 0 0 (by decide)) (num_linkLost s (by decide) (by decide)) hmem (congrArg Mram.store hmram)

theorem swapOverdue_spec {s : State} (hr : nat s (kRed 0xC) ≠ 0) (hp : s.pair.peer ≠ none) :
    ∃ t, Goes .swapOverdue s t ∧ bit t (kRed 0xD) 3 = true := by
  refine ⟨setBit s (kRed 0xD) 3 true, ?_, (bit_setBit s (kRed 0xD) 3 3 true).trans (if_pos rfl)⟩
  show execSwapOverdue s = _
  rw [execSwapOverdue, if_pos ⟨hr, Option.isSome_iff_ne_none.2 hp⟩]

theorem swapOverdue_goes_of_none {s : State} (h : nat s (kRed 0xC) = 0 ∨ s.pair.peer = none) : Goes .swapOverdue s s := by
  show execSwapOverdue s = _
  rw [execSwapOverdue, if_neg]
  rintro ⟨hr, hp⟩
  obtain h | h := h
  · exact hr h
  · simp [h] at hp

/-- A SWAP announces itself in four cycles. -/
theorem swap_spec {s : State} {q : Req} (h : Commanded s q (kRed 5) [1]) :
    ∃ t, Goes (.swap q) s t ∧ t.pair.swapLeft = 4 ∧ t.pair.asked = true ∧ t.mem = s.mem := by
  have hc := commanded_concludes (by unfold IsKey; decide) h
  rw [applyWrite_of_commanded (by unfold IsKey; decide) h (by decide)] at hc
  exact ⟨_, rfl, hc.field fun u => u.pair.swapLeft, hc.field fun u => u.pair.asked, hc.field State.mem⟩

/-! ### CYCLE_MARK (R428, R429, R434) -/

theorem Stands.putPair {P : Key → Prop} {s t : State} (h : Stands pairSeen P s t) (p : Pair) (hg : p.grant = t.pair.grant) (hp : p.peer = t.pair.peer) :
    Stands pairSeen P s { t with pair := p } := h.of_eq (congrArg₂ Prod.mk hg hp) rfl

theorem nat_putPair (s : State) (p : Pair) (k : Key) : nat { s with pair := p } k = nat s k := rfl

/-- What the link shows: the peer's serial and the state of the link; the role is shown beside it. -/
def IsLinkReg (j : Nat) : Prop := j = kPeerSerial ∨ j = kRed 3

abbrev LinkStands (s t : State) : Prop := Stands pairSeen IsLinkReg s t

theorem PairStands.link {s t : State} (h : PairStands s t) : LinkStands s t := ⟨h.same, fun j hj => h.regs j (.inr hj)⟩

theorem linkStands_setRole (s : State) (r : Nat) : LinkStands s (setRole s r) :=
  stands_setRole s r (by unfold IsLinkReg; decide) (by unfold IsLinkReg; decide) (by unfold IsLinkReg; decide)

/-- What the module knows of its peer from a CYCLE_MARK. -/
def peerOf (m : CycleMark) : Peer :=
  { role := m.role.toNat, beat := m.beat.toNat, format := m.format.toNat, serial := m.serial.toNat, field := m.field.toNat
    alarm := m.alarm.toNat, emg := m.emg.toNat }

/-- The peer is recorded and shown. -/
def peerShown (s : State) (m : CycleMark) : State :=
  let s1 := { s with pair := { s.pair with
    peer := some (peerOf m), peerFormat := m.format.toNat
    applied := if nat s kRole = 1 then (if m.role = 2 ∧ m.beat = 1 then s.pair.applied + 1 else 0) else s.pair.applied } }
  let s2 := setNum (setNum s1 kPeerSerial m.serial.toNat) kPairSide (if serial s1 < m.serial.toNat then 0 else 1)
  setBit (setBit s2 (kRed 0xD) 0 true) (kRed 0xD) 1 false

/-- A link that was down comes up to a resync. -/
def linkUp (s : State) : State :=
  if stitch s ≠ 0 then s else endCondition { setNum s (kRed 3) 2 with pair := { s.pair with resync := 512 } } 42

/-- A SINGLE module that sees a peer is ACTIVE. -/
def leaveSingle (s : State) : State := if nat s kRole = 0 then setRole s 1 else s

/-- A module that becomes ACTIVE over a link that was down begins its journal anew. -/
def journalBegun (down s : State) : State := if stitch down = 0 ∧ nat s kRole = 1 then { s with pair := { s.pair with journal := [] } } else s

theorem seePeer_eq (s : State) (m : CycleMark) : seePeer s m = journalBegun (peerShown s m) (leaveSingle (linkUp (peerShown s m))) := by
  unfold seePeer
  extract_lets _ s1 s2 s3 _ _ s4 s5
  have h3 : peerShown s m = s3 := rfl
  have h4 : linkUp s3 = s4 := rfl
  have h5 : leaveSingle s4 = s5 := rfl
  rw [h3, h4, h5]
  clear_value s3 s5
  rfl

theorem peerShown_spec (s : State) (m : CycleMark) : pairSeen (peerShown s m) = (s.pair.grant, some (peerOf m)) ∧
    num (peerShown s m) kPeerSerial = m.serial.toNat ∧ nat (peerShown s m) kRole = nat s kRole ∧ stitch (peerShown s m) = stitch s := by
  unfold peerShown
  extract_lets _ s1 s2
  have hb := blind_pairSeen
  have h12 : Stands pairSeen (fun j => j = kRole ∨ j = kRed 3) s1 s2 := ((Stands.refl s1).setNum hb (by decide) _).setNum hb (by decide) _
  have h23 : PairStands s2 (setBit (setBit s2 (kRed 0xD) 0 true) (kRed 0xD) 1 false) :=
    (PairStands.setBit (.refl s2) (by decide) 0 true).setBit (by decide) 1 false
  have hserial : num s2 kPeerSerial = m.serial.toNat := by
    have hne : @Ne Nat kPeerSerial kPairSide := by decide
    rw [num_setNum, if_neg hne, num_setNum, if_pos rfl]
  exact ⟨h23.same.trans h12.same, (h23.num_eq (.inr (.inl rfl))).trans hserial, (h23.nat_eq (.inl rfl)).trans (h12.nat_eq (.inl rfl)),
    (h23.nat_eq (.inr (.inr rfl))).trans (h12.nat_eq (.inr rfl))⟩

theorem linkUp_spec (s : State) : Stands pairSeen (fun j => j = kRole ∨ j = kPeerSerial) s (linkUp s) ∧
    stitch (linkUp s) = if stitch s = 0 then 2 else stitch s := by
  unfold linkUp
  by_cases h : stitch s = 0
  · rw [if_neg (by simp [h]), if_pos h]
    have hset : Stands pairSeen (fun j => j = kRole ∨ j = kPeerSerial) s
        { setNum s (kRed 3) 2 with pair := { s.pair with resync := 512 } } :=
      ((Stands.refl s).setNum blind_pairSeen (by decide) 2).putPair _ (by simp) (by simp)
    have hval : stitch { setNum s (kRed 3) 2 with pair := { s.pair with resync := 512 } } = 2 :=
      congrArg Int.toNat ((num_setNum s (kRed 3) (kRed 3) 2).trans (if_pos rfl))
    generalize ({ setNum s (kRed 3) 2 with pair := { s.pair with resync := 512 } } : State) = u at hset hval
    have hend := PairStands.endCondition (.refl u) 42
    exact ⟨hset.trans ⟨hend.same, fun j hj => hend.regs j (hj.imp_right .inl)⟩, (hend.nat_eq (.inr (.inr rfl))).trans hval⟩
  · rw [if_pos h, if_neg h]
    exact ⟨.refl s, rfl⟩

theorem leaveSingle_spec (s : State) : LinkStands s (leaveSingle s) ∧ nat (leaveSingle s) kRole = if nat s kRole = 0 then 1 else nat s kRole := by
  unfold leaveSingle
  split
  · exact ⟨linkStands_setRole s 1, nat_setRole s 1⟩
  · exact ⟨.refl s, rfl⟩

theorem seePeer_spec (s : State) (m : CycleMark) :
    pairSeen (seePeer s m) = (s.pair.grant, some (peerOf m)) ∧ num (seePeer s m) kPeerSerial = m.serial.toNat ∧
      stitch (seePeer s m) = (if stitch s = 0 then 2 else stitch s) ∧ nat (seePeer s m) kRole = if nat s kRole = 0 then 1 else nat s kRole := by
  obtain ⟨hseen, hserial, hrole, hstitch⟩ := peerShown_spec s m
  obtain ⟨hup, hval⟩ := linkUp_spec (peerShown s m)
  obtain ⟨hsingle, hone⟩ := leaveSingle_spec (linkUp (peerShown s m))
  rw [seePeer_eq]
  generalize peerShown s m = s3 at *
  generalize leaveSingle (linkUp s3) = s5 at *
  have h5 : PairStands s5 (journalBegun s3 s5) :=
    .ite (.of_eq (.refl s5) rfl rfl) (.refl s5)
  refine ⟨?_, ?_, ?_, ?_⟩
  · exact ((h5.same.trans hsingle.same).trans hup.same).trans hseen
  · exact (((h5.num_eq (.inr (.inl rfl))).trans (hsingle.num_eq (.inl rfl))).trans (hup.num_eq (.inr rfl))).trans hserial
  · rw [← hstitch, ← hval]
    exact (h5.nat_eq (.inr (.inr rfl))).trans (hsingle.nat_eq (.inr rfl))
  · rw [← hrole, ← hup.nat_eq (.inl rfl), ← hone]
    exact h5.nat_eq (.inl rfl)

theorem pairStands_journal (s : State) (items : List JournalItem) : PairStands s (journal s items) :=
  .ite (.of_eq (.refl s) rfl rfl) (.refl s)

theorem PairStands.time (s : State) (x : Timing) : PairStands s { s with time := x } := .of_eq (.refl s) rfl rfl

theorem pairStands_showField (s : State) : PairStands s (showField s) := by
  unfold showField
  extract_lets e _ s1
  have h1 : PairStands s s1 := .ite (PairStands.time s _) (.refl s)
  exact (h1.setNum (by decide) _).setNum (by decide) _

theorem pairStands_followFields (s : State) (m : CycleMark) : PairStands s (followFields s m) := by
  unfold followFields
  split
  · exact (PairStands.time s _).trans (pairStands_showField _)
  · exact .refl s

theorem pairStands_compareEmg (s : State) (emg : Nat) : PairStands s (compareEmg s emg) := by
  have h : ∀ a, PairStands s { s with pair := { s.pair with differAt := a } } := fun a => .of_eq (.refl s) rfl rfl
  unfold compareEmg
  split
  · exact .ite ((h none).endCondition 33) (h none)
  · split
    · exact h _
    · exact .ite (PairStands.raise (.refl s) (by decide) (by simp [HasBlock]) _ _ _) (.refl s)

/-- Two ACTIVE modules: the link stands, and the one without a grant yields. -/
theorem roleConflict_spec (s : State) (claims : Bool) : LinkStands s (roleConflict s claims) ∧
    (nat s kRole = 1 → claims = true → s.pair.grant = false → nat (roleConflict s claims) kRole = 2 ∧ (roleConflict s claims).pair.yielded = true) ∧
    (claims = false → PairStands s (roleConflict s claims)) := by
  unfold roleConflict
  by_cases h : nat s kRole = 1 ∧ claims = true
  · rw [if_pos h]
    extract_lets s1
    have h1 : PairStands s s1 :=
      PairStands.setBit (.ite (.refl s) (PairStands.raise (.refl s) (by decide) (by simp [HasBlock]) _ _ _)) (by decide) 2 true
    clear_value s1
    have hleave : LinkStands s { leaveRole s1 with pair := { (leaveRole s1).pair with yielded := true } } :=
      ((h1.link.trans (linkStands_setRole s1 2)).trans (pairStands_leaveRole s1).link).putPair _ rfl rfl
    refine ⟨.ite hleave h1.link, fun _ _ hg => ?_, fun hc => ?_⟩
    · have hg1 : s1.pair.grant = false := (grant_of_pairSeen h1.same).trans hg
      rw [if_pos (by simp [hg1])]
      exact ⟨(nat_putPair _ _ _).trans (leaveRole_spec s1).2, rfl⟩
    · simp [hc] at h
  · rw [if_neg h]
    have hend : PairStands s (setBit (endCondition s 43) (kRed 0xD) 2 false) := (PairStands.endCondition (.refl s) 43).setBit (by decide) 2 false
    exact ⟨hend.link, fun hr hc => absurd ⟨hr, hc⟩ h, fun _ => hend⟩

/-- What a valid CYCLE_MARK does before a conflict of roles is looked for. -/
def markSeen (s : State) (m : CycleMark) : State :=
  compareEmg (followFields (if (stitch s == 0) ∧ nat (seePeer s m) kRole = 1 then journal (seePeer s m) (regions (seePeer s m)) else seePeer s m) m) m.emg.toNat

/-- A copy that has not come whole within three cycles is discarded. -/
def dropStale (cycle : Word) (s : State) : State :=
  if s.pair.cycle.any fun c => (cycle.toNat + 2 ^ 32 - c) % 2 ^ 32 ≥ 3 ∧ (cycle.toNat + 2 ^ 32 - c) % 2 ^ 32 < 2 ^ 31 then loseCopy s else s

theorem cycleMark_goes (s : State) (cycle : Word) (m : CycleMark) :
    Goes (.cycleMark cycle true false m) s (dropStale cycle (roleConflict (markSeen s m) (m.role == 1))) := by
  show execCycleMark cycle true false m s = _
  rw [execCycleMark, if_neg (by simp), if_neg (by simp)]
  extract_lets down s1 s2 s3
  have h3 : roleConflict (markSeen s m) (m.role == 1) = s3 := rfl
  rw [h3]
  clear_value s3
  rfl

theorem pairStands_loseCopy (s : State) : PairStands s (loseCopy s) := by
  have h := PairStands.bump (.refl s) (k := kRed 0xA) (by decide)
  exact Stands.putPair h _ (by simp) (by simp)

theorem pairStands_dropStale (cycle : Word) (s : State) : PairStands s (dropStale cycle s) := .ite (pairStands_loseCopy s) (.refl s)

theorem yielded_dropStale (cycle : Word) (s : State) : (dropStale cycle s).pair.yielded = s.pair.yielded := by
  unfold dropStale
  split <;> rfl

theorem markSeen_stands (s : State) (m : CycleMark) : PairStands (seePeer s m) (markSeen s m) := by
  unfold markSeen
  generalize seePeer s m = u
  exact ((Stands.ite (pairStands_journal u _) (.refl u)).trans (pairStands_followFields _ m)).trans (pairStands_compareEmg _ _)

theorem cycleMark_spec (s : State) (cycle : Word) (m : CycleMark) :
    ∃ t, Goes (.cycleMark cycle true false m) s t ∧ num t kPeerSerial = m.serial.toNat ∧ stitch t = (if stitch s = 0 then 2 else stitch s) ∧
      (t.pair.peer.map fun p => (p.role, p.beat, p.serial)) = some (m.role.toNat, m.beat.toNat, m.serial.toNat) ∧
      (nat s kRole = 0 → m.role ≠ 1 → nat t kRole = 1) ∧
      (nat s kRole = 1 → m.role = 1 → s.pair.grant = false → nat t kRole = 2 ∧ t.pair.yielded = true) := by
  refine ⟨_, cycleMark_goes s cycle m, ?_⟩
  obtain ⟨hseen, hserial, hstitch, hrole⟩ := seePeer_spec s m
  have hmark := markSeen_stands s m
  generalize seePeer s m = u at *
  generalize markSeen s m = v at *
  obtain ⟨hlink, hyield, hquiet⟩ := roleConflict_spec v (m.role == 1)
  generalize roleConflict v (m.role == 1) = w at *
  have hdrop := pairStands_dropStale cycle w
  have hdropped := yielded_dropStale cycle w
  generalize dropStale cycle w = t at *
  have hv : pairSeen v = (s.pair.grant, some (peerOf m)) := hmark.same.trans hseen
  have ht : pairSeen t = (s.pair.grant, some (peerOf m)) := (hdrop.same.trans hlink.same).trans hv
  have hvrole : nat v kRole = nat u kRole := hmark.nat_eq (.inl rfl)
  refine ⟨?_, ?_, ?_, fun h0 hm => ?_, fun h1 hm hg => ?_⟩
  · exact (((hdrop.num_eq (.inr (.inl rfl))).trans (hlink.num_eq (.inl rfl))).trans (hmark.num_eq (.inr (.inl rfl)))).trans hserial
  · exact (((hdrop.nat_eq (.inr (.inr rfl))).trans (hlink.nat_eq (.inr rfl))).trans (hmark.nat_eq (.inr (.inr rfl)))).trans hstitch
  · have hp : t.pair.peer = some (peerOf m) := congrArg Prod.snd ht
    rw [hp]
    rfl
  · rw [hdrop.nat_eq (.inl rfl), (hquiet (by simpa using hm)).nat_eq (.inl rfl), hvrole, hrole, if_pos h0]
  · have hvg : v.pair.grant = false := (congrArg Prod.fst hv).trans hg
    obtain ⟨hr, hy⟩ := hyield (by rw [hvrole, hrole, if_neg (by omega), h1]) (by simpa using hm) hvg
    exact ⟨(hdrop.nat_eq (.inl rfl)).trans hr, hdropped.trans hy⟩

/-! ### The state copy and the mirrored records arrive (R221, R430, R431, R436) -/

theorem lost_goes (s : State) (cycle total : Word) (size : Fin 4097) (item : CopyItem) (n : Fin 8) (r : Bytes) :
    Goes (.stateFrame cycle .lost size item) s (raise s 56 0 0) ∧ Goes (.copyEnd cycle .lost total) s (raise s 56 0 0) ∧
      Goes (.mirror .lost n r) s (raise s 56 0 0) := ⟨rfl, rfl, rfl⟩

/-- Only a standby collects a copy. -/
theorem copy_goes_of_not_standby {s : State} (h : nat s kRole ≠ 2) {a : Arrival} (ha : a ≠ .lost) (cycle total : Word) (size : Fin 4097) (item : CopyItem) :
    Goes (.stateFrame cycle a size item) s s ∧ Goes (.copyEnd cycle a total) s s := by
  show execStateFrame cycle a size item s = _ ∧ execCopyEnd cycle a total s = _
  unfold execStateFrame execCopyEnd
  simp only [if_neg ha, if_pos h, and_self]

theorem damaged_goes {s : State} (h : nat s kRole = 2) (cycle total : Word) (size : Fin 4097) (item : CopyItem) :
    Goes (.stateFrame cycle .damaged size item) s (bump s (kRed 0xA)) ∧ Goes (.copyEnd cycle .damaged total) s (bump s (kRed 0xA)) := by
  show execStateFrame cycle .damaged size item s = _ ∧ execCopyEnd cycle .damaged total s = _
  simp [execStateFrame, execCopyEnd, h]

theorem stateFrame_goes {s : State} (h : nat s kRole = 2) (cycle : Word) (hc : s.pair.cycle = none ∨ s.pair.cycle = some cycle.toNat)
    (size : Fin 4097) (item : CopyItem) : Goes (.stateFrame cycle .whole size item) s
      { s with pair := { s.pair with cycle := some cycle.toNat, items := s.pair.items ++ [item], bytes := s.pair.bytes + size } } := by
  have hany : ¬(s.pair.cycle.any fun c => c != cycle.toNat) := by obtain hc | hc := hc <;> simp [hc]
  show execStateFrame cycle .whole size item s = _
  simp only [execStateFrame, h, if_neg hany, ne_eq, not_true_eq_false, if_false, reduceCtorEq]

theorem copyEnd_goes {s : State} (h : nat s kRole = 2) (cycle total : Word) : Goes (.copyEnd cycle .whole total) s
    (if s.pair.cycle = some cycle.toNat ∧ s.pair.bytes = total.toNat then
      { s with pair := { s.pair with ready := s.pair.ready ++ [(cycle.toNat, s.pair.items)], items := [], cycle := none, bytes := 0 } }
    else loseCopy s) := by
  show execCopyEnd cycle .whole total s = _
  simp only [execCopyEnd, h, ne_eq, not_true_eq_false, if_false, reduceCtorEq]

theorem num_loseCopy (s : State) : num (loseCopy s) (kRed 0xA) = (num s (kRed 0xA) + 1) % 2 ^ 32 :=
  (num_bump s (kRed 0xA) (kRed 0xA)).trans (if_pos rfl)

/-- What a mirrored record becomes in its lane. -/
def mirrored (r : Bytes) : TxRec :=
  { type := byteAt r 4, dest := byteAt r 5, seq := some (fieldAt r 6 2), payload := slice r 10 (fieldAt r 8 2), stream := some (fieldAt r 0 4) }

theorem mirror_goes_of_not_taken {s : State} {n : Fin 8} {r : Bytes} (h : mirrorOnly s n = false ∨ r.length < 14) : Goes (.mirror .whole n r) s s := by
  show execMirror .whole n r s = _
  rw [execMirror, if_neg (by simp), if_neg (by simp), if_pos (by simpa using h)]

theorem mirror_goes {s : State} {n : Fin 8} {r : Bytes} (h : mirrorOnly s n = true) (hr : 14 ≤ r.length) :
    Goes (.mirror .whole n r) s (normalPath s n (mirrored r)) := by
  show execMirror .whole n r s = _
  rw [execMirror, if_neg (by simp), if_neg (by simp), if_neg (by simp [h]; omega)]
  rfl

theorem lane_putLane_self (s : State) (n : Nat) (l : Lane) : lane (putLane s n l) n = l := by
  simp [lane]

theorem lane_enqueue_buffer (s : State) (n : Nat) (r : TxRec) : (lane (enqueue s n r) n).buffer = (lane s n).buffer ++ [r] := by
  rw [enqueue, lane_putLane_self]

/-! ### The copies are applied (R430) -/

/-- The copies that wait and the number of those applied. -/
def copyCount (s : State) : List (Nat × List CopyItem) × Nat := (s.pair.ready, s.pair.applied)

theorem blind_copyCount : Blind copyCount := by intros u regs server out faults keptHeld logHeld fs log o; rfl

/-- What the lanes, the safety core and the pads hold of themselves does not concern the part. -/
def BlindLanes {α : Type} (f : State → α) : Prop := ∀ u lanes safety pads, f { u with lanes := lanes, safety := safety, pads := pads } = f u

theorem blindLanes_copyCount : BlindLanes copyCount := by intros u lanes safety pads; rfl

section egress
variable {α : Type} {f : State → α} {P : Key → Prop} (hl : BlindLanes f) (s : State)
include hl

theorem stands_putLane (n : Nat) (l : Lane) : Stands f P s (putLane s n l) := .of_eq (.refl s) (hl s _ s.safety s.pads) rfl

theorem stands_inject (n type : Nat) (b : Bytes) : Stands f P s (inject s n type b) := .ite (.refl s) (stands_putLane hl s n _)

theorem stands_putSafety (x : Safety) : Stands f P s { s with safety := x } := .of_eq (.refl s) (hl s s.lanes x s.pads) rfl

variable (hf : Blind f) (h1 : ¬P (kSafety 1))
include hf h1

omit hl in
theorem stands_showSafety : Stands f P s (showSafety s) := Stands.setNum (.refl s) hf h1 _

theorem stands_beginEgress : Stands f P s (beginEgress s) := by
  refine Stands.trans (Stands.foldl (stands_putSafety hl s _) fun n _ u => ?_) (stands_showSafety _ hf h1)
  exact (stands_putLane hl u n _).trans (stands_inject hl _ n _ _)

theorem stands_endEgress : Stands f P s (endEgress s) :=
  Stands.trans (Stands.foldl (stands_putSafety hl s _) fun n _ u => stands_putLane hl u n _) (stands_showSafety _ hf h1)

end egress

/-- The alarm's zones and its state; the trip mask has rules of its own. -/
def IsAlarmReg (j : Nat) : Prop := j = kEmg 6 ∨ j = kEmg 5

/-- The trip mask of a copy is taken. -/
def takeTrip (s : State) (trip : Nat) : State :=
  let old := nat s (kSafety 2)
  if trip = old then s
  else
    let t := setNum s (kSafety 2) trip
    let t1 := (liveLanes t).foldl (fun u n =>
      let e := effectField u n
      inject (if old = 0 then putLane u n { lane u n with tripFrom := some e } else u) n 0x13 (tripPayload trip e)) t
    if trip = 0 then endCondition t1 9 else t1

theorem takeTrip_spec (s : State) (trip : Nat) : Stands copyCount IsAlarmReg s (takeTrip s trip) ∧ nat (takeTrip s trip) (kSafety 2) = trip := by
  unfold takeTrip
  extract_lets old t t1
  by_cases h : trip = old
  · rw [if_pos h]
    exact ⟨.refl s, h.symm⟩
  · rw [if_neg h]
    have hset : Stands copyCount IsAlarmReg s t := Stands.setNum (.refl s) blind_copyCount (by unfold IsAlarmReg; decide) trip
    have hval : nat t (kSafety 2) = trip := congrArg Int.toNat ((num_setNum s (kSafety 2) (kSafety 2) trip).trans (if_pos rfl))
    have hfold : ∀ P : Key → Prop, ¬P (kFault 9 7) → Stands copyCount P t (if trip = 0 then endCondition t1 9 else t1) := by
      intro P hP
      have h1 : Stands copyCount P t t1 := by
        refine Stands.foldl (.refl t) fun n _ u => ?_
        exact Stands.trans (.ite (stands_putLane blindLanes_copyCount u n _) (.refl u)) (stands_inject blindLanes_copyCount _ n _ _)
      exact .ite (h1.endCondition blind_copyCount hP) h1
    exact ⟨hset.trans (hfold _ (by unfold IsAlarmReg; decide)), ((hfold (· = kSafety 2) (by decide)).nat_eq rfl).trans hval⟩

/-- The alarm of a copy is taken, beside the module's own. -/
def takeAlarm (s : State) (zones alarm cancels : Nat) : State :=
  let own := s.safety.own && loopOpen s
  let state := if own then 1 else alarm
  let s1 := setNum (setNum s (kEmg 6) (zones ||| (if own then 2 ^ coreZone s 0 else 0) : Nat)) (kEmg 5) state
  let s2 := { s1 with safety := { s1.safety with own := own, cancel := cancels, cancelAt := if cancels = s1.safety.cancel then s1.safety.cancelAt else s1.clk } }
  if state ≠ 0 ∧ !s2.safety.egress then beginEgress s2
  else if state = 0 ∧ s2.safety.egress ∧ s2.safety.test.isNone then endEgress s2 else s2

theorem takeAlarm_spec (s : State) (zones alarm cancels : Nat) : Stands copyCount (fun _ => False) s (takeAlarm s zones alarm cancels) ∧
    (s.safety.own = false → nat (takeAlarm s zones alarm cancels) (kEmg 6) = zones ∧ nat (takeAlarm s zones alarm cancels) (kEmg 5) = alarm) := by
  unfold takeAlarm
  extract_lets own state s1 _ s2
  have h1 : Stands copyCount (fun _ => False) s s1 := ((Stands.refl s).setNum blind_copyCount id _).setNum blind_copyCount id _
  have hall : ∀ {P : Key → Prop}, ¬P (kSafety 1) → Stands copyCount P s1
      (if state ≠ 0 ∧ !s2.safety.egress then beginEgress s2 else if state = 0 ∧ s2.safety.egress ∧ s2.safety.test.isNone then endEgress s2 else s2) := by
    intro P hP
    have h2 : Stands copyCount P s1 s2 := .of_eq (.refl s1) rfl rfl
    exact .ite (h2.trans (stands_beginEgress blindLanes_copyCount s2 blind_copyCount hP))
      (.ite (h2.trans (stands_endEgress blindLanes_copyCount s2 blind_copyCount hP)) h2)
  refine ⟨h1.trans (hall id), fun hown => ?_⟩
  have h : Stands copyCount IsAlarmReg s1 _ := hall (by unfold IsAlarmReg; decide)
  rw [h.nat_eq (.inl rfl), h.nat_eq (.inr rfl)]
  have hne : @Ne Nat (kEmg 6) (kEmg 5) := by decide
  have hfalse : own = false := by simp [own, hown]
  refine ⟨?_, ?_⟩
  · rw [nat, num_setNum, if_neg hne, num_setNum, if_pos rfl, hfalse]
    simp
  · rw [nat, num_setNum, if_pos rfl]
    simp [state, hfalse]

/-- What block 1 changes last: the groups that clear, the emergency test and what is shown. -/
def takeClearing (s : State) (clearing test : Nat) : State :=
  let cl := ((List.range 64).filter fun g => clearing.testBit g).map fun g => (g, (tabFind s.safety.clearing g).getD (groupDrivers s g))
  let s5 := { s with safety := { s.safety with clearing := cl } }
  showSafety (if s5.safety.test.isNone ∧ s5.safety.deferred.isNone then setNum s5 (kSafety 0xA) test else s5)

theorem stands_takeClearing {P : Key → Prop} (h1 : ¬P (kSafety 1)) (hA : ¬P (kSafety 0xA)) (s : State) (clearing test : Nat) :
    Stands copyCount P s (takeClearing s clearing test) := by
  have h5 : ∀ cl, Stands copyCount P s { s with safety := { s.safety with clearing := cl } } := fun cl => .of_eq (.refl s) rfl rfl
  exact Stands.trans (.ite ((h5 _).setNum blind_copyCount hA _) (h5 _)) (stands_showSafety _ blind_copyCount h1)

theorem applySafety_eq (s : State) (zones alarm cancels trip clearing test : Nat) :
    applySafety s zones alarm cancels trip clearing test = takeClearing (takeTrip (takeAlarm s zones alarm cancels) trip) clearing test := by
  unfold applySafety
  extract_lets own state s1 _ s2 s3 old t t1 s4 cl _ s5
  have h3 : takeAlarm s zones alarm cancels = s3 := rfl
  have h4 : takeTrip s3 trip = s4 := rfl
  refine Eq.trans ?_ (congrArg (fun u => takeClearing (takeTrip u trip) clearing test) h3.symm)
  exact Eq.trans rfl (congrArg (fun u => takeClearing u clearing test) h4.symm)

theorem applySafety_spec (s : State) (zones alarm cancels trip clearing test : Nat) :
    Stands copyCount (fun _ => False) s (applySafety s zones alarm cancels trip clearing test) ∧
    nat (applySafety s zones alarm cancels trip clearing test) (kSafety 2) = trip ∧
    (s.safety.own = false → nat (applySafety s zones alarm cancels trip clearing test) (kEmg 6) = zones ∧
      nat (applySafety s zones alarm cancels trip clearing test) (kEmg 5) = alarm) := by
  rw [applySafety_eq]
  obtain ⟨halarm, hregs⟩ := takeAlarm_spec s zones alarm cancels
  generalize takeAlarm s zones alarm cancels = u at *
  obtain ⟨htrip, hmask⟩ := takeTrip_spec u trip
  generalize takeTrip u trip = v at *
  have hlast : Stands copyCount (fun j => IsAlarmReg j ∨ j = kSafety 2) v (takeClearing v clearing test) :=
    stands_takeClearing (by unfold IsAlarmReg; decide) (by unfold IsAlarmReg; decide) v clearing test
  refine ⟨⟨(hlast.same.trans htrip.same).trans halarm.same, fun _ => False.elim⟩, (hlast.nat_eq (.inr rfl)).trans hmask, fun hown => ?_⟩
  obtain ⟨h6, h5⟩ := hregs hown
  exact ⟨((hlast.nat_eq (.inl (.inl rfl))).trans (htrip.nat_eq (.inl rfl))).trans h6,
    ((hlast.nat_eq (.inl (.inr rfl))).trans (htrip.nat_eq (.inr rfl))).trans h5⟩

theorem copyCount_applyLane (s : State) (n state present : Nat) (adv : List Half) (stream : Nat) :
    copyCount (applyLane s n state present adv stream) = copyCount s := by
  unfold applyLane
  extract_lets others _ s1 s2
  have h1 : Stands copyCount (fun _ => False) s s1 := .of_eq (.refl s) rfl rfl
  have h2 : Stands copyCount (fun _ => False) s s2 :=
    (h1.setNum blind_copyCount id _).foldl fun p _ u => .ite (.of_eq (.refl u) rfl rfl) (.refl u)
  exact (Stands.ite h1 (.ite (h2.trans (stands_putLane blindLanes_copyCount s2 n _)) h2)).same

theorem copyCount_applyPartner (s : State) (h : Nat) (b : Bytes) : copyCount (applyPartner s h b) = copyCount s := by
  unfold applyPartner
  extract_lets _ p n s1 _
  have hput : Stands copyCount (fun _ => False) s (putPartner s h p) := .of_eq (.refl s) rfl rfl
  have h1 : Stands copyCount (fun _ => False) s s1 :=
    (hput.setNum (k := kAir 0x19) blind_copyCount id _).setNum (k := kAir 0x1A) blind_copyCount id _
  split
  · exact h1.same
  · exact h1.same

theorem copyCount_applyCopy (s : State) (c : CopyItem) : copyCount (applyCopy s c) = copyCount s := by
  cases c with
  | safety z a c t cl te => exact (applySafety_spec s _ _ _ _ _ _).1.same
  | lane n st pr adv stream tick => exact copyCount_applyLane s _ _ _ _ _
  | cells block off d => rfl
  | partner h b => exact copyCount_applyPartner s _ _
  | reservation id sh gen top => rfl
  | journal t i => rfl
  | event d =>
    have h : Stands copyCount (fun _ => False) s (postRecord s (nat s (kProgramCtl 3)) d) :=
      .ite (.of_eq (.refl s) rfl rfl) ((Stands.refl s).bump blind_copyCount id)
    exact h.same

/-- The copies that wait are taken off and counted, before their items are applied. -/
def copiesTaken (s : State) : State := { s with pair := { s.pair with
  ready := [], applied := s.pair.applied + if stitch s = 2 then 0 else s.pair.ready.length } }

theorem applyCopies_eq (s : State) : applyCopies s = if stitch s = 2 then (s.pair.ready.flatMap Prod.snd).foldl applyCopy (copiesTaken s)
    else setNum ((s.pair.ready.flatMap Prod.snd).foldl applyCopy (copiesTaken s)) (kRed 4) 0 := rfl

theorem applyCopies_stands {P : Key → Prop} (h4 : ¬P (kRed 4)) (s : State) :
    Stands copyCount P ((s.pair.ready.flatMap Prod.snd).foldl applyCopy (copiesTaken s)) (applyCopies s) := by
  rw [applyCopies_eq]
  exact .ite (.refl _) ((Stands.refl _).setNum blind_copyCount h4 0)

theorem copyCount_applyCopies (s : State) : copyCount (applyCopies s) = ([], s.pair.applied + if stitch s = 2 then 0 else s.pair.ready.length) :=
  (applyCopies_stands (P := fun _ => False) id s).same.trans (foldl_keeps copyCount copyCount_applyCopy _ _)

theorem num_applyCopies_age {s : State} (h : stitch s ≠ 2) : num (applyCopies s) (kRed 4) = 0 := by
  rw [applyCopies_eq, if_neg h, num_setNum, if_pos rfl]

theorem applyCopies_safety {s : State} {c : Nat} {z cl : Half} {a te : Byte} {tr cg : BitVec 64}
    (h : s.pair.ready = [(c, [.safety z a cl tr cg te])]) (hown : s.safety.own = false) :
    nat (applyCopies s) (kEmg 6) = z.toNat ∧ nat (applyCopies s) (kEmg 5) = a.toNat ∧ nat (applyCopies s) (kSafety 2) = tr.toNat := by
  have hstands := applyCopies_stands (P := fun j => IsAlarmReg j ∨ j = kSafety 2) (by unfold IsAlarmReg; decide) s
  have hone : (s.pair.ready.flatMap Prod.snd).foldl applyCopy (copiesTaken s)
      = applySafety (copiesTaken s) z.toNat a.toNat cl.toNat tr.toNat cg.toNat te.toNat := by rw [h]; rfl
  rw [hone] at hstands
  obtain ⟨_, htrip, halarm⟩ := applySafety_spec (copiesTaken s) z.toNat a.toNat cl.toNat tr.toNat cg.toNat te.toNat
  obtain ⟨h6, h5⟩ := halarm hown
  exact ⟨(hstands.nat_eq (.inl (.inl rfl))).trans h6, (hstands.nat_eq (.inl (.inr rfl))).trans h5, (hstands.nat_eq (.inr rfl)).trans htrip⟩

theorem copyApply_goes {s : State} (hr : s.pair.ready ≠ []) (h2 : nat s kRole = 2) (hm : mayApply s = true) : Goes .copyApply s (applyCopies s) := by
  show execCopyApply s = _
  rw [execCopyApply, if_pos ⟨hr, h2, hm⟩]

theorem copyApply_goes_of_not {s : State} (h : s.pair.ready = [] ∨ nat s kRole ≠ 2 ∨ mayApply s = false) : Goes .copyApply s s := by
  show execCopyApply s = _
  rw [execCopyApply, if_neg]
  rintro ⟨hr, h2, hm⟩
  obtain h | h | h := h
  · exact hr h
  · exact h h2
  · simp [hm] at h

/-! ### The obligation -/

/-- Settles O57: each role change, mark and copy is taken apart into steps that leave what the statement speaks of. -/
theorem redundantPair : Obligations.RedundantPair := by
  unfold Obligations.RedundantPair
  refine ⟨fun s => ⟨arbGrantRise_spec s, arbGrantFall_spec s, stitchLinkDown_goes_of_down, stitchLinkDown_spec, swapOverdue_spec, swapOverdue_goes_of_none⟩,
    fun s cycle valid m => ⟨⟨_, rfl, raised_raise s (by decide) 0 0 (by decide)⟩, ⟨bump s (kRed 0xA), rfl, (num_bump s _ _).trans (if_pos rfl), by simp⟩, cycleMark_spec s cycle m⟩,
    fun s cycle total size item n r => ⟨?_, fun h a ha => copy_goes_of_not_standby h ha cycle total size item, fun h => ?_, fun h hc => stateFrame_goes h cycle hc size item,
      fun h hc hb => ?_, fun h hne => ?_, ⟨bump s (kRed 0xA), rfl, (num_bump s _ _).trans (if_pos rfl), by simp⟩, mirror_goes_of_not_taken, fun h hr hp => ?_, fun h hr h13 h10 => ?_⟩,
    fun s => ⟨copyApply_goes_of_not, fun hr h2 hm => ?_⟩, fun s q => swap_spec⟩
  · obtain ⟨hframe, hend, hmirror⟩ := lost_goes s cycle total size item n r
    exact ⟨_, hframe, hend, hmirror, raised_raise s (by decide) 0 0 (by decide)⟩
  · obtain ⟨hframe, hend⟩ := damaged_goes h cycle total size item
    exact ⟨_, hframe, hend, by simp, (num_bump s _ _).trans (if_pos rfl)⟩
  · have h := copyEnd_goes h cycle total
    rwa [if_pos ⟨hc, hb⟩] at h
  · have h := copyEnd_goes h cycle total
    rw [if_neg (by tauto)] at h
    exact ⟨_, h, rfl, rfl, num_loseCopy s⟩
  · have hgo := mirror_goes h hr
    have hprio : (mirrored r).type = 0x13 ∨ ((mirrored r).type = 0x10 ∧ byteAt (mirrored r).payload 1 = 1) := hp
    rwa [normalPath, if_pos hprio] at hgo
  · have hgo := mirror_goes h hr
    rw [normalPath, if_neg (by simp only [mirrored]; tauto)] at hgo
    exact ⟨_, hgo, lane_enqueue_buffer s n (mirrored r)⟩
  · have hcount := copyCount_applyCopies s
    have happlied := congrArg Prod.snd hcount
    refine ⟨_, copyApply_goes hr h2 hm, congrArg Prod.fst hcount, fun h => ⟨?_, num_applyCopies_age h⟩, fun h => ?_,
      fun c z a cl tr cg te hone hown => applyCopies_safety hone hown⟩
    · rwa [if_neg h] at happlied
    · rwa [if_pos h] at happlied

/-! ## The metering block (O45) -/

/-! ### What stands while a window ends -/

/-- What no stage of a window's end changes but where the model puts the block: memory, power, the steps held off, the pulses that are high, and
the block without its runs, its outputs and its calibration. -/
def metered (s : State) : List Host.Cell × Power × (Bool × BitVec 16) × (Bool × Bool) × Meter :=
  (s.mem, s.power, (s.start.safe, s.start.disabled), ((pulseOut s 0).high, (pulseOut s 1).high),
    { s.meter with runs := [], below := [], above := [], cal := none, out := [] })

theorem blind_metered : Blind metered := by intros u regs server out faults keptHeld logHeld fs log o; rfl

theorem blindLanes_metered : BlindLanes metered := by intros u lanes safety pads; rfl

/-- A coarser view of what stands. -/
theorem Stands.view {α β : Type} {f : State → α} {P : Key → Prop} {s t : State} (h : Stands f P s t) (g : α → β) :
    Stands (fun u => g (f u)) P s t := ⟨congrArg g h.same, h.regs⟩

theorem Stands.mono {α : Type} {f : State → α} {P Q : Key → Prop} {s t : State} (h : Stands f P s t) (hQ : ∀ j, Q j → P j) : Stands f Q s t :=
  ⟨h.same, fun j hj => h.regs j (hQ j hj)⟩

/-- The registers of the block that a window's end numbers and times, and what else must stand. -/
def IsMeterReg (j : Nat) : Prop := j = kMeter 2 ∨ j = kInst 1 ∨ j = kInst 2 ∨ j = kEnergy 0x81 ∨ j = kFault 38 8 ∨ j = 0x101803

theorem plain_isMeterReg {j : Key} (h : IsMeterReg j) {src : Nat} (hs : src ≠ 38) : Plain j ∧ j ≠ kFault src 8 := by
  have h38 : kFault 38 8 ≠ kFault src 8 := by
    show @Ne Nat _ _
    unfold kFault
    omega
  obtain rfl | rfl | rfl | rfl | rfl | rfl := h
  case inr.inr.inr.inr.inl => exact ⟨by unfold Plain; decide, h38⟩
  all_goals
    refine ⟨by unfold Plain; decide, ?_⟩
    show @Ne Nat _ _
    simp only [kFault, kMeter, kInst, kEnergy]
    omega

theorem not_isMeterReg {j : Nat} (h5000 : j / 256 = 0x5000 → j % 256 ≠ 2) (h5100 : j / 256 = 0x5100 → 2 < j % 256)
    (h5200 : j / 256 = 0x5200 → j % 256 ≠ 0x81) (h7126 : j / 256 = 0x7126 → j % 256 ≠ 8) (h1018 : j / 256 ≠ 0x1018) : ¬IsMeterReg j := by
  unfold IsMeterReg kMeter kInst kEnergy kFault
  omega

abbrev MeterStands (s t : State) : Prop := Stands metered IsMeterReg s t

theorem MeterStands.raise {s t : State} (h : MeterStands s t) {src : Nat} (hs : src < 64) (hb : ¬HasBlock src) (h38 : src ≠ 38)
    (kind addr blk : Nat) : MeterStands s (raise t src kind addr blk) :=
  Stands.raise h blind_metered (quiet_of_not_hasBlock hs hb) (fun _ hj => plain_isMeterReg hj h38) kind addr blk

theorem MeterStands.endCondition {s t : State} (h : MeterStands s t) {src : Nat} (hs : src < 64) : MeterStands s (endCondition t src) :=
  Stands.endCondition h blind_metered (not_isMeterReg (by unfold kFault; omega) (by unfold kFault; omega) (by unfold kFault; omega)
    (by unfold kFault; omega) (by unfold kFault; omega))

/-! ### Pulses -/

theorem pulseOut_putPulse (s : State) (o n : Nat) (p : PulseOut) : pulseOut (putPulse s o p) n = if n = o then p else pulseOut s n := by
  unfold pulseOut
  rw [putPulse_meter, tabFind_tabPut]
  split
  · rfl
  · rfl

/-- A pulse output put with its pad as it is. -/
theorem metered_putPulse (s : State) (o : Nat) {p : PulseOut} (h : p.high = (pulseOut s o).high) : metered (putPulse s o p) = metered s := by
  have hhigh : ∀ n, (pulseOut (putPulse s o p) n).high = (pulseOut s n).high := by
    intro n
    rw [pulseOut_putPulse]
    split
    · next hn => rw [h, hn]
    · rfl
  unfold metered
  rw [hhigh 0, hhigh 1]
  rfl

theorem stands_putPulse {P : Key → Prop} (s : State) (o : Nat) {p : PulseOut} (h : p.high = (pulseOut s o).high) :
    Stands metered P s (putPulse s o p) := .of_eq (.refl s) (metered_putPulse s o h) rfl

/-- A pulse output put with its pad as it is does not concern the part. -/
def BlindPulses {α : Type} (f : State → α) : Prop := ∀ u o p, p.high = (pulseOut u o).high → f (putPulse u o p) = f u

theorem blindPulses_metered : BlindPulses metered := fun u o _ h => metered_putPulse u o h

section pulses
variable {α : Type} {f : State → α} {P : Key → Prop} {o : Nat}
  (hf : Blind f) (hput : BlindPulses f) (hk : ∀ sub, sub < 256 → ¬P (kPulse o sub)) (hp : ∀ j, P j → Plain j ∧ j ≠ kFault 41 8)
include hf hput hk hp

theorem stands_pulseDue (s : State) : Stands f P s (pulseDue s o) := by
  have hset : ∀ {p : PulseOut}, p.high = (pulseOut s o).high → Stands f P s (putPulse s o p) := fun h => .of_eq (.refl s) (hput s o _ h) rfl
  refine .ite (Stands.raise (Stands.bump (hset ?_) hf (hk 7 (by decide))) hf (quiet_of_not_hasBlock (by decide) (by simp [HasBlock])) hp 0 o 0)
    (Stands.setNum (hset ?_) hf (hk 5 (by decide)) _)
  · rfl
  · rfl

theorem stands_pulsesDue (s : State) : Stands f P s (pulsesDue s o) := by
  have hiter : ∀ n u, Stands f P u (iter (fun t => pulseDue t o) n u) := by
    intro n
    induction n with
    | zero => exact .refl
    | succ n ih => exact fun u => (stands_pulseDue hf hput hk hp u).trans (ih _)
  refine .ite (hiter _ s) (.of_eq (.refl s) (hput s o _ ?_) rfl)
  rfl

end pulses

theorem meterStands_pulsesDue {o : Nat} (ho : o < 2) (s : State) : MeterStands s (pulsesDue s o) := by
  refine stands_pulsesDue blind_metered blindPulses_metered (fun sub hs => ?_) (fun j hj => plain_isMeterReg hj (by decide)) s
  unfold kPulse
  exact not_isMeterReg (by omega) (by omega) (by omega) (by omega) (by omega)

/-! ### The stages of a window's end -/

/-- Values shown in a run of registers from `kInst k` on. -/
def showRun (s : State) (k : Nat) (vs : List Int) : State := (vs.zip (List.range vs.length)).foldl (fun a v => setNum a (kInst (k + v.2)) v.1) s

theorem meterStands_showRun (s : State) {k : Nat} {vs : List Int} (h4 : 4 ≤ k) (h : k + vs.length ≤ 256) : MeterStands s (showRun s k vs) := by
  refine Stands.foldl (.refl s) fun v hv u => Stands.setNum (.refl u) blind_metered ?_ _
  have hlt := List.mem_range.1 (List.of_mem_zip hv).2
  unfold kInst
  exact not_isMeterReg (by omega) (by omega) (by omega) (by omega) (by omega)

/-- The numbers of phases in the quantities of a window. -/
def Phased (x : Quantities) : Prop := x.us.length = 3 ∧ x.is.length = 4 ∧ x.p.length = 3 ∧ x.q.length = 3 ∧ x.s.length = 3

theorem phased_quantities (single : Bool) (w : List Sample) : Phased (quantities single w) := by
  simp [Phased, quantities]

theorem meterStands_showWindow (s : State) {x : Quantities} (hx : Phased x) (f : Option Rat) (w : List Sample) : MeterStands s (showWindow s x f w) := by
  obtain ⟨hus, his, hp, hq, hs⟩ := hx
  have h4 : ¬IsMeterReg (kInst 4) := by unfold IsMeterReg; decide
  unfold showWindow
  extract_lets u32 i32 q15 many s1 s2 s3 s4 chan on
  have h1 : MeterStands s s1 := (meterStands_showRun s (by decide) (by simp [hus])).trans (meterStands_showRun _ (by decide) (by simp [his]))
  have h2 : MeterStands s s2 := (h1.trans (meterStands_showRun s1 (by decide) (by simp [hp]))).trans (meterStands_showRun _ (by decide) (by simp [hq]))
  have h3 : MeterStands s s3 := h2.trans (meterStands_showRun s2 (by decide) (by simp [hs]))
  have h5 : MeterStands s s4 := h3.trans (meterStands_showRun s3 (by decide) (by simp [hp, hs]))
  split
  · exact (h5.setNum blind_metered h4 0).trans (meterStands_showRun _ (by decide) (by simp))
  · have hfresh : MeterStands s (takeFresh s4).2 := .of_eq h5 rfl rfl
    exact (hfresh.setNum blind_metered h4 _).trans (meterStands_showRun _ (by decide) (by simp))

theorem meterStands_noteSign (s : State) (i : Nat) (p floor : Rat) : MeterStands s (noteSign s i p floor) := by
  unfold noteSign
  extract_lets sign r _ s1 old
  have h1 : MeterStands s s1 := .of_eq (.refl s) rfl rfl
  exact .ite (MeterStands.raise (h1.setVal blind_metered (by unfold IsMeterReg; decide) _) (by decide) (by simp [HasBlock]) (by decide) _ _ _) h1

theorem meterStands_notePhase (us : List Rat) (s : State) (c : Nat) : MeterStands s (notePhase us s c) := by
  unfold notePhase
  extract_lets nom u other low high lost _ s1
  have h1 : MeterStands s s1 := .of_eq (.refl s) rfl rfl
  exact .ite (MeterStands.raise h1 (by decide) (by simp [HasBlock]) (by decide) _ _ _) h1

theorem meterStands_phaseLoss (s : State) (us : List Rat) : MeterStands s (phaseLoss s us) := by
  have hF : ¬IsMeterReg (kMeter 0xF) := by unfold IsMeterReg; decide
  unfold phaseLoss
  extract_lets none_ s1 lost s2
  have h1 : MeterStands s s1 := Stands.foldl (.refl s) fun c _ u => meterStands_notePhase us u c
  have h2 : MeterStands s s2 := (h1.setBit blind_metered hF _ _).setBit blind_metered hF _ _
  exact .ite (MeterStands.endCondition (((Stands.refl s).setBit blind_metered hF _ _).setBit blind_metered hF _ _) (by decide))
    (.ite h2 (h2.endCondition (by decide)))

theorem meterStands_calWindow (s : State) (x : Quantities) (flags : Nat) : MeterStands s (calWindow s x flags) := by
  unfold calWindow
  split
  · exact .refl s
  · exact .ite (.refl s) (.of_eq (.refl s) rfl rfl)

theorem meterStands_transact (s : State) (items : List (Key × Val)) : MeterStands s (transact s items) := by
  have hpulse : ∀ n, pulseOut (transact s items) n = pulseOut s n := fun n => by simp [pulseOut]
  refine ⟨?_, (keeps_transact (by unfold IsMeterReg; decide) s items).2⟩
  unfold metered
  rw [hpulse 0, hpulse 1]
  simp

theorem meterStands_saveEnergy (s : State) : MeterStands s (saveEnergy s) := .ite (.refl s) (meterStands_transact s _)

theorem lt_of_relayPad {s : State} {g : Nat} (h : relayPad s = some g) : g < 8 := by
  unfold relayPad at h
  dsimp only at h
  split at h
  · next hg => exact Option.some.inj h ▸ hg.1
  · cases h

/-! ### The end of an emergency-lighting test (R409) -/

/-- The registers that the end of a test writes: those of SAFETY_FUNCTIONS and of the relay's pad. -/
def IsTestReg (j : Nat) : Prop := j / 256 = 0x7000 ∨ 0x1100 ≤ j / 256 ∧ j / 256 < 0x1108

section test
variable {α : Type} {f : State → α} {P : Key → Prop} (hf : Blind f) (hl : BlindLanes f) (hP : ∀ j, IsTestReg j → ¬P j)
include hf hl hP

theorem stands_driveGpio (s : State) {g : Nat} (hg : g < 8) (v : Bool) : Stands f P s (driveGpio s g v) := by
  have h := (Stands.refl (f := f) (P := P) s).setNum hf (hP ((0x1100 + g) * 256 + 3) (by unfold IsTestReg; omega)) (if v then 1 else 0)
  exact h.of_eq (hl _ _ _ _) rfl

theorem stands_finishTest (s : State) (result : Nat) : Stands f P s (finishTest s result) := by
  have h70 : ∀ {n}, n < 256 → ¬P (kSafety n) := fun hn => hP _ (by unfold IsTestReg kSafety; omega)
  unfold finishTest
  split
  · exact .refl s
  · next t ht =>
    extract_lets rec16 s1 _ s2 s3 s4
    have hk : ¬P (kSafety (if t.kind = 1 then 0xB else 0xC)) := by
      split
      · exact h70 (by decide)
      · exact h70 (by decide)
    have h1 : Stands f P s s1 := Stands.setVal (.refl s) hf hk _
    have h2 : Stands f P s s2 := h1.trans (stands_putSafety hl s1 _)
    have h3 : Stands f P s s3 := by
      unfold s3
      split
      · next g _ hg => exact h2.trans (stands_driveGpio hf hl hP s2 (lt_of_relayPad hg) false)
      · exact h2
    have h4 : Stands f P s s4 := h3.setNum hf (h70 (by decide)) 0
    exact .ite (h4.trans (stands_endEgress hl s4 hf (h70 (by decide)))) (h4.trans (stands_showSafety s4 hf (h70 (by decide))))

theorem stands_testWindow (s : State) (v i : Int) : Stands f P s (testWindow s v i) := by
  unfold testWindow
  split
  · next t ht =>
    have h := fun u => stands_putSafety (P := P) hl s u
    exact .ite (.ite ((h _).trans (stands_finishTest hf hl hP _ 3)) (h _)) (.refl s)
  · exact .refl s

theorem stands_testMeterStops (s : State) : Stands f P s (testMeterStops s) := by
  unfold testMeterStops
  split
  · exact .ite (stands_finishTest hf hl hP s 3) (.refl s)
  · exact .refl s

end test

theorem not_isMeterReg_of_isTestReg (j : Key) (h : IsTestReg j) : ¬IsMeterReg j := by
  unfold IsTestReg at h
  exact not_isMeterReg (by omega) (by omega) (by omega) (by omega) (by omega)

/-! ### Energies are made durable (R301) -/

theorem leNat_leBytes (n x : Nat) : leNat (leBytes n x) = x % 2 ^ (8 * n) := by
  induction n generalizing x with
  | zero => simp [leBytes, leNat, Nat.mod_one]
  | succ n ih =>
    have hpow : 2 ^ (8 * (n + 1)) = 256 * 2 ^ (8 * n) := by rw [Nat.mul_succ, Nat.pow_add, Nat.mul_comm]
    rw [leBytes, leNat, ih, hpow, Nat.mod_mul, BitVec.toNat_ofNat]

theorem home_putHome (t : Store) (k j : Key) (r : HomeRec) : tabFind (t.putHome k r).home j = if j = k then some r else tabFind t.home j := by
  unfold Store.putHome Store.home
  cases hb : t.bank <;> simp

theorem home_putOther (t : Store) (k : Key) (r : HomeRec) : (t.putOther k r).home = t.home := by
  unfold Store.putOther Store.home
  cases hb : t.bank <;> simp

theorem home_apply (t : Store) (k j : Key) (r : HomeRec) : tabFind (t.apply k r).home j = if j = k then some r else tabFind t.home j := by
  unfold Store.apply
  dsimp only
  split
  · rw [home_putOther, home_putHome]
  · exact home_putHome t k j r

/-- A transaction that holds one value of a sub-index leaves it in its home record. -/
theorem home_transact (t : Store) (items : List (Key × Ty × Val)) {k : Key} {ty : Ty} {v : Val} (hone : ∀ i ∈ items, i.1 = k → i.2 = (ty, v))
    (hmem : ∃ i ∈ items, i.1 = k) : tabFind (t.transact items).home k = some (homeOf k ty v) := by
  have hfold : ∀ (items : List (Key × Ty × Val)) (u : Store), (∀ i ∈ items, i.1 = k → i.2 = (ty, v)) →
      (tabFind u.home k = some (homeOf k ty v) ∨ ∃ i ∈ items, i.1 = k) →
      tabFind (items.foldl (fun u i => u.apply i.1 (homeOf i.1 i.2.1 i.2.2)) u).home k = some (homeOf k ty v) := by
    intro items
    induction items with
    | nil =>
      intro u _ h
      exact h.resolve_right (by simp)
    | cons i rest ih =>
      intro u hone h
      refine ih _ (fun j hj => hone j (by simp [hj])) ?_
      rw [home_apply]
      by_cases hi : k = i.1
      · rw [if_pos hi, hone i (by simp) hi.symm, hi]
        exact .inl rfl
      · rw [if_neg hi]
        obtain h | ⟨j, hj, hjk⟩ := h
        · exact .inl h
        · obtain rfl | hj := List.mem_cons.1 hj
          · exact absurd hjk.symm hi
          · exact .inr ⟨j, hj, hjk⟩
  exact hfold items _ hone (.inr hmem)

theorem typeOf_energy (s : State) {r : Nat} (hr : r < 24) : typeOf s (kEnergy (0x41 + r)) = .u64 := by
  have hentry : ∀ r < 24, ((entryOf 0x5200 (0x41 + r)).map (·.ty)).getD .octets = .u64 := by decide
  have hidx : kEnergy (0x41 + r) / 256 = 0x5200 := by
    show (0x5200 * 256 + (0x41 + r)) / 256 = 0x5200
    omega
  have hsub : kEnergy (0x41 + r) % 256 = 0x41 + r := by
    show (0x5200 * 256 + (0x41 + r)) % 256 = 0x41 + r
    omega
  rw [typeOf, hidx, hsub, if_neg (by decide), hentry r hr]

theorem decodeVal_storeBytes_u64 (n : Int) : decodeVal .u64 (storeBytes .u64 (.num n)) = .num (n % 2 ^ 64) := by
  have hlt : (n % 2 ^ 64).toNat < 2 ^ 64 := by omega
  have hbytes : storeBytes .u64 (.num n) = leBytes 8 (n % 2 ^ 64).toNat := rfl
  have hval : ∀ b, decodeVal .u64 b = .num (leNat b : Nat) := fun b => rfl
  rw [hbytes, hval, leNat_leBytes, Nat.mod_eq_of_lt hlt, Int.toNat_of_nonneg (by omega)]

theorem homeOf_u64_val (k : Key) (n : Int) : (homeOf k .u64 (.num n)).val = .num (n % 2 ^ 64) := by
  have h : ∀ v c, HomeRec.val { ty := Ty.u64.code, value := v, crc := c } = decodeVal .u64 v := fun _ _ => rfl
  rw [homeOf, h, decodeVal_storeBytes_u64]

/-- The accumulators and the demand maxima, as the transaction holds them. -/
def energyItems (s : State) : List (Key × Val) :=
  (List.range 24).map (fun r => (kEnergy (0x41 + r), Val.num ((tabFind s.meter.acc r).getD 0))) ++ [7, 8, 9, 0xA].map fun k => (kDemand k, reg s (kDemand k))

theorem saveEnergy_home {s : State} (hw : s.power.warning = false) (hd : storeDegraded s = false) {r : Nat} (hr : r < 24) :
    homeVal (saveEnergy s) (kEnergy (0x41 + r)) = some (.num (((tabFind s.meter.acc r).getD 0 : Nat) % 2 ^ 64 : Int)) := by
  have hsave : (saveEnergy s).mram.store = s.mram.store.transact ((energyItems s).map fun i => (i.1, typeOf s i.1, i.2)) := by
    have h : saveEnergy s = transact s (energyItems s) := if_neg (by simp [hw])
    rw [h, transact, if_neg (by simp [hd])]
    simp
  have hhome := home_transact s.mram.store ((energyItems s).map fun i => (i.1, typeOf s i.1, i.2)) (k := kEnergy (0x41 + r)) (ty := .u64)
    (v := .num ((tabFind s.meter.acc r).getD 0 : Nat)) (fun i hi hk => ?_) ⟨(kEnergy (0x41 + r), .u64, .num ((tabFind s.meter.acc r).getD 0 : Nat)), ?_, rfl⟩
  · rw [homeVal, hsave, hhome, Option.map_some, homeOf_u64_val]
  · obtain ⟨x, hx, rfl⟩ := List.mem_map.1 hi
    dsimp only at hk ⊢
    rw [hk, typeOf_energy s hr]
    obtain hx | hx := List.mem_append.1 hx
    · obtain ⟨q, hq, rfl⟩ := List.mem_map.1 hx
      have hqr : q = r := by
        have hk : @Eq Nat (kEnergy (0x41 + q)) (kEnergy (0x41 + r)) := hk
        unfold kEnergy at hk
        omega
      rw [hqr]
    · obtain ⟨q, hq, rfl⟩ := List.mem_map.1 hx
      have hk : @Eq Nat (kDemand q) (kEnergy (0x41 + r)) := hk
      simp only [List.mem_cons, List.not_mem_nil, or_false] at hq
      unfold kDemand kEnergy at hk
      omega
  · refine List.mem_map.2 ⟨(kEnergy (0x41 + r), .num ((tabFind s.meter.acc r).getD 0 : Nat)), ?_, by rw [typeOf_energy s hr]⟩
    exact List.mem_append_left _ (List.mem_map.2 ⟨r, List.mem_range.2 hr, rfl⟩)

/-- The registers of one accumulator. -/
def showAccumulator (acc : Tab Nat) (s : State) (r : Nat) : State :=
  setNum (setNum (setNum s (kEnergy (1 + r)) ((tabFind acc r).getD 0 / 1000 % 2 ^ 32 : Nat)) (kEnergy (0x21 + r)) ((tabFind acc r).getD 0 / 1000 / 2 ^ 32 % 256 : Nat))
    (kEnergy (0x41 + r)) ((tabFind acc r).getD 0 : Nat)

theorem kEnergy_ne {a b : Nat} (h : a ≠ b) : @Ne Nat (kEnergy a) (kEnergy b) := by unfold kEnergy; omega

theorem num_showAccumulator (acc : Tab Nat) (s : State) {r q : Nat} (hr : r < 24) (hq : q < 24) :
    num (showAccumulator acc s q) (kEnergy (0x41 + r)) = if r = q then (((tabFind acc q).getD 0 : Nat) : Int) else num s (kEnergy (0x41 + r)) := by
  unfold showAccumulator
  rw [num_setNum]
  by_cases h : r = q
  · rw [if_pos (by rw [h]), if_pos h]
  · have h1 := kEnergy_ne (a := 0x41 + r) (b := 0x41 + q) (by omega)
    have h2 := kEnergy_ne (a := 0x41 + r) (b := 0x21 + q) (by omega)
    have h3 := kEnergy_ne (a := 0x41 + r) (b := 1 + q) (by omega)
    rw [if_neg h1, if_neg h, num_setNum, if_neg h2, num_setNum, if_neg h3]

theorem showEnergy_acc (s : State) {r : Nat} (hr : r < 24) : num (showEnergy s) (kEnergy (0x41 + r)) = ((tabFind s.meter.acc r).getD 0 : Nat) := by
  have hfold : ∀ (l : List Nat) (u : State), (∀ q ∈ l, q < 24) → (num u (kEnergy (0x41 + r)) = ((tabFind s.meter.acc r).getD 0 : Nat) ∨ r ∈ l) →
      num (l.foldl (showAccumulator s.meter.acc) u) (kEnergy (0x41 + r)) = ((tabFind s.meter.acc r).getD 0 : Nat) := by
    intro l
    induction l with
    | nil => exact fun u _ h => h.resolve_right (by simp)
    | cons q rest ih =>
      intro u hl h
      refine ih _ (fun x hx => hl x (by simp [hx])) ?_
      rw [num_showAccumulator _ _ hr (hl q (by simp))]
      by_cases hq : r = q
      · exact .inl (by rw [if_pos hq, hq])
      · rw [if_neg hq]
        exact h.imp id fun h => (List.mem_cons.1 h).resolve_left hq
  have hfirst := hfold (List.range 24) s (fun q hq => List.mem_range.1 hq) (.inr (List.mem_range.2 hr))
  refine Eq.trans ?_ hfirst
  refine Stands.num_eq (f := metered) (P := (· = kEnergy (0x41 + r))) (Stands.foldl (.refl _) fun p hp u => Stands.setNum (.refl u) blind_metered ?_ _) rfl
  have hlt := List.mem_range.1 (List.of_mem_zip hp).2
  exact (kEnergy_ne (by omega)).symm

theorem meterStands_showEnergy (s : State) : MeterStands s (showEnergy s) := by
  have hk : ∀ {n}, n < 0x81 → ¬IsMeterReg (kEnergy n) := fun hn => by
    unfold kEnergy
    exact not_isMeterReg (by omega) (by omega) (by omega) (by omega) (by omega)
  have hb := blind_metered
  unfold showEnergy
  extract_lets a c s1
  have h1 : MeterStands s s1 := by
    refine Stands.foldl (.refl s) fun r hr u => ?_
    have hlt := List.mem_range.1 hr
    exact (((Stands.refl u).setNum hb (hk (by omega)) _).setNum hb (hk (by omega)) _).setNum hb (hk (by omega)) _
  refine h1.foldl fun p hp u => Stands.setNum (.refl u) hb (hk ?_) _
  have hlt := List.mem_range.1 (List.of_mem_zip hp).2
  omega

/-! ### A window ends (R294, R301, R302) -/

/-- The block as the energies that a window adds leave it. -/
def spare (m : Meter) : Meter := { m with acc := [], res := [] }

theorem fields_of_spare {m n : Meter} (h : spare m = spare n) : m.out = n.out ∧ m.startAsked = n.startAsked ∧ m.resetAsked = n.resetAsked :=
  ⟨(show (spare m).out = (spare n).out by rw [h]), (show (spare m).startAsked = (spare n).startAsked by rw [h]),
    (show (spare m).resetAsked = (spare n).resetAsked by rw [h])⟩

/-- The fields of the block, of those that stand, that the statement speaks of. -/
theorem fields_of_metered {s t : State} (h : metered t = metered s) : t.meter.win = s.meter.win ∧ t.meter.acc = s.meter.acc ∧
    t.meter.resetAsked = s.meter.resetAsked :=
  ⟨congrArg (fun y => y.2.2.2.2.win) h, congrArg (fun y => y.2.2.2.2.acc) h, congrArg (fun y => y.2.2.2.2.resetAsked) h⟩

/-- What a window's end leaves of the state: memory, power, the steps held off, the pulses that are high, and a START that waits. -/
def core (s : State) : List Host.Cell × Power × (Bool × BitVec 16) × (Bool × Bool) × Bool :=
  (s.mem, s.power, (s.start.safe, s.start.disabled), ((pulseOut s 0).high, (pulseOut s 1).high), s.meter.startAsked)

theorem Stands.core {P : Key → Prop} {s t : State} (h : Stands metered P s t) : Stands core P s t :=
  h.view fun x => (x.1, x.2.1, x.2.2.1, x.2.2.2.1, x.2.2.2.2.startAsked)

theorem core_putMeter {s : State} {m : Meter} (hout : m.out = s.meter.out) (ha : m.startAsked = s.meter.startAsked) : core (putMeter s m) = core s := by
  have h : ∀ n, pulseOut (putMeter s m) n = pulseOut s n := fun n => by
    show (tabFind m.out n).getD _ = (tabFind s.meter.out n).getD _
    rw [hout]
  unfold core
  rw [h 0, h 1]
  show (_, _, _, _, m.startAsked) = _
  rw [ha]
  rfl

theorem spare_addEnergies (hours : Rat) (l : List (Rat × Nat)) (m : Meter) :
    spare (l.foldl (fun a e => addEnergy a e.2 (e.1 * hours)) m) = spare m := by
  induction l generalizing m with
  | nil => rfl
  | cons e l ih => exact ih _

theorem stands_addEnergies {P : Key → Prop} (s : State) (hours : Rat) (l : List (Rat × Nat)) :
    Stands (fun u => (core u, u.meter.resetAsked)) P s (putMeter s (l.foldl (fun a e => addEnergy a e.2 (e.1 * hours)) s.meter)) := by
  have hm := spare_addEnergies hours l s.meter
  generalize l.foldl (fun a e => addEnergy a e.2 (e.1 * hours)) s.meter = m at *
  obtain ⟨hout, hstart, hreset⟩ := fields_of_spare hm
  exact ⟨Prod.ext (core_putMeter hout hstart) hreset, fun _ _ => rfl⟩

/-- The energy registers are cleared, before the reset is counted. -/
def energyCleared (s : State) : State := { s with meter := { s.meter with
  acc := [], res := [], resetAsked := false
  demand := { s.meter.demand with s := s.meter.demand.s - apparentEnergy s.meter }
  out := s.meter.out.map fun o => (o.1, { o.2 with base := 0, passed := 0 }) } }

theorem core_energyCleared (s : State) : core (energyCleared s) = core s := by
  have hout : ∀ n, (pulseOut (energyCleared s) n).high = (pulseOut s n).high := by
    intro n
    have h := tabFind_map (fun p : PulseOut => { p with base := 0, passed := 0 }) s.meter.out n
    unfold pulseOut
    have hout : (energyCleared s).meter.out = s.meter.out.map fun o => (o.1, { o.2 with base := 0, passed := 0 }) := rfl
    rw [hout, h]
    cases tabFind s.meter.out n <;> rfl
  unfold core
  rw [hout 0, hout 1]
  rfl

theorem resetEnergy_eq (s : State) : resetEnergy s =
    keepVal (energyCleared s) (kEnergy 0x81) (.num ((num s (kEnergy 0x81) + 1) % 2 ^ 32)) := rfl

theorem pulseOut_keepVal (s : State) (k : Key) (v : Val) (n : Nat) : pulseOut (keepVal s k v) n = pulseOut s n := by
  unfold pulseOut
  rw [keepVal_meter]

theorem reg_keepVal (s : State) (k : Key) (v : Val) (j : Key) : reg (keepVal s k v) j = reg (setVal s k v) j := by
  unfold keepVal
  dsimp only
  split <;> rfl

theorem stands_resetEnergy {P : Key → Prop} (hP : ¬P (kEnergy 0x81)) (s : State) : Stands core P s (resetEnergy s) := by
  rw [resetEnergy_eq]
  refine Stands.trans (t := energyCleared s) ⟨core_energyCleared s, fun j _ => rfl⟩ ⟨?_, fun j hj => ?_⟩
  · unfold core
    rw [pulseOut_keepVal, pulseOut_keepVal]
    simp
  · have hne : j ≠ kEnergy 0x81 := fun h => hP (h ▸ hj)
    rw [reg_keepVal, reg_setVal, if_neg hne]

theorem num_resetEnergy (s : State) : num (resetEnergy s) (kEnergy 0x81) = (num s (kEnergy 0x81) + 1) % 2 ^ 32 := by
  rw [resetEnergy_eq, num, reg_keepVal, reg_setVal, if_pos rfl]
  rfl

theorem meter_resetEnergy (s : State) : (resetEnergy s).meter = (energyCleared s).meter := by rw [resetEnergy_eq, keepVal_meter]

/-- The settings of the pulse outputs take effect at a window's end. -/
def pulsesSet (s : State) : State := [0, 1].foldl (fun t o =>
  let p := pulseOut t o
  let src := nat t (kPulse o 2)
  let c := nat t (kPulse o 3)
  if p.source = src ∧ p.const = c then t
  else putPulse t o { p with source := src, const := c, base := (tabFind t.meter.acc src).getD 0, passed := 0 }) s

theorem meterStands_pulsesSet (s : State) : MeterStands s (pulsesSet s) :=
  Stands.foldl (.refl s) fun o _ u => .ite (.refl u) (stands_putPulse u o rfl)

/-- Table 12-10: the DC channels of a window. -/
theorem meterStands_showDc {s : State} {l : List (Nat × Int)} (h : ∀ v ∈ l, v.1 < 256) : MeterStands s (l.foldl (fun t v => setNum t (kDc v.1) v.2) s) := by
  refine Stands.foldl (.refl s) fun v hv u => Stands.setNum (.refl u) blind_metered ?_ _
  have hlt := h v hv
  unfold kDc
  exact not_isMeterReg (by omega) (by omega) (by omega) (by omega) (by omega)

theorem meterStands_signs {s : State} (l : List (Rat × Nat)) (floor : Rat) : MeterStands s (l.foldl (fun t v => noteSign t v.2 v.1 floor) s) :=
  Stands.foldl (.refl s) fun v _ u => meterStands_noteSign u v.2 v.1 floor

/-- The pulse outputs that count an apparent energy, at a window's end. -/
def pulsesApparent (s : State) : State :=
  [0, 1].foldl (fun t o => if 16 ≤ (pulseOut t o).source ∧ (pulseOut t o).source < 20 then pulsesDue t o else t) s

theorem meterStands_pulsesApparent (s : State) : MeterStands s (pulsesApparent s) :=
  Stands.foldl (.refl s) fun o ho u => .ite (meterStands_pulsesDue (by simp at ho; omega) u) (.refl u)

/-- The registers that decide whether the block runs, and the count of its fault. -/
def IsRunReg (j : Nat) : Prop := j = kMeter 2 ∨ j = kFault 38 8 ∨ j = 0x101803

theorem isMeterReg_of_isRunReg {j : Nat} (h : IsRunReg j) : IsMeterReg j ∧ j ≠ kInst 1 ∧ j ≠ kInst 2 ∧ j ≠ kEnergy 0x81 := by
  unfold IsMeterReg
  obtain rfl | rfl | rfl := h
  · decide
  · decide
  · decide

/-- What the end of a window does. -/
structure WindowClosed (s t : State) (short : Bool) : Prop where
  stands : Stands core IsRunReg s t
  win : t.meter.win = (splitWindow s.meter short).2.1
  number : num t (kInst 1) = (num s (kInst 1) + 1) % 2 ^ 32
  time : num t (kInst 2) = windowEnd s (splitWindow s.meter short)
  homes : s.power.warning = false → storeDegraded s = false → ∀ r, r < 24 →
    homeVal t (kEnergy (0x41 + r)) = some (.num (num t (kEnergy (0x41 + r)) % 2 ^ 64))
  reset : s.meter.resetAsked = true → num t (kEnergy 0x81) = (num s (kEnergy 0x81) + 1) % 2 ^ 32 ∧ t.meter.resetAsked = false ∧
    ∀ r, r < 24 → num t (kEnergy (0x41 + r)) = 0

/-- What a window's end makes durable and what comes after it. -/
def windowSaved (s : State) (x : Quantities) (flags : Nat) : State :=
  let s1 := saveEnergy (showEnergy (calWindow s x flags))
  testWindow (noteSupply s1) (num s1 (kDc 8)) (num s1 (kDc 9))

theorem windowSaved_spec (s : State) (x : Quantities) (flags : Nat) : MeterStands s (windowSaved s x flags) ∧
    (∀ r, r < 24 → num (windowSaved s x flags) (kEnergy (0x41 + r)) = ((tabFind s.meter.acc r).getD 0 : Nat)) ∧
    (s.power.warning = false → storeDegraded s = false → ∀ r, r < 24 →
      homeVal (windowSaved s x flags) (kEnergy (0x41 + r)) = some (.num (((tabFind s.meter.acc r).getD 0 : Nat) % 2 ^ 64 : Int))) := by
  unfold windowSaved
  have hcal := meterStands_calWindow s x flags
  have hacc : (calWindow s x flags).meter.acc = s.meter.acc := (fields_of_metered hcal.same).2.1
  generalize calWindow s x flags = u at *
  have hshow := meterStands_showEnergy u
  have hregs := fun {r} hr => showEnergy_acc u (r := r) hr
  have hacc2 : (showEnergy u).meter.acc = u.meter.acc := (fields_of_metered hshow.same).2.1
  generalize showEnergy u = v at *
  extract_lets s1
  have hsave : MeterStands v s1 := meterStands_saveEnergy v
  have htail : ∀ {α : Type} {f : State → α} {P : Key → Prop}, Blind f → BlindLanes f → (∀ u n r, f { u with fresh := n, recorder := r } = f u) →
      (∀ j, IsTestReg j → ¬P j) → Stands f P s1 (testWindow (noteSupply s1) (num s1 (kDc 8)) (num s1 (kDc 9))) := by
    intro α f P hf hl hr hP
    refine Stands.trans (t := noteSupply s1) ?_ (stands_testWindow hf hl hP _ _ _)
    unfold noteSupply
    exact .ite (.refl s1) (.of_eq (.refl s1) (hr s1 _ _) rfl)
  have henergy : ∀ {r}, r < 24 → ∀ j, IsTestReg j → ¬j = kEnergy (0x41 + r) := by
    rintro r hr j hj rfl
    unfold IsTestReg kEnergy at hj
    omega
  refine ⟨((hcal.trans hshow).trans hsave).trans (htail blind_metered blindLanes_metered (fun _ _ _ => rfl) not_isMeterReg_of_isTestReg),
    fun r hr => ?_, fun hw hd r hr => ?_⟩
  · have hne : ¬(kTxnCount = kEnergy (0x41 + r)) := by
      show ¬(@Eq Nat _ _)
      unfold kTxnCount kEnergy
      omega
    have hsaved : reg s1 (kEnergy (0x41 + r)) = reg v (kEnergy (0x41 + r)) := by
      refine Stands.regs (f := metered) (P := (· = kEnergy (0x41 + r))) (.ite (.refl v) ⟨(meterStands_transact v _).same, fun j hj => ?_⟩) _ rfl
      exact (keeps_transact (P := (· = kEnergy (0x41 + r))) hne v _).2 j hj
    rw [(htail (f := metered) (P := (· = kEnergy (0x41 + r))) blind_metered blindLanes_metered (fun _ _ _ => rfl) (henergy hr)).num_eq rfl,
      num, hsaved, ← num, hregs hr, hacc]
  · have hpower : v.power = s.power := congrArg (fun y => y.2.1) (hshow.same.trans hcal.same)
    have hdeg : storeDegraded v = storeDegraded s := by
      unfold storeDegraded bit
      rw [(hcal.trans hshow).nat_eq (by unfold IsMeterReg; simp)]
    have hstore : (testWindow (noteSupply s1) (num s1 (kDc 8)) (num s1 (kDc 9))).mram.store = s1.mram.store :=
      (htail (f := fun u => u.mram.store) (P := fun _ => False) (by intros u regs server out faults keptHeld logHeld fs log o; rfl)
        (by intros u lanes safety pads; rfl) (fun _ _ _ => rfl) (fun _ _ => id)).same
    rw [homeVal, hstore, ← homeVal, saveEnergy_home (by rw [hpower, hw]) (by rw [hdeg, hd]) hr, hacc2, hacc]

/-- The window's quantities are counted, and its energies added; what a reset or the next window changes comes after. -/
theorem closeWindow_spec (s : State) (short : Bool) : WindowClosed s (closeWindow s short) short := by
  have hb := blind_metered
  unfold closeWindow
  extract_lets m cut w x f flags s1 s2 hours m1 s3 s4 dc pdc pbt i32 s5 floor s6 s7 s8 s9 nom ref _ _ s10 low s11 s12
  have h1 : MeterStands s s1 := meterStands_showWindow s (phased_quantities _ w) f w
  have h2 : Stands metered (fun j => IsMeterReg j ∧ j ≠ kInst 1 ∧ j ≠ kInst 2) s s2 :=
    (((h1.mono fun j hj => hj.1).bump hb (by simp)).setNum hb (by simp) _).setNum hb (by unfold IsMeterReg; decide) _
  have hnumber : num s2 (kInst 1) = (num s (kInst 1) + 1) % 2 ^ 32 := by
    have h13 : @Ne Nat (kInst 1) (kInst 3) := by decide
    have h12 : @Ne Nat (kInst 1) (kInst 2) := by decide
    rw [num_setNum, if_neg h13, num_setNum, if_neg h12, num_bump, if_pos rfl, h1.num_eq (.inr (.inl rfl))]
  have htime : num s2 (kInst 2) = windowEnd s cut := by
    have hne : @Ne Nat (kInst 2) (kInst 3) := by decide
    rw [num_setNum, if_neg hne, num_setNum, if_pos rfl]
  clear_value s2
  have h3 : Stands (fun u => (core u, u.meter.resetAsked)) IsMeterReg s2 s3 := stands_addEnergies s2 hours _
  clear_value s3
  have h4 : MeterStands s3 s4 := meterStands_pulsesApparent s3
  clear_value s4
  have h5 : MeterStands s4 s5 := meterStands_showDc (by simp)
  clear_value s5
  have h6 : MeterStands s5 s6 := meterStands_signs _ floor
  clear_value s6
  have h7 : MeterStands s6 s7 := (meterStands_noteSign s6 4 pbt 1000000).trans (meterStands_phaseLoss _ x.us)
  clear_value s7
  have h8 : Stands core (fun j => IsMeterReg j ∧ j ≠ kEnergy 0x81) s7 s8 := .ite (stands_resetEnergy (by simp) s7) (.refl s7)
  have h9 : MeterStands s8 s9 := meterStands_pulsesSet s8
  clear_value s9
  have h10 : Stands core IsMeterReg s9 s10 := .of_eq (.refl s9) rfl rfl
  have h11 : MeterStands s10 s11 := Stands.setNum (.refl s10) hb (by unfold IsMeterReg; decide) _
  obtain ⟨hwin, hacc, hasked⟩ := fields_of_metered h11.same
  obtain ⟨hend, hregs, hhomes⟩ := windowSaved_spec s11 x flags
  have hdone : windowSaved s11 x flags = testWindow (noteSupply s12) (num s12 (kDc 8)) (num s12 (kDc 9)) := rfl
  rw [hdone] at hend hregs hhomes
  generalize testWindow (noteSupply s12) (num s12 (kDc 8)) (num s12 (kDc 9)) = t at *
  have h37 : MeterStands s3 s7 := ((h4.trans h5).trans h6).trans h7
  have h27 : Stands (fun u => (core u, u.meter.resetAsked)) IsMeterReg s2 s7 :=
    h3.trans (h37.view fun y => ((y.1, y.2.1, y.2.2.1, y.2.2.2.1, y.2.2.2.2.startAsked), y.2.2.2.2.resetAsked))
  have h9t : Stands core IsMeterReg s9 t := (h10.trans h11.core).trans hend.core
  have h8t : Stands core IsMeterReg s8 t := h9.core.trans h9t
  have h2t : Stands core (fun j => IsMeterReg j ∧ j ≠ kEnergy 0x81) s2 t :=
    (((h27.view Prod.fst).mono fun j hj => hj.1).trans h8).trans (h8t.mono fun j hj => hj.1)
  have hrun := fun j (hj : IsRunReg j) => isMeterReg_of_isRunReg hj
  have hs11 : Stands core IsRunReg s s11 := by
    have hs2 := h2.core.mono fun j hj => ⟨(hrun j hj).1, (hrun j hj).2.1, (hrun j hj).2.2.1⟩
    have hs8 := (hs2.trans ((h27.view Prod.fst).mono fun j hj => (hrun j hj).1)).trans (h8.mono fun j hj => ⟨(hrun j hj).1, (hrun j hj).2.2.2⟩)
    exact (hs8.trans (h9.core.mono fun j hj => (hrun j hj).1)).trans ((h10.trans h11.core).mono fun j hj => (hrun j hj).1)
  have hpower : s11.power = s.power := congrArg (fun y => y.2.1) hs11.same
  have hdeg : storeDegraded s11 = storeDegraded s := by
    unfold storeDegraded bit
    rw [hs11.nat_eq (.inr (.inr rfl))]
  obtain ⟨htwin, _, htasked⟩ := fields_of_metered hend.same
  refine ⟨?_, ?_, ?_, ?_, fun hw hd r hr => ?_, fun hreset => ?_⟩
  · exact hs11.trans (hend.core.mono fun j hj => (hrun j hj).1)
  · exact htwin.trans hwin
  · exact (h2t.num_eq (by unfold IsMeterReg; decide)).trans hnumber
  · exact (h2t.num_eq (by unfold IsMeterReg; decide)).trans htime
  · rw [hhomes (by rw [hpower, hw]) (by rw [hdeg, hd]) r hr, hregs r hr]
  · have hasked7 : s7.meter.resetAsked = true := by
      have h2s := (fields_of_metered h2.same).2.2
      exact ((congrArg Prod.snd h27.same).trans h2s).trans hreset
    have h8eq : s8 = resetEnergy s7 := if_pos hasked7
    have hmeter8 : s8.meter = (energyCleared s7).meter := (congrArg State.meter h8eq).trans (meter_resetEnergy s7)
    obtain ⟨_, hacc9, hasked9⟩ := fields_of_metered h9.same
    refine ⟨?_, ?_, fun r hr => ?_⟩
    · rw [h8t.num_eq (by unfold IsMeterReg; simp), h8eq, num_resetEnergy, h27.num_eq (by unfold IsMeterReg; simp), h2.num_eq (by unfold IsMeterReg; decide)]
    · rw [htasked, hasked]
      show s9.meter.resetAsked = false
      rw [hasked9, hmeter8]
      rfl
    · rw [hregs r hr, hacc]
      have hnone : s9.meter.acc = [] := by rw [hacc9, hmeter8]; rfl
      show ((tabFind s9.meter.acc r).getD 0 : Nat) = (0 : Int)
      rw [hnone]
      rfl

/-! ### Sample sets (R56, R285, R286, R297) -/

/-- The sample set that enters: a set lost is replaced by the one before it. -/
def setOf (s : State) (codes : List Int) (full : Bool) : List Int :=
  if full then (if s.meter.last = [] then List.replicate 11 0 else s.meter.last) else codes

/-- The state in which a sample set enters: a set lost is reported. -/
def setBase (s : State) (full : Bool) : State := if full then raise s 56 0 0 else s

/-- The block with a set summed in the offset check. -/
def offsetMeter (m : Meter) (set : List Int) : Meter :=
  { m with last := set, offN := m.offN + 1, offSum := (List.range 11).map fun c => m.offSum.getD c 0 + set.getD c 0 }

/-- The sample that a set becomes in its window. -/
def sampleOf (s : State) (set : List Int) (full : Bool) : Sample :=
  { (correctSet s set).2 with flags := (if set.any fun c => c ≤ -8388607 ∨ 8388607 ≤ c then 1 else 0) + if full then 2 else 0 }

/-- The block with a set joined to its window, before its powers are counted. -/
def sampleMeter (s : State) (set : List Int) (full : Bool) : Meter :=
  let r := correctSet s set
  { r.1 with
    win := r.1.win ++ [sampleOf s set full]
    powers := (r.2.p ++ r.2.q ++ [ratAt r.2.dc 0 * ratAt r.2.dc 1, ratAt r.2.dc 2 * ratAt r.2.dc 3]) :: r.1.powers.take 199 }

/-- The pulse outputs that count an energy other than an apparent one, after a sample set. -/
def pulsesSampled (s : State) : State :=
  [0, 1].foldl (fun t o => if 16 ≤ (pulseOut t o).source ∧ (pulseOut t o).source < 20 then t else pulsesDue t o) s

/-- A set joins the window in progress. -/
def sampleJoined (s : State) (m : Meter) (set : List Int) (full : Bool) : State :=
  let u := putMeter s { m with last := set }
  pulsesSampled (putMeter s (countPowers (sampleMeter u set full) (powerSamples (sampleMeter u set full))))

theorem sampleSet_goes (s : State) (codes : List Int) (full : Bool) : Goes (.sampleSet codes full) s
    (if meterState s = 3 then putMeter (setBase s full) (offsetMeter s.meter (setOf s codes full))
     else if meterState s = 1 then sampleJoined (setBase s full) s.meter (setOf s codes full) full
     else setBase s full) := rfl

theorem stands_pulsesSampled {α : Type} {f : State → α} {P : Key → Prop} (hf : Blind f) (hput : BlindPulses f)
    (hk : ∀ o sub, o < 2 → sub < 256 → ¬P (kPulse o sub)) (hp : ∀ j, P j → Plain j ∧ j ≠ kFault 41 8) (s : State) :
    Stands f P s (pulsesSampled s) :=
  Stands.foldl (.refl s) fun o ho u =>
    .ite (.refl u) (stands_pulsesDue hf hput (fun sub hs => hk o sub (by simp at ho; omega) hs) hp u)

theorem meterStands_pulsesSampled (s : State) : MeterStands s (pulsesSampled s) :=
  Stands.foldl (.refl s) fun o ho u => .ite (.refl u) (meterStands_pulsesDue (by simp at ho; omega) u)

theorem spare_addPowers (l : List (Rat × Nat)) (m : Meter) : spare (l.foldl (fun a v => addPower a v.2 v.1) m) = spare m := by
  have hone : ∀ m i w, spare (addPower m i w) = spare m := by
    intro m i w
    unfold addPower
    split
    · rfl
    · rfl
  induction l generalizing m with
  | nil => rfl
  | cons e l ih => exact (ih _).trans (hone m e.2 e.1)

/-- The powers counted leave the window, and one more set counts in the demand interval. -/
theorem countPowers_fields (m : Meter) (pw : List Rat) : (countPowers m pw).win = m.win ∧ (countPowers m pw).raw = m.raw ∧
    (countPowers m pw).demand.n = m.demand.n + 1 := by
  have h := spare_addPowers (pw.zip (List.range 10)) m
  unfold countPowers
  dsimp only
  generalize (pw.zip (List.range 10)).foldl (fun a v => addPower a v.2 v.1) m = x at *
  exact ⟨show (spare x).win = (spare m).win by rw [h], show (spare x).raw = (spare m).raw by rw [h],
    show (spare x).demand.n + 1 = (spare m).demand.n + 1 by rw [h]⟩

/-- What a set that joins leaves of the block. -/
theorem sampleJoined_spec (s : State) (m : Meter) (set : List Int) (full : Bool) :
    (sampleJoined s m set full).mem = s.mem ∧ (sampleJoined s m set full).meter.raw = set ∧
    (sampleJoined s m set full).meter.win = m.win ++ [sampleOf (putMeter s { m with last := set }) set full] ∧
    (sampleJoined s m set full).meter.demand.n = m.demand.n + 1 := by
  unfold sampleJoined
  extract_lets u
  have hfields := countPowers_fields (sampleMeter u set full) (powerSamples (sampleMeter u set full))
  have hsample : (sampleMeter u set full).win = m.win ++ [sampleOf u set full] ∧ (sampleMeter u set full).raw = set ∧
      (sampleMeter u set full).demand.n = m.demand.n := ⟨rfl, rfl, rfl⟩
  obtain ⟨hw, hr, hd⟩ := hsample
  generalize sampleOf u set full = x at *
  generalize sampleMeter u set full = v at *
  generalize countPowers v (powerSamples v) = w at *
  have hp := (meterStands_pulsesSampled (putMeter s w)).same
  generalize pulsesSampled (putMeter s w) = t at *
  obtain ⟨hwin, hraw, hn⟩ := hfields
  refine ⟨congrArg Prod.fst hp, ?_, ?_, ?_⟩
  · exact (congrArg (fun y => y.2.2.2.2.raw) hp).trans (hraw.trans hr)
  · exact (congrArg (fun y => y.2.2.2.2.win) hp).trans (hwin.trans hw)
  · have h : t.meter.demand.n = w.demand.n := congrArg (fun y => y.2.2.2.2.demand.n) hp
    rw [h, hn, hd]

theorem raised_sampleJoined (s : State) (m : Meter) (set : List Int) (full : Bool) {u : State} (h : Raised u s 56) :
    Raised u (sampleJoined s m set full) 56 := by
  unfold sampleJoined
  extract_lets v
  generalize countPowers _ _ = w
  have hp := stands_pulsesSampled (f := fun u => (u.mem, u.mram.store)) (P := (· = kFault 56 8)) (by intros u regs server out faults keptHeld logHeld fs log o; rfl)
    (fun _ _ _ _ => rfl) (fun o sub ho hs => ?_) (fun j hj => ?_) (putMeter s w)
  · exact raised_then h (hp.num_eq rfl) (congrArg Prod.fst hp.same) (congrArg Prod.snd hp.same)
  · show ¬(@Eq Nat _ _)
    unfold kPulse kFault
    omega
  · subst hj
    exact ⟨plain_kFault (by decide), by decide⟩

/-- Bit 1 of a sample's flags is a set lost, bit 0 a clipped code. -/
theorem testBit_sampleOf_lost (s : State) (set : List Int) : (sampleOf s set true).flags.testBit 1 = true := by
  show ((if set.any _ then 1 else 0) + 2).testBit 1 = true
  split
  · rfl
  · rfl

theorem testBit_sampleOf_clipped (s : State) {set : List Int} (h : ∃ c ∈ set, c ≤ -8388607 ∨ 8388607 ≤ c) (full : Bool) :
    (sampleOf s set full).flags.testBit 0 = true := by
  have hany : (set.any fun c => c ≤ -8388607 ∨ 8388607 ≤ c) = true := by simpa using h
  show ((if set.any _ then 1 else 0) + _).testBit 0 = true
  rw [if_pos hany]
  cases full
  · rfl
  · rfl

theorem flagsOf_append (w : List Sample) (x : Sample) : flagsOf (w ++ [x]) = flagsOf w ||| x.flags := by
  simp [flagsOf, List.foldl_append]

theorem offsetMeter_sum {m : Meter} {set : List Int} {c : Nat} (hc : c < 11) : (offsetMeter m set).offSum.getD c 0 = m.offSum.getD c 0 + set.getD c 0 := by
  simp [offsetMeter, hc]

theorem sampleSet_spec (s : State) (codes : List Int) :
    (∃ t, Goes (.sampleSet codes true) s t ∧ Raised s t 56) ∧
    (s.meter.last ≠ [] →
      (meterState s = 3 → ∃ t, Goes (.sampleSet codes true) s t ∧ t.meter.offN = s.meter.offN + 1 ∧
        ∀ c, c < 11 → t.meter.offSum.getD c 0 = s.meter.offSum.getD c 0 + s.meter.last.getD c 0) ∧
      (meterState s = 1 → ∃ t, Goes (.sampleSet codes true) s t ∧ t.meter.raw = s.meter.last ∧ (flagsOf t.meter.win).testBit 1 = true)) ∧
    (meterState s ≠ 1 → meterState s ≠ 3 → Goes (.sampleSet codes false) s s) ∧
    (meterState s = 3 → ∃ t, Goes (.sampleSet codes false) s t ∧ t.meter.offN = s.meter.offN + 1 ∧ { t with meter := s.meter } = s ∧ t.meter.last = codes ∧
      ∀ c, c < 11 → t.meter.offSum.getD c 0 = s.meter.offSum.getD c 0 + codes.getD c 0) ∧
    (meterState s = 1 → ∃ t, Goes (.sampleSet codes false) s t ∧ t.meter.raw = codes ∧ t.meter.win.length = s.meter.win.length + 1 ∧
      t.meter.demand.n = s.meter.demand.n + 1 ∧ t.mem = s.mem ∧ ((∃ c ∈ codes, c ≤ -8388607 ∨ 8388607 ≤ c) → (flagsOf t.meter.win).testBit 0 = true)) := by
  have hlost := sampleSet_goes s codes true
  have hset := sampleSet_goes s codes false
  have hraised : Raised s (setBase s true) 56 := raised_raise s (by decide) 0 0 (by decide)
  refine ⟨⟨_, hlost, ?_⟩, fun hlast => ⟨fun h3 => ⟨_, hlost, ?_⟩, fun h1 => ⟨_, hlost, ?_⟩⟩, fun h1 h3 => ?_, fun h3 => ⟨_, hset, ?_⟩, fun h1 => ⟨_, hset, ?_⟩⟩
  · split_ifs
    · exact raised_then hraised rfl rfl rfl
    · exact raised_sampleJoined _ _ _ _ hraised
    · exact hraised
  · rw [if_pos h3]
    have hlastOf : setOf s codes true = s.meter.last := by simp [setOf, hlast]
    refine ⟨rfl, fun c hc => ?_⟩
    rw [← hlastOf]
    exact offsetMeter_sum hc
  · rw [if_neg (by omega), if_pos h1]
    have hlastOf : setOf s codes true = s.meter.last := by simp [setOf, hlast]
    obtain ⟨_, hraw, hwin, _⟩ := sampleJoined_spec (setBase s true) s.meter (setOf s codes true) true
    refine ⟨hraw.trans hlastOf, ?_⟩
    rw [hwin, flagsOf_append, Nat.testBit_or, testBit_sampleOf_lost, Bool.or_true]
  · rwa [if_neg h3, if_neg h1] at hset
  · rw [if_pos h3]
    exact ⟨rfl, rfl, rfl, fun c hc => offsetMeter_sum hc⟩
  · rw [if_neg (by omega), if_pos h1]
    obtain ⟨hmem, hraw, hwin, hn⟩ := sampleJoined_spec (setBase s false) s.meter (setOf s codes false) false
    refine ⟨hraw, by rw [hwin]; simp, hn, hmem, fun hclip => ?_⟩
    rw [hwin, flagsOf_append, Nat.testBit_or, testBit_sampleOf_clipped _ (set := setOf s codes false) hclip, Bool.or_true]

/-! ### The offset check (R288) -/

theorem offsetCheckDone_goes {s : State} (h : meterState s = 3) : Goes .offsetCheckDone s (offsetCheck s).2 := by
  show execOffsetCheckDone s = _
  rw [execOffsetCheckDone, if_pos h]

/-- The channels whose mean offset is above 0.5 % of full scale. -/
def offsetMeans (s : State) : List Int := (List.range 11).map fun c => roundDiv (s.meter.offSum.getD c 0) (max 1 s.meter.offN)
def badOffsets (s : State) : List Nat := (List.range 11).filter fun c => 41943 < ((offsetMeans s).getD c 0).natAbs

theorem badOffsets_eq_nil (s : State) : badOffsets s = [] ↔ OffsetsOk s := by
  have hget : ∀ {c}, c < 11 → (offsetMeans s).getD c 0 = roundDiv (s.meter.offSum.getD c 0) (max 1 s.meter.offN) := by
    intro c hc
    simp [offsetMeans, hc]
  rw [badOffsets, List.filter_eq_nil_iff]
  refine forall_congr' fun c => ?_
  rw [List.mem_range]
  refine forall_congr' fun hc => ?_
  rw [hget hc]
  simp

/-- The block runs, its windows numbered from 0. -/
def meterRuns (s : State) (m : Meter) : State := endCondition (setNum (setNum (putMeter s m) (kMeter 2) 1) (kInst 1) 0) 38

theorem meterRuns_spec (s : State) {m : Meter} (hw : m.win = []) :
    meterState (meterRuns s m) = 1 ∧ num (meterRuns s m) (kInst 1) = 0 ∧ (meterRuns s m).meter.win = [] := by
  have hne : @Ne Nat (kMeter 2) (kInst 1) := by decide
  have hstate : meterState (setNum (setNum (putMeter s m) (kMeter 2) 1) (kInst 1) 0) = 1 := by
    rw [meterState, nat, num_setNum, if_neg hne, num_setNum, if_pos rfl]
    rfl
  have hnumber : num (setNum (setNum (putMeter s m) (kMeter 2) 1) (kInst 1) 0) (kInst 1) = 0 := by rw [num_setNum, if_pos rfl]
  have hwin : (setNum (setNum (putMeter s m) (kMeter 2) 1) (kInst 1) 0).meter.win = [] := by
    simp only [setNum_meter]
    exact hw
  unfold meterRuns
  generalize setNum (setNum (putMeter s m) (kMeter 2) 1) (kInst 1) 0 = u at *
  have h := MeterStands.endCondition (.refl u) (src := 38) (by decide)
  exact ⟨(h.nat_eq (.inl rfl)).trans hstate, (h.num_eq (.inr (.inl rfl))).trans hnumber, (fields_of_metered h.same).1.trans hwin⟩

theorem offsetCheck_good {s : State} (h : badOffsets s = []) : ∃ u m, (offsetCheck s).2 = meterRuns u m ∧ m.win = [] := by
  unfold offsetCheck
  extract_lets means bad s1 _ m _ m1
  have hb : bad = [] := h
  rw [if_pos hb]
  refine ⟨s1, m1, rfl, ?_⟩
  unfold m1
  split
  · rfl
  · rfl

theorem offsetCheck_bad {s : State} (h : badOffsets s ≠ []) : meterState (offsetCheck s).2 = 0 := by
  unfold offsetCheck
  extract_lets means bad s1 _ m _ m1
  have hb : bad ≠ [] := h
  rw [if_neg hb, meterState, nat, num_setNum, if_pos rfl]
  rfl

theorem offsetCheckDone_spec (s : State) : (meterState s ≠ 3 → Goes .offsetCheckDone s s) ∧
    (meterState s = 3 → OffsetsOk s → ∃ t, Goes .offsetCheckDone s t ∧ meterState t = 1 ∧ num t (kInst 1) = 0 ∧ t.meter.win = []) ∧
    (meterState s = 3 → ¬OffsetsOk s → ∃ t, Goes .offsetCheckDone s t ∧ meterState t = 0) := by
  refine ⟨fun h => ?_, fun h hok => ⟨_, offsetCheckDone_goes h, ?_⟩, fun h hok => ⟨_, offsetCheckDone_goes h, offsetCheck_bad (mt (badOffsets_eq_nil s).1 hok)⟩⟩
  · show execOffsetCheckDone s = _
    rw [execOffsetCheckDone, if_neg h]
  · obtain ⟨u, m, ht, hm⟩ := offsetCheck_good ((badOffsets_eq_nil s).2 hok)
    rw [ht]
    exact meterRuns_spec u hm

/-! ### START, STOP, RESTART (R49, R62, R74, R311) -/

/-- What a stop or a start of the block leaves: memory, power, the steps held off and the pulses that are high. -/
def calm (s : State) : List Host.Cell × Power × (Bool × BitVec 16) × (Bool × Bool) :=
  (s.mem, s.power, (s.start.safe, s.start.disabled), ((pulseOut s 0).high, (pulseOut s 1).high))

theorem blind_core : Blind core := by intros u regs server out faults keptHeld logHeld fs log o; rfl

theorem blind_calm : Blind calm := by intros u regs server out faults keptHeld logHeld fs log o; rfl

theorem Stands.calm {P : Key → Prop} {s t : State} (h : Stands Machine.core P s t) : Stands Machine.calm P s t :=
  h.view fun x => (x.1, x.2.1, x.2.2.1, x.2.2.2.1)

theorem stands_meterPending {P : Key → Prop} (hF : ¬P (kMeter 0xF)) (hR : ¬P kRestartPending) (s : State) (v : Bool) : Stands calm P s (meterPending s v) := by
  have h : Stands Machine.calm P s { s with meter := { s.meter with startAsked := v } } := .of_eq (.refl s) rfl rfl
  exact (h.setBit blind_calm hF 4 v).setBit blind_calm hR 2 v

theorem meterPending_meter (s : State) (v : Bool) : (meterPending s v).meter = { s.meter with startAsked := v } := by simp [meterPending]

theorem meterState_meterPending (s : State) (v : Bool) : meterState (meterPending s v) = meterState s :=
  (stands_meterPending (P := (· = kMeter 2)) (by decide) (by decide) s v).nat_eq rfl

theorem meterState_setNum (s : State) (n : Nat) : meterState (setNum s (kMeter 2) n) = n := by
  rw [meterState, nat, num_setNum, if_pos rfl]
  rfl

/-- A start begins the offset check unless VAFE is out of range. -/
theorem meterBegin_spec (s : State) : meterState (meterBegin s) = (if s.power.vafeBad then meterState s else 3) ∧
    (s.power.vafeBad = false → (meterBegin s).meter.offN = 0) ∧ (meterBegin s).meter.win = s.meter.win := by
  unfold meterBegin
  split
  · next h => exact ⟨rfl, fun hf => by simp [h] at hf, rfl⟩
  · exact ⟨meterState_setNum _ 3, fun _ => by simp, by simp⟩

theorem stands_meterBegin {P : Key → Prop} (h2 : ¬P (kMeter 2)) (s : State) : Stands calm P s (meterBegin s) := by
  have h : Stands Machine.calm P s { s with meter := { s.meter with offSum := [], offN := 0 } } := .of_eq (.refl s) rfl rfl
  exact .ite (.refl s) (h.setNum blind_calm h2 3)

/-- The stopped block starts again where a START waited. -/
theorem meterStopped_spec (s : State) : meterState (meterStopped s) = (if s.meter.startAsked = true ∧ s.power.vafeBad = false then 3 else 0) ∧
    (meterStopped s).meter.win = s.meter.win := by
  unfold meterStopped
  extract_lets again s1
  have hstate : meterState s1 = 0 := meterState_setNum _ 0
  have hwin : s1.meter.win = s.meter.win := by
    unfold s1
    rw [setNum_meter, meterPending_meter]
  have hcalm : calm s1 = calm s := ((stands_meterPending (P := fun _ => False) id id s false).setNum blind_calm id 0).same
  have hpower : s1.power = s.power := congrArg (fun x => x.2.1) hcalm
  obtain ⟨hbegin, _, hbwin⟩ := meterBegin_spec s1
  have hagain : again = s.meter.startAsked := rfl
  cases ha : again
  · rw [if_neg (by simp), if_neg (by simp [← hagain, ha])]
    exact ⟨hstate, hwin⟩
  · rw [if_pos rfl, hbegin, hpower, hstate]
    refine ⟨?_, hbwin.trans hwin⟩
    cases s.power.vafeBad
    · rw [if_neg (by simp), if_pos ⟨hagain.symm.trans ha, rfl⟩]
    · rw [if_pos rfl, if_neg (by simp)]

theorem stands_meterStopped {P : Key → Prop} (h2 : ¬P (kMeter 2)) (hF : ¬P (kMeter 0xF)) (hR : ¬P kRestartPending) (s : State) :
    Stands calm P s (meterStopped s) := by
  have h : Stands calm P s (setNum (meterPending s false) (kMeter 2) 0) := (stands_meterPending hF hR s false).setNum blind_calm h2 0
  exact .ite (h.trans (stands_meterBegin h2 _)) h

/-- The demand interval in which a block stops is flagged. -/
def demandStopped (s : State) : State := { s with meter := { s.meter with demand := { s.meter.demand with flags := s.meter.demand.flags ||| 2 } } }

/-- The last window of a block that stops: closed short, an emergency test and a calibration ended. -/
def windowStopped (s : State) : State :=
  let s2 := testMeterStops (demandStopped (closeWindow s true))
  if nat s2 (kMeter 0xD) = 1 then setNum { s2 with meter := { s2.meter with cal := none } } (kMeter 0xD) 3 else s2

theorem splitWindow_short (m : Meter) : (splitWindow m true).2.1 = [] := by
  unfold splitWindow
  split
  · simp
  · rfl

theorem windowStopped_spec (s : State) : Stands core IsRunReg s (windowStopped s) ∧ (windowStopped s).meter.win = [] := by
  obtain ⟨hstands, hwin, _, _, _, _⟩ := closeWindow_spec s true
  unfold windowStopped
  generalize closeWindow s true = s1 at *
  extract_lets s2
  have h1 : Stands core IsRunReg s1 (demandStopped s1) := .of_eq (.refl s1) rfl rfl
  have hwin1 : (demandStopped s1).meter.win = s1.meter.win := rfl
  have hrun : ∀ j, IsTestReg j → ¬IsRunReg j := fun j hj hr => not_isMeterReg_of_isTestReg j hj (isMeterReg_of_isRunReg hr).1
  have htest := stands_testMeterStops blind_metered blindLanes_metered hrun (demandStopped s1)
  have hwin2 : s2.meter.win = [] := by rw [(fields_of_metered htest.same).1, hwin1, hwin, splitWindow_short]
  have h2 : Stands core IsRunReg s s2 := (hstands.trans h1).trans htest.core
  clear_value s2
  split
  · have h3 : Stands core IsRunReg s2 { s2 with meter := { s2.meter with cal := none } } := .of_eq (.refl s2) rfl rfl
    have hk : ¬IsRunReg (kMeter 0xD) := by unfold IsRunReg; decide
    exact ⟨(h2.trans h3).setNum blind_core hk 3, by rw [setNum_meter]; exact hwin2⟩
  · exact ⟨h2, hwin2⟩

theorem meterStop_eq (s : State) : meterStop s = if meterState s = 2 then meterPending s false
    else if meterState s = 3 then meterStopped s
    else if meterState s = 1 then
      (if (pulseOut (windowStopped s) 0).high || (pulseOut (windowStopped s) 1).high then setNum (windowStopped s) (kMeter 2) 2 else meterStopped (windowStopped s))
    else s := by
  unfold meterStop windowStopped demandStopped
  generalize closeWindow s true = s1
  dsimp only

theorem stands_meterStop {P : Key → Prop} (hP : ∀ j, P j → IsRunReg j ∧ j ≠ kMeter 2) (s : State) : Stands calm P s (meterStop s) := by
  have h2 : ¬P (kMeter 2) := fun h => (hP _ h).2 rfl
  have hF : ¬P (kMeter 0xF) := fun h => absurd (hP _ h).1 (by unfold IsRunReg; decide)
  have hR : ¬P kRestartPending := fun h => absurd (hP _ h).1 (by unfold IsRunReg; decide)
  have hw : Stands calm P s (windowStopped s) := (windowStopped_spec s).1.calm.mono fun j hj => (hP j hj).1
  rw [meterStop_eq]
  exact .ite (stands_meterPending hF hR s false) (.ite (stands_meterStopped h2 hF hR s)
    (.ite (.ite (hw.setNum blind_calm h2 2) (hw.trans (stands_meterStopped h2 hF hR _))) (.refl s)))

/-- A stop of a running block waits for a pulse that is high; otherwise the block is stopped, or begins again where a START waited. -/
theorem meterStop_running {s : State} (h : meterState s = 1) :
    (((pulseOut s 0).high = true ∨ (pulseOut s 1).high = true) → meterState (meterStop s) = 2) ∧
    ((pulseOut s 0).high = false → (pulseOut s 1).high = false →
      meterState (meterStop s) = (if s.meter.startAsked = true ∧ s.power.vafeBad = false then 3 else 0) ∧ (meterStop s).meter.win = []) := by
  obtain ⟨hstands, hwin⟩ := windowStopped_spec s
  rw [meterStop_eq, if_neg (by omega), if_neg (by omega), if_pos h]
  generalize windowStopped s = u at *
  have hp : (pulseOut u 0).high = (pulseOut s 0).high ∧ (pulseOut u 1).high = (pulseOut s 1).high :=
    Prod.ext_iff.1 (congrArg (fun x => x.2.2.2.1) hstands.same)
  have hasked : u.meter.startAsked = s.meter.startAsked := congrArg (fun x => x.2.2.2.2) hstands.same
  have hpower : u.power = s.power := congrArg (fun x => x.2.1) hstands.same
  refine ⟨fun hh => ?_, fun h0 h1 => ?_⟩
  · rw [if_pos (by simpa [hp] using hh)]
    exact meterState_setNum u 2
  · obtain ⟨hs, hw⟩ := meterStopped_spec u
    rw [if_neg (by simp [hp, h0, h1]), hs, hasked, hpower]
    exact ⟨rfl, hw.trans hwin⟩

/-- With VAFE out of range a stop leaves no block running or in its offset check. -/
theorem meterState_meterStop_bad {s : State} (hbad : s.power.vafeBad = true) (h : meterState s ≤ 3) :
    meterState (meterStop s) ≠ 1 ∧ meterState (meterStop s) ≠ 3 := by
  have hcases : meterState s = 0 ∨ meterState s = 1 ∨ meterState s = 2 ∨ meterState s = 3 := by omega
  obtain h0 | h1 | h2 | h3 := hcases
  · rw [meterStop_eq, if_neg (by omega), if_neg (by omega), if_neg (by omega)]
    omega
  · obtain ⟨hhigh, hlow⟩ := meterStop_running h1
    by_cases hp : (pulseOut s 0).high = true ∨ (pulseOut s 1).high = true
    · rw [hhigh hp]
      decide
    · rw [not_or, Bool.not_eq_true, Bool.not_eq_true] at hp
      rw [(hlow hp.1 hp.2).1, if_neg (by simp [hbad])]
      decide
  · rw [meterStop_eq, if_pos h2, meterState_meterPending]
    omega
  · rw [meterStop_eq, if_neg (by omega), if_pos h3, (meterStopped_spec s).1, if_neg (by simp [hbad])]
    decide

/-! ### VAFE out of range (R49) -/

theorem raiseClosed_pred {src : Nat} (hs : src < 64) {j : Key} (hj : Plain j) (A : Val → Prop) : RaiseClosed src fun u => A (reg u j) where
  emit u o h := ((raiseClosed_reg hs hj (reg u j)).emit u o rfl).symm ▸ h
  putKept u f h := ((raiseClosed_reg hs hj (reg u j)).putKept u f rfl).symm ▸ h
  putFault u f h := ((raiseClosed_reg hs hj (reg u j)).putFault u f rfl).symm ▸ h
  orderReset u c d h := ((raiseClosed_reg hs hj (reg u j)).orderReset u c d rfl).symm ▸ h
  showPending u h := ((raiseClosed_reg hs hj (reg u j)).showPending u rfl).symm ▸ h
  status u x h := ((raiseClosed_reg hs hj (reg u j)).status u x rfl).symm ▸ h
  log u code h := ((raiseClosed_reg hs hj (reg u j)).log u code rfl).symm ▸ h

/-- A register of a block that is reset has its reset value, or the value it had. -/
theorem reg_resetRegs (s : State) (idx : Nat) (j : Key) : reg (resetRegs s idx) j = reg s j ∨ reg (resetRegs s idx) j = dfltOf j := by
  have hfold : ∀ (l : List (Nat × Val)) (u : State), (reg u j = reg s j ∨ reg u j = dfltOf j) →
      reg (l.foldl (fun t p => setVal t p.1 (dfltOf p.1)) u) j = reg s j ∨ reg (l.foldl (fun t p => setVal t p.1 (dfltOf p.1)) u) j = dfltOf j := by
    intro l
    induction l with
    | nil => exact fun u h => h
    | cons p l ih =>
      intro u h
      refine ih _ ?_
      rw [reg_setVal]
      split
      · next hp => exact .inr (by rw [hp])
      · exact h
  exact hfold _ s (.inl rfl)

/-- The block as its reset leaves it, before its registers. -/
def meterReset (s : State) : State :=
  let d : DemandRun := { s.meter.demand with flags := s.meter.demand.flags ||| 2 }
  let m : Meter := { s.meter with offSum := [], offN := 0, raw := [], hp := [], past := [], win := [], lead := 0, crossed := false, cal := none }
  { s with meter := { m with startAsked := false, demand := d } }

theorem blockReset_meter (s : State) (blk : Nat) : blockReset s 38 blk = showPending (resetRegs (meterReset s) 0x5000) := by
  unfold blockReset
  rw [if_neg (by decide), if_neg (by decide), if_neg (by decide), if_neg (by decide), if_neg (by decide), if_pos rfl]
  rfl

/-- The fault of the analog supply leaves the block in its state, or stopped by its reset. -/
theorem meterState_raise38 (s : State) : meterState (raise s 38 0 0) = meterState s ∨ meterState (raise s 38 0 0) = 0 := by
  have hplain : Plain (kMeter 2) := by unfold Plain; decide
  have hcount : reg (countRaise s 38 (faultCode 38 0 0)) (kMeter 2) = reg s (kMeter 2) :=
    (keeps_countRaise (P := (· = kMeter 2)) (by decide) (by decide) (by decide) s _).2 _ rfl
  have hblock : ∀ u, (reg u (kMeter 2) = reg s (kMeter 2) ∨ reg u (kMeter 2) = dfltOf (kMeter 2)) →
      (reg (blockReset u 38 0) (kMeter 2) = reg s (kMeter 2) ∨ reg (blockReset u 38 0) (kMeter 2) = dfltOf (kMeter 2)) := by
    intro u hu
    rw [blockReset_meter, (keeps_showPending (P := (· = kMeter 2)) (by decide) _).2 _ rfl]
    obtain h | h := reg_resetRegs (meterReset u) 0x5000 (kMeter 2)
    · rw [h]
      exact hu
    · exact .inr h
  have h := (raiseClosed_pred (src := 38) (by decide) hplain fun v => v = reg s (kMeter 2) ∨ v = dfltOf (kMeter 2)).raise_block (kind := 0) (addr := 0)
    hblock (.inl hcount)
  obtain h | h := h
  · exact .inl (congrArg (fun v => (Val.toInt v).toNat) h)
  · exact .inr (congrArg (fun v => (Val.toInt v).toNat) h)

theorem vafeOutOfRange_goes (s : State) :
    Goes .vafeOutOfRange s (raise (meterStop { s with power := { s.power with vafeBad := true } }) 38 0 0) := rfl

theorem vafeOutOfRange_spec (s : State) : ∃ t, Goes .vafeOutOfRange s t ∧ t.power.vafeBad = true ∧
    num t (kFault 38 8) = (num s (kFault 38 8) + 1) % 2 ^ 32 ∧ t.mem = s.mem ∧ (meterState s ≤ 3 → meterState t ≠ 1 ∧ meterState t ≠ 3) := by
  refine ⟨_, vafeOutOfRange_goes s, ?_⟩
  have hbad : ({ s with power := { s.power with vafeBad := true } } : State).power.vafeBad = true := rfl
  have hstate : meterState { s with power := { s.power with vafeBad := true } } = meterState s := rfl
  have hnum : num { s with power := { s.power with vafeBad := true } } (kFault 38 8) = num s (kFault 38 8) := rfl
  have hmem : ({ s with power := { s.power with vafeBad := true } } : State).mem = s.mem := rfl
  generalize ({ s with power := { s.power with vafeBad := true } } : State) = u at *
  have hstop := stands_meterStop (P := (· = kFault 38 8)) (by rintro j rfl; exact ⟨.inr (.inl rfl), by decide⟩) u
  have hpower : (meterStop u).power = u.power := congrArg (fun x => x.2.1) hstop.same
  obtain ⟨hcount, hm, _⟩ := raised_raise (meterStop u) (src := 38) (by decide) 0 0 (blk := 0) (by decide)
  refine ⟨by rw [raise_power, hpower, hbad], by rw [hcount, hstop.num_eq rfl, hnum], (hm.trans (congrArg Prod.fst hstop.same)).trans hmem, fun h3 => ?_⟩
  have hrun := meterState_meterStop_bad hbad (hstate ▸ h3)
  obtain h | h := meterState_raise38 (meterStop u)
  · rw [h]
    exact hrun
  · rw [h]
    decide

/-! ### The commands of the block -/

theorem meterStart_held {s : State} (h : heldOff s 12 = true) : meterStart s = s := by rw [meterStart, if_pos h]

theorem meterStart_stopped {s : State} (h : heldOff s 12 = false) (h0 : meterState s = 0) : meterStart s = meterBegin s := by
  rw [meterStart, if_neg (by simp [h]), if_pos h0]

theorem meterStart_stopping {s : State} (h : heldOff s 12 = false) (h2 : meterState s = 2) : meterStart s = meterPending s true := by
  rw [meterStart, if_neg (by simp [h]), if_neg (by omega), if_pos h2]

theorem meterRestart_spec {s : State} (hv : s.power.vafeBad = false) (hoff : heldOff s 12 = false)
    (h : meterState s = 0 ∨ (meterState s = 1 ∧ (pulseOut s 0).high = false ∧ (pulseOut s 1).high = false)) : meterState (meterRestart s) = 3 := by
  have hbegin : ∀ u : State, u.power.vafeBad = false → meterState (meterBegin u) = 3 := fun u hu => by
    rw [(meterBegin_spec u).1, if_neg (by simp [hu])]
  unfold meterRestart
  obtain h0 | ⟨h1, hp0, hp1⟩ := h
  · rw [if_pos h0, meterStart_stopped hoff h0]
    exact hbegin s hv
  · rw [if_neg (by omega)]
    dsimp only
    have hpower : (meterStop s).power = s.power := congrArg (fun x => x.2.1) (stands_meterStop (P := fun _ => False) (fun _ => False.elim) s).same
    obtain ⟨hstate, _⟩ := (meterStop_running h1).2 hp0 hp1
    split
    · exact hbegin _ (by rw [hpower, hv])
    · next hne =>
      rw [meterState_meterPending, hstate, if_pos]
      by_contra hc
      exact hne (by rw [hstate, if_neg hc])

theorem kMeter_ne {n : Nat} : kMeter n ≠ kFrameErrors := by
  show @Ne Nat _ _
  unfold kMeter kFrameErrors
  omega

/-- The value that a command carries, by its entry. -/
theorem itemOf_val {s : State} {q : Req} {k : Nat} {v : Bytes} {e : Entry} (hk : IsKey k) (h : Commanded s q k v) (ho : isOem (k / 256) = false)
    (h0 : k % 256 ≠ 0) (he : entryOf (k / 256) (k % 256) = some e) : (itemOf s q k v).2 = maskVal e.rng (decodeVal e.ty v) := by
  obtain ⟨d, hd, -⟩ := checkWrite_eq_zero h.2.1
  have hsame : d.ty = e.ty ∧ d.rng = e.rng := by
    rw [refOf_index hk, refOf_sub, declOf] at hd
    split at hd
    · cases hd
    · rw [if_neg (by simp [ho]), he, Option.map_some, Option.some.injEq] at hd
      subst hd
      exact ⟨rfl, rfl⟩
  unfold itemOf storedItem
  rw [hd]
  dsimp only
  rw [hsame.1, hsame.2]

theorem meterItem {s : State} {q : Req} {b : Byte} (h : Commanded s q (kMeter 1) [b]) : (itemOf s q (kMeter 1) [b]).2 = .num (leNat [b] : Nat) := by
  obtain ⟨e, he, hty, hrng⟩ : ∃ e, entryOf (kMeter 1 / 256) (kMeter 1 % 256) = some e ∧ e.ty = .u8 ∧ e.rng = .range 1 3 := ⟨_, rfl, rfl, rfl⟩
  rw [itemOf_val (by unfold IsKey; decide) h (by decide) (by decide) he, hty, hrng]
  rfl

/-- A command of the block acts on the state in which its request has begun. -/
theorem meterCommanded {s : State} {q : Req} {k : Nat} {v : Bytes} {u : State} (hk : IsKey k) (hi : isInput k = false) (h : Commanded s q k v)
    (hu : runCommand (begun s q) (k / 256) (k % 256) (itemOf s q k v).2 = u) :
    meterState (serveCommandOf s q k v) = meterState u ∧ (serveCommandOf s q k v).meter = u.meter := by
  have hc := commanded_concludes hk h
  rw [applyWrite_of_commanded hk h hi, hu] at hc
  exact ⟨congrArg Int.toNat (hc.num_eq kMeter_ne), hc.field State.meter⟩

theorem meterStart_spec {s : State} {q : Req} (h : Commanded s q (kMeter 1) [2]) : ∃ t, Goes (.meterStart q) s t ∧
    (heldOff s 12 = true → meterState t = meterState s ∧ t.meter = s.meter) ∧
    (heldOff s 12 = false → (meterState s = 0 → s.power.vafeBad = false → meterState t = 3 ∧ t.meter.offN = 0) ∧
      (meterState s = 2 → t.meter.startAsked = true ∧ meterState t = 2)) := by
  obtain ⟨hstate, hmeter⟩ := meterCommanded (by unfold IsKey; decide) (by decide) h (u := meterStart (begun s q)) (by rw [meterItem h]; rfl)
  refine ⟨_, rfl, fun hoff => ?_, fun hoff => ⟨fun h0 hv => ?_, fun h2 => ?_⟩⟩
  · rw [hstate, hmeter, meterStart_held (s := begun s q) hoff]
    exact ⟨rfl, rfl⟩
  · obtain ⟨hb, hn, _⟩ := meterBegin_spec (begun s q)
    have hvb : (begun s q).power.vafeBad = false := hv
    rw [hstate, hmeter, meterStart_stopped (s := begun s q) hoff h0, hb, hvb, hn hvb]
    exact ⟨rfl, rfl⟩
  · rw [hstate, hmeter, meterStart_stopping (s := begun s q) hoff h2, meterState_meterPending, meterPending_meter]
    exact ⟨rfl, h2⟩

theorem meterStop_spec {s : State} {q : Req} (h : Commanded s q (kMeter 1) [1]) : ∃ t, Goes (.meterStop q) s t ∧
    (meterState s = 1 → (pulseOut s 0).high = false → (pulseOut s 1).high = false → s.meter.startAsked = false → meterState t = 0 ∧ t.meter.win = []) ∧
    (meterState s = 1 → ((pulseOut s 0).high = true ∨ (pulseOut s 1).high = true) → meterState t = 2) ∧
    (meterState s = 2 → t.meter.startAsked = false ∧ meterState t = 2) := by
  obtain ⟨hstate, hmeter⟩ := meterCommanded (by unfold IsKey; decide) (by decide) h (u := meterStop (begun s q)) (by rw [meterItem h]; rfl)
  refine ⟨_, rfl, fun h1 hp0 hp1 ha => ?_, fun h1 hp => ?_, fun h2 => ?_⟩
  · have hab : (begun s q).meter.startAsked = false := ha
    obtain ⟨hs, hw⟩ := (meterStop_running (s := begun s q) h1).2 hp0 hp1
    rw [hstate, hmeter, hs, hw, if_neg (by simp [hab])]
    exact ⟨rfl, rfl⟩
  · rw [hstate, (meterStop_running (s := begun s q) h1).1 hp]
  · have h2b : meterState (begun s q) = 2 := h2
    rw [hstate, hmeter, meterStop_eq, if_pos h2b, meterState_meterPending, meterPending_meter]
    exact ⟨rfl, h2⟩

theorem meterRestart_goes {s : State} {q : Req} (h : Commanded s q (kMeter 1) [3]) : ∃ t, Goes (.meterRestart q) s t ∧
    (s.power.vafeBad = false → heldOff s 12 = false →
      (meterState s = 0 ∨ (meterState s = 1 ∧ (pulseOut s 0).high = false ∧ (pulseOut s 1).high = false)) → meterState t = 3) := by
  obtain ⟨hstate, _⟩ := meterCommanded (by unfold IsKey; decide) (by decide) h (u := meterRestart (begun s q)) (by rw [meterItem h]; rfl)
  refine ⟨_, rfl, fun hv hoff hs => ?_⟩
  rw [hstate]
  exact meterRestart_spec (s := begun s q) hv hoff hs

theorem energyReset_spec {s : State} {q : Req} (h : Commanded s q (kEnergy 0x80) [1]) :
    ∃ t, Goes (.energyReset q) s t ∧ t.meter = { s.meter with resetAsked := true } := by
  obtain ⟨_, hmeter⟩ := meterCommanded (by unfold IsKey; decide) (by decide) h (u := energyReset (begun s q)) rfl
  exact ⟨_, rfl, hmeter⟩

theorem mem_of_core {s t : State} (h : core t = core s) : t.mem = s.mem := congrArg (fun x => x.1) h

theorem windowEnd_spec (s : State) : (meterState s ≠ 1 → Goes .windowEnd s s) ∧
    (meterState s = 1 → ∃ t, Goes .windowEnd s t ∧ t.meter.win = (splitWindow s.meter false).2.1 ∧ num t (kInst 1) = (num s (kInst 1) + 1) % 2 ^ 32 ∧
      num t (kInst 2) = windowEnd s (splitWindow s.meter false) ∧ t.mem = s.mem ∧
      (s.power.warning = false → storeDegraded s = false → ∀ r, r < 24 → homeVal t (kEnergy (0x41 + r)) = some (.num (num t (kEnergy (0x41 + r)) % 2 ^ 64))) ∧
      (s.meter.resetAsked = true → num t (kEnergy 0x81) = (num s (kEnergy 0x81) + 1) % 2 ^ 32 ∧ t.meter.resetAsked = false ∧
        ∀ r, r < 24 → num t (kEnergy (0x41 + r)) = 0)) := by
  have hexec : Goes .windowEnd s (if meterState s = 1 then closeWindow s false else s) := rfl
  refine ⟨fun h => ?_, fun h => ?_⟩
  · rwa [if_neg h] at hexec
  · rw [if_pos h] at hexec
    obtain ⟨hstands, hwin, hnumber, htime, hhomes, hreset⟩ := closeWindow_spec s false
    exact ⟨_, hexec, hwin, hnumber, htime, mem_of_core hstands.same, hhomes, hreset⟩

theorem vafeReturn_goes (s : State) : Goes .vafeReturn s { s with power := { s.power with vafeBad := false } } := rfl

/-- Settles O45: the stages of a window's end leave what the statement speaks of, and the commands reach the block through the dictionary. -/
theorem metering : Obligations.Metering := by
  unfold Obligations.Metering
  refine ⟨sampleSet_spec, offsetCheckDone_spec, windowEnd_spec, fun s => ⟨?_, vafeOutOfRange_spec s⟩,
    fun s q => ⟨meterStart_spec, meterStop_spec, meterRestart_goes, energyReset_spec⟩⟩
  exact ⟨_, vafeReturn_goes s, rfl⟩

/-! ## Fields and records of a lane (O42) -/

/-! ### What the records of a field leave -/

/-- What a field leaves of the state and of its lane once its mark is sent: the numbering, the transmitter, the priority queue. -/
def fieldPart (n : Nat) (s : State) : (List Host.Cell × Engines × Store × Bool × Bool) × (Bool × Nat × Nat × List TxRec × Bool × Bool) :=
  ((s.mem, s.engines, s.mram.store, s.start.safe, s.pair.grant),
    ((lane s n).begun, (lane s n).next, (lane s n).markAt, (lane s n).prio, (lane s n).marks, (lane s n).dual))

theorem blind_fieldPart (n : Nat) : Blind (fieldPart n) := by intros u regs server out faults keptHeld logHeld fs log o; rfl

/-- The registers that a field leaves. -/
def IsFieldReg (j : Nat) : Prop := j = kFault 56 8 ∨ j = kModuleState

/-- From `s` to `t` lane `n` has gone on in its field: what has left the block stands, and no data record has entered its buffer. -/
structure InField (n : Nat) (s t : State) : Prop where
  stands : Stands (fieldPart n) IsFieldReg s t
  out : ∀ o ∈ s.out, o ∈ t.out
  feed : (∀ r ∈ (lane s n).buffer, r.feed = false) → ∀ r ∈ (lane t n).buffer, r.feed = false

namespace InField
variable {n : Nat} {s t u : State}

theorem refl (s : State) : InField n s s := ⟨.refl s, fun _ h => h, id⟩
theorem trans (h : InField n s t) (g : InField n t u) : InField n s u :=
  ⟨h.stands.trans g.stands, fun o ho => g.out o (h.out o ho), fun hf => g.feed (h.feed hf)⟩

theorem ite {c : Prop} [Decidable c] (ht : InField n s t) (hu : InField n s u) : InField n s (if c then t else u) := by
  split
  · exact ht
  · exact hu

theorem foldl {β : Type} {g : State → β → State} {l : List β} (h : InField n s t) (hg : ∀ x ∈ l, ∀ u, InField n u (g u x)) : InField n s (l.foldl g t) := by
  induction l generalizing t with
  | nil => exact h
  | cons x l ih => exact ih (h.trans (hg x (by simp) t)) fun y hy => hg y (by simp [hy])

theorem setVal (h : InField n s t) {k : Key} (hk : ¬IsFieldReg k) (v : Val) : InField n s (setVal t k v) := by
  refine h.trans ⟨Stands.setVal (.refl t) (blind_fieldPart n) hk v, fun _ ho => by simpa using ho, fun hf => ?_⟩
  rwa [lane, setVal_lanes]

theorem setNum (h : InField n s t) {k : Key} (hk : ¬IsFieldReg k) (x : Int) : InField n s (setNum t k x) := h.setVal hk _
theorem bump (h : InField n s t) {k : Key} (hk : ¬IsFieldReg k) : InField n s (bump t k) := h.setVal hk _
theorem setBit (h : InField n s t) {k : Key} (hk : ¬IsFieldReg k) (b : Nat) (v : Bool) : InField n s (setBit t k b v) := h.setVal hk _

theorem emit (h : InField n s t) (o : Out) : InField n s (emit t o) :=
  h.trans ⟨.of_eq (.refl t) rfl rfl, fun _ hx => List.mem_cons_of_mem o hx, id⟩

/-- An update of another part of the state. -/
theorem of_eq (h : InField n s t) (hf : fieldPart n u = fieldPart n t) (hr : u.regs = t.regs) (ho : u.out = t.out) (hb : (lane u n).buffer = (lane t n).buffer) :
    InField n s u := h.trans ⟨.of_eq (.refl t) hf hr, fun _ hx => ho ▸ hx, fun hfeed => hb ▸ hfeed⟩

end InField

/-- The lane's numbering, transmitter and priority queue are as they were. -/
def SameMark (l m : Lane) : Prop := (m.begun, m.next, m.markAt, m.prio, m.marks, m.dual) = (l.begun, l.next, l.markAt, l.prio, l.marks, l.dual)

theorem lane_putLane_other (s : State) {n m : Nat} (h : n ≠ m) (l : Lane) : lane (putLane s m l) n = lane s n := by
  simp [lane, h]

theorem inField_putLane {n m : Nat} (s : State) {l : Lane} (hl : SameMark (lane s m) l)
    (hb : (∀ r ∈ (lane s m).buffer, r.feed = false) → ∀ r ∈ l.buffer, r.feed = false) : InField n s (putLane s m l) := by
  by_cases h : n = m
  · subst h
    refine ⟨.of_eq (.refl s) ?_ rfl, fun _ ho => ho, ?_⟩
    · unfold fieldPart
      rw [lane_putLane_self]
      exact congrArg _ hl
    · rw [lane_putLane_self]
      exact hb
  · refine .of_eq (.refl s) ?_ rfl rfl ?_
    · unfold fieldPart
      rw [lane_putLane_other s h]
      rfl
    · rw [lane_putLane_other s h]

theorem inField_enqueue {n m : Nat} (s : State) {r : TxRec} (h : r.feed = false) : InField n s (enqueue s m r) :=
  inField_putLane s rfl fun hb x hx => (List.mem_append.1 hx).elim (hb x) fun hx => List.mem_singleton.1 hx ▸ h

theorem inField_putPos {n m : Nat} (s : State) (p : Nat) (x : Pos) : InField n s (putPos s m p x) := inField_putLane s rfl id

theorem inField_queueControl {n m : Nat} (s : State) (p type : Nat) (b : Bytes) : InField n s (queueControl s m p type b) :=
  (inField_putPos s p _).trans (inField_enqueue _ rfl)

theorem inField_queueState {n m : Nat} (s : State) (type dest : Nat) (b : Bytes) : InField n s (queueState s m type dest b) := inField_enqueue s rfl

theorem inField_selectScene {n m : Nat} (s : State) (scene : Nat) : InField n s (selectScene s m scene) :=
  InField.foldl (.refl s) fun _ _ u => inField_queueState u _ _ _

theorem not_isFieldReg {j : Nat} (h56 : j / 256 = 0x7138 → j % 256 ≠ 8) (h : j / 256 ≠ 0x1018) : ¬IsFieldReg j := by
  unfold IsFieldReg kFault kModuleState
  omega

/-- A register of a lane or of a driver. -/
theorem not_isFieldReg_lane {j : Nat} (h : 0x3000 ≤ j / 256 ∧ j / 256 < 0x4000) : ¬IsFieldReg j := not_isFieldReg (by omega) (by omega)

/-! ### Characters and records (R210, R217) -/

theorem out_sendChars (s : State) (n : Nat) (cs : List LaneChar) : (sendChars s n cs).out = sent s n cs := by
  unfold sendChars sent
  dsimp only
  split
  · rfl
  · rfl

theorem lane_sendChars (s : State) (n : Nat) (cs : List LaneChar) : lane (sendChars s n cs) n =
    { lane s n with rd := (lineCode ((lane s n).rd != ((fieldUsed s n - (lane s n).used) % 2 == 1)) cs).2, used := fieldUsed s n + cs.length } := by
  unfold sendChars
  dsimp only
  split
  · exact lane_putLane_self s n _
  · exact lane_putLane_self s n _

theorem regs_sendChars (s : State) (n : Nat) (cs : List LaneChar) : (sendChars s n cs).regs = s.regs := by
  unfold sendChars
  dsimp only
  split
  · rfl
  · rfl

theorem inField_sendChars {n : Nat} (s : State) (m : Nat) (cs : List LaneChar) : InField n s (sendChars s m cs) := by
  refine .ite (InField.emit ?_ _) ?_
  · exact inField_putLane s rfl id
  · exact inField_putLane s rfl id

/-- The bytes of a record of lane `n` that leaves now. -/
def wireNow (s : State) (n : Nat) (r : TxRec) (priority : Bool) : Bytes :=
  wireRecord (if !(lane s n).dual then none else if priority then some 0xFFFFFFFF else some (r.stream.getD (lane s n).stream)) r.type r.dest
    (recordSeq s n r) r.payload

theorem inField_transmit {n : Nat} (s : State) (m : Nat) (hm : m < 16) (r : TxRec) (priority abort : Bool) : InField n s (transmit s m r priority abort) := by
  unfold transmit
  extract_lets l number stream x seq wire s1 s2 l2
  have h1 : InField n s s1 := inField_sendChars s m _
  have h2 : InField n s s2 := .ite (h1.emit _) h1
  refine InField.bump (h2.trans ?_) (not_isFieldReg_lane ?_)
  · exact inField_putLane s2 rfl id
  · unfold kLane
    omega

/-- Characters sent, and nothing else but the record's numbering: what leaves the lane with a record. -/
theorem mem_out_transmit (s : State) (n : Nat) (r : TxRec) (priority abort : Bool) {o : Out}
    (h : o ∈ sent s n (recordCode (wireNow s n r priority) abort)) : o ∈ (transmit s n r priority abort).out := by
  unfold transmit
  extract_lets l number stream x seq wire s1 s2 l2
  have h1 : o ∈ s1.out := by
    rw [out_sendChars]
    exact h
  have h2 : o ∈ s2.out := by
    unfold s2
    split
    · exact List.mem_cons_of_mem _ h1
    · exact h1
  simpa using h2

theorem transmit_plain {s : State} {n : Nat} (hd : (lane s n).dual = false) (r : TxRec) (priority abort : Bool) :
    (transmit s n r priority abort).out = sent s n (recordCode (wireOf s n r) abort) ∧ (transmit s n r priority abort).mem = s.mem ∧
    num (transmit s n r priority abort) (kLane n 0xB) = (num s (kLane n 0xB) + 1) % 2 ^ 32 ∧
    (lane (transmit s n r priority abort) n).buffer = (lane s n).buffer ∧ (lane (transmit s n r priority abort) n).prio = (lane s n).prio ∧
    (lane (transmit s n r priority abort) n).used = fieldUsed s n + (recordCode (wireOf s n r) abort).length := by
  have hB : ∀ u, lane (bump u (kLane n 0xB)) n = lane u n := fun u => by rw [lane, bump_lanes]; rfl
  unfold transmit
  extract_lets l number stream x seq wire s1 s2 l2
  have hl : l.dual = false := hd
  have hwire : wire = wireOf s n r := by
    show wireRecord stream _ _ _ _ = _
    simp only [stream, hl, Bool.not_false, if_true]
    rfl
  have h2 : s2 = s1 := if_neg (by simp [hl])
  have h1 : lane s1 n = { l with rd := _, used := _ } := lane_sendChars s n _
  have hl2 : l2 = lane s1 n := congrArg (lane · n) h2
  have hused : l2.used = fieldUsed s n + (recordCode wire abort).length := by rw [hl2, h1]
  have hbuffer : l2.buffer = l.buffer := by rw [hl2, h1]
  have hprio : l2.prio = l.prio := by rw [hl2, h1]
  rw [← hwire]
  refine ⟨?_, ?_, ?_, ?_, ?_, ?_⟩
  · rw [bump_out, putLane_out, h2]
    exact out_sendChars s n _
  · rw [bump_mem, putLane_mem, h2]
    exact congrArg (fun x => x.1.1) (inField_sendChars (n := n) s n _).stands.same
  · rw [num_bump, if_pos rfl, num_putLane, h2]
    exact congrArg (fun x => (Val.toInt x + 1) % 2 ^ 32) (reg_congr (regs_sendChars s n _) _)
  · rw [hB, lane_putLane_self]
    exact hbuffer
  · rw [hB, lane_putLane_self]
    exact hprio
  · rw [hB, lane_putLane_self]
    exact hused

/-! ### The stages of a field -/

theorem mem_of_pickRecord {s : State} {n : Nat} {b : List TxRec} {held : List Nat} {r : TxRec} {rest : List TxRec}
    (h : pickRecord s n held b = some (r, rest)) : ∀ x ∈ rest, x ∈ b := by
  induction b generalizing held r rest with
  | nil => cases h
  | cons y b ih =>
    unfold pickRecord at h
    split at h
    · obtain ⟨⟨r1, rest1⟩, h1, hx⟩ := Option.map_eq_some_iff.1 h
      obtain ⟨rfl, rfl⟩ := Prod.mk.inj hx
      intro x hx
      obtain rfl | hx := List.mem_cons.1 hx
      · exact List.mem_cons_self
      · exact List.mem_cons_of_mem y (ih h1 x hx)
    · obtain ⟨rfl, rfl⟩ := Prod.mk.inj (Option.some.inj h)
      exact fun x hx => List.mem_cons_of_mem _ hx

theorem mem_of_nextRecord {s : State} {n : Nat} {r : TxRec} {rest : List TxRec} (h : nextRecord s n = some (r, rest)) :
    ∀ x ∈ rest, x ∈ (lane s n).buffer := by
  unfold nextRecord at h
  dsimp only at h
  split at h
  · next i hi =>
    obtain ⟨r1, _, hx⟩ := Option.map_eq_some_iff.1 h
    obtain ⟨_, rfl⟩ := Prod.mk.inj hx
    exact fun x hx => List.mem_of_mem_eraseIdx hx
  · exact mem_of_pickRecord h

section stages
variable {n : Nat} (hn : n < 8) (s : State)

theorem inField_noteSent (m : Nat) (r : TxRec) : InField n s (noteSent s m r) := .ite (inField_putPos s _ _) (.refl s)

include hn

theorem inField_injectNow (type : Nat) (b : Bytes) : InField n s (injectNow s n type b) := inField_transmit s n (by omega) _ _ _

theorem inField_fieldInjections (k : Nat) : InField n s (fieldInjections s n k) := by
  unfold fieldInjections
  extract_lets s0 _ s2 s1
  have h0 : InField n s s0 := inField_injectNow hn s _ _
  have h2 : InField n s s2 := h0.trans (by exact inField_putLane s0 rfl id)
  have h1 : InField n s s1 := .ite (.ite (inField_injectNow hn s _ _) (.refl s)) (.ite (.ite (h2.trans (inField_selectScene s2 1)) h2) (.refl s))
  exact .ite (h1.trans (inField_injectNow hn s1 _ _)) h1

theorem inField_sendNormal {t : State} (h : sendNormal s n false = some t) : InField n s t := by
  unfold sendNormal at h
  split at h
  · cases h
  · next r rest hnext =>
    split at h
    · have ht := Option.some.inj h
      dsimp only at ht
      rw [if_neg (by simp)] at ht
      subst ht
      have h1 : InField n s (putLane s n { lane s n with buffer := rest }) :=
        inField_putLane s rfl fun hb x hx => hb x (mem_of_nextRecord hnext x hx)
      exact (h1.trans (inField_transmit _ n (by omega) r false false)).trans (inField_noteSent _ n r)
    · cases h

theorem inField_sendCommit (f : Nat) : InField n s (sendCommit f n s) := by
  induction f generalizing s with
  | zero => exact .refl s
  | succ f ih =>
    unfold sendCommit
    split
    · next s1 h1 =>
      have h := inField_sendNormal hn s h1
      exact .ite h (h.trans (ih s1))
    · exact .refl s

/-- The COMMIT of lane `n` after field `k`. -/
def commitRec (s : State) (n k : Nat) : TxRec :=
  { type := 3, dest := if (lane s n).lock = 0xFF then 0xFF else 0xF0 + (lane s n).lock
    payload := [BitVec.ofNat 8 (s.engines.tick % 256), 0, 0, 0] ++ leBytes 4 (namedField s (k + 1)) }

/-- Lane `n` with its data records dropped. -/
def fedDropped (s : State) (n : Nat) : State := putLane s n { lane s n with buffer := (lane s n).buffer.filter fun r => !r.feed }

omit hn in
theorem inField_fedDropped : InField n s (fedDropped s n) := by
  refine inField_putLane s rfl ?_
  exact fun hb x hx => hb x (List.mem_of_mem_filter hx)

omit hn in
theorem commit_eq (k : Nat) : commit s n k = if laneState s n = 2 ∧ (lane s n).feeding ∧ !mirrorOnly s n then
    sendCommit (lane (enqueue (fedDropped s n) n (commitRec s n k)) n).buffer.length n (enqueue (fedDropped s n) n (commitRec s n k))
    else fedDropped s n := rfl

/-- What a COMMIT does, and no data record is left in the buffer. -/
theorem inField_commit (k : Nat) : InField n s (commit s n k) ∧ ∀ r ∈ (lane (commit s n k) n).buffer, r.feed = false := by
  have hdrop : ∀ r ∈ (lane (fedDropped s n) n).buffer, r.feed = false := by
    rw [fedDropped, lane_putLane_self]
    intro r hr
    simpa using (List.mem_filter.1 hr).2
  have h1 := inField_fedDropped (n := n) s
  have h2 : InField n (fedDropped s n) (enqueue (fedDropped s n) n (commitRec s n k)) := inField_enqueue _ rfl
  have h3 := inField_sendCommit hn (enqueue (fedDropped s n) n (commitRec s n k)) (lane (enqueue (fedDropped s n) n (commitRec s n k)) n).buffer.length
  rw [commit_eq]
  split
  · exact ⟨(h1.trans h2).trans h3, (h2.trans h3).feed hdrop⟩
  · exact ⟨h1, hdrop⟩

theorem inField_stopRecord : InField n s (stopRecord s n) := by
  unfold stopRecord
  dsimp only
  refine .ite (InField.trans (t := putLane s n { lane s n with stops := (lane s n).stops - 1, stopping := true }) ?_ (inField_transmit _ n (by omega) _ _ _)) (.refl s)
  exact inField_putLane s rfl id

omit hn in
theorem inField_testField (k : Nat) : InField n s (testField s n k) := by
  unfold testField
  split
  · exact .refl s
  · split
    · exact .refl s
    · exact .ite (InField.of_eq (.refl s) rfl rfl rfl rfl) (.refl s)

omit hn in
theorem inField_addUnknown (b : Bytes) : InField n s (addUnknown s n b) :=
  .ite (InField.setVal (.refl s) (by unfold IsFieldReg; decide) _) (.refl s)

omit hn in
theorem inField_searchNext (d : Disc) : InField n s (searchNext s n d) := by
  unfold searchNext
  split
  · exact InField.trans (by exact inField_putLane s rfl id) (inField_queueState _ _ _ _)
  · refine InField.foldl (by exact inField_putLane s rfl id) fun r _ u => ?_
    dsimp only
    split
    · exact (inField_putPos u _ _).trans (inField_queueState _ _ _ _)
    · exact inField_addUnknown u r

theorem inField_presentEnds (d : Disc) : InField n s (presentEnds s n d) := by
  have hk : ∀ {j : Nat}, 0x3000 ≤ j / 256 → j / 256 < 0x4000 → ¬IsFieldReg j := fun h1 h2 => not_isFieldReg_lane ⟨h1, h2⟩
  unfold presentEnds
  extract_lets s0 s1
  have h0 : InField n s s0 := by
    refine InField.foldl (.refl s) fun p hp u => .ite (.refl u) (InField.setNum (inField_putPos u p _) ?_ 0)
    have hlt := List.mem_range.1 (List.mem_of_mem_filter hp)
    unfold kDrv kDriver
    exact hk (by omega) (by omega)
  have h1 : InField n s s1 := by
    refine InField.foldl h0 fun p _ u => .ite (.refl u) (InField.setBit (.refl u) ?_ p false)
    unfold kLane
    exact hk (by omega) (by omega)
  split
  · exact h1.trans (inField_searchNext s1 _)
  · exact h1.trans (inField_searchNext s1 _)

theorem inField_discField : InField n s (discField s n) := by
  unfold discField
  split
  · next d _ => exact .ite (inField_presentEnds hn s _) (.ite (.refl s) (by exact inField_putLane s rfl id))
  · exact .refl s

omit hn in
theorem inField_startWork (p : Nat) : InField n s (startWork s n p) :=
  .ite ((inField_putPos s p _).trans (inField_queueControl _ _ _ _)) (.refl s)

omit hn in
theorem inField_returnSchedule (p a : Nat) : InField n s (returnSchedule s n p a) := .ite (.refl s) (inField_queueControl s _ _ _)

omit hn in
theorem inField_roleMark : InField n s (roleMark s n) := by
  unfold roleMark
  split
  · exact .refl s
  · next m _ =>
    have h : ∀ x, InField n s { s with pair := { s.pair with marks := x } } := fun x => InField.of_eq (.refl s) rfl rfl rfl rfl
    refine .ite (h _) (InField.foldl (h _) fun p _ u => ?_)
    exact ((inField_putPos u p _).trans (inField_returnSchedule _ p _)).trans (inField_startWork _ p)

end stages

/-! ### A field begins (R212, R222, R234) -/

/-- The state in which a field begins: its mark captured, or its loss at the clock-domain queue reported. -/
def fieldHead (s : State) (n : Nat) (full : Bool) : State := if full then raise s 56 0 0 else capture s (4 + n)

/-- The mark of field `k` of lane `n`. -/
def markChars (s : State) (n k : Nat) : List LaneChar := .k285 :: (fieldMarkBytes s (lane s n) k).map .d

/-- The field has begun, and its mark is sent. -/
def fieldMarked (s : State) (n : Nat) (full : Bool) (k : Nat) : State := sendChars (beginField (fieldHead s n full) n k) n (markChars s n k)

/-- The priority queue is taken off the lane. -/
def prioTaken (s : State) (n : Nat) : State := putLane s n { lane s n with prio := [] }

/-- The priority records that waited leave. -/
def prioSent (s : State) (n : Nat) (prio : List TxRec) : State := prio.foldl (fun t r => transmit t n r true false) (prioTaken s n)

/-- What follows the COMMIT in a field. -/
def fieldRest (s : State) (n k : Nat) : State := roleMark (discField (testField (stopRecord s n) n k) n) n

/-- What follows the mark and the priority records that waited. -/
def fieldTail (s u : State) (n k : Nat) : State :=
  fieldRest (if lastOfTick s k then commit (fieldInjections u n k) n k else fieldInjections u n k) n k

/-- The number of the field that begins. -/
def fieldOf (s : State) (n : Nat) : Nat := if (lane s n).begun then (lane s n).next else fieldHere s (lane s n).phase

theorem fieldMark_goes {s : State} {n : Fin 8} (full : Bool) (hst : laneState s n ≠ 0) (hon : ¬((lane s n).marks = false ∨ s.clk < (lane s n).marksFrom)) :
    Goes (.fieldMark ⟨n, full⟩) s (fieldTail s (prioSent (fieldMarked s n full (fieldOf s n)) n (lane s n).prio) n (fieldOf s n)) := by
  show execFieldMark ⟨n, full⟩ s = _
  unfold execFieldMark
  dsimp only
  rw [if_neg (by simp only [Bool.not_eq_true']; tauto), if_neg (by simpa using hon)]
  rfl

theorem fieldMark_goes_of_unsent {s : State} {n : Fin 8} (full : Bool)
    (h : laneState s n = 0 ∨ ((lane s n).begun = false ∧ ((lane s n).marks = false ∨ s.clk < (lane s n).marksFrom))) : Goes (.fieldMark ⟨n, full⟩) s s := by
  show execFieldMark ⟨n, full⟩ s = _
  unfold execFieldMark
  dsimp only
  rw [if_pos (by simpa using h)]

theorem fieldMark_goes_of_off {s : State} {n : Fin 8} (full : Bool) (hst : laneState s n ≠ 0) (hb : (lane s n).begun = true)
    (hoff : (lane s n).marks = false ∨ s.clk < (lane s n).marksFrom) : Goes (.fieldMark ⟨n, full⟩) s (beginField s n (lane s n).next) := by
  show execFieldMark ⟨n, full⟩ s = _
  unfold execFieldMark
  dsimp only
  rw [if_neg (by simp [hst, hb]), if_pos (by simpa using hoff), if_pos hb]

/-! ### The state in which the field begins -/

section base
variable (s : State) (n : Nat) (full : Bool)

theorem reports_fieldHead : Reports s (fieldHead s n full) :=
  .ite (reports_raise (quiet_of_not_hasBlock (by decide) (by simp [HasBlock])) _ _ _) ((Reports.refl s).setVal _ _)

theorem reg_fieldHead {j : Key} (hn : n < 8) (hp : Plain j) (h56 : j ≠ kFault 56 8) (hj : j / 256 ≠ 0x6320) : reg (fieldHead s n full) j = reg s j := by
  unfold fieldHead
  split
  · exact reg_raise (quiet_of_not_hasBlock (by decide) (by simp [HasBlock])) _ _ _ hp h56
  · have hne : j ≠ 0x6320 * 256 + (4 + n) := by
      rintro rfl
      refine hj ?_
      show (0x6320 * 256 + (4 + n)) / 256 = 0x6320
      omega
    rw [capture, reg_setVal, if_neg hne]

theorem lane_fieldHead : lane (fieldHead s n full) n = lane s n := by
  unfold lane
  rw [(reports_fieldHead s n full).lanes]

end base

/-- The lane once the mark is sent, but for its running disparity: the field is numbered, and its characters are counted from its start. -/
def markedLane (s : State) (n : Nat) (full : Bool) (k : Nat) (rd : Bool) : Lane :=
  { lane s n with
    begun := true, next := k + 1, markAt := s.clk, used := (markChars s n k).length, rd := rd
    inLast := lastOfTick (fieldHead s n full) k, buffer := (lane s n).buffer ++ (lane s n).due, due := []
    fields := (lane s n).fields + 1, stopFields := if (lane s n).stopping then (lane s n).stopFields + 1 else 0 }

theorem fieldUsed_beginField (s : State) (n k : Nat) : fieldUsed (beginField s n k) n = 0 := by
  unfold fieldUsed beginField
  rw [lane_putLane_self]
  simp

theorem fieldMarked_lane (s : State) (n : Nat) (full : Bool) (k : Nat) :
    lane (fieldMarked s n full k) n = markedLane s n full k (lane (fieldMarked s n full k) n).rd := by
  have hclk : (fieldHead s n full).clk = s.clk := (reports_fieldHead s n full).clk
  rw [fieldMarked, lane_sendChars, fieldUsed_beginField, beginField]
  dsimp only
  rw [lane_putLane_self, lane_fieldHead, hclk, Nat.zero_add]
  rfl

theorem fieldUsed_congr {s t : State} {n : Nat} (hl : lane t n = lane s n) (hc : t.clk = s.clk) : fieldUsed t n = fieldUsed s n := by
  unfold fieldUsed
  rw [hl, hc]

section driven
variable {s t : State} {n : Nat}

theorem laneDriven_of_inField (h : InField n s t) : laneDriven t n = laneDriven s n := by
  have hreg : nat t kModuleState = nat s kModuleState := h.stands.nat_eq (.inr rfl)
  have hmarks : (lane t n).marks = (lane s n).marks := congrArg (fun x => x.2.2.2.2.2.1) h.stands.same
  have hsafe : t.start.safe = s.start.safe := congrArg (fun x => x.1.2.2.2.1) h.stands.same
  have hgrant : t.pair.grant = s.pair.grant := congrArg (fun x => x.1.2.2.2.2) h.stands.same
  unfold laneDriven safeMode
  rw [hreg, hmarks, hsafe, hgrant]

theorem next_of_inField (h : InField n s t) : (lane t n).next = (lane s n).next := congrArg (fun x => x.2.2.1) h.stands.same
theorem dual_of_inField (h : InField n s t) : (lane t n).dual = (lane s n).dual := congrArg (fun x => x.2.2.2.2.2.2) h.stands.same

end driven

theorem laneDriven_beginField (s : State) (n : Nat) (full : Bool) (k : Nat) (hn : n < 8) :
    laneDriven (beginField (fieldHead s n full) n k) n = laneDriven s n := by
  have hreports := reports_fieldHead s n full
  have hreg : reg (fieldHead s n full) kModuleState = reg s kModuleState := reg_fieldHead s n full hn (by unfold Plain; decide) (by decide) (by decide)
  have hstate : nat (fieldHead s n full) kModuleState = nat s kModuleState := congrArg (fun v => (Val.toInt v).toNat) hreg
  have hsafe : (fieldHead s n full).start.safe = s.start.safe := hreports.field fun u => u.start.safe
  have hpair : (fieldHead s n full).pair = s.pair := hreports.pair
  have hmarks : (lane (beginField (fieldHead s n full) n k) n).marks = (lane s n).marks := by
    rw [beginField, lane_putLane_self, lane_fieldHead]
  unfold laneDriven safeMode
  rw [hmarks]
  show (_ && (!(nat (fieldHead s n full) kModuleState == 2 || (fieldHead s n full).start.safe) || (fieldHead s n full).pair.grant)) = _
  rw [hstate, hsafe, hpair]

/-- The mark leaves in the running disparity that the characters before it have left. -/
theorem mark_out (s : State) (n : Nat) (full : Bool) (k : Nat) (hn : n < 8) (h : laneDriven s n = true) :
    Out.lane n (codeOf s n (markChars s n k)) ∈ (fieldMarked s n full k).out := by
  have hrd : codeOf (beginField (fieldHead s n full) n k) n (markChars s n k) = codeOf s n (markChars s n k) := by
    unfold codeOf
    rw [fieldUsed_beginField, beginField, lane_putLane_self, lane_fieldHead,
      fieldUsed_congr (lane_fieldHead s n full) (reports_fieldHead s n full).clk]
    simp
  rw [fieldMarked, out_sendChars, sent, laneDriven_beginField s n full k hn, if_pos h, hrd]
  exact List.mem_cons_self

/-! ### The priority records leave -/

theorem inField_prioSent {n : Nat} (hn : n < 8) (s : State) (prio : List TxRec) : InField n (prioTaken s n) (prioSent s n prio) :=
  InField.foldl (.refl _) fun r _ u => inField_transmit u n (by omega) r true false

theorem left_of_transmit {s : State} {n : Nat} (h : laneDriven s n = true) (r : TxRec) (priority : Bool) :
    Left (transmit s n r priority false) n (wireNow s n r priority) := by
  refine ⟨_, mem_out_transmit s n r priority false (o := Out.lane n (codeOf s n (recordCode (wireNow s n r priority) false))) ?_⟩
  rw [sent, if_pos h]
  exact List.mem_cons_self

theorem left_of_inField {s t : State} {n : Nat} {w : Bytes} (h : Left s n w) (hi : InField n s t) : Left t n w := by
  obtain ⟨rd, ho⟩ := h
  exact ⟨rd, hi.out _ ho⟩

/-- Every priority record leaves under the number of the field. -/
theorem left_of_prio {n : Nat} (hn : n < 8) {prio : List TxRec} {s : State} {k : Nat} (hdriven : laneDriven s n = true) (hnext : (lane s n).next = k + 1) :
    ∀ r ∈ prio, r.feed = false → Left (prio.foldl (fun t r => transmit t n r true false) s) n
      (wireRecord (if (lane s n).dual then some 0xFFFFFFFF else none) r.type r.dest (r.seq.getD (k % 65536)) r.payload) := by
  induction prio generalizing s with
  | nil => simp
  | cons x prio ih =>
    intro r hr hf
    have hstep := inField_transmit (n := n) s n (by omega) x true false
    obtain rfl | hr := List.mem_cons.1 hr
    · have hnow := left_of_transmit hdriven r true
      have hwire : wireNow s n r true = wireRecord (if (lane s n).dual then some 0xFFFFFFFF else none) r.type r.dest (r.seq.getD (k % 65536)) r.payload := by
        have hseq : (k + 1 + 65535) % 65536 = k % 65536 := by omega
        unfold wireNow recordSeq
        rw [hf, hnext, hseq]
        cases (lane s n).dual <;> rfl
      rw [hwire] at hnow
      have hrest : InField n (transmit s n r true false) (prio.foldl (fun t r => transmit t n r true false) (transmit s n r true false)) :=
        InField.foldl (.refl _) fun y _ u => inField_transmit u n (by omega) y true false
      exact left_of_inField hnow hrest
    · have h := ih (s := transmit s n x true false) ((laneDriven_of_inField hstep).trans hdriven) ((next_of_inField hstep).trans hnext) r hr hf
      rwa [dual_of_inField hstep] at h

/-! ### The rest of the field -/

theorem inField_fieldRest {n : Nat} (hn : n < 8) (s : State) (k : Nat) : InField n s (fieldRest s n k) :=
  (((inField_stopRecord hn s).trans (inField_testField _ k)).trans (inField_discField hn _)).trans (inField_roleMark _)

theorem inField_fieldTail {n : Nat} (hn : n < 8) (s u : State) (k : Nat) : InField n u (fieldTail s u n k) := by
  have h := inField_fieldInjections hn u k
  exact (InField.ite (h.trans (inField_commit hn _ k).1) h).trans (inField_fieldRest hn _ k)

/-- In the last field of a tick no data record is left in the buffer. -/
theorem feed_fieldTail {n : Nat} (hn : n < 8) {s : State} (u : State) {k : Nat} (h : lastOfTick s k = true) :
    ∀ r ∈ (lane (fieldTail s u n k) n).buffer, r.feed = false := by
  rw [fieldTail, if_pos h]
  exact (inField_fieldRest hn _ k).feed (inField_commit hn _ k).2

/-! ### The COMMIT (R234) -/

theorem length_leBytes (k x : Nat) : (leBytes k x).length = k := by
  induction k generalizing x with
  | zero => rfl
  | succ k ih => rw [leBytes, List.length_cons, ih]

theorem length_markChars (s : State) (n k : Nat) : (markChars s n k).length ≤ 10 := by
  unfold markChars fieldMarkBytes
  split <;> simp [length_leBytes]

/-- A single state record that the runtime makes may leave. -/
theorem nextRecord_single {s : State} {n : Nat} {r : TxRec} (hb : (lane s n).buffer = [r]) (hd : (lane s n).dual = false) (h3 : r.type = 3)
    (hs : r.stream = none) : nextRecord s n = some (r, []) := by
  have hsend : sendable s n r = true := by simp [sendable, hs, mirrorOnly, hd, h3, isControl]
  have hpick : pickRecord s n [] [r] = some (r, []) := by
    rw [pickRecord, if_neg (by simp [hsend])]
  unfold nextRecord
  dsimp only
  rw [hb]
  simp [h3, List.findIdx?_cons, hpick]

theorem lane_enqueue (s : State) (n : Nat) (r : TxRec) : lane (enqueue s n r) n = { lane s n with buffer := (lane s n).buffer ++ [r] } :=
  lane_putLane_self s n _

/-- COMMIT leaves behind a buffer that is empty, if it fits before the next field. -/
theorem left_commit {s : State} {n k : Nat} (hst : laneState s n = 2) (hf : (lane s n).feeding = true) (hd : (lane s n).dual = false)
    (hb : (lane s n).buffer = []) (hdriven : laneDriven s n = true) (hnext : (lane s n).next = k + 1) (hused : fieldUsed s n ≤ 10)
    (hfit : 100 ≤ fieldPeriod s / 40) : Left (commit s n k) n (wireRecord none 3 (commitRec s n k).dest (k % 65536) (commitRec s n k).payload) := by
  have hv : lane (enqueue (fedDropped s n) n (commitRec s n k)) n = { lane s n with buffer := [commitRec s n k] } := by
    rw [lane_enqueue, fedDropped, lane_putLane_self, hb]
    rfl
  have hin : InField n s (enqueue (fedDropped s n) n (commitRec s n k)) := (inField_fedDropped s).trans (inField_enqueue _ rfl)
  have hclk : (enqueue (fedDropped s n) n (commitRec s n k)).clk = s.clk := rfl
  have hperiod : fieldPeriod (enqueue (fedDropped s n) n (commitRec s n k)) = fieldPeriod s := rfl
  have hmirror : mirrorOnly s n = false := by simp [mirrorOnly, hd]
  rw [commit_eq, if_pos ⟨hst, hf, by simp [hmirror]⟩]
  generalize enqueue (fedDropped s n) n (commitRec s n k) = v at *
  have hrec : nextRecord v n = some (commitRec s n k, []) := nextRecord_single (by rw [hv]) (by rw [hv]; exact hd) rfl rfl
  have husedv : fieldUsed v n = fieldUsed s n := by
    unfold fieldUsed
    rw [hv, hclk]
  have hchars : recordChars (lane v n).dual (commitRec s n k) = 20 := by
    rw [hv]
    simp [recordChars, commitRec, length_leBytes, hd]
  have hsend : sendNormal v n false = some (noteSent (transmit (putLane v n { lane v n with buffer := [] }) n (commitRec s n k) false false) n (commitRec s n k)) := by
    unfold sendNormal
    rw [hrec]
    dsimp only
    rw [if_pos (by rw [hchars, husedv, hperiod]; omega), if_neg (by simp)]
  have hlen : (lane v n).buffer.length = 1 := by rw [hv]; rfl
  rw [hlen, sendCommit, hsend]
  dsimp only
  rw [hrec, if_pos (by rfl)]
  have hw : InField n v (putLane v n { lane v n with buffer := [] }) := inField_putLane v rfl (by simp)
  have hleft := left_of_transmit ((laneDriven_of_inField (hin.trans hw)).trans hdriven) (commitRec s n k) false
  have hwire : wireNow (putLane v n { lane v n with buffer := [] }) n (commitRec s n k) false =
      wireRecord none 3 (commitRec s n k).dest (k % 65536) (commitRec s n k).payload := by
    have hseq : (k + 1 + 65535) % 65536 = k % 65536 := by omega
    unfold wireNow recordSeq
    rw [dual_of_inField (hin.trans hw), next_of_inField (hin.trans hw), hd, hnext, hseq]
    rfl
  rw [hwire] at hleft
  exact left_of_inField hleft (inField_noteSent _ n _)

theorem fieldInjections_none {s : State} {n : Nat} (he : s.safety.egress = false) (hs : (lane s n).endScene = 0) (ht : nat s 0x700002 = 0) (k : Nat) :
    fieldInjections s n k = s := by
  have hneg : ¬(lane s n).endScene ≠ 0 := not_not_intro hs
  have heg : ¬s.safety.egress = true := by simp [he]
  unfold fieldInjections
  rw [if_neg heg, if_neg hneg]
  exact if_neg fun h => h.1 ht

theorem namedField_congr {s t : State} (hr : reg t (kFt 4) = reg s (kFt 4)) (ht : t.time = s.time) (k : Nat) : namedField t k = namedField s k := by
  have hp : renumberPending t = renumberPending s := by
    unfold renumberPending nat num
    rw [hr]
  unfold namedField
  rw [hp, ht]
  have hphase : phase t = phase s := by
    unfold phase fieldPeriod fieldRate
    rw [ht]
  rw [hphase]

/-! ### The fields of a lane -/

/-- The state in which a field's records follow: its mark sent, its priority queue taken off. -/
def fieldReady (s : State) (n : Nat) (full : Bool) (k : Nat) : State := prioTaken (fieldMarked s n full k) n

theorem fieldReady_lane (s : State) (n : Nat) (full : Bool) (k : Nat) : ∃ rd,
    lane (fieldReady s n full k) n = { markedLane s n full k rd with prio := [] } := by
  refine ⟨(lane (fieldMarked s n full k) n).rd, ?_⟩
  rw [fieldReady, prioTaken, lane_putLane_self]
  exact congrArg (fun l : Lane => { l with prio := [] }) (fieldMarked_lane s n full k)

theorem fieldReady_regs (s : State) (n : Nat) (full : Bool) (k : Nat) : (fieldReady s n full k).regs = (fieldHead s n full).regs :=
  regs_sendChars _ _ _

/-- The parts of the state that no field mark changes. -/
def markPart (s : State) : List Host.Cell × Engines × Store × Timing × Safety × Nat × (Bool × Pair) :=
  (s.mem, s.engines, s.mram.store, s.time, s.safety, s.clk, (s.start.safe, s.pair))

theorem markPart_fieldReady (s : State) (n : Nat) (full : Bool) (k : Nat) : markPart (fieldReady s n full k) = markPart s := by
  have hsend : ∀ u cs, markPart (sendChars u n cs) = markPart u := by
    intro u cs
    unfold sendChars
    dsimp only
    split <;> rfl
  have hhead : markPart (fieldHead s n full) = markPart s :=
    (reports_fieldHead s n full).field markPart (by intros; rfl)
  exact (hsend _ _).trans hhead

theorem laneDriven_fieldReady {s : State} {n : Nat} (hn : n < 8) (full : Bool) (k : Nat) : laneDriven (fieldReady s n full k) n = laneDriven s n := by
  have h : InField n (beginField (fieldHead s n full) n k) (fieldMarked s n full k) := inField_sendChars _ n _
  have hmarks : (lane (fieldReady s n full k) n).marks = (lane (fieldMarked s n full k) n).marks := by rw [fieldReady, prioTaken, lane_putLane_self]
  have hready : laneDriven (fieldReady s n full k) n = laneDriven (fieldMarked s n full k) n := by
    unfold laneDriven
    rw [hmarks]
    rfl
  rw [hready, laneDriven_of_inField h, laneDriven_beginField s n full k hn]

/-- What FIELD_MARK leaves, on from the state in which its records follow. -/
theorem inField_fieldMark {n : Nat} (hn : n < 8) (s : State) (full : Bool) (k : Nat) :
    InField n (fieldReady s n full k) (fieldTail s (prioSent (fieldMarked s n full k) n (lane s n).prio) n k) :=
  (inField_prioSent hn _ _).trans (inField_fieldTail hn s _ k)

theorem plain_kLane {n sub : Nat} (hn : n < 8) (hs : sub < 256) : Plain (kLane n sub) ∧ kLane n sub ≠ kFault 56 8 ∧ kLane n sub / 256 ≠ 0x6320 := by
  have hidx : kLane n sub / 256 = 0x3000 + n := by
    show ((0x3000 + n) * 256 + sub) / 256 = 0x3000 + n
    omega
  have hne : @Ne Nat (kLane n sub) (kFault 56 8) := by
    unfold kLane kFault
    omega
  refine ⟨?_, hne, fun h => ?_⟩
  · unfold Plain kLane kRestartPending kLogCount kLogLast
    omega
  · have h : 0x3000 + n = 0x6320 := hidx.symm.trans h
    omega

theorem commit_of_fieldMark {s : State} {n : Nat} (hn : n < 8) (full : Bool) {k : Nat} (hlast : lastOfTick s k = true) (hst : laneState s n = 2)
    (hf : (lane s n).feeding = true) (hd : (lane s n).dual = false) (hp : (lane s n).prio = []) (hb : (lane s n).buffer = []) (hdue : (lane s n).due = [])
    (he : s.safety.egress = false) (hs : (lane s n).endScene = 0) (ht : nat s 0x700002 = 0) (hfit : 100 ≤ fieldPeriod s / 40) (hdriven : laneDriven s n = true) :
    Left (fieldTail s (prioSent (fieldMarked s n full k) n (lane s n).prio) n k) n
      (wireRecord none 3 (if (lane s n).lock = 0xFF then 0xFF else 0xF0 + (lane s n).lock) (k % 65536)
        ([BitVec.ofNat 8 (s.engines.tick % 256), 0, 0, 0] ++ leBytes 4 (namedField s (k + 1)))) := by
  obtain ⟨rd, hlane⟩ := fieldReady_lane s n full k
  have hpart := markPart_fieldReady s n full k
  have hdrv := (laneDriven_fieldReady (s := s) hn full k).trans hdriven
  have hreg : ∀ {j : Key}, Plain j → j ≠ kFault 56 8 → j / 256 ≠ 0x6320 → reg (fieldReady s n full k) j = reg s j := fun h1 h2 h3 =>
    (reg_congr (fieldReady_regs s n full k) _).trans (reg_fieldHead s n full hn h1 h2 h3)
  have hready : prioSent (fieldMarked s n full k) n (lane s n).prio = fieldReady s n full k := by rw [hp]; rfl
  rw [hready, fieldTail, if_pos hlast]
  generalize fieldReady s n full k = u at *
  have htime : u.time = s.time := congrArg (fun x => x.2.2.2.1) hpart
  have heng : u.engines = s.engines := congrArg (fun x => x.2.1) hpart
  have hsafety : u.safety = s.safety := congrArg (fun x => x.2.2.2.2.1) hpart
  have hclk : u.clk = s.clk := congrArg (fun x => x.2.2.2.2.2.1) hpart
  have hnat : ∀ {j : Key}, Plain j → j ≠ kFault 56 8 → j / 256 ≠ 0x6320 → nat u j = nat s j := fun h1 h2 h3 =>
    congrArg (fun v => (Val.toInt v).toNat) (hreg h1 h2 h3)
  have hstate : laneState u n = 2 := by
    obtain ⟨h1, h2, h3⟩ := plain_kLane hn (sub := 2) (by decide)
    exact (hnat h1 h2 h3).trans hst
  have htrip : nat u 0x700002 = 0 := (hnat (by unfold Plain; decide) (by decide) (by decide)).trans ht
  have hname : namedField u (k + 1) = namedField s (k + 1) := namedField_congr (hreg (by unfold Plain; decide) (by decide) (by decide)) htime _
  have hrec : commitRec u n k = { type := 3, dest := if (lane s n).lock = 0xFF then 0xFF else 0xF0 + (lane s n).lock
                                  payload := [BitVec.ofNat 8 (s.engines.tick % 256), 0, 0, 0] ++ leBytes 4 (namedField s (k + 1)) } := by
    rw [commitRec, hname, heng, hlane]
    rfl
  rw [fieldInjections_none (by rw [hsafety, he]) (by rw [hlane]; exact hs) htrip]
  have hleft : Left (commit u n k) n _ := left_commit (k := k) hstate (by rw [hlane]; exact hf) (by rw [hlane]; exact hd) (by rw [hlane]; simp [markedLane, hb, hdue]) hdrv
    (by rw [hlane]; rfl) ?_ ?_
  · rw [hrec] at hleft
    exact left_of_inField hleft (inField_fieldRest hn _ k)
  · have hlen := length_markChars s n k
    unfold fieldUsed
    rw [hlane, hclk]
    simpa [markedLane] using hlen
  · rw [fieldPeriod, fieldRate, htime]
    exact hfit

theorem fieldMark_spec {s : State} {n : Fin 8} (full : Bool) (hst : laneState s n ≠ 0) (hon : ¬((lane s n).marks = false ∨ s.clk < (lane s n).marksFrom)) :
    (∃ t, Goes (.fieldMark ⟨n, true⟩) s t ∧ Raised s t 56) ∧
    ∃ t, Goes (.fieldMark ⟨n, full⟩) s t ∧ (lane t n).begun = true ∧ (lane t n).next = fieldOf s n + 1 ∧ (lane t n).markAt = s.clk ∧ (lane t n).prio = [] ∧
      (lastOfTick s (fieldOf s n) = true → ∀ r ∈ (lane t n).buffer, r.feed = false) ∧
      (full = false → t.mem = s.mem ∧ t.engines = s.engines) ∧
      (laneDriven s n = true →
        Out.lane n (codeOf s n (.k285 :: (fieldMarkBytes s (lane s n) (fieldOf s n)).map .d)) ∈ t.out ∧
        (∀ r ∈ (lane s n).prio, r.feed = false →
          Left t n (wireRecord (if (lane s n).dual then some 0xFFFFFFFF else none) r.type r.dest (r.seq.getD (fieldOf s n % 65536)) r.payload)) ∧
        (lastOfTick s (fieldOf s n) = true → laneState s n = 2 → (lane s n).feeding = true → (lane s n).dual = false → (lane s n).prio = [] →
          (lane s n).buffer = [] → (lane s n).due = [] → s.safety.egress = false → (lane s n).endScene = 0 → nat s 0x700002 = 0 → 100 ≤ fieldPeriod s / 40 →
          Left t n (wireRecord none 3 (if (lane s n).lock = 0xFF then 0xFF else 0xF0 + (lane s n).lock) (fieldOf s n % 65536)
            ([BitVec.ofNat 8 (s.engines.tick % 256), 0, 0, 0] ++ leBytes 4 (namedField s (fieldOf s n + 1)))))) := by
  generalize hk : fieldOf s n = k
  have hgo := fun full => hk ▸ fieldMark_goes full hst hon
  have hin := fun full => inField_fieldMark n.isLt s full k
  have hpart := fun full => markPart_fieldReady s n full k
  have hmem : ∀ full, (fieldReady s n full k).mem = s.mem := fun full => congrArg (fun x => x.1) (hpart full)
  have heng : ∀ full, (fieldReady s n full k).engines = s.engines := fun full => congrArg (fun x => x.2.1) (hpart full)
  have hstore : ∀ full, (fieldReady s n full k).mram.store = s.mram.store := fun full => congrArg (fun x => x.2.2.1) (hpart full)
  refine ⟨⟨_, hgo true, ?_⟩, _, hgo full, ?_⟩
  · have hsame := (hin true).stands.same
    have hcount : num (fieldReady s n true k) (kFault 56 8) = num (raise s 56 0 0) (kFault 56 8) :=
      congrArg Val.toInt (reg_congr (fieldReady_regs s n true k) _)
    obtain ⟨h1, _, _⟩ := raised_raise s (src := 56) (by decide) 0 0 (blk := 0) (by decide)
    refine ⟨((hin true).stands.num_eq (.inl rfl)).trans (hcount.trans h1), ?_, ?_⟩
    · exact (congrArg (fun x => x.1.1) hsame).trans (hmem true)
    · exact (congrArg (fun x => x.1.2.2.1) hsame).trans (hstore true)
  · obtain ⟨rd, hlane⟩ := fieldReady_lane s n full k
    have hdrv := laneDriven_fieldReady (s := s) n.isLt full k
    have hcommit := commit_of_fieldMark (s := s) n.isLt full (k := k)
    have hprio : (fieldReady s n full k).out = (fieldMarked s n full k).out := rfl
    have hsent := left_of_prio n.isLt (prio := (lane s n).prio) (s := fieldReady s n full k) (k := k)
    have hfeed := feed_fieldTail n.isLt (s := s) (prioSent (fieldMarked s n full k) n (lane s n).prio) (k := k)
    have htail := inField_fieldTail n.isLt s (prioSent (fieldMarked s n full k) n (lane s n).prio) k
    have hmark := mark_out s n full k n.isLt
    rw [← hprio] at hmark
    have hi := hin full
    have hm := hmem full
    have he := heng full
    have hfold : prioSent (fieldMarked s n full k) n (lane s n).prio =
        (lane s n).prio.foldl (fun t r => transmit t n r true false) (fieldReady s n full k) := rfl
    rw [← hfold] at hsent
    generalize prioSent (fieldMarked s n full k) n (lane s n).prio = v at *
    generalize fieldTail s v n k = t at *
    generalize fieldReady s n full k = u at *
    have hsame := hi.stands.same
    have hbegun : (lane u n).begun = true ∧ (lane u n).next = k + 1 ∧ (lane u n).markAt = s.clk ∧ (lane u n).prio = [] ∧ (lane u n).dual = (lane s n).dual := by
      rw [hlane]
      exact ⟨rfl, rfl, rfl, rfl, rfl⟩
    obtain ⟨hb, hnext, hat, hnone, hdual⟩ := hbegun
    refine ⟨?_, ?_, ?_, ?_, hfeed, fun _ => ⟨?_, ?_⟩, fun hdriven => ⟨hi.out _ (hmark hdriven), fun r hr hf => ?_, fun h1 h2 h3 h4 h5 h6 h7 h8 h9 h10 h11 => ?_⟩⟩
    · exact (congrArg (fun x => x.2.1) hsame).trans hb
    · exact (next_of_inField hi).trans hnext
    · exact (congrArg (fun x => x.2.2.2.1) hsame).trans hat
    · exact (congrArg (fun x => x.2.2.2.2.1) hsame).trans hnone
    · exact (congrArg (fun x => x.1.1) hsame).trans hm
    · exact (congrArg (fun x => x.1.2.1) hsame).trans he
    · have h := hsent (hdrv.trans hdriven) hnext r hr hf
      rw [hdual] at h
      exact left_of_inField h htail
    · exact hcommit h1 h2 h3 h4 h5 h6 h7 h8 h9 h10 h11 hdriven

/-! ### PRESENT over (R254) -/

theorem reg_searchNext (s : State) (n : Nat) (d : Disc) {j : Key} (hj : j ≠ kScan 6) : reg (searchNext s n d) j = reg s j := by
  have hadd : ∀ u r, reg (addUnknown u n r) j = reg u j := by
    intro u r
    unfold addUnknown
    dsimp only
    split
    · rw [reg_setVal, if_neg hj]
    · rfl
  unfold searchNext
  split
  · rfl
  · refine foldl_keeps (fun u => reg u j) (fun u r => ?_) _ _
    dsimp only
    split
    · rfl
    · exact hadd u r

/-- Bits cleared of a register. -/
theorem bit_clearBits (l : List Nat) (A : Nat → Bool) (s : State) (k : Key) (p : Nat) :
    bit (l.foldl (fun t q => if A q then t else setBit t k q false) s) k p = (bit s k p && !(decide (p ∈ l) && !A p)) := by
  induction l generalizing s with
  | nil => simp
  | cons q l ih =>
    rw [List.foldl_cons, ih]
    have hstep : bit (if A q then s else setBit s k q false) k p = (bit s k p && !(decide (p = q) && !A q)) := by
      split
      · next h => simp [h]
      · next h =>
        rw [bit_setBit]
        by_cases hp : p = q <;> simp [hp, h]
    rw [hstep]
    by_cases hp : p = q
    · subst hp
      cases bit s k p <;> cases A p <;> simp
    · simp [hp]

theorem presentEnds_present (s : State) (n : Fin 8) (d : Disc) (p : Fin 16) :
    present (presentEnds s n d) n p = (present s n p && d.answered.contains p.val) := by
  have hscan : @Ne Nat (kLane n 9) (kScan 6) := by
    unfold kLane kScan
    omega
  unfold presentEnds
  extract_lets s0 s1
  have h0 : reg s0 (kLane n 9) = reg s (kLane n 9) := by
    refine foldl_keeps (fun u => reg u (kLane n 9)) (fun u q => ?_) _ s
    have hne : @Ne Nat (kLane n 9) (kDrv n q 0xA) := by
      unfold kLane kDrv kDriver
      omega
    dsimp only
    split
    · rfl
    · rw [setNum, reg_setVal, if_neg hne]
      rfl
  have hs0 : bit s0 (kLane n 9) p = bit s (kLane n 9) p := by
    unfold bit nat num
    rw [h0]
  have hs1 : bit s1 (kLane n 9) p = (present s n p && d.answered.contains p.val) := by
    have hmem : (p.val ∈ presentPositions s0 n) ↔ bit s (kLane n 9) p = true := by
      rw [presentPositions, List.mem_filter, present, hs0]
      simp
    unfold s1
    rw [bit_clearBits (presentPositions s0 n) (fun q => d.answered.contains q), hs0, present]
    cases hb : bit s (kLane n 9) p
    · rfl
    · have hin : p.val ∈ presentPositions s0 n := hmem.2 hb
      simp [hin]
  have hlast : ∀ e, bit (searchNext s1 n e) (kLane n 9) p = bit s1 (kLane n 9) p := by
    intro e
    unfold bit nat num
    rw [reg_searchNext s1 n e hscan]
  rw [present]
  split
  · rw [hlast, hs1]
  · rw [hlast, hs1]

/-- What FIELD_MARK does (R212, R222, R234), and the end of PRESENT. -/
theorem laneFields : LaneFields := by
  refine ⟨fun s n full => ?_, presentEnds_present⟩
  intro l off
  exact ⟨fieldMark_goes_of_unsent full, fieldMark_goes_of_off full, fieldMark_spec full⟩

/-! ### A record leaves (R215, R217, R219, R220) -/

theorem length_wireRecord (type dest seq : Nat) (b : Bytes) : (wireRecord none type dest seq b).length = b.length + 10 := by
  simp [wireRecord, length_leBytes]
  omega

theorem length_recordCode (w : Bytes) (abort : Bool) : (recordCode w abort).length = w.length + 2 := by
  simp [recordCode]

theorem length_record (s : State) (n : Nat) (r : TxRec) (abort : Bool) : (recordCode (wireOf s n r) abort).length = recordChars false r := by
  rw [length_recordCode, wireOf, length_wireRecord]
  rfl

/-- Lane `n` with another buffer and another priority queue. -/
def queued (s : State) (n : Nat) (buffer prio : List TxRec) : State := putLane s n { lane s n with buffer := buffer, prio := prio }

section taken
variable (s : State) (n : Nat) (b p : List TxRec)

theorem lane_queued : lane (queued s n b p) n = { lane s n with buffer := b, prio := p } := lane_putLane_self s n _

theorem fieldUsed_queued : fieldUsed (queued s n b p) n = fieldUsed s n := by
  unfold fieldUsed
  rw [lane_queued]
  rfl

theorem sent_queued (cs : List LaneChar) : sent (queued s n b p) n cs = sent s n cs := by
  unfold sent laneDriven codeOf
  rw [fieldUsed_queued, lane_queued]
  rfl

theorem wireOf_queued (r : TxRec) : wireOf (queued s n b p) n r = wireOf s n r := by
  unfold wireOf recordSeq pos
  rw [lane_queued]

end taken

theorem reg_transmit (s : State) {n : Nat} (r : TxRec) (priority abort : Bool) {j : Key} (hj : j ≠ kLane n 0xB) :
    reg (transmit s n r priority abort) j = reg s j := by
  unfold transmit
  extract_lets l number stream x seq wire s1 s2 l2
  have h1 : reg s1 j = reg s j := reg_congr (regs_sendChars s n _) j
  have h2 : reg s2 j = reg s j := by
    unfold s2
    split
    · exact h1
    · exact h1
  rw [bump, setNum, reg_setVal, if_neg hj]
  exact h2

theorem noteSent_fields (s : State) (n : Nat) (r : TxRec) : (noteSent s n r).out = s.out ∧ (noteSent s n r).mem = s.mem ∧ (noteSent s n r).regs = s.regs ∧
    (lane (noteSent s n r) n).buffer = (lane s n).buffer ∧ (lane (noteSent s n r) n).used = (lane s n).used := by
  unfold noteSent
  split
  · dsimp only
    rw [putPos, lane_putLane_self]
    exact ⟨rfl, rfl, rfl, rfl, rfl⟩
  · exact ⟨rfl, rfl, rfl, rfl, rfl⟩

theorem pos_putPos (s : State) (n p : Nat) (x : Pos) (q : Nat) : pos (putPos s n p x) n q = if q = p then x else pos s n q := by
  unfold pos putPos
  rw [lane_putLane_self, tabFind_tabPut]
  split <;> rfl

/-- A unicast control record joins those undelivered. -/
theorem sent_noteSent {s : State} {n : Nat} {r : TxRec} (hd : r.dest < 16) (hc : isControl r.type = true) (ha : r.again = false) :
    (pos (noteSent s n r) n r.dest).sent = (pos s n r.dest).sent ++ [{ txr := r }] := by
  unfold noteSent
  rw [if_pos (by simp [hd, hc, ha]), pos_putPos, if_pos rfl]

theorem pos_bump (s : State) (k : Key) (n p : Nat) : pos (bump s k) n p = pos s n p := by
  unfold pos lane
  rw [bump_lanes]

theorem pos_putLane_self (s : State) (n : Nat) (l : Lane) (p : Nat) : pos (putLane s n l) n p = (tabFind l.pos p).getD {} := by
  unfold pos
  rw [lane_putLane_self]

/-- Sending a record leaves what is undelivered as it is. -/
theorem sent_transmit (s : State) (n : Nat) (r : TxRec) (priority abort : Bool) (p : Nat) :
    (pos (transmit s n r priority abort) n p).sent = (pos s n p).sent := by
  unfold transmit
  extract_lets l number stream x seq wire s1 s2 l2
  have h1 : (lane s1 n).pos = (lane s n).pos := by rw [lane_sendChars]
  have hl2 : l2.pos = (lane s n).pos := by
    rw [← h1]
    unfold l2 s2
    split
    · rfl
    · rfl
  rw [pos_bump, pos_putLane_self, hl2]
  clear_value l2 s2 s1
  show ((tabFind (if r.feed then tabPut (lane s n).pos r.dest { x with dseq := (x.dseq + 1) % 65536 } else (lane s n).pos) p).getD {}).sent = _
  split
  · rw [tabFind_tabPut]
    split
    · next h =>
      subst h
      rfl
    · rfl
  · rfl

/-- What a record of the normal path does as it leaves. -/
def recordLeft (s : State) (n : Nat) (r : TxRec) (rest : List TxRec) (ecc : Bool) : State :=
  noteSent (transmit (queued s n rest (lane s n).prio) n r false ecc) n r

theorem recordLeft_spec {s : State} {n : Nat} (hd : (lane s n).dual = false) (r : TxRec) (rest : List TxRec) (ecc : Bool) : let t := recordLeft s n r rest ecc
    t.out = sent s n (recordCode (wireOf s n r) ecc) ∧ (lane t n).buffer = rest ∧ (lane t n).used = fieldUsed s n + recordChars false r ∧
      num t (kLane n 0xB) = (num s (kLane n 0xB) + 1) % 2 ^ 32 ∧
      (r.dest < 16 → isControl r.type = true → r.again = false → (pos t n r.dest).sent = (pos s n r.dest).sent ++ [{ txr := r }]) ∧ t.mem = s.mem := by
  intro t
  have hq : (lane (queued s n rest (lane s n).prio) n).dual = false := by rw [lane_queued]; exact hd
  obtain ⟨hout, hmem, hnum, hbuffer, _, hused⟩ := transmit_plain hq r false ecc
  obtain ⟨gout, gmem, gregs, gbuffer, gused⟩ := noteSent_fields (transmit (queued s n rest (lane s n).prio) n r false ecc) n r
  rw [wireOf_queued] at hout hused
  rw [sent_queued] at hout
  rw [fieldUsed_queued, length_record] at hused
  rw [lane_queued] at hbuffer
  refine ⟨gout.trans hout, gbuffer.trans hbuffer, gused.trans hused, (congrArg Val.toInt (reg_congr gregs _)).trans hnum, fun h1 h2 h3 => ?_, gmem.trans hmem⟩
  refine (sent_noteSent h1 h2 h3).trans ?_
  rw [sent_transmit, queued, pos_putLane_self]
  rfl

/-! ### A record with an uncorrectable error (R210) -/

theorem raiseClosed_out (src : Nat) (o : Out) : RaiseClosed src fun u => o ∈ u.out where
  emit u _ h := (raiseClosed_reports src u).emit u _ (.refl u) |>.mem_out h
  putKept u f h := (raiseClosed_reports src u).putKept u f (.refl u) |>.mem_out h
  putFault u f h := (raiseClosed_reports src u).putFault u f (.refl u) |>.mem_out h
  orderReset u c d h := (raiseClosed_reports src u).orderReset u c d (.refl u) |>.mem_out h
  showPending u h := (raiseClosed_reports src u).showPending u (.refl u) |>.mem_out h
  status u x h := (raiseClosed_reports src u).status u x (.refl u) |>.mem_out h
  log u code h := (raiseClosed_reports src u).log u code (.refl u) |>.mem_out h

/-- What has left the block stands through a raise, whatever its reaction. -/
theorem mem_out_raise {s : State} {o : Out} (h : o ∈ s.out) (src kind addr blk : Nat) : o ∈ (raise s src kind addr blk).out :=
  (raiseClosed_out src o).raise_block (fun u hu => by rwa [blockReset_out]) ((reports_countRaise s src _).mem_out h)

/-- A raise leaves the count of another source, whatever its reaction. -/
theorem num_raise_other (s : State) {src other : Nat} (hs : src < 64) (ho : other < 64) (hne : other ≠ src) (kind addr : Nat) {blk : Nat} (hb : blk < 16) :
    num (raise s src kind addr blk) (kFault other 8) = num s (kFault other 8) := by
  have hkey : ∀ sub, sub < 256 → @Ne Nat (kFault other 8) (kFault src sub) := by
    intro sub hsub
    unfold kFault
    omega
  have hc : reg (countRaise s src (faultCode src kind addr)) (kFault other 8) = reg s (kFault other 8) := by
    rw [countRaise, setNum, reg_setVal, if_neg (hkey _ (by decide)), setNum, reg_setVal, if_neg (hkey _ (by decide)), bump, setNum, reg_setVal, if_neg (hkey _ (by decide))]
  exact congrArg Val.toInt ((raiseClosed_reg hs (plain_kFault ho) _).raise_block (fun u hu => (reg_blockReset u src hb (isCount_kFault ho)).trans hu) hc)

theorem store_raise (s : State) (src kind addr blk : Nat) : (raise s src kind addr blk).mram.store = s.mram.store :=
  (raiseClosed_store src s.mram.store).raise_block (fun u hu => (blockReset_store u src blk).trans hu) (congrArg Mram.store (countRaise_mram s src _))

/-- Source `other` is not counted from `s` to `t`; memory, the store and what has left the block stand. -/
def Uncounted (other : Nat) (s t : State) : Prop :=
  num t (kFault other 8) = num s (kFault other 8) ∧ t.mem = s.mem ∧ t.mram.store = s.mram.store ∧ ∀ o ∈ s.out, o ∈ t.out

theorem Uncounted.trans {other : Nat} {s t u : State} (h : Uncounted other s t) (g : Uncounted other t u) : Uncounted other s u :=
  ⟨g.1.trans h.1, g.2.1.trans h.2.1, g.2.2.1.trans h.2.2.1, fun o ho => g.2.2.2 o (h.2.2.2 o ho)⟩

theorem uncounted_raise (s : State) {src other : Nat} (hs : src < 64) (ho : other < 64) (hne : other ≠ src) (kind addr : Nat) {blk : Nat} (hb : blk < 16) :
    Uncounted other s (raise s src kind addr blk) :=
  ⟨num_raise_other s hs ho hne kind addr hb, raise_mem s src kind addr blk, store_raise s src kind addr blk, fun _ h => mem_out_raise h src kind addr blk⟩

theorem uncounted_setBit {other : Nat} (s : State) {k : Key} (h : @Ne Nat (kFault other 8) k) (b : Nat) (v : Bool) : Uncounted other s (setBit s k b v) :=
  ⟨num_setBit_other s h b v, by simp, by simp, fun _ ho => by simpa using ho⟩

theorem uncounted_laneMet (other n : Nat) (s : State) (kind addr : Nat) : Uncounted other s (laneMet s n kind addr) := by
  have hk : @Ne Nat (kFault other 8) (kLane n 0xA) := by
    unfold kFault kLane
    omega
  unfold laneMet laneStatusBits
  extract_lets l c m b
  have hb : ∀ u bit kind, Uncounted other u (b u bit kind) := fun u bit kind => uncounted_setBit u hk _ _
  have hput : ∀ l, Uncounted other s (putLane s n l) := fun _ => ⟨rfl, rfl, rfl, fun _ h => h⟩
  clear_value b
  exact ((((hput _).trans (hb _ 4 1)).trans (hb _ 3 2)).trans (hb _ 2 3)).trans (hb _ 1 7)

theorem uncounted_logMessage {other : Nat} (ho : other < 64) (s : State) (code : Nat) : Uncounted other s (logMessage s code) := by
  refine ⟨?_, ?_, ?_, fun _ h => ((Reports.refl s).logMessage code).mem_out h⟩
  · exact congrArg Val.toInt ((raiseClosed_reg (src := 0) (by decide) (plain_kFault ho) (reg s (kFault other 8))).log s code rfl)
  · exact ((Reports.refl s).logMessage code).mem
  · exact ((Reports.refl s).logMessage code).store

theorem uncounted_laneFault {other n : Nat} (hn : n < 8) (ho : other < 64) (hne : other ≠ n) (s : State) (kind addr : Nat) :
    Uncounted other s (laneFault s n kind addr) := by
  unfold laneFault
  extract_lets known s1
  have h1 : Uncounted other s s1 := uncounted_laneMet other n s kind addr
  clear_value s1 known
  split
  · exact h1
  split
  · refine h1.trans (Uncounted.trans ?_ (uncounted_raise _ (by omega) ho hne kind addr (by omega)))
    split
    · exact ⟨rfl, rfl, rfl, fun _ h => h⟩
    · exact ⟨rfl, rfl, rfl, fun _ h => h⟩
  · exact h1.trans (uncounted_logMessage ho s1 _)

/-! ### RECORD_TRANSMIT -/

theorem kFault_recordLeft {s : State} {n src : Nat} (hn : n < 8) (r : TxRec) (rest : List TxRec) (ecc : Bool) :
    num (recordLeft s n r rest ecc) (kFault src 8) = num s (kFault src 8) ∧ (recordLeft s n r rest ecc).mram.store = s.mram.store := by
  have hk : @Ne Nat (kFault src 8) (kLane n 0xB) := by
    unfold kFault kLane
    omega
  obtain ⟨_, _, gregs, _, _⟩ := noteSent_fields (transmit (queued s n rest (lane s n).prio) n r false ecc) n r
  have hin : InField n (queued s n rest (lane s n).prio) (recordLeft s n r rest ecc) := (inField_transmit _ n (by omega) r false ecc).trans (inField_noteSent _ n r)
  constructor
  · exact congrArg Val.toInt ((reg_congr gregs _).trans (reg_transmit _ r false ecc hk))
  · exact congrArg (fun x => x.1.2.2.1) hin.stands.same

theorem sendNormal_eq {s : State} {n : Nat} (hd : (lane s n).dual = false) (ecc : Bool) {r : TxRec} {rest : List TxRec} (h : nextRecord s n = some (r, rest)) :
    (sendNormal s n ecc).getD s = if fieldUsed s n + recordChars false r + 32 ≤ fieldPeriod s / 40 then
      if ecc then laneFault (raise (recordLeft s n r rest ecc) 16 0 0) n 7 0 else recordLeft s n r rest ecc else s := by
  unfold sendNormal
  rw [h, hd]
  dsimp only
  split
  · rfl
  · rfl

theorem recordTransmit_goes (s : State) (n : Fin 8) (ecc : Bool) : Goes (.recordTransmit n ecc) s
    (if !(lane s n).marks then s
    else match (lane s n).prio with
      | r :: t => if fieldUsed s n + recordChars (lane s n).dual r ≤ fieldPeriod s / 40 then transmit (queued s n (lane s n).buffer t) n r true false else s
      | [] => (sendNormal s n ecc).getD s) := rfl

theorem recordTransmit_goes_of_priority {s : State} {n : Fin 8} (ecc : Bool) (hm : (lane s n).marks = true) (hd : (lane s n).dual = false)
    {r : TxRec} {rest : List TxRec} (hp : (lane s n).prio = r :: rest) : Goes (.recordTransmit n ecc) s
    (if fieldUsed s n + recordChars false r ≤ fieldPeriod s / 40 then transmit (queued s n (lane s n).buffer rest) n r true false else s) := by
  have h := recordTransmit_goes s n ecc
  rwa [hm, hp, hd] at h

theorem recordTransmit_goes_of_normal {s : State} {n : Fin 8} (ecc : Bool) (hm : (lane s n).marks = true) (hp : (lane s n).prio = []) :
    Goes (.recordTransmit n ecc) s ((sendNormal s n ecc).getD s) := by
  have h := recordTransmit_goes s n ecc
  rwa [hm, hp] at h

theorem priorityRecord_spec {s : State} {n : Nat} (hd : (lane s n).dual = false) (r : TxRec) (rest : List TxRec) :
    let t := transmit (queued s n (lane s n).buffer rest) n r true false
    (lane t n).prio = rest ∧ t.out = sent s n (recordCode (wireOf s n r) false) := by
  have hq : (lane (queued s n (lane s n).buffer rest) n).dual = false := by rw [lane_queued]; exact hd
  obtain ⟨hout, _, _, _, hprio, _⟩ := transmit_plain hq r true false
  rw [wireOf_queued, sent_queued] at hout
  rw [lane_queued] at hprio
  exact ⟨hprio, hout⟩

/-- A record whose data fail raises source 16 and is a fault of its lane; it has left all the same. -/
theorem failedRecord_spec {s : State} {n : Nat} (hn : n < 8) (hd : (lane s n).dual = false) (r : TxRec) (rest : List TxRec) :
    let t := laneFault (raise (recordLeft s n r rest true) 16 0 0) n 7 0
    Raised s t 16 ∧ (laneDriven s n = true → Out.lane n (codeOf s n (recordCode (wireOf s n r) true)) ∈ t.out) := by
  intro t
  obtain ⟨hout, _, _, _, _, hmem⟩ := recordLeft_spec hd r rest true
  obtain ⟨hcount, hstore⟩ := kFault_recordLeft (s := s) (src := 16) hn r rest true
  obtain ⟨hnum, hm, hst, ho⟩ := uncounted_laneFault hn (show 16 < 64 by decide) (show 16 ≠ n by omega) (raise (recordLeft s n r rest true) 16 0 0) 7 0
  refine ⟨raised_then (raised_of_eq (raised_raise _ (by decide) 0 0 (by decide)) hcount hmem hstore) hnum hm hst, fun hdr => ho _ (mem_out_raise ?_ 16 0 0 0)⟩
  rw [hout, sent, if_pos hdr]
  exact List.mem_cons_self

/-- What RECORD_TRANSMIT does (R215, R217, R219, R220). -/
theorem recordsLeave : RecordsLeave := by
  intro s n ecc
  refine ⟨fun hm => ?_, fun hm hd => ⟨fun r rest hp => ⟨fun hfit => ?_, fun hfit => ?_⟩, fun hp hnone => ?_,
    fun r rest hp hnext => ⟨fun hfit => ?_, fun hfit => ⟨?_, ?_⟩⟩⟩⟩
  · have h := recordTransmit_goes s n ecc
    rwa [hm] at h
  · have h := recordTransmit_goes_of_priority ecc hm hd hp
    rw [if_pos hfit] at h
    exact ⟨_, h, priorityRecord_spec hd r rest⟩
  · have h := recordTransmit_goes_of_priority ecc hm hd hp
    rwa [if_neg (by omega)] at h
  · have h := recordTransmit_goes_of_normal ecc hm hp
    rwa [sendNormal, hnone] at h
  · have h := recordTransmit_goes_of_normal ecc hm hp
    rwa [sendNormal_eq hd ecc hnext, if_neg (by omega)] at h
  · have h := recordTransmit_goes_of_normal false hm hp
    rw [sendNormal_eq hd false hnext, if_pos hfit] at h
    exact ⟨_, h, recordLeft_spec hd r rest false⟩
  · have h := recordTransmit_goes_of_normal true hm hp
    rw [sendNormal_eq hd true hnext, if_pos hfit] at h
    exact ⟨_, h, failedRecord_spec n.isLt hd r rest⟩

/-- Settles O42: a lane's mark and its records leave as the code groups of the lane now, through one lemma per stage of a field. -/
theorem fieldsAndRecords : Obligations.FieldsAndRecords := ⟨laneFields, recordsLeave⟩

/-! ## Received bursts (O41)

Between the checks of a burst and what its type does, a lane raises conditions, queues records and corrects its schedule. `Calm` says that all
of this leaves the driver's own record and the registers that the claims speak of, as long as source `n` does not reset its lane. -/

/-- Memory and the store of the MRAM. -/
def coreOf (s : State) : List Host.Cell × Store := (s.mem, s.mram.store)

/-- What is kept of the module and of lane `n`. -/
def modulePart (n : Nat) (s : State) : (List Host.Cell × Store) × (Nat × Tab Rat × List Nat × List Nat) × (Nat × Option Disc) :=
  (coreOf s, (s.clk, s.meter.lum, s.lanes.opens, s.lanes.shorts), ((lane s n).version, (lane s n).disc))

/-- The same, and what is kept for the driver at position `p`. -/
def driverPart (n p : Nat) (s : State) := (modulePart n s, ((pos s n p).request, (pos s n p).sent, (pos s n p).statusAt, (pos s n p).trip))

/-- The same, and the driver's late bursts. -/
def burstPart (n p : Nat) (s : State) := (driverPart n p s, (pos s n p).late)

theorem blind_modulePart (n : Nat) : Blind (modulePart n) := by intros u regs server out faults keptHeld logHeld fs log o; rfl
theorem blind_driverPart (n p : Nat) : Blind (driverPart n p) := by intros u regs server out faults keptHeld logHeld fs log o; rfl
theorem blind_burstPart (n p : Nat) : Blind (burstPart n p) := by intros u regs server out faults keptHeld logHeld fs log o; rfl

/-- The registers of lane `n` and of the drivers that a burst's own rules leave or count. -/
def IsBurstReg (n j : Nat) : Prop :=
  j = kFault n 1 ∨ j = kFault 56 8 ∨ j = kLane n 9 ∨ j = kLane n 0xC ∨ j = kLane n 0xD ∨ j = kLane n 0xE ∨
    (0x3100 ≤ j / 256 ∧ j / 256 < 0x3180 ∧ (j % 256 < 0xA ∨ j % 256 = 0xB))

/-- As long as source `n` does not reset its lane, a part of the state and these registers stand from `s` to `t`. -/
def Calm {α : Type} (f : State → α) (n : Nat) (s t : State) : Prop := nat s (kFault n 1) ≠ 3 → Stands f (IsBurstReg n) s t

namespace Calm
variable {α : Type} {f : State → α} {n : Nat} {s t u : State}

theorem refl (s : State) : Calm f n s s := fun _ => .refl s

theorem trans (h : Calm f n s t) (g : Calm f n t u) : Calm f n s u := fun hq => by
  have h1 := h hq
  exact h1.trans (g (by rw [h1.nat_eq (.inl rfl)]; exact hq))

theorem ite {c : Prop} [Decidable c] (ht : Calm f n s t) (hu : Calm f n s u) : Calm f n s (if c then t else u) := by
  split
  · exact ht
  · exact hu

theorem foldl {β : Type} {g : State → β → State} {l : List β} (h : Calm f n s t) (hg : ∀ x ∈ l, ∀ u, Calm f n u (g u x)) : Calm f n s (l.foldl g t) := by
  induction l generalizing t with
  | nil => exact h
  | cons x l ih => exact ih (h.trans (hg x (by simp) t)) fun y hy => hg y (by simp [hy])

theorem of_stands (h : Stands f (IsBurstReg n) s t) : Calm f n s t := fun _ => h

theorem of_eq (hf : f t = f s) (hr : t.regs = s.regs) : Calm f n s t := of_stands (.of_eq (.refl s) hf hr)

theorem view {β : Type} (h : Calm f n s t) (g : α → β) : Calm (fun u => g (f u)) n s t := fun hq => (h hq).view g

theorem setVal {k : Key} (hk : ¬IsBurstReg n k) (hf : Blind f) (v : Val) : Calm f n s (setVal s k v) := of_stands (.setVal (.refl s) hf hk v)

end Calm

theorem not_isBurstReg {n j : Nat} (hn : n < 8) (h : (0x3000 ≤ j / 256 ∧ j % 256 = 0xA ∨ 0x3180 ≤ j / 256 ∨ j / 256 < 0x3000 ∨ 0x3100 ≤ j / 256 ∧ j % 256 = 0xD) ∧ j % 256 ≠ 1 ∧ j % 256 ≠ 8) :
    ¬IsBurstReg n j := by
  unfold IsBurstReg kFault kLane
  omega

theorem plain_isBurstReg {n j : Nat} (hn : n < 8) (h : IsBurstReg n j) {src : Nat} (hs : src < 56) : Plain j ∧ j ≠ kFault src 8 := by
  unfold IsBurstReg kFault kLane at h
  constructor
  · unfold Plain kRestartPending kLogCount kLogLast
    omega
  · unfold kFault
    omega

/-! ### What leaves a driver's record -/

/-- The part of a driver's record that only its own bursts change. -/
def sameDriver (x y : Pos) : Prop := (y.request, y.sent, y.statusAt, y.trip, y.late) = (x.request, x.sent, x.statusAt, x.trip, x.late)

/-- The part of a lane that holds its drivers and its search. -/
def sameLane (l m : Lane) : Prop := (m.version, m.disc, m.pos) = (l.version, l.disc, l.pos)

section
variable {n p : Nat} (s : State)

theorem calm_putLane (m : Nat) {l : Lane} (h : sameLane (lane s m) l) : Calm (burstPart n p) n s (putLane s m l) := by
  refine .of_eq ?_ rfl
  unfold burstPart driverPart modulePart pos
  by_cases hm : n = m
  · subst hm
    obtain ⟨h1, h23⟩ := Prod.mk.inj h
    obtain ⟨h2, h3⟩ := Prod.mk.inj h23
    rw [lane_putLane_self, h1, h2, h3]
    rfl
  · rw [lane_putLane_other s hm]
    rfl

theorem lane_putPos (q : Nat) (x : Pos) : lane (putPos s n q x) n = { lane s n with pos := tabPut (lane s n).pos q x } := lane_putLane_self s n _

theorem calm_putPos (q : Nat) {x : Pos} (h : sameDriver (pos s n q) x) : Calm (burstPart n p) n s (putPos s n q x) := by
  refine .of_eq ?_ rfl
  unfold burstPart driverPart modulePart
  rw [pos_putPos, lane_putPos]
  by_cases hq : p = q
  · subst hq
    simp only [sameDriver, Prod.mk.injEq] at h
    obtain ⟨h1, h2, h3, h4, h5⟩ := h
    rw [if_pos rfl, h1, h2, h3, h4, h5]
    rfl
  · rw [if_neg hq]
    rfl

theorem calm_enqueue (m : Nat) (r : TxRec) : Calm (burstPart n p) n s (enqueue s m r) := calm_putLane s m rfl

theorem calm_queueControl (q type : Nat) (b : Bytes) : Calm (burstPart n p) n s (queueControl s n q type b) :=
  Calm.trans (by exact calm_putPos s q rfl) (calm_enqueue _ n _)

theorem calm_queueBroadcast (type : Nat) (b : Bytes) : Calm (burstPart n p) n s (queueBroadcast s n type b) :=
  Calm.trans (t := putLane s n { lane s n with bseq := ((lane s n).bseq + 1) % 65536 }) (calm_putLane s n rfl) (calm_enqueue _ n _)

theorem calm_queueState (type dest : Nat) (b : Bytes) : Calm (burstPart n p) n s (queueState s n type dest b) := calm_enqueue s n _

theorem calm_returnSchedule (q a : Nat) : Calm (burstPart n p) n s (returnSchedule s n q a) := .ite (.refl s) (calm_queueControl s q _ _)

theorem calm_trackTiming (q : Nat) (at_ : Int) : Calm (burstPart n p) n s (trackTiming s n q at_) := by
  unfold trackTiming
  extract_lets x a sum a2
  refine .ite (.refl s) (.ite ?_ (.ite (.ite (.ite ?_ ?_) ?_) (.refl s)))
  · exact Calm.trans (by exact calm_putPos s q rfl) (calm_returnSchedule _ q a)
  · exact Calm.trans (by exact calm_putPos s q rfl) (calm_returnSchedule _ q a2)
  · exact calm_putPos s q rfl
  · exact calm_putPos s q rfl

variable (hn : n < 8)
include hn

theorem calm_setBits (bit : Nat) (v : Bool) : Calm (burstPart n p) n s (setBit s (kLane n 0xA) bit v) := by
  refine .setVal (not_isBurstReg hn ?_) (blind_burstPart n p) _
  unfold kLane
  omega

theorem calm_laneStatusBits : Calm (burstPart n p) n s (laneStatusBits s n) := by
  unfold laneStatusBits
  extract_lets m b
  have hb : ∀ u bit kind, Calm (burstPart n p) n u (b u bit kind) := fun u bit kind => calm_setBits u hn _ _
  clear_value b
  exact (((hb s 4 1).trans (hb _ 3 2)).trans (hb _ 2 3)).trans (hb _ 1 7)

theorem calm_laneMet (kind addr : Nat) : Calm (burstPart n p) n s (laneMet s n kind addr) :=
  Calm.trans (t := putLane s n { lane s n with met := (condOf kind addr, true) :: (lane s n).met.filter fun x => x.1 != condOf kind addr })
    (calm_putLane s n rfl) (calm_laneStatusBits _ hn)

omit hn in
theorem calm_raise {src : Nat} (hn : n < 8) (hs : src < 56) (hb : src = n ∨ ¬HasBlock src) (kind addr blk : Nat) :
    Calm (burstPart n p) n s (raise s src kind addr blk) := by
  intro hq
  refine .raise (.refl s) (blind_burstPart n p) ⟨by omega, fun h3 => ?_⟩ (fun j hj => plain_isBurstReg hn hj hs) kind addr blk
  obtain rfl | hb := hb
  · exact absurd h3 hq
  · exact hb

theorem calm_laneFault (kind addr : Nat) : Calm (burstPart n p) n s (laneFault s n kind addr) := by
  unfold laneFault
  extract_lets known s1
  have h1 : Calm (burstPart n p) n s s1 := calm_laneMet s hn kind addr
  clear_value s1 known
  refine .ite h1 (.ite (h1.trans (Calm.trans (.ite ?_ (.refl s1)) (calm_raise _ hn (by omega) (.inl rfl) _ _ _))) (h1.trans (.of_stands ?_)))
  · exact .of_eq rfl rfl
  · exact ⟨((Reports.refl s1).logMessage _).blind (blind_burstPart n p),
      fun j hj => (raiseClosed_reg (src := 0) (by decide) (plain_isBurstReg hn hj (show 0 < 56 by decide)).1 (reg s1 j)).log s1 _ rfl⟩

theorem calm_laneFaultEnd (kind addr : Nat) : Calm (burstPart n p) n s (laneFaultEnd s n kind addr) := by
  unfold laneFaultEnd
  extract_lets l c rest s1
  have h1 : Calm (burstPart n p) n s s1 :=
    Calm.trans (t := putLane s n { l with met := rest }) (calm_putLane s n rfl) (calm_laneStatusBits _ hn)
  clear_value s1
  refine .ite (.ite (h1.trans (.of_stands (.endCondition (.refl s1) (blind_burstPart n p) (not_isBurstReg hn ?_)))) h1) (.refl s)
  unfold kFault
  omega

theorem calm_noteDiscard (slot : Nat) : Calm (burstPart n p) n s (noteDiscard s n slot) := by
  unfold noteDiscard
  extract_lets l s1
  have h1 : Calm (burstPart n p) n s s1 := calm_putLane s n rfl
  exact .ite (.ite (h1.trans (calm_laneFault s1 hn _ _)) h1) (.refl s)

end

/-! ### A burst is received (R226 to R230) -/

theorem Calm.core {n p : Nat} {s t : State} (h : Calm (burstPart n p) n s t) : Calm coreOf n s t := h.view fun x => x.1.1.1

theorem Calm.module {n p : Nat} {s t : State} (h : Calm (burstPart n p) n s t) : Calm (modulePart n) n s t := h.view fun x => x.1.1

theorem calm_core_putLane {n : Nat} (s : State) (m : Nat) (l : Lane) : Calm coreOf n s (putLane s m l) := .of_eq rfl rfl

section discards
variable {n : Nat} (hn : n < 8) (s : State)
include hn

theorem calm_conflict (p : Nat) (away : Bool) : Calm (burstPart n p) n s (conflict s n p away) := by
  unfold conflict
  extract_lets s1
  have h1 : Calm (burstPart n p) n s s1 := calm_laneFault s hn 9 p
  exact .ite (h1.trans (calm_queueState s1 _ _ _)) h1

/-- What a burst that is discarded leaves once it is counted. -/
theorem calm_afterDiscard (slot : Nat) : Calm coreOf n (bump s (kLane n 0xD)) (discardBurst s n slot) := by
  unfold discardBurst
  extract_lets s1 l
  have h1 : Calm coreOf n (bump s (kLane n 0xD)) s1 := (calm_noteDiscard (p := 0) _ hn slot).core
  exact .ite (h1.trans (calm_core_putLane s1 n _)) (.ite (h1.trans (calm_conflict hn s1 slot true).core) h1)

theorem kFault_ne_kLane {src x sub : Nat} (hs : sub < 256) : @Ne Nat (kFault src x) (kLane n sub) := by
  unfold kFault kLane
  omega

omit hn in
theorem nat_bump_other {k j : Key} (h : j ≠ k) : nat (bump s k) j = nat s j := by
  rw [nat, num_bump, if_neg h]
  rfl

/-- A discarded burst is counted, and nothing else of the registers of its lane. -/
theorem discardBurst_counts (hq : nat s (kFault n 1) ≠ 3) (slot : Nat) : Stands coreOf (IsBurstReg n) (bump s (kLane n 0xD)) (discardBurst s n slot) :=
  calm_afterDiscard hn s slot (by rw [nat_bump_other s (kFault_ne_kLane hn (by decide))]; exact hq)

theorem num_discardBurst (hq : nat s (kFault n 1) ≠ 3) (slot : Nat) : num (discardBurst s n slot) (kLane n 0xD) = (num s (kLane n 0xD) + 1) % 2 ^ 32 := by
  rw [(discardBurst_counts hn s hq slot).num_eq (by unfold IsBurstReg; simp), num_bump, if_pos rfl]

end discards

/-- The registers of a burst's lane but those that an accepted burst counts or sets. -/
def IsSeenReg (n j : Nat) : Prop := IsBurstReg n j ∧ j ≠ kLane n 9

/-- The driver at a position has given a valid burst. -/
def arrival (s : State) (n p : Nat) : State := setBit (putPos s n p { pos s n p with arrived := true, late := 0 }) (kLane n 9) p true

/-- Lane `n`'s return is not silent. -/
def heard (s : State) (n : Nat) : State := putLane s n { lane s n with silent := false }

theorem seen_eq (s : State) (n p : Nat) (at_ : Int) : seen s n p at_ = trackTiming (laneFaultEnd (heard (arrival s n p) n) n 1 p) n p at_ := rfl

theorem stands_arrival (s : State) (n p : Nat) : Stands (driverPart n p) (IsSeenReg n) s (arrival s n p) := by
  have h0 : Stands (driverPart n p) (IsSeenReg n) s (putPos s n p { pos s n p with arrived := true, late := 0 }) := by
    refine .of_eq (.refl s) ?_ rfl
    unfold driverPart modulePart
    rw [pos_putPos, lane_putPos, if_pos rfl]
    rfl
  exact h0.setBit (blind_driverPart n p) (fun h => h.2 rfl) p true

theorem calm_heard {n p : Nat} (s : State) : Calm (burstPart n p) n s (heard s n) := calm_putLane s n rfl

section received
variable {n : Nat} (hn : n < 8) {s : State} (hq : nat s (kFault n 1) ≠ 3)
include hn hq

/-- A valid burst: the driver is present, and its record is as it was. -/
theorem seen_spec (p : Nat) (at_ : Int) : Stands (driverPart n p) (IsSeenReg n) s (seen s n p at_) ∧ bit (seen s n p at_) (kLane n 9) p = true := by
  have h1 := stands_arrival s n p
  have hb : bit (arrival s n p) (kLane n 9) p = true := (bit_setBit ..).trans (if_pos rfl)
  have hq1 : nat (arrival s n p) (kFault n 1) ≠ 3 := by
    rw [h1.nat_eq ⟨.inl rfl, kFault_ne_kLane hn (by decide)⟩]
    exact hq
  have hlast := (((calm_heard (p := p) _).trans (calm_laneFaultEnd _ hn 1 p)).trans (calm_trackTiming _ p at_)) hq1
  rw [seen_eq]
  refine ⟨h1.trans ((hlast.view fun x => x.1).mono fun j hj => hj.1), ?_⟩
  unfold bit
  rw [hlast.nat_eq (by unfold IsBurstReg; simp)]
  exact hb

end received

/-- The state in which the type of an accepted burst is acted on. -/
def accepted (s : State) (n : Nat) (b : Burst) : State :=
  if searchSlot (bump s (kLane n 0xC)) n = some b.slot.val then bump s (kLane n 0xC) else seen (bump s (kLane n 0xC)) n b.slot.val b.at_

theorem receiveBurst_of_taken {s : State} {n type : Nat} {b : Burst} (h : BurstTaken s n type b) :
    receiveBurst s n type b = (accepted s n b, some (burstPayload b)) := by
  obtain ⟨hl, hq, h1, h2, ho, hb⟩ := h
  unfold receiveBurst
  dsimp only
  rw [if_neg hl, if_neg (by simp [hq]), if_neg (by omega), if_neg (by simp [ho, hb])]
  rfl

theorem searchSlot_bump (s : State) (k : Key) (n : Nat) : searchSlot (bump s k) n = searchSlot s n := by
  unfold searchSlot lane
  rw [bump_lanes]

/-- An accepted burst is counted, its driver is present, and its record is as it was. -/
theorem accepted_spec {s : State} {n : Nat} (hn : n < 8) (hq : nat s (kFault n 1) ≠ 3) (b : Burst) :
    (driverPart n b.slot (accepted s n b) = driverPart n b.slot s ∧ ∀ j, IsSeenReg n j → j ≠ kLane n 0xC → reg (accepted s n b) j = reg s j) ∧
    num (accepted s n b) (kLane n 0xC) = (num s (kLane n 0xC) + 1) % 2 ^ 32 ∧
    (searchSlot s n ≠ some b.slot.val → bit (accepted s n b) (kLane n 9) b.slot = true) := by
  have hbump : ∀ j, j ≠ kLane n 0xC → reg (bump s (kLane n 0xC)) j = reg s j := fun j hj => by rw [bump, setNum, reg_setVal, if_neg hj]
  have hpart : driverPart n b.slot (bump s (kLane n 0xC)) = driverPart n b.slot s := 
    (Stands.bump (P := fun _ => False) (.refl s) (blind_driverPart n b.slot) (fun h => h)).same
  have hq1 : nat (bump s (kLane n 0xC)) (kFault n 1) ≠ 3 := by
    rw [nat_bump_other s (kFault_ne_kLane hn (by decide))]
    exact hq
  have hcount : num (bump s (kLane n 0xC)) (kLane n 0xC) = (num s (kLane n 0xC) + 1) % 2 ^ 32 := (num_bump s _ _).trans (if_pos rfl)
  unfold accepted
  rw [searchSlot_bump]
  split
  · next h => exact ⟨⟨hpart, fun j _ hj => hbump j hj⟩, hcount, fun hne => absurd h hne⟩
  · obtain ⟨hs, hb⟩ := seen_spec hn hq1 b.slot.val b.at_
    refine ⟨⟨hs.same.trans hpart, fun j h hj => (hs.regs j h).trans (hbump j hj)⟩, (hs.num_eq ⟨?_, ?_⟩).trans hcount, fun _ => hb⟩
    · unfold IsBurstReg
      simp
    · unfold kLane
      exact fun h => absurd (show (_ : Nat) = _ from h) (by omega)

/-! ### The rows that a burst of any type has in common -/

section rows
variable {n : Nat} {b : Burst} {type : Nat} {s : State}

theorem receiveBurst_of_stopped (h : laneState s n = 0) : receiveBurst s n type b = (s, none) := by
  unfold receiveBurst
  rw [if_pos h]

theorem receiveBurst_of_full (hl : laneState s n ≠ 0) (h : b.queueFull = true) :
    receiveBurst s n type b = (discardBurst (raise s 56 0 n) n b.slot, none) := by
  unfold receiveBurst
  rw [if_neg hl, if_pos h]

theorem receiveBurst_of_unfit (hl : laneState s n ≠ 0) (h : b.queueFull = false) (h1 : (slotWindow s n b.slot).1 ≤ b.at_) (h2 : b.at_ ≤ (slotWindow s n b.slot).2)
    (hu : slotOwned s n b.slot = false ∨ burstOk s n type b = false) : receiveBurst s n type b = (discardBurst s n b.slot, none) := by
  have hc : !slotOwned s n b.slot ∨ !burstOk s n type b := by simpa using hu
  unfold receiveBurst
  dsimp only
  rw [if_neg hl, if_neg (by simp [h]), if_neg (by omega), if_pos hc]

/-- A burst outside its window is counted, at its lane and at its position. -/
def countedLate (s : State) (n p : Nat) : State := bump (putPos s n p { pos s n p with late := (pos s n p).late + 1 }) (kLane n 0xE)

/-- A burst outside its window leaves this. -/
def lateBurst (s : State) (n p : Nat) : State :=
  if 8 ≤ (pos s n p).late + 1 then laneFault (noteDiscard (countedLate s n p) n p) n 4 p else noteDiscard (countedLate s n p) n p

theorem receiveBurst_of_late (hl : laneState s n ≠ 0) (h : b.queueFull = false) (hw : b.at_ < (slotWindow s n b.slot).1 ∨ (slotWindow s n b.slot).2 < b.at_) :
    receiveBurst s n type b = (lateBurst s n b.slot, none) := by
  unfold receiveBurst
  dsimp only
  rw [if_neg hl, if_neg (by simp [h]), if_pos hw]
  rfl

variable (hn : n < 8) (hq : nat s (kFault n 1) ≠ 3)
include hn hq

theorem fullBurst_spec (p : Nat) : let t := discardBurst (raise s 56 0 n) n p
    Raised s t 56 ∧ num t (kLane n 0xD) = (num s (kLane n 0xD) + 1) % 2 ^ 32 := by
  intro t
  have hquiet : Quiet s 56 := quiet_of_not_hasBlock (by decide) (by simp [HasBlock])
  have hD : Plain (kLane n 0xD) ∧ @Ne Nat (kLane n 0xD) (kFault 56 8) := by
    unfold Plain kLane kFault kRestartPending kLogCount kLogLast
    omega
  have h1 : Plain (kFault n 1) ∧ @Ne Nat (kFault n 1) (kFault 56 8) := by
    unfold Plain kFault kRestartPending kLogCount kLogLast
    omega
  have hq1 : nat (raise s 56 0 n) (kFault n 1) ≠ 3 := by
    rw [nat, num_raise hquiet 0 n 0 h1.1 h1.2]
    exact hq
  have hs := discardBurst_counts hn (raise s 56 0 n) hq1 p
  have hne : @Ne Nat (kFault 56 8) (kLane n 0xD) := kFault_ne_kLane hn (by decide)
  refine ⟨raised_then (raised_raise s (by decide) 0 n (by decide)) ((hs.num_eq (.inr (.inl rfl))).trans ((num_bump _ _ _).trans (if_neg hne))) ?_ ?_, ?_⟩
  · exact (congrArg (fun x => x.1) hs.same).trans (by rw [coreOf, bump_mem])
  · exact (congrArg (fun x => x.2) hs.same).trans (by rw [coreOf, bump_mram])
  · rw [num_discardBurst hn _ hq1 p, num_raise hquiet 0 n 0 hD.1 hD.2]

theorem lateBurst_spec (p : Nat) : num (lateBurst s n p) (kLane n 0xE) = (num s (kLane n 0xE) + 1) % 2 ^ 32 ∧
    (pos (lateBurst s n p) n p).late = (pos s n p).late + 1 := by
  have hlast : Stands (burstPart n p) (IsBurstReg n) (countedLate s n p) (lateBurst s n p) := by
    have h1 : Calm (burstPart n p) n (countedLate s n p) (noteDiscard (countedLate s n p) n p) := calm_noteDiscard _ hn p
    refine Calm.ite (h1.trans (calm_laneFault _ hn 4 p)) h1 ?_
    rw [countedLate, nat_bump_other _ (kFault_ne_kLane hn (by decide))]
    exact hq
  constructor
  · rw [hlast.num_eq (.inr (.inr (.inr (.inr (.inr (.inl rfl)))))), countedLate, num_bump, if_pos rfl]
    rfl
  · refine (congrArg (fun x => x.2) hlast.same).trans ?_
    rw [burstPart, countedLate, pos_bump, pos_putPos, if_pos rfl]

end rows

/-! ### What follows from an accepted burst -/

section follows
variable {n p : Nat} (hn : n < 8) (s : State)
include hn

theorem calm_setNumDriver (d sub : Nat) (h : sub = 0xA ∨ sub = 0xD) (x : Int) : Calm (burstPart n p) n s (setNum s (kDriver d sub) x) := by
  refine .setVal (not_isBurstReg hn ?_) (blind_burstPart n p) _
  unfold kDriver
  omega

theorem calm_noteForward (q : Nat) : Calm (burstPart n p) n s (noteForward s n q) := .ite (calm_laneFault s hn 5 q) (.refl s)

omit hn in
theorem calm_loadedScenes (x : Pos) (q : Nat) : Calm (burstPart n p) n s (loadedScenes x s n q) :=
  .foldl (.refl s) fun _ _ u => .ite (.of_eq rfl rfl) (.refl u)

theorem calm_endCondition (src : Nat) (hs : src < 64) : Calm (burstPart n p) n s (endCondition s src) := by
  refine .of_stands (.endCondition (.refl s) (blind_burstPart n p) (not_isBurstReg hn ?_))
  unfold kFault
  omega

/-- A raise of a source that resets no block. -/
theorem calm_raise_quiet {src : Nat} (hs : src < 56) (hb : ¬HasBlock src) (kind addr : Nat) : Calm (burstPart n p) n s (raise s src kind addr 0) :=
  calm_raise s hn hs (.inr hb) kind addr 0

theorem calm_noteOverTemp (q : Nat) (v : Bool) : Calm (burstPart n p) n s (noteOverTemp s n q v) := by
  have h1 : Calm (burstPart n p) n s (putPos s n q { pos s n q with overTemp := v }) := calm_putPos s q rfl
  unfold noteOverTemp
  exact .ite (h1.trans (calm_raise_quiet hn _ (by decide) (by simp [HasBlock]) _ _)) (.ite (h1.trans (calm_endCondition hn _ 10 (by decide))) h1)

omit hn in
theorem calm_queryFaults (q : Nat) : Calm (burstPart n p) n s (queryFaults s n q) := by
  refine .ite (.refl s) (.foldl ?_ fun o _ u => calm_queueControl u q _ _)
  exact calm_putPos s q rfl

omit hn in
theorem calm_inject (m type : Nat) (b : Bytes) : Calm (burstPart n p) n s (inject s m type b) := by
  refine .ite (.refl s) ?_
  exact calm_putLane s m rfl

theorem calm_tripSet (g kind : Nat) : Calm (burstPart n p) n s (tripSet s g kind) := by
  have hk : ∀ {sub}, sub = 1 ∨ sub = 2 → ¬IsBurstReg n (kSafety sub) := by
    intro sub h
    unfold IsBurstReg kSafety kFault kLane
    omega
  unfold tripSet
  extract_lets s1 s2
  have h1 : Calm (burstPart n p) n s s1 :=
    Calm.trans (t := setBit s (kSafety 2) g true) (.setVal (hk (.inr rfl)) (blind_burstPart n p) _) (.setVal (hk (.inl rfl)) (blind_burstPart n p) _)
  have h2 : Calm (burstPart n p) n s1 s2 := by
    refine .foldl (.refl s1) fun m _ u => Calm.trans (.ite ?_ (.refl u)) (calm_inject _ m _ _)
    exact calm_putLane u m rfl
  exact .ite (.refl s) ((h1.trans h2).trans (calm_raise_quiet hn s2 (by decide) (by simp [HasBlock]) kind g))

theorem calm_noteIncomplete (q : Nat) (v : Bool) : Calm (burstPart n p) n s (noteIncomplete s n q v) := by
  unfold noteIncomplete
  extract_lets x j k s1
  have h1 : Calm (burstPart n p) n s s1 := calm_putPos s q rfl
  exact .ite (.refl s) (.ite (h1.trans (calm_laneFault s1 hn 8 q)) h1)

omit hn in
theorem calm_noteShowing (d showing : Nat) : Calm (burstPart n p) n s (noteShowing s d showing) := by
  unfold noteShowing
  split
  · exact .ite (.of_eq rfl rfl) (.refl s)
  · exact .refl s

/-! #### The start work of a driver (R253, R262, R265 to R267) -/

omit hn in
theorem calm_configWrite (q f addr : Nat) (b : Bytes) : Calm (burstPart n p) n s (configWrite s n q f addr b) := by
  induction f generalizing s addr b with
  | zero => exact .refl s
  | succ f ih => exact .ite (.refl s) ((calm_queueControl s q _ _).trans (ih _ _ _))

omit hn in
theorem calm_sceneLoad (q scene : Nat) : Calm (burstPart n p) n s (sceneLoad s n q scene) := .foldl (.refl s) fun _ _ u => calm_queueControl u q _ _

theorem calm_fwFailed (q : Nat) : Calm (burstPart n p) n s (fwFailed s n q) := by
  have h1 : Calm (burstPart n p) n s (putPos s n q { pos s n q with work := .done }) := calm_putPos s q rfl
  exact (h1.trans (calm_setNumDriver hn _ _ _ (.inl rfl) _)).trans (calm_laneFault _ hn 1 q)

theorem calm_fwImage (image : Nat) (ps : List Nat) : Calm (burstPart n p) n s (fwImage s n image ps) := by
  unfold fwImage
  split
  · refine .foldl (.ite ?_ (.refl s)) fun q _ u => calm_fwFailed hn u q
    exact calm_raise_quiet hn s (by decide) (by simp [HasBlock]) 3 0
  · refine .foldl (.foldl (.foldl (.refl s) fun q _ u => calm_queueControl u q _ _) fun x _ u => calm_queueBroadcast u _ x) fun q _ u => ?_
    have h1 : Calm (burstPart n p) n u (putPos u n q { pos u n q with work := .firmware }) := calm_putPos u q rfl
    exact ((h1.trans (calm_setNumDriver hn _ _ _ (.inr rfl) 1)).trans (calm_setNumDriver hn _ _ _ (.inl rfl) 2)).trans (calm_queueControl _ q _ _)

theorem calm_tryFirmware : Calm (burstPart n p) n s (tryFirmware s n) := by
  refine .ite (.refl s) (.ite (.foldl (.refl s) fun q _ u => ?_) (.foldl (.refl s) fun i _ u => calm_fwImage hn u i _))
  exact calm_putPos u q rfl

omit hn in
theorem Calm.sceneLoad {s t : State} (h : Calm (burstPart n p) n s t) (c : Prop) [Decidable c] (q scene : Nat) :
    Calm (burstPart n p) n s (if c then sceneLoad t n q scene else t) := .ite (h.trans (calm_sceneLoad t q scene)) h

theorem calm_workReply (q addr : Nat) (b : Bytes) : Calm (burstPart n p) n s (workReply s n q addr b) := by
  unfold workReply
  dsimp only
  split
  · refine .ite (Calm.trans (Calm.trans (.ite (.refl s) ?_) (by exact calm_putPos _ q rfl)) (calm_queueControl _ q _ _)) (.refl s)
    exact ((calm_configWrite s q _ _ _).trans (calm_configWrite _ q _ _ _)).trans (calm_configWrite _ q _ _ _)
  · refine .ite (Calm.trans (Calm.trans (Calm.sceneLoad (Calm.sceneLoad ?_ _ q 1) _ q 2) (by exact calm_putPos _ q rfl)) (calm_tryFirmware hn _)) (.refl s)
    exact .of_eq rfl rfl
  · exact .refl s

/-! #### Discovery (R255) -/

omit hn in
theorem calm_startWork (q : Nat) : Calm (burstPart n p) n s (startWork s n q) := by
  refine .ite (Calm.trans ?_ (calm_queueControl _ q _ _)) (.refl s)
  exact calm_putPos s q rfl

theorem calm_addUnknown (r : Bytes) : Calm (burstPart n p) n s (addUnknown s n r) := by
  refine .ite (.setVal (not_isBurstReg hn ?_) (blind_burstPart n p) _) (.refl s)
  unfold kScan
  omega

theorem calm_acceptDriver (q : Nat) (r : Bytes) : Calm (burstPart n p) n s (acceptDriver s n q r) := by
  unfold acceptDriver
  extract_lets s0 _ s1
  have h0 : Calm (burstPart n p) n s s0 := .ite (calm_setNumDriver hn s _ _ (.inl rfl) 1) (.refl s)
  have h1 : Calm (burstPart n p) n s0 s1 := calm_putPos s0 q rfl
  exact ((h0.trans h1).trans (.ite (.refl s1) (calm_addUnknown hn s1 r))).trans (calm_startWork _ q)

theorem calm_takeReply (q : Nat) (r : Bytes) : Calm coreOf n s (takeReply s n q r) := by
  unfold takeReply
  extract_lets l serial s1 s2
  have h1 : Calm coreOf n s s1 := calm_core_putLane s n _
  have h2 : Calm coreOf n s1 s2 := Calm.core (p := q) (calm_conflict hn s1 q _)
  exact .ite (calm_core_putLane s n _) (h1.trans (.ite (Calm.core (p := 0) (calm_acceptDriver hn s1 q r))
    (h2.trans (.ite (.refl s2) (Calm.core (p := 0) (calm_addUnknown hn s2 r))))))

end follows

/-! ### STATUS (R219, R257, R259, R267) -/

theorem calm_module_putPos {n : Nat} (s : State) (q : Nat) (x : Pos) : Calm (modulePart n) n s (putPos s n q x) := by
  refine .of_eq ?_ rfl
  unfold modulePart
  rw [lane_putPos]
  rfl

/-- What a delivery leaves of a driver's records: those that it does not cover. -/
theorem deliver_spec {n : Nat} (hn : n < 8) {s : State} (hq : nat s (kFault n 1) ≠ 3) (p ack : Nat) :
    Stands (modulePart n) (IsBurstReg n) s (deliver s n p ack) ∧
    (pos (deliver s n p ack) n p).sent = (pos s n p).sent.filter (fun c => decide (32768 ≤ (ack + 65536 - c.txr.seq.getD 0) % 65536)) ∧
    (pos (deliver s n p ack) n p).statusAt = (pos s n p).statusAt ∧ (pos (deliver s n p ack) n p).trip = (pos s n p).trip := by
  unfold deliver
  extract_lets x done rest scheduled s1
  have h1 : Calm (modulePart n) n s s1 := calm_module_putPos s p _
  have hpos : pos s1 n p = { x with sent := rest, advSet := x.advSet || scheduled, request := x.request.map fun c => { c with delivered := c.delivered || done c } } := by
    unfold s1
    rw [pos_putPos, if_pos rfl]
  have hlast : Calm (burstPart n p) n s1 (if unacked s1 n p then s1 else laneFaultEnd s1 n 6 p) := .ite (.refl s1) (calm_laneFaultEnd s1 hn 6 p)
  have hst := hlast (by rw [(h1 hq).nat_eq (.inl rfl)]; exact hq)
  have hd := congrArg (fun x => x.1.2) hst.same
  simp only [burstPart, driverPart, Prod.mk.injEq] at hd
  obtain ⟨_, hsent, hat, htrip⟩ := hd
  refine ⟨h1.trans hlast.module hq, ?_, ?_, ?_⟩
  · rw [hsent, hpos]
    refine List.filter_congr fun c _ => ?_
    show (!decide (_ < 32768)) = _
    rw [← decide_not, decide_eq_decide]
    exact Nat.not_lt
  · rw [hat, hpos]
  · rw [htrip, hpos]

/-- A STATUS is written and noted at its driver. -/
def statusNoted (s : State) (n p : Nat) (b : Bytes) : State :=
  let x := pos s n p
  let noAck := (byteAt b 10).testBit 5 && !((lane s n).version == 1)
  putPos (setVal s (kDrv n p 0xB) (.bytes (b ++ List.replicate (24 - b.length) 0))) n p { x with
    statusAt := some s.clk, trip := fieldAt b 14 8
    rxErrs := if byteAt b 22 = 0 then x.rxErrs else (x.rxErrs.filter fun e => s.clk < e.1 + secs 1) ++ [(s.clk, byteAt b 22)]
    advSet := x.advSet && !noAck, advSent := x.advSent && !(noAck && x.advSet)
    stopOk := x.stopOk || ((lane s n).stopping && ((byteAt b 10).testBit 2 || byteAt b 10 % 4 != 0)) }

/-- Its acknowledgement is taken. -/
def statusAcked (s : State) (n p : Nat) (b : Bytes) : State :=
  if (byteAt b 10).testBit 5 && !((lane s n).version == 1) then statusNoted s n p b else deliver (statusNoted s n p b) n p (fieldAt b 8 2)

/-- What a STATUS says beside leads to conditions, queries and trips. -/
def statusFollows (x : Pos) (n p : Nat) (b : Bytes) (s : State) : State :=
  let s3 := loadedScenes x (noteForward s n p) n p
  let s4 := noteOverTemp s3 n p ((fieldAt b 12 2).testBit 2)
  let s5 := if (fieldAt b 12 2).testBit 0 || (fieldAt b 12 2).testBit 1 then queryFaults s4 n p else s4
  let s6 := (List.range 64).foldl (fun t g => if (fieldAt b 14 8).testBit g then tripSet t g 1 else t) s5
  noteShowing (noteIncomplete s6 n p ((fieldAt b 12 2).testBit 4)) (16 * n + p) (byteAt b 10 % 4)

theorem pos_setVal (s : State) (k : Key) (v : Val) (n p : Nat) : pos (setVal s k v) n p = pos s n p := by
  unfold pos lane
  rw [setVal_lanes]

theorem takeStatus_eq (s : State) (n p : Nat) (b : Bytes) : takeStatus s n p b =
    lumStatus (statusFollows (pos s n p) n p b (statusAcked s n p b)) (16 * n + p) (fieldAt b 4 2) (fieldAt b 6 2) (pos s n p).statusAt := by
  unfold takeStatus statusAcked statusNoted
  dsimp only
  rw [pos_setVal]
  rfl

theorem calm_statusFollows {n : Nat} (hn : n < 8) (s : State) (x : Pos) (p : Nat) (b : Bytes) : Calm (burstPart n p) n s (statusFollows x n p b s) := by
  unfold statusFollows
  extract_lets s3 s4 s5 s6
  have h3 : Calm (burstPart n p) n s s3 := (calm_noteForward hn s p).trans (calm_loadedScenes _ x p)
  have h4 : Calm (burstPart n p) n s3 s4 := calm_noteOverTemp hn s3 p _
  have h5 : Calm (burstPart n p) n s4 s5 := .ite (calm_queryFaults s4 p) (.refl s4)
  have h6 : Calm (burstPart n p) n s5 s6 := .foldl (.refl s5) fun g _ u => .ite (calm_tripSet hn u g 1) (.refl u)
  exact (((h3.trans h4).trans h5).trans h6).trans ((calm_noteIncomplete hn s6 p _).trans (calm_noteShowing _ _ _))

/-- The registers that a STATUS leaves: its own bytes go to the driver table. -/
def IsStatusReg (n p j : Nat) : Prop := IsBurstReg n j ∧ j ≠ kDrv n p 0xB

section status
variable {n : Nat} (hn : n < 8) {p : Nat} (hp : p < 16) {s : State} (hq : nat s (kFault n 1) ≠ 3) (b : Bytes)

theorem stands_statusNoted (s : State) : Stands (modulePart n) (IsStatusReg n p) s (statusNoted s n p b) := by
  refine Stands.trans (.setVal (.refl s) (blind_modulePart n) (fun h => h.2 rfl) _) (.of_eq (.refl _) ?_ rfl)
  unfold modulePart statusNoted
  rw [lane_putPos]
  rfl

theorem reg_statusNoted (s : State) : reg (statusNoted s n p b) (kDrv n p 0xB) = .bytes (b ++ List.replicate (24 - b.length) 0) :=
  (reg_setVal s (kDrv n p 0xB) (kDrv n p 0xB) _).trans (if_pos rfl)

theorem pos_statusNoted (s : State) : (pos (statusNoted s n p b) n p).sent = (pos s n p).sent ∧ (pos (statusNoted s n p b) n p).statusAt = some s.clk ∧
    (pos (statusNoted s n p b) n p).trip = fieldAt b 14 8 := by
  unfold statusNoted
  dsimp only
  rw [pos_putPos, if_pos rfl]
  exact ⟨rfl, rfl, rfl⟩

theorem isBurstReg_driver {d sub : Nat} (hd : d < 128) (hs : sub < 0xA ∨ sub = 0xB) : IsBurstReg n (kDriver d sub) := by
  unfold IsBurstReg kDriver
  omega

include hq

theorem quiet_statusNoted : nat (statusNoted s n p b) (kFault n 1) ≠ 3 := by
  rw [(stands_statusNoted b s).nat_eq ⟨.inl rfl, ?_⟩]
  · exact hq
  · unfold kFault kDrv kDriver
    exact fun h => absurd (show (_ : Nat) = _ from h) (by omega)

include hn hp

theorem statusAcked_spec : let u := statusAcked s n p b
    Stands (modulePart n) (IsStatusReg n p) s u ∧ reg u (kDrv n p 0xB) = .bytes (b ++ List.replicate (24 - b.length) 0) ∧
    (pos u n p).statusAt = some s.clk ∧ (pos u n p).trip = fieldAt b 14 8 ∧
    ((byteAt b 10).testBit 5 = false ∨ (lane s n).version = 1 → (pos u n p).sent =
      (pos s n p).sent.filter fun c => decide (32768 ≤ (fieldAt b 8 2 + 65536 - c.txr.seq.getD 0) % 65536)) := by
  have h1 := stands_statusNoted (n := n) (p := p) b s
  obtain ⟨hsent, hat, htrip⟩ := pos_statusNoted (n := n) (p := p) b s
  have hreg := reg_statusNoted (n := n) (p := p) b s
  intro u
  unfold u statusAcked
  by_cases hack : ((byteAt b 10).testBit 5 && !((lane s n).version == 1)) = true
  · rw [if_pos hack]
    refine ⟨h1, hreg, hat, htrip, fun h => ?_⟩
    obtain h | h := h
    · simp [h] at hack
    · simp [h] at hack
  · rw [if_neg hack]
    obtain ⟨hst, gsent, gat, gtrip⟩ := deliver_spec hn (quiet_statusNoted hq b) p (fieldAt b 8 2)
    exact ⟨h1.trans (hst.mono fun j hj => hj.1), (hst.regs _ (isBurstReg_driver (by omega) (.inr rfl))).trans hreg,
      gat.trans hat, gtrip.trans htrip, fun _ => by rw [gsent, hsent]⟩

omit hn hp hq in
/-- Only the energy of the driver's luminaire changes. -/
theorem lumStatus_fields (s : State) (d v i : Nat) (since : Option Nat) : (lumStatus s d v i since).lanes = s.lanes ∧ (lumStatus s d v i since).regs = s.regs ∧
    ∀ t0, since = some t0 → nat s (kDriver d 2) ≤ 127 →
      tabFind (lumStatus s d v i since).meter.lum (nat s (kDriver d 2)) =
        some ((tabFind s.meter.lum (nat s (kDriver d 2))).getD 0 + mkRat (v * i * min (s.clk - t0) (msec 10) : Nat) (125000000 * 3600)) := by
  unfold lumStatus
  cases since with
  | none => exact ⟨rfl, rfl, fun t0 h => nomatch h⟩
  | some t =>
    dsimp only
    split
    · refine ⟨rfl, rfl, fun t0 h _ => ?_⟩
      obtain rfl := Option.some.inj h
      exact (tabFind_tabPut ..).trans (if_pos rfl)
    · next hl => exact ⟨rfl, rfl, fun t0 _ h => absurd h hl⟩

/-- What a STATUS leaves (R219, R257, R310). -/
theorem takeStatus_spec : let t := takeStatus s n p b
    (∀ j, IsStatusReg n p j → reg t j = reg s j) ∧ reg t (kDrv n p 0xB) = .bytes (b ++ List.replicate (24 - b.length) 0) ∧
    (pos t n p).statusAt = some s.clk ∧ (pos t n p).trip = fieldAt b 14 8 ∧
    ((byteAt b 10).testBit 5 = false ∨ (lane s n).version = 1 → (pos t n p).sent =
      (pos s n p).sent.filter fun c => decide (32768 ≤ (fieldAt b 8 2 + 65536 - c.txr.seq.getD 0) % 65536)) ∧
    ∀ t0, (pos s n p).statusAt = some t0 → nat s (kDriver (16 * n + p) 2) ≤ 127 →
      tabFind t.meter.lum (nat s (kDriver (16 * n + p) 2)) = some ((tabFind s.meter.lum (nat s (kDriver (16 * n + p) 2))).getD 0 +
        mkRat (fieldAt b 4 2 * fieldAt b 6 2 * min (s.clk - t0) (msec 10) : Nat) (125000000 * 3600)) := by
  obtain ⟨hst, hreg, hat, htrip, hsent⟩ := statusAcked_spec hn hp hq b
  have hq1 : nat (statusAcked s n p b) (kFault n 1) ≠ 3 := by
    rw [hst.nat_eq ⟨.inl rfl, ?_⟩]
    · exact hq
    · unfold kFault kDrv kDriver
      exact fun h => absurd (show (_ : Nat) = _ from h) (by omega)
  have hf := calm_statusFollows hn (statusAcked s n p b) (pos s n p) p b hq1
  rw [takeStatus_eq]
  generalize statusAcked s n p b = u at hst hreg hat htrip hsent hf
  generalize statusFollows (pos s n p) n p b u = w at hf
  obtain ⟨hlanes, hregs, hlum⟩ := lumStatus_fields w (16 * n + p) (fieldAt b 4 2) (fieldAt b 6 2) (pos s n p).statusAt
  generalize lumStatus w (16 * n + p) (fieldAt b 4 2) (fieldAt b 6 2) (pos s n p).statusAt = t at hlanes hregs hlum
  have hpos : pos t n p = pos w n p := by unfold pos lane; rw [hlanes]
  have hdrv : ((pos w n p).request, (pos w n p).sent, (pos w n p).statusAt, (pos w n p).trip) =
      ((pos u n p).request, (pos u n p).sent, (pos u n p).statusAt, (pos u n p).trip) := congrArg (fun x => x.1.2) hf.same
  simp only [Prod.mk.injEq] at hdrv
  obtain ⟨_, gsent, gat, gtrip⟩ := hdrv
  have hmod : modulePart n w = modulePart n s := (congrArg (fun x => x.1.1) hf.same).trans hst.same
  have hclk : w.clk = s.clk := congrArg (fun x => x.2.1.1) hmod
  have henergy : w.meter.lum = s.meter.lum := congrArg (fun x => x.2.1.2.1) hmod
  have hkey : nat w (kDriver (16 * n + p) 2) = nat s (kDriver (16 * n + p) 2) := by
    have hb := isBurstReg_driver (n := n) (d := 16 * n + p) (sub := 2) (by omega) (.inl (by decide))
    rw [hf.nat_eq hb, hst.nat_eq ⟨hb, ?_⟩]
    unfold kDrv kDriver
    exact fun h => absurd (show (_ : Nat) = _ from h) (by omega)
  refine ⟨fun j hj => ?_, ?_, ?_, ?_, fun h => ?_, fun t0 h hl => ?_⟩
  · rw [reg_congr hregs, hf.regs j hj.1, hst.regs j hj]
  · exact (reg_congr hregs _).trans ((hf.regs _ (isBurstReg_driver (d := 16 * n + p) (by omega) (.inr rfl))).trans hreg)
  · rw [hpos, gat, hat]
  · rw [hpos, gtrip, htrip]
  · rw [hpos, gsent, hsent h]
  · have h1 := hlum t0 h (by rw [hkey]; exact hl)
    rwa [hkey, hclk, henergy] at h1

end status

/-! ### Replies (R219, R253, R259, R266) -/

theorem answered_spec {n : Nat} (hn : n < 8) (s : State) (p : Nat) :
    Calm (modulePart n) n s (answered s n p) ∧ (nat s (kFault n 1) ≠ 3 → (pos (answered s n p) n p).request = none) := by
  unfold answered
  extract_lets _ s1
  have h1 : Calm (modulePart n) n s s1 := calm_module_putPos s p _
  have hlast : Calm (burstPart n p) n s1 (if unacked s1 n p then s1 else laneFaultEnd s1 n 6 p) := .ite (.refl s1) (calm_laneFaultEnd s1 hn 6 p)
  refine ⟨h1.trans (Calm.module hlast), fun hq => ?_⟩
  refine (congrArg (fun x => x.1.2.1) (hlast ?_).same).trans ?_
  · rw [(h1 hq).nat_eq (.inl rfl)]
    exact hq
  · show (pos s1 n p).request = none
    unfold s1
    rw [pos_putPos, if_pos rfl]

/-- CONFIG_DATA as it is taken. -/
def configTaken (s : State) (n p : Nat) (a : Bytes) : State :=
  match awaited s n p 0x21 with
  | some r => if a.take 2 = r.payload.take 2 then workReply (answered s n p) n p (fieldAt a 0 2) (a.drop 2) else s
  | none => s

/-- FAULT_MAP as it is taken. -/
def mapTaken (s : State) (n p : Nat) (a : Bytes) : State :=
  match awaited s n p 0x22 with
  | some r => if a.take 3 = r.payload.take 3 then takeFaultMap (answered s n p) n p a else s
  | none => s

theorem awaited_congr {s t : State} {n p : Nat} (h : (pos t n p).request = (pos s n p).request) (type : Nat) : awaited t n p type = awaited s n p type := by
  rw [awaited, awaited, h]

section replies
variable {n : Nat} (hn : n < 8) (s : State) (p : Nat) (a : Bytes)
include hn

theorem configTaken_calm : Calm (modulePart n) n s (configTaken s n p a) := by
  unfold configTaken
  split
  · exact .ite ((answered_spec hn s p).1.trans (Calm.module (p := p) (calm_workReply hn _ p _ _))) (.refl s)
  · exact .refl s

theorem configTaken_answers {s : State} (hq : nat s (kFault n 1) ≠ 3) {r : TxRec} (h : awaited s n p 0x21 = some r) (ha : a.take 2 = r.payload.take 2) :
    (pos (configTaken s n p a) n p).request = none := by
  unfold configTaken
  rw [h]
  dsimp only
  rw [if_pos ha]
  obtain ⟨hc, hnone⟩ := answered_spec hn s p
  refine (congrArg (fun x => x.1.2.1) (calm_workReply (p := p) hn _ p _ _ ?_).same).trans (hnone hq)
  rw [(hc hq).nat_eq (.inl rfl)]
  exact hq

/-! #### The cell fault map -/

/-- The cell fault map with a part rewritten. -/
def mapped (s : State) (n p : Nat) (b : Bytes) : State :=
  let inPart := fun (c : Nat) => nat s (kDrv n p 3) + fieldAt b 0 2 ≤ c && c < nat s (kDrv n p 3) + min (nat s (kDrv n p 4)) (fieldAt b 0 2 + 8 * byteAt b 2)
  { s with lanes := { s.lanes with
    opens := s.lanes.opens.filter (fun c => !inPart c) ++ bitmapCells (nat s (kDrv n p 3)) (nat s (kDrv n p 4)) (fieldAt b 0 2) (slice b 4 (byteAt b 2))
    shorts := s.lanes.shorts.filter (fun c => !inPart c) ++
      bitmapCells (nat s (kDrv n p 3)) (nat s (kDrv n p 4)) (fieldAt b 0 2) (slice b (4 + byteAt b 2) (byteAt b 2)) } }

theorem calm_takeFaultMap : Calm (burstPart n p) n (mapped s n p a) (takeFaultMap s n p a) := by
  have h2 : Calm (burstPart n p) n (mapped s n p a) (setNum (mapped s n p a) 0x330003 (((mapped s n p a).lanes.opens ++ (mapped s n p a).lanes.shorts).eraseDups.length : Nat)) :=
    .setVal (not_isBurstReg hn (by decide)) (blind_burstPart n p) _
  refine (h2.trans ?_).foldl fun c _ u => calm_raise_quiet hn u (by decide) (by simp [HasBlock]) 0 c
  exact calm_putPos _ p rfl

omit hn in
theorem mem_bitmapCells {base count first : Nat} {bm : Bytes} {c : Nat} : c ∈ bitmapCells base count first bm ↔
    ∃ i < 8 * bm.length, (first + i < count ∧ (byteAt bm (i / 8)).testBit (i % 8) = true) ∧ base + first + i = c := by
  simp [bitmapCells, List.mem_filterMap]

omit hn in
/-- A list of faulted cells with a part rewritten: within the part it is the bitmap, elsewhere it is as it was. -/
theorem mem_rewritten {base count first k : Nat} {bm : Bytes} (hk : bm.length = k) (l : List Nat) :
    let m := l.filter (fun c => !(base + first ≤ c && c < base + min count (first + 8 * k) : Bool)) ++ bitmapCells base count first bm
    (∀ i, i < 8 * k → first + i < count → (base + first + i ∈ m ↔ (byteAt bm (i / 8)).testBit (i % 8) = true)) ∧
    ∀ c, (c < base + first ∨ base + first + 8 * k ≤ c ∨ base + count ≤ c) → (c ∈ m ↔ c ∈ l) := by
  subst hk
  intro m
  have hm : ∀ c, c ∈ m ↔ (c ∈ l ∧ !(base + first ≤ c && c < base + min count (first + 8 * bm.length) : Bool)) ∨
      ∃ i < 8 * bm.length, (first + i < count ∧ (byteAt bm (i / 8)).testBit (i % 8) = true) ∧ base + first + i = c := fun c =>
    List.mem_append.trans (or_congr List.mem_filter mem_bitmapCells)
  constructor
  · intro i hi hc
    rw [hm]
    constructor
    · rintro (⟨_, h⟩ | ⟨j, _, ⟨_, hb⟩, hj⟩)
      · simp at h
        omega
      · obtain rfl : j = i := by omega
        exact hb
    · exact fun hb => .inr ⟨i, hi, ⟨hc, hb⟩, rfl⟩
  · intro c hout
    rw [hm]
    constructor
    · rintro (⟨h, _⟩ | ⟨i, hi, ⟨hc, _⟩, rfl⟩)
      · exact h
      · omega
    · intro h
      refine .inl ⟨h, ?_⟩
      simp
      omega

omit hn in
theorem byteAt_slice (b : Bytes) (off : Nat) {k j : Nat} (h : j < k) : byteAt (slice b off k) j = byteAt b (off + j) := by
  unfold byteAt slice
  simp [h]

omit hn in
theorem length_slice {b : Bytes} {off k : Nat} (h : off + k ≤ b.length) : (slice b off k).length = k := by
  simp [slice]
  omega

theorem mapTaken_calm : Calm coreOf n s (mapTaken s n p a) := by
  unfold mapTaken
  split
  · refine .ite (((answered_spec hn s p).1.view fun x => x.1).trans (Calm.trans ?_ (calm_takeFaultMap (p := p) hn _ a).core)) (.refl s)
    exact .of_eq rfl rfl
  · exact .refl s

/-- A part of the cell fault map is `m` within `first` and its end, and as it was elsewhere (R259). -/
def Rewrites (base count first k : Nat) (bit : Nat → Bool) (l m : List Nat) : Prop :=
  (∀ i, i < 8 * k → first + i < count → (base + first + i ∈ m ↔ bit i = true)) ∧
    ∀ c, (c < base + first ∨ base + first + 8 * k ≤ c ∨ base + count ≤ c) → (c ∈ m ↔ c ∈ l)

omit hn in
theorem rewrites_slice {b : Bytes} {off k : Nat} (h : off + k ≤ b.length) (base count first : Nat) (l : List Nat) :
    Rewrites base count first k (fun i => (byteAt b (off + i / 8)).testBit (i % 8)) l
      (l.filter (fun c => !(base + first ≤ c && c < base + min count (first + 8 * k) : Bool)) ++ bitmapCells base count first (slice b off k)) := by
  obtain ⟨h1, h2⟩ := mem_rewritten (base := base) (count := count) (first := first) (length_slice h) l
  refine ⟨fun i hi hc => ?_, h2⟩
  rw [h1 i hi hc, byteAt_slice b off (by omega)]

/-- A FAULT_MAP that answers its request rewrites its part of both lists. -/
theorem mapTaken_spec {s : State} (hp : p < 16) (hq : nat s (kFault n 1) ≠ 3) {r : TxRec} (h : awaited s n p 0x22 = some r) (ha : a.take 3 = r.payload.take 3)
    (hlen : a.length = 4 + 2 * byteAt a 2) : let t := mapTaken s n p a
    let base := nat s (kDriver (16 * n + p) 3)
    let count := nat s (kDriver (16 * n + p) 4)
    (pos t n p).request = none ∧
      Rewrites base count (fieldAt a 0 2) (byteAt a 2) (fun i => (byteAt a (4 + i / 8)).testBit (i % 8)) s.lanes.opens t.lanes.opens ∧
      Rewrites base count (fieldAt a 0 2) (byteAt a 2) (fun i => (byteAt a (4 + byteAt a 2 + i / 8)).testBit (i % 8)) s.lanes.shorts t.lanes.shorts := by
  obtain ⟨hc, hnone⟩ := answered_spec hn s p
  have hst := hc hq
  have hq1 : nat (answered s n p) (kFault n 1) ≠ 3 := by
    rw [hst.nat_eq (.inl rfl)]
    exact hq
  have hmap := calm_takeFaultMap (p := p) hn (answered s n p) a hq1
  have hkey : ∀ {sub}, sub < 0xA → nat (answered s n p) (kDrv n p sub) = nat s (kDriver (16 * n + p) sub) := fun hs =>
    hst.nat_eq (isBurstReg_driver (d := 16 * n + p) (by omega) (.inl hs))
  have hopens : (answered s n p).lanes.opens = s.lanes.opens := congrArg (fun x => x.2.1.2.2.1) hst.same
  have hshorts : (answered s n p).lanes.shorts = s.lanes.shorts := congrArg (fun x => x.2.1.2.2.2) hst.same
  have htaken : mapTaken s n p a = takeFaultMap (answered s n p) n p a := by
    unfold mapTaken
    rw [h]
    exact if_pos ha
  intro t base count
  have htopens : t.lanes.opens = (mapped (answered s n p) n p a).lanes.opens := by
    rw [show t = _ from htaken]
    exact congrArg (fun x => x.1.1.2.1.2.2.1) hmap.same
  have htshorts : t.lanes.shorts = (mapped (answered s n p) n p a).lanes.shorts := by
    rw [show t = _ from htaken]
    exact congrArg (fun x => x.1.1.2.1.2.2.2) hmap.same
  have htreq : (pos t n p).request = (pos (answered s n p) n p).request := by
    rw [show t = _ from htaken]
    exact congrArg (fun x => x.1.2.1) hmap.same
  refine ⟨htreq.trans (hnone hq), ?_, ?_⟩
  · rw [htopens, mapped, hopens, hkey (by decide), hkey (by decide)]
    exact rewrites_slice (by omega) base count _ _
  · rw [htshorts, mapped, hshorts, hkey (by decide), hkey (by decide)]
    exact rewrites_slice (by omega) base count _ _

/-! #### FIRMWARE_ACK -/

/-- A driver's firmware load has ended with RESULT 3. -/
def firmwareDone (s : State) (n p : Nat) : State := setNum (putPos s n p { pos s n p with work := .done }) (kDrv n p 0xA) 3

/-- The blocks of an image from `start` on are queued for one driver. -/
def blocksQueued (s : State) (n p : Nat) (img : Bytes) (start : Nat) : State :=
  (fwBlocks (nat s (kDrv n p 9)) img (img.length / 1016 + 1) start).foldl (fun t x => queueControl t n p 0x30 x) s

/-- A driver's firmware load goes on with the blocks that it asks for, three times at most. -/
def firmwareAgain (s : State) (n p : Nat) (a : Bytes) : State :=
  match driverImage s (nat s (kDrv n p 9)) with
  | some img =>
      if nat s (kDrv n p 0xD) < 3 then
        queueControl (bump (blocksQueued s n p img (if byteAt a 2 = 1 then fieldAt a 4 4 else 0)) (kDrv n p 0xD)) n p 0x31 (fwStart (nat s (kDrv n p 9)) img)
      else fwFailed s n p
  | none => fwFailed s n p

/-- FIRMWARE_ACK as it is taken. -/
def firmwareTaken (s : State) (n p : Nat) (a : Bytes) : State :=
  if (awaited s n p 0x30).isSome then answered s n p
  else if (awaited s n p 0x31).isSome then
    if byteAt a 2 = 3 then firmwareDone (answered s n p) n p
    else if byteAt a 2 = 1 ∨ byteAt a 2 = 2 then firmwareAgain (answered s n p) n p a else answered s n p
  else s

theorem calm_firmwareAgain : Calm (burstPart n p) n s (firmwareAgain s n p a) := by
  have hbump : ∀ u, Calm (burstPart n p) n u (bump u (kDrv n p 0xD)) := fun u => calm_setNumDriver hn u _ _ (.inr rfl) _
  have hblocks : ∀ img start, Calm (burstPart n p) n s (blocksQueued s n p img start) := fun img start =>
    .foldl (.refl s) fun x _ u => calm_queueControl u p _ x
  unfold firmwareAgain
  split
  · exact .ite (((hblocks _ _).trans (hbump _)).trans (calm_queueControl _ p _ _)) (calm_fwFailed hn s p)
  · exact calm_fwFailed hn s p

theorem firmwareTaken_calm : Calm (modulePart n) n s (firmwareTaken s n p a) := by
  have h1 : Calm (modulePart n) n s (answered s n p) := (answered_spec hn s p).1
  have hset : ∀ u, Calm (burstPart n p) n u (setNum u (kDrv n p 0xA) 3) := fun u => calm_setNumDriver hn u _ _ (.inl rfl) 3
  exact .ite h1 (.ite (.ite (h1.trans ((calm_module_putPos _ p _).trans (Calm.module (hset _))))
    (.ite (h1.trans (Calm.module (calm_firmwareAgain hn _ p a))) h1)) (.refl s))

omit hn in
theorem awaited_type {s : State} {type : Nat} {r : TxRec} (h : awaited s n p type = some r) :
    ∃ c, (pos s n p).request = some c ∧ c.txr = r ∧ r.type = type := by
  unfold awaited at h
  obtain ⟨h1, h2⟩ := Option.filter_eq_some_iff.1 h
  obtain ⟨c, hc, rfl⟩ := Option.map_eq_some_iff.1 h1
  exact ⟨c, hc, rfl, by simpa using h2⟩

/-- RESULT 3 ends a driver's firmware load. -/
theorem firmwareTaken_done {s : State} (hq : nat s (kFault n 1) ≠ 3) {r : TxRec} (h : awaited s n p 0x31 = some r) (ha : byteAt a 2 = 3) :
    let t := firmwareTaken s n p a
    num t (kDrv n p 0xA) = 3 ∧ (pos t n p).work = .done ∧ (pos t n p).request = none := by
  obtain ⟨c, hc, rfl, htype⟩ := awaited_type p h
  have h30 : awaited s n p 0x30 = none := by simp [awaited, hc, htype]
  have htaken : firmwareTaken s n p a = firmwareDone (answered s n p) n p := by
    unfold firmwareTaken
    rw [h30, h, if_neg (by simp), if_pos (by simp), if_pos ha]
  have hpos : pos (firmwareDone (answered s n p) n p) n p = { pos (answered s n p) n p with work := .done } := by
    rw [firmwareDone, setNum, pos_setVal, pos_putPos, if_pos rfl]
  intro t
  rw [show t = _ from htaken, hpos]
  exact ⟨(num_setNum ..).trans (if_pos rfl), rfl, (answered_spec hn s p).2 hq⟩

end replies

/-! ### The rows of the return records (Table 9-8) -/

/-- What is left of a burst that is received as `r`, with the payload that is taken. -/
def burstEnds (take : State → Bytes → State) (r : State) : Option Bytes → State
  | some p => take r p
  | none => r

theorem status_goes {s r : State} {n : Fin 8} {b : Burst} {o : Option Bytes} (h : receiveBurst s n 0x81 b = (r, o)) :
    Goes (.status n b) s (burstEnds (fun u => takeStatus u n b.slot) r o) := by
  show execStatus n b s = _
  rw [execStatus, h]
  cases o with
  | none => rfl
  | some p => rfl

theorem configData_goes {s r : State} {n : Fin 8} {b : Burst} {o : Option Bytes} (h : receiveBurst s n 0x82 b = (r, o)) :
    Goes (.configData n b) s (burstEnds (fun u => configTaken u n b.slot) r o) := by
  show execConfigData n b s = _
  rw [execConfigData, h]
  cases o with
  | none => rfl
  | some p =>
    dsimp only [burstEnds]
    unfold configTaken
    cases awaited r n b.slot 0x21 with
    | none => rfl
    | some q => rfl

theorem faultMap_goes {s r : State} {n : Fin 8} {b : Burst} {o : Option Bytes} (h : receiveBurst s n 0x83 b = (r, o)) :
    Goes (.faultMap n b) s (burstEnds (fun u => mapTaken u n b.slot) r o) := by
  show execFaultMap n b s = _
  rw [execFaultMap, h]
  cases o with
  | none => rfl
  | some p =>
    dsimp only [burstEnds]
    unfold mapTaken
    cases awaited r n b.slot 0x22 with
    | none => rfl
    | some q => rfl

theorem discoverReply_goes {s r : State} {n : Fin 8} {b : Burst} {o : Option Bytes} (h : receiveBurst s n 0x84 b = (r, o)) :
    Goes (.discoverReply n b) s (burstEnds (fun u => takeReply u n b.slot) r o) := by
  show execDiscoverReply n b s = _
  rw [execDiscoverReply, h]
  cases o with
  | none => rfl
  | some p => rfl

theorem firmwareAck_goes {s r : State} {n : Fin 8} {b : Burst} {o : Option Bytes} (h : receiveBurst s n 0x85 b = (r, o)) :
    Goes (.firmwareAck n b) s (burstEnds (fun u => firmwareTaken u n b.slot) r o) := by
  show execFirmwareAck n b s = _
  rw [execFirmwareAck, h]
  cases o with
  | none => rfl
  | some p => rfl

/-- What a row leaves of the counts of an accepted burst. -/
def LeavesCounts (n : Nat) (s t : State) : Prop := nat s (kFault n 1) ≠ 3 → reg t (kLane n 9) = reg s (kLane n 9) ∧ reg t (kLane n 0xC) = reg s (kLane n 0xC)

theorem Calm.leavesCounts {α : Type} {f : State → α} {n : Nat} {s t : State} (h : Calm f n s t) : LeavesCounts n s t := fun hq =>
  ⟨(h hq).regs _ (.inr (.inr (.inl rfl))), (h hq).regs _ (.inr (.inr (.inr (.inl rfl))))⟩

theorem takeStatus_leavesCounts {n p : Nat} (hn : n < 8) (hp : p < 16) (s : State) (b : Bytes) : LeavesCounts n s (takeStatus s n p b) := fun hq => by
  have hk : ∀ {sub}, sub < 256 → @Ne Nat (kLane n sub) (kDrv n p 0xB) := by
    intro sub h
    unfold kLane kDrv kDriver
    omega
  obtain ⟨h, _⟩ := takeStatus_spec hn hp hq b
  exact ⟨h _ ⟨.inr (.inr (.inl rfl)), hk (by decide)⟩, h _ ⟨.inr (.inr (.inr (.inl rfl))), hk (by decide)⟩⟩

/-- What the claim says of a burst of any type. -/
def RowClauses (s : State) (n : Fin 8) (b : Burst) (c : Instr) (type : Nat) : Prop :=
  (laneState s n = 0 → Goes c s s) ∧
  (laneState s n ≠ 0 → b.queueFull = true → ∃ t, Goes c s t ∧ Raised s t 56 ∧ num t (kLane n 0xD) = (num s (kLane n 0xD) + 1) % 2 ^ 32) ∧
  (laneState s n ≠ 0 → b.queueFull = false → (b.at_ < (slotWindow s n b.slot).1 ∨ (slotWindow s n b.slot).2 < b.at_) →
    ∃ t, Goes c s t ∧ num t (kLane n 0xE) = (num s (kLane n 0xE) + 1) % 2 ^ 32 ∧ (pos t n b.slot).late = (pos s n b.slot).late + 1) ∧
  (laneState s n ≠ 0 → b.queueFull = false → (slotWindow s n b.slot).1 ≤ b.at_ → b.at_ ≤ (slotWindow s n b.slot).2 →
    (slotOwned s n b.slot = false ∨ burstOk s n type b = false) → ∃ t, Goes c s t ∧ num t (kLane n 0xD) = (num s (kLane n 0xD) + 1) % 2 ^ 32) ∧
  (BurstTaken s n type b → ∃ t, Goes c s t ∧ num t (kLane n 0xC) = (num s (kLane n 0xC) + 1) % 2 ^ 32 ∧
    (searchSlot s n ≠ some b.slot.val → bit t (kLane n 9) b.slot = true))

section rows
variable {s : State} {n : Fin 8} {b : Burst} (hq : nat s (kFault n 1) ≠ 3)
include hq

theorem quiet_accepted : nat (accepted s n b) (kFault n 1) ≠ 3 := by
  obtain ⟨⟨_, hregs⟩, _⟩ := accepted_spec n.isLt hq b
  have h : reg (accepted s n b) (kFault n 1) = reg s (kFault n 1) :=
    hregs _ ⟨.inl rfl, kFault_ne_kLane n.isLt (by decide)⟩ (kFault_ne_kLane n.isLt (by decide))
  unfold nat num
  rw [h]
  exact hq

/-- The clauses that the rows have in common, for one whose type takes a burst as `take`. -/
theorem burstRow {c : Instr} {type : Nat} {take : State → Bytes → State}
    (hgoes : ∀ {r o}, receiveBurst s n type b = (r, o) → Goes c s (burstEnds take r o))
    (htake : ∀ r p, LeavesCounts n r (take r p)) : RowClauses s n b c type := by
  refine ⟨fun h => hgoes (receiveBurst_of_stopped h), fun hl hf => ⟨_, hgoes (receiveBurst_of_full hl hf), fullBurst_spec n.isLt hq b.slot⟩,
    fun hl hf hw => ⟨_, hgoes (receiveBurst_of_late hl hf hw), lateBurst_spec n.isLt hq b.slot⟩,
    fun hl hf h1 h2 hu => ⟨_, hgoes (receiveBurst_of_unfit hl hf h1 h2 hu), num_discardBurst n.isLt s hq b.slot⟩, fun ht => ?_⟩
  obtain ⟨_, hcount, hseen⟩ := accepted_spec n.isLt hq b
  obtain ⟨h9, hC⟩ := htake (accepted s n b) (burstPayload b) (quiet_accepted hq)
  refine ⟨_, hgoes (receiveBurst_of_taken ht), (congrArg Val.toInt hC).trans hcount, fun hs => ?_⟩
  rw [← hseen hs]
  exact congrArg (fun v => (Val.toInt v).toNat.testBit b.slot) h9

theorem burstRows : ForBurstRows n b (RowClauses s n b) :=
  ⟨burstRow hq status_goes fun r p => takeStatus_leavesCounts n.isLt b.slot.isLt r p,
    burstRow hq configData_goes fun r p => (configTaken_calm n.isLt r b.slot p).leavesCounts,
    burstRow hq faultMap_goes fun r p => (mapTaken_calm n.isLt r b.slot p).leavesCounts,
    burstRow hq discoverReply_goes fun r p => (calm_takeReply n.isLt r b.slot p).leavesCounts,
    burstRow hq firmwareAck_goes fun r p => (firmwareTaken_calm n.isLt r b.slot p).leavesCounts⟩

end rows

/-! ### What each type of burst leaves -/

section results
variable {s : State} {n : Fin 8} {b : Burst} (hq : nat s (kFault n 1) ≠ 3)
include hq

theorem accepted_driver : (pos (accepted s n b) n b.slot).request = (pos s n b.slot).request ∧ (pos (accepted s n b) n b.slot).sent = (pos s n b.slot).sent ∧
    (pos (accepted s n b) n b.slot).statusAt = (pos s n b.slot).statusAt ∧ (lane (accepted s n b) n).version = (lane s n).version ∧
    (lane (accepted s n b) n).disc = (lane s n).disc ∧ (accepted s n b).lanes.opens = s.lanes.opens ∧ (accepted s n b).lanes.shorts = s.lanes.shorts ∧
    (accepted s n b).clk = s.clk ∧ (accepted s n b).meter.lum = s.meter.lum := by
  obtain ⟨⟨h, _⟩, _⟩ := accepted_spec n.isLt hq b
  simp only [driverPart, modulePart, Prod.mk.injEq] at h
  obtain ⟨⟨_, ⟨hclk, hlum, hopens, hshorts⟩, hversion, hdisc⟩, hrequest, hsent, hat, _⟩ := h
  exact ⟨hrequest, hsent, hat, hversion, hdisc, hopens, hshorts, hclk, hlum⟩

theorem accepted_register {sub : Nat} (h : sub < 0xA) : nat (accepted s n b) (kDriver (16 * n.val + b.slot.val) sub) = nat s (kDriver (16 * n.val + b.slot.val) sub) := by
  have hk : ∀ {x}, x < 256 → @Ne Nat (kDriver (16 * n.val + b.slot.val) sub) (kLane n x) := by
    intro x hx
    unfold kDriver kLane
    omega
  obtain ⟨⟨_, hregs⟩, _⟩ := accepted_spec n.isLt hq b
  have hr : reg (accepted s n b) (kDriver (16 * n.val + b.slot.val) sub) = reg s (kDriver (16 * n.val + b.slot.val) sub) :=
    hregs _ ⟨isBurstReg_driver (by omega) (.inl h), hk (by decide)⟩ (hk (by decide))
  unfold nat num
  rw [hr]

/-- A STATUS becomes the driver's last, ends what it acknowledges, and adds to its luminaire's energy. -/
theorem status_spec (ht : BurstTaken s n 0x81 b) :
    let p := burstPayload b
    let d := 16 * n.val + b.slot.val
    ∃ t, Goes (.status n b) s t ∧ reg t (kDriver d 0xB) = .bytes (p ++ List.replicate (24 - p.length) 0) ∧
      (pos t n b.slot).statusAt = some s.clk ∧ (pos t n b.slot).trip = fieldAt p 14 8 ∧
      ((byteAt p 10).testBit 5 = false ∨ (lane s n).version = 1 → (pos t n b.slot).sent =
        (pos s n b.slot).sent.filter fun c => decide (32768 ≤ (fieldAt p 8 2 + 65536 - c.txr.seq.getD 0) % 65536)) ∧
      ∀ t0, (pos s n b.slot).statusAt = some t0 → nat s (kDriver d 2) ≤ 127 →
        tabFind t.meter.lum (nat s (kDriver d 2)) = some ((tabFind s.meter.lum (nat s (kDriver d 2))).getD 0 +
          mkRat (fieldAt p 4 2 * fieldAt p 6 2 * min (s.clk - t0) (msec 10) : Nat) (125000000 * 3600)) := by
  intro p d
  obtain ⟨_, hsent, hat, hversion, _, _, _, hclk, hlum⟩ := accepted_driver (b := b) hq
  obtain ⟨_, h1, h2, h3, h4, h5⟩ := takeStatus_spec n.isLt b.slot.isLt (quiet_accepted (b := b) hq) p
  rw [hclk] at h2
  rw [hversion, hsent] at h4
  rw [hat, accepted_register hq (by decide), hlum, hclk] at h5
  exact ⟨_, status_goes (receiveBurst_of_taken ht), h1, h2, h3, h4, h5⟩

theorem awaited_accepted (type : Nat) : awaited (accepted s n b) n b.slot type = awaited s n b.slot type := by
  obtain ⟨hrequest, _⟩ := accepted_driver (b := b) hq
  exact awaited_congr hrequest type

theorem configData_spec {r : TxRec} (ht : BurstTaken s n 0x82 b) (ha : awaited s n b.slot 0x21 = some r) (hp : (burstPayload b).take 2 = r.payload.take 2) :
    ∃ t, Goes (.configData n b) s t ∧ (pos t n b.slot).request = none :=
  ⟨_, configData_goes (receiveBurst_of_taken ht), configTaken_answers n.isLt b.slot _ (quiet_accepted hq) ((awaited_accepted hq _).trans ha) hp⟩

omit hq in
/-- The payload of a burst that passes its checks passes the rule of its type. -/
theorem burstLenOk_of_taken {type : Nat} (ht : BurstTaken s n type b) : burstLenOk s n b.slot type (burstPayload b) = true := by
  obtain ⟨_, _, _, _, _, hok⟩ := ht
  unfold burstOk at hok
  simp only [Bool.and_eq_true] at hok
  rw [burstPayload, ← hok.2, List.drop_take, Nat.add_sub_cancel_left]

/-- A FAULT_MAP rewrites its part of the cell fault map. -/
theorem faultMap_spec {r : TxRec} (ht : BurstTaken s n 0x83 b) (ha : awaited s n b.slot 0x22 = some r) (hp : (burstPayload b).take 3 = r.payload.take 3) :
    let p := burstPayload b
    let d := 16 * n.val + b.slot.val
    ∃ t, Goes (.faultMap n b) s t ∧ (pos t n b.slot).request = none ∧
      Rewrites (nat s (kDriver d 3)) (nat s (kDriver d 4)) (fieldAt p 0 2) (byteAt p 2) (fun i => (byteAt p (4 + i / 8)).testBit (i % 8)) s.lanes.opens t.lanes.opens ∧
      Rewrites (nat s (kDriver d 3)) (nat s (kDriver d 4)) (fieldAt p 0 2) (byteAt p 2) (fun i => (byteAt p (4 + byteAt p 2 + i / 8)).testBit (i % 8))
        s.lanes.shorts t.lanes.shorts := by
  intro p d
  have hlen : p.length = 4 + 2 * byteAt p 2 := by
    have h := burstLenOk_of_taken ht
    simpa [burstLenOk] using h
  obtain ⟨_, _, _, _, _, hopens, hshorts, _⟩ := accepted_driver (b := b) hq
  obtain ⟨h1, h2, h3⟩ := mapTaken_spec n.isLt b.slot p b.slot.isLt (quiet_accepted (b := b) hq) ((awaited_accepted hq _).trans ha) hp hlen
  rw [accepted_register hq (by decide), accepted_register hq (by decide), hopens] at h2
  rw [accepted_register hq (by decide), accepted_register hq (by decide), hshorts] at h3
  exact ⟨_, faultMap_goes (receiveBurst_of_taken ht), h1, h2, h3⟩

theorem discoverReply_spec (ht : BurstTaken s n 0x84 b) (hs : searchSlot s n = some b.slot.val) :
    ∃ t, Goes (.discoverReply n b) s t ∧ ((lane t n).disc.bind (·.reply)) = some (burstPayload b) := by
  obtain ⟨_, _, _, _, hdisc, _⟩ := accepted_driver (b := b) hq
  refine ⟨_, discoverReply_goes (receiveBurst_of_taken ht), ?_⟩
  have hs1 : searchSlot (accepted s n b) n = some b.slot.val := by
    rw [searchSlot, hdisc]
    exact hs
  have htaken : takeReply (accepted s n b) n b.slot (burstPayload b) = putLane (accepted s n b) n { lane (accepted s n b) n with
      disc := (lane (accepted s n b) n).disc.map fun d => { d with reply := some (burstPayload b) } } := if_pos hs1
  obtain ⟨d, hd, _⟩ := Option.bind_eq_some_iff.1 hs
  show ((lane (takeReply (accepted s n b) n b.slot (burstPayload b)) n).disc.bind (·.reply)) = _
  rw [htaken, lane_putLane_self, hdisc, hd]
  rfl

theorem firmwareAck_spec {r : TxRec} (ht : BurstTaken s n 0x85 b) (ha : awaited s n b.slot 0x31 = some r) (hp : byteAt (burstPayload b) 2 = 3) :
    ∃ t, Goes (.firmwareAck n b) s t ∧ num t (kDriver (16 * n.val + b.slot.val) 0xA) = 3 ∧ (pos t n b.slot).work = .done ∧ (pos t n b.slot).request = none :=
  ⟨_, firmwareAck_goes (receiveBurst_of_taken ht), firmwareTaken_done n.isLt b.slot _ (quiet_accepted hq) ((awaited_accepted hq _).trans ha) hp⟩

end results

/-! ### A search goes on (R254, R255) -/

/-- A search that goes on in half of what collided, or with what the reply found. -/
def searchWatched (d : Disc) (x len : Nat) : Disc :=
  match d.reply with
  | some r => { d with search := none, found := d.found ++ [r] }
  | none =>
      if d.collided ∧ len < 64 then { d with search := none, stack := (x, len + 1) :: (x + 2 ^ (63 - len), len + 1) :: d.stack }
      else { d with search := none }

section search
variable {s : State} {n : Fin 8} {d : Disc}

theorem searchWatchEnd_goes_of_none (h : (lane s n).disc = none) : Goes (.searchWatchEnd n) s s := by
  show execSearchWatchEnd n s = _
  rw [execSearchWatchEnd, h]

theorem searchWatchEnd_goes_of_idle (h : (lane s n).disc = some d) (hs : d.search = none) : Goes (.searchWatchEnd n) s s := by
  show execSearchWatchEnd n s = _
  rw [execSearchWatchEnd, h]
  dsimp only
  rw [hs]

theorem searchWatchEnd_goes (h : (lane s n).disc = some d) {x len : Nat} (hs : d.search = some (x, len)) :
    Goes (.searchWatchEnd n) s (searchNext s n (searchWatched d x len)) := by
  show execSearchWatchEnd n s = _
  rw [execSearchWatchEnd, h]
  dsimp only
  rw [hs]
  unfold searchWatched
  cases d.reply with
  | some r => rfl
  | none =>
    dsimp only
    split
    · rfl
    · rfl

theorem disc_enqueue (s : State) (n : Nat) (r : TxRec) : (lane (enqueue s n r) n).disc = (lane s n).disc := by
  rw [lane_enqueue]

/-- The next half is searched. -/
theorem searchNext_of_stack (s : State) (n : Nat) (d : Disc) {y m : Nat} {rest : List (Nat × Nat)} (h : d.stack = (y, m) :: rest) :
    (lane (searchNext s n d) n).disc = some { d with search := some (y, m), stack := rest, reply := none, collided := false } ∧
    Queued s (searchNext s n d) n 0xFF 0x40 [[1, BitVec.ofNat 8 d.slot, BitVec.ofNat 8 m, 0] ++ leBytes 8 y] := by
  unfold searchNext
  rw [h]
  dsimp only
  constructor
  · rw [queueState, disc_enqueue, lane_putLane_self]
  · refine ⟨[{ type := 0x40, dest := 0xFF, payload := [1, BitVec.ofNat 8 d.slot, BitVec.ofNat 8 m, 0] ++ leBytes 8 y }], ?_, rfl, by simp⟩
    rw [queueState, lane_enqueue, lane_putLane_self]

theorem lane_addUnknown (s : State) (m : Nat) (r : Bytes) (n : Nat) : lane (addUnknown s m r) n = lane s n := by
  unfold addUnknown
  dsimp only
  split
  · rw [lane, setVal_lanes]
    rfl
  · rfl

/-- With nothing left to search the discovery is over. -/
theorem searchNext_of_empty (s : State) (n : Nat) (d : Disc) (h : d.stack = []) : (lane (searchNext s n d) n).disc = none := by
  unfold searchNext
  rw [h]
  dsimp only
  refine (foldl_keeps (fun u => (lane u n).disc) (fun u r => ?_) _ _).trans ?_
  · split
    · rw [queueState, disc_enqueue, lane_putPos]
    · rw [lane_addUnknown]
  · rw [lane_putLane_self]

/-- What the end of a search's watch leaves. -/
theorem searchWatchEnd_spec (h : (lane s n).disc = some d) {x len : Nat} (hs : d.search = some (x, len)) :
    (d.reply = none → d.collided = true → len < 64 → ∃ t, Goes (.searchWatchEnd n) s t ∧
      (lane t n).disc = some { d with search := some (x, len + 1), stack := (x + 2 ^ (63 - len), len + 1) :: d.stack, reply := none, collided := false } ∧
      Queued s t n 0xFF 0x40 [[1, BitVec.ofNat 8 d.slot, BitVec.ofNat 8 (len + 1), 0] ++ leBytes 8 x]) ∧
    (∀ r y m rest, d.reply = some r → d.stack = (y, m) :: rest → ∃ t, Goes (.searchWatchEnd n) s t ∧
      (lane t n).disc = some { d with search := some (y, m), stack := rest, reply := none, collided := false, found := d.found ++ [r] }) ∧
    (d.stack = [] → ((∃ r, d.reply = some r) ∨ d.collided = false ∨ 64 ≤ len) → ∃ t, Goes (.searchWatchEnd n) s t ∧ (lane t n).disc = none) := by
  have hgoes := searchWatchEnd_goes h hs
  refine ⟨fun hr hc hl => ?_, fun r y m rest hr hstack => ?_, fun hstack hend => ?_⟩
  · have hw : searchWatched d x len = { d with search := none, stack := (x, len + 1) :: (x + 2 ^ (63 - len), len + 1) :: d.stack } := by
      rw [searchWatched, hr]
      exact if_pos ⟨hc, hl⟩
    rw [hw] at hgoes
    exact ⟨_, hgoes, searchNext_of_stack s n _ rfl⟩
  · have hw : searchWatched d x len = { d with search := none, found := d.found ++ [r] } := by rw [searchWatched, hr]
    rw [hw] at hgoes
    exact ⟨_, hgoes, (searchNext_of_stack s n { d with search := none, found := d.found ++ [r] } hstack).1⟩
  · refine ⟨_, hgoes, searchNext_of_empty s n _ ?_⟩
    unfold searchWatched
    cases hr : d.reply with
    | some r => exact hstack
    | none =>
      have hno : ¬(d.collided = true ∧ len < 64) := by
        rintro ⟨hc, hl⟩
        obtain ⟨r, h⟩ | h | h := hend
        · rw [hr] at h
          cases h
        · rw [hc] at h
          cases h
        · omega
      dsimp only
      rw [if_neg hno]
      exact hstack

end search

/-! ### DISCOVER_LANE and FAULT_CELL_CLEAR -/

/-- A 16-bit value of a command is two bytes. -/
theorem length_commanded {s : State} {q : Req} {k : Nat} {v : Bytes} {e : Entry} {m : Nat} (hk : IsKey k) (h : Commanded s q k v) (ho : isOem (k / 256) = false)
    (h0 : k % 256 ≠ 0) (he : entryOf (k / 256) (k % 256) = some e) (hm : e.ty.size = some m) : v.length = m := by
  obtain ⟨d, hd, _, hlen, _⟩ := checkWrite_eq_zero h.2.1
  have hty : d.ty = e.ty := by
    rw [refOf_index hk, refOf_sub, declOf] at hd
    split at hd
    · cases hd
    · rw [if_neg (by simp [ho]), he, Option.map_some, Option.some.injEq] at hd
      subst hd
      rfl
  unfold lengthError at hlen
  rw [hty, hm] at hlen
  dsimp only at hlen
  split at hlen
  · assumption
  · exact absurd hlen (by decide)

/-- What a command leaves of the lanes. -/
theorem lanes_commanded {s : State} {q : Req} {k : Nat} {v : Bytes} (hk : IsKey k) (h : Commanded s q k v) :
    (serveCommandOf s q k v).lanes = (applyWrite (begun s q) (itemOf s q k v)).lanes := (commanded_concludes hk h).field State.lanes

section commands
variable {s : State} {q : Req}

theorem discoverItem {b : Byte} (h : Commanded s q 0x320007 [b]) : (itemOf s q 0x320007 [b]).2 = .num (leNat [b] : Nat) := by
  obtain ⟨e, he, hty, hrng⟩ : ∃ e, entryOf (0x320007 / 256) (0x320007 % 256) = some e ∧ e.ty = .u8 ∧ e.rng = .range 0 7 := ⟨_, rfl, rfl, rfl⟩
  rw [itemOf_val (by unfold IsKey; decide) h (by decide) (by decide) he, hty, hrng]
  rfl

theorem lane_discoverLane (s : State) (n : Nat) : lane (discoverLane s n) n =
    { lane s n with disc := some { wait := 5 }, buffer := (lane s n).buffer ++ [{ type := 0x40, dest := 0xFF, payload := List.replicate 12 0 }] } := by
  have hdrop : lane (dropUnknown (putLane s n { lane s n with disc := some { wait := 5 } }) n) n = { lane s n with disc := some { wait := 5 } } := by
    rw [dropUnknown, lane, setVal_lanes]
    exact lane_putLane_self s n _
  rw [discoverLane, queueState, lane_enqueue, hdrop]

theorem discoverLane_spec {n : Fin 8} (h : Commanded s q 0x320007 [BitVec.ofNat 8 n]) : ∃ t, Goes (.discoverLane q [BitVec.ofNat 8 n]) s t ∧
    ((lane t n).disc.map (·.wait)) = some 5 ∧ Queued s t n 0xFF 0x40 [List.replicate 12 0] := by
  have hval : (Val.num (leNat [BitVec.ofNat 8 n.val] : Nat)).toInt.toNat = n.val := by
    simp [leNat, Val.toInt]
    omega
  have hrun : applyWrite (begun s q) (itemOf s q 0x320007 [BitVec.ofNat 8 n]) = discoverLane (begun s q) n := by
    rw [applyWrite_of_commanded (by unfold IsKey; decide) h (by decide), discoverItem h]
    exact congrArg (discoverLane (begun s q)) hval
  have hlane : lane (serveCommandOf s q 0x320007 [BitVec.ofNat 8 n]) n = lane (discoverLane (begun s q) n) n := by
    rw [lane, lanes_commanded (by unfold IsKey; decide) h, hrun]
    rfl
  rw [lane_discoverLane] at hlane
  refine ⟨_, rfl, ?_, [{ type := 0x40, dest := 0xFF, payload := List.replicate 12 0 }], ?_, rfl, by simp⟩
  · exact congrArg (fun l => l.disc.map (·.wait)) hlane
  · exact congrArg Lane.buffer hlane

theorem faultCellItem {v : Bytes} (h : Commanded s q 0x330002 v) : (itemOf s q 0x330002 v).2 = .num (fieldAt v 0 2 : Nat) := by
  obtain ⟨e, he, hty, hmask⟩ : ∃ e, entryOf (0x330002 / 256) (0x330002 % 256) = some e ∧ e.ty = .u16 ∧ ∀ x, maskVal e.rng x = x := ⟨_, rfl, rfl, fun _ => rfl⟩
  have hlen : v.length = 2 := length_commanded (by unfold IsKey; decide) h (by decide) (by decide) he (by rw [hty]; rfl)
  rw [itemOf_val (by unfold IsKey; decide) h (by decide) (by decide) he, hty, hmask, fieldAt, slice, List.drop_zero, List.take_of_length_le (by omega)]
  rfl

/-- FAULT_CLEAR is queued, and the cells of the map are cleared. -/
theorem faultCellClear_lists (s : State) (c : Nat) :
    (faultCellClear s c).lanes.opens = (if c = 0xFFFF then [] else s.lanes.opens.filter (· != c)) ∧
    (faultCellClear s c).lanes.shorts = if c = 0xFFFF then [] else s.lanes.shorts.filter (· != c) := by
  unfold faultCellClear
  extract_lets ds s1 s2
  have h1 : (s1.lanes.opens, s1.lanes.shorts) = (s.lanes.opens, s.lanes.shorts) := by
    refine foldl_keeps (fun u => (u.lanes.opens, u.lanes.shorts)) (fun u d => ?_) ds s
    split
    · rfl
    · rfl
  obtain ⟨hopens, hshorts⟩ := Prod.mk.inj h1
  rw [setNum_lanes, ← hopens, ← hshorts]
  exact ⟨rfl, rfl⟩

theorem applyWrite_faultCell (s : State) (c : Nat) : applyWrite s (0x330002, .num c) = faultCellClear s c := by
  have hin : isInput 0x330002 = true := by decide
  have hval : (Val.num c).toInt.toNat = c := rfl
  simp only [applyWrite, applyItem, hin, hval]
  norm_num

theorem faultCellClear_spec {v : Bytes} (h : Commanded s q 0x330002 v) : ∃ t, Goes (.faultCellClear q v) s t ∧
    t.lanes.opens = (if fieldAt v 0 2 = 0xFFFF then [] else s.lanes.opens.filter (· != fieldAt v 0 2)) ∧
    t.lanes.shorts = (if fieldAt v 0 2 = 0xFFFF then [] else s.lanes.shorts.filter (· != fieldAt v 0 2)) := by
  have hitem : itemOf s q 0x330002 v = (0x330002, .num (fieldAt v 0 2 : Nat)) := Prod.ext (itemOf_key s q (by unfold IsKey; decide) v) (faultCellItem h)
  have hlanes : (serveCommandOf s q 0x330002 v).lanes = (faultCellClear (begun s q) (fieldAt v 0 2)).lanes := by
    rw [lanes_commanded (by unfold IsKey; decide) h, hitem, applyWrite_faultCell]
  obtain ⟨h1, h2⟩ := faultCellClear_lists (begun s q) (fieldAt v 0 2)
  refine ⟨_, rfl, ?_, ?_⟩
  · rw [hlanes]
    exact h1
  · rw [hlanes]
    exact h2

end commands

/-- Settles O41: one lemma for what every accepted burst leaves, one for what each type does with it, and the halving of a search. -/
theorem bursts : Obligations.Bursts := by
  refine ⟨fun s n b hq => burstRows hq, fun s n b hq => ?_, fun s n => ?_, fun s q => ⟨fun n h => discoverLane_spec h, fun v h => faultCellClear_spec h⟩⟩
  · refine ⟨fun ht => status_spec hq ht, fun r ht ha hp => configData_spec hq ht ha hp, fun r ht ha hp => ?_, fun ht hs => discoverReply_spec hq ht hs,
      fun r ht ha hp => firmwareAck_spec hq ht ha hp⟩
    obtain ⟨t, hgoes, hrequest, ⟨hopen, hopenElse⟩, hshort, hshortElse⟩ := faultMap_spec hq ht ha hp
    exact ⟨t, hgoes, hrequest, fun i hi hc => ⟨hopen i hi hc, hshort i hi hc⟩, fun c hc => ⟨hopenElse c hc, hshortElse c hc⟩⟩
  · exact ⟨searchWatchEnd_goes_of_none, fun d hd hs => searchWatchEnd_goes_of_idle hd hs, fun d x len hd hs => searchWatchEnd_spec hd hs⟩

end Sys2Proof.Machine
end

section
open Sys2Proof.Claim
set_option Elab.async false
namespace Sys2Proof.Machine

/-! ## The state after the first power-on (O2) -/

/-- An engine that has done nothing reads 0 in its registers, P0 all ones (R185). -/
theorem sReg_fresh (r : Nat) : sReg {} r = 0 := ite_self _

theorem pReg_fresh (r : Nat) : pReg {} r = if r = 0 then 0xFF else 0 := rfl

theorem resetForm : ResetForm := ⟨wf_nil, rfl, fun _ => rfl⟩

theorem resetRegisters : ResetRegisters :=
  ⟨rfl, rfl, fun _ => rfl, fun _ _ r _ _ _ => ⟨rfl, sReg_fresh r, rfl, rfl, pReg_fresh r, rfl⟩⟩

end Sys2Proof.Machine

namespace Sys2Proof

/-- Settles O2: at power-on nothing is listed, so every reader answers its default. -/
theorem resetState : Obligations.ResetState := ⟨Machine.resetForm, Machine.resetRegisters⟩

end Sys2Proof
end

section
open Sys2Proof.Claim
set_option Elab.async false
namespace Sys2Proof.Machine

/-! ## The commands of the module (O30) -/

/-- What applying a command of a plain entry leaves, by its action; the answer then changes none of the module's own state. -/
theorem commanded_runs {s : State} {q : Req} {k : Nat} {v : Bytes} {u : State} (hk : IsKey k) (hi : isInput k = false) (h : Commanded s q k v)
    (hu : runCommand (begun s q) (k / 256) (k % 256) (itemOf s q k v).2 = u) : Concluded u (serveCommandOf s q k v) := by
  have hc := commanded_concludes hk h
  rwa [applyWrite_of_commanded hk h hi, hu] at hc

/-- START, STOP and RESTART of a block: a command of one byte from 1 to 3, the first sub-index of entry `idx`. -/
def ControlEntry (k idx : Nat) : Prop :=
  k < 2 ^ 24 ∧ isInput k = false ∧ isOem (k / 256) = false ∧ k % 256 = 1 ∧ k / 256 = idx ∧
    (entryOf (k / 256) (k % 256)).map (fun e => (e.ty, e.rng)) = some (.u8, .range 1 3)

/-- What the byte of such a command acts on is the state in which its request has begun. -/
theorem controlled {s : State} {q : Req} {k idx : Nat} {b : Byte} {u : State} (hk : ControlEntry k idx) (h : Commanded s q k [b])
    (hu : runCommand (begun s q) idx 1 (.num (leNat [b] : Nat)) = u) : Concluded u (serveCommandOf s q k [b]) := by
  obtain ⟨hkey, hi, ho, hsub, hidx, hentry⟩ := hk
  obtain ⟨e, he, hp⟩ := Option.map_eq_some_iff.1 hentry
  have hitem : (itemOf s q k [b]).2 = .num (leNat [b] : Nat) := by
    obtain ⟨hty, hrng⟩ := Prod.mk.inj hp
    rw [itemOf_val hkey h ho (by omega) he, hty, hrng]
    rfl
  refine commanded_runs hkey hi h ?_
  rw [hsub, hidx, hitem]
  exact hu

/-- A clear of a block's counters: sub-index `sub` of entry `idx`. -/
def ClearEntry (k idx sub : Nat) : Prop := k < 2 ^ 24 ∧ isInput k = false ∧ k % 256 = sub ∧ k / 256 = idx

theorem clearCommanded {s : State} {q : Req} {k idx sub : Nat} {v : Bytes} {u : State} (hk : ClearEntry k idx sub) (h : Commanded s q k v)
    (hu : ∀ x, runCommand (begun s q) idx sub x = u) : Concluded u (serveCommandOf s q k v) := by
  obtain ⟨hkey, hi, hsub, hidx⟩ := hk
  refine commanded_runs hkey hi h ?_
  rw [hsub, hidx]
  exact hu _

theorem writeBookmark_start (s : State) (b : Bookmark) : (writeBookmark s b).start = { s.start with bookmark := b } := by
  unfold writeBookmark
  dsimp only
  split_ifs <;> rfl

section module
variable {s : State} {q : Req}

theorem restartItem {b : Byte} (h : Commanded s q 0x104001 [b]) : (itemOf s q 0x104001 [b]).2 = .num (leNat [b] : Nat) := by
  obtain ⟨e, he, hty, hmask⟩ : ∃ e, entryOf (0x104001 / 256) (0x104001 % 256) = some e ∧ e.ty = .u8 ∧ ∀ x, maskVal e.rng x = x :=
    ⟨_, rfl, rfl, fun _ => rfl⟩
  rw [itemOf_val (by unfold IsKey; decide) h (by decide) (by decide) he, hty, hmask]
  rfl

/-- A reset is pending and ordered: the module shows it, its recorder is off. -/
theorem orderReset_resetPending {u : State} (ho : u.start.ordered = none) (cause detail : Nat) :
    orderReset (resetPending u) cause detail =
      { resetPending u with start := { u.start with ordered := some (cause, detail) } } := by
  have hs : (resetPending u).start = u.start := resetPending_start u
  rw [orderReset, hs, ho]

theorem pendingReset_spec {u t : State} {cause detail : Nat} (ho : u.start.ordered = none) (h : Concluded (orderReset (resetPending u) cause detail) t) :
    num t kModuleState = 3 ∧ recState t = 0 ∧ t.start = { u.start with ordered := some (cause, detail) } := by
  rw [orderReset_resetPending ho] at h
  have hstate : num (resetPending u) kModuleState = 3 := by
    rw [resetPending, num_setNum, if_neg (by decide), num_setNum, if_pos rfl]
  have hrec : num (resetPending u) kRecState = 0 := by rw [resetPending, num_setNum, if_pos rfl]
  exact ⟨(h.num_eq (by decide)).trans hstate, congrArg Int.toNat ((h.num_eq (by decide)).trans hrec), h.field State.start⟩

theorem restart_spec (h : Commanded s q 0x104001 [1]) (ho : s.start.ordered = none) :
    ∃ t, Goes (.restart q) s t ∧ num t kModuleState = 3 ∧ recState t = 0 ∧ t.start.ordered = some (5, 1) := by
  have hc := commanded_runs (by unfold IsKey; decide) (by decide) h (u := orderReset (resetPending (begun s q)) 5 1) (by rw [restartItem h]; rfl)
  obtain ⟨hstate, hrec, hstart⟩ := pendingReset_spec (u := begun s q) ho hc
  exact ⟨_, rfl, hstate, hrec, by rw [hstart]⟩

theorem restartSafe_spec (h : Commanded s q 0x104001 [2]) (ho : s.start.ordered = none) :
    ∃ t, Goes (.restartSafe q) s t ∧ num t kModuleState = 3 ∧ recState t = 0 ∧ t.start.ordered = some (5, 2) ∧ t.start.bookmark.safeRequest = true := by
  have hc := commanded_runs (by unfold IsKey; decide) (by decide) h (u := orderReset (resetPending (requestSafe (begun s q))) 5 2)
    (by rw [restartItem h]; rfl)
  have hsafe : (requestSafe (begun s q)).start = { s.start with bookmark := { s.start.bookmark with safeRequest := true } } := writeBookmark_start _ _
  obtain ⟨hstate, hrec, hstart⟩ := pendingReset_spec (by rw [hsafe, ho]) hc
  exact ⟨_, rfl, hstate, hrec, by rw [hstart], by rw [hstart, hsafe]⟩

theorem clearBookmark_start (s : State) : (clearBookmark s).start =
    { s.start with
      bookmark := { s.start.bookmark with failCounts := 0, altNext := 0, safeLatch := false }
      plan := if s.start.running = true then some (s.start.plan.getD s.start.bookmark) else s.start.plan } := by
  unfold clearBookmark
  dsimp only
  rw [writeBookmark_start]
  split <;> rfl

theorem bookmarkClear_spec (h : Commanded s q 0x102005 [1]) : ∃ t, Goes (.bookmarkClear q) s t ∧ t.start.bookmark.failCounts = 0 ∧
    t.start.bookmark.altNext = 0 ∧ t.start.bookmark.safeLatch = false ∧
    t.start.plan = if s.start.running = true then some (s.start.plan.getD s.start.bookmark) else s.start.plan := by
  have hc := commanded_runs (by unfold IsKey; decide) (by decide) h (u := clearBookmark (begun s q)) rfl
  have hstart : (serveCommandOf s q 0x102005 [1]).start = (clearBookmark (begun s q)).start := hc.field State.start
  rw [clearBookmark_start] at hstart
  exact ⟨_, rfl, by rw [hstart], by rw [hstart], by rw [hstart], by rw [hstart]; rfl⟩

theorem storeReset_spec (h : Commanded s q 0x105004 [1]) :
    ∃ t, Goes (.storeReset q) s t ∧ t.mram.store.resetAsked = true ∧ t.mram.store.home = s.mram.store.home := by
  have hc := commanded_runs (by unfold IsKey; decide) (by decide) h
    (u := { begun s q with mram := { s.mram with store := { s.mram.store with resetAsked := true } } }) rfl
  exact ⟨_, rfl, hc.field fun u => u.mram.store.resetAsked, hc.field fun u => u.mram.store.home⟩

end module

/-- Settles O30: each command is one action on the state in which its request has begun, and its answer changes none of what the action leaves. -/
theorem moduleCommands : Obligations.ModuleCommands :=
  fun _ _ => ⟨restart_spec, restartSafe_spec, bookmarkClear_spec, storeReset_spec⟩

/-! ## The start (O34) -/

/-- A start in step 1, of a module whose first demand interval has counted one sample set. -/
def demandBegunInStep1 : State := { demandBegun with start := { held := false, running := true, next := 1 } }

/-- Refutes O34: the watchdog's reset of `demandBegunInStep1` leaves the demand record (`hardReset_demand`), so the block is not as after power-on. -/
theorem not_theStart : ¬ Obligations.TheStart := by
  rintro ⟨-, htimeouts⟩
  obtain ⟨-, hlimit⟩ := htimeouts demandBegunInStep1 { ok := false, altOk := false, code := 0, bootAlt := false }
  obtain ⟨t, hgoes, hreset⟩ := (hlimit rfl rfl rfl).1 (.inl rfl)
  obtain ⟨-, -, -, -, -, -, -, -, -, -, -, hmeter, -⟩ := hreset
  obtain rfl : hardReset demandBegunInStep1 4 1 false = t := Host.Outcome.next.inj hgoes
  have hn := congrArg (fun m : Meter => m.demand.n) hmeter
  rw [hardReset_demand] at hn
  exact absurd hn (by decide)

/-! ## The engines' control (O38) -/

/-! ### The registers and the record of an engine -/

theorem kEngine_ne {k a b : Nat} (h : a ≠ b) : @Ne Nat (kEngine k a) (kEngine k b) := by unfold kEngine; omega

theorem kEngine_ne_kRestartPending {k a : Nat} (ha : a < 256) : @Ne Nat (kEngine k a) kRestartPending := by unfold kEngine kRestartPending; omega

theorem kEngine_ne_step (k : Nat) : @Ne Nat 0x101803 (kEngine k 2) := by unfold kEngine; omega

theorem engineState_setEngineState (s : State) (k st : Nat) : engineState (setEngineState s k st) k = st :=
  congrArg Int.toNat ((num_setNum s (kEngine k 2) (kEngine k 2) st).trans (if_pos rfl))

@[simp] theorem engine_setEngineState (s : State) (k st j : Nat) : engine (setEngineState s k st) j = engine s j := engine_setNum s _ _ j

@[simp] theorem engineState_putEngine (s : State) (k : Nat) (e : Engine) (j : Nat) : engineState (putEngine s k e) j = engineState s j := rfl

@[simp] theorem engine_noteEnginePending (s : State) (j : Nat) : engine (noteEnginePending s) j = engine s j := by
  rw [engine, noteEnginePending, setBit_engines, ← engine]

@[simp] theorem engineState_noteEnginePending (s : State) (k : Nat) : engineState (noteEnginePending s) k = engineState s k :=
  congrArg Int.toNat (num_setBit_other s (kEngine_ne_kRestartPending (by decide)) _ _)

/-! ### Loading, stopping, starting (R163, R170, R183) -/

/-- What a load begins with depends on the set in force alone. -/
theorem loadTarget_congr {s t : State} (hm : t.mram = s.mram) (hd : storeDegraded t = storeDegraded s)
    (hu : t.engines.unverified = s.engines.unverified) (k : Nat) : loadTarget t k = loadTarget s k := by
  have ha : assignment t k = assignment s k := by unfold assignment domain; rw [hm, hd]
  unfold loadTarget
  rw [ha, hu]

theorem loadTarget_setEngineState (s : State) (k st j : Nat) : loadTarget (setEngineState s k st) j = loadTarget s j :=
  loadTarget_congr (setNum_mram s _ _)
    (congrArg (fun n : Int => n.toNat.testBit 6) ((num_setNum s (kEngine k 2) 0x101803 st).trans (if_neg (kEngine_ne_step k))))
    (congrArg Engines.unverified (setNum_engines s _ _)) j

theorem engineState_beginLoad (s : State) (k : Nat) : engineState (beginLoad s k) k = loadTarget s k := by
  rw [beginLoad, engineState_noteEnginePending, engineState_setEngineState]
  rfl

theorem engine_beginLoad (s : State) (k j : Nat) : engine (beginLoad s k) j =
    if j = k then { engine s k with startAsked := false, active := false, stall := none, held := false } else engine s j := by
  rw [beginLoad, engine_noteEnginePending, engine_setEngineState, engine_putEngine]

section stop
variable (s : State) (k : Nat)

/-- A STOP keeps the engine out of the pipeline (R171), and takes one that runs to STOPPING, one that loads to STOPPED. -/
theorem stopEngine_eq : stopEngine s k =
    let t := putEngine s k { engine s k with held := true }
    if engineState s k = 2 ∨ engineState s k = 3 then setEngineState t k 4
    else if engineState s k = 1 then setEngineState t k 0
    else if engineState s k = 4 then noteEnginePending (putEngine s k { engine s k with held := true, startAsked := false })
    else s := by
  unfold stopEngine
  dsimp only
  by_cases h : engineState s k = 2 ∨ engineState s k = 3
  · rw [if_pos h, if_pos h.symm]
  · rw [if_neg h, if_neg (mt Or.symm h)]

theorem engineState_stopEngine : engineState (stopEngine s k) k =
    if engineState s k = 2 ∨ engineState s k = 3 then 4 else if engineState s k = 1 then 0 else engineState s k := by
  rw [stopEngine_eq]
  split_ifs
  · exact engineState_setEngineState _ k 4
  · exact engineState_setEngineState _ k 0
  · rw [engineState_noteEnginePending, engineState_putEngine]
  · rfl

theorem stopEngine_other {j : Nat} (h : j ≠ k) : engine (stopEngine s k) j = engine s j := by
  rw [stopEngine_eq]
  split_ifs <;> simp [h]

/-- A STOP cancels the START that is pending (R183). -/
theorem stopEngine_startAsked (h : engineState s k = 4) : (engine (stopEngine s k) k).startAsked = false := by
  rw [stopEngine_eq, if_neg (by omega), if_neg (by omega), if_pos h, engine_noteEnginePending, engine_putEngine, if_pos rfl]

theorem loadTarget_stopEngine (h : engineState s k = 0 ∨ engineState s k = 1 ∨ engineState s k = 5) (j : Nat) :
    loadTarget (stopEngine s k) j = loadTarget s j := by
  rw [stopEngine_eq, if_neg (by omega), if_neg (c := engineState s k = 4) (by omega)]
  split
  · exact loadTarget_setEngineState _ k 0 j
  · rfl

end stop

section start
variable {s : State} {k : Nat}

theorem startEngine_safe (h : s.start.safe = true) : startEngine s k = s := by rw [startEngine, if_pos h]

theorem startEngine_eq (h : s.start.safe = false) : startEngine s k =
    if engineState s k = 0 ∨ engineState s k = 5 then beginLoad s k
    else if engineState s k = 4 then noteEnginePending (putEngine s k { engine s k with startAsked := true })
    else s := by
  rw [startEngine, if_neg (by simp [h])]

theorem engineState_startEngine (h : s.start.safe = false) :
    engineState (startEngine s k) k = if engineState s k = 0 ∨ engineState s k = 5 then loadTarget s k else engineState s k := by
  rw [startEngine_eq h]
  split_ifs
  · exact engineState_beginLoad s k
  · rw [engineState_noteEnginePending, engineState_putEngine]
  · rfl

theorem startEngine_other (s : State) {j : Nat} (hj : j ≠ k) : engine (startEngine s k) j = engine s j := by
  by_cases h : s.start.safe = true
  · rw [startEngine_safe h]
  · rw [startEngine_eq (by simpa using h)]
    split_ifs
    · rw [engine_beginLoad, if_neg hj]
    · rw [engine_noteEnginePending, engine_putEngine, if_neg hj]
    · rfl

/-- During STOPPING a START is pending (R74). -/
theorem startEngine_startAsked (h : s.start.safe = false) (h4 : engineState s k = 4) : (engine (startEngine s k) k).startAsked = true := by
  rw [startEngine_eq h, if_neg (by omega), if_pos h4, engine_noteEnginePending, engine_putEngine, if_pos rfl]

theorem stopEngine_start (s : State) (k : Nat) : (stopEngine s k).start = s.start := by
  rw [stopEngine_eq]
  split_ifs <;> simp [setEngineState, noteEnginePending]

/-- A RESTART of an engine that has a tick behind it stops it with a START pending; any other loads again. -/
theorem restartEngine_spec (h : s.start.safe = false) :
    ((engineState s k = 2 ∨ engineState s k = 3 ∨ engineState s k = 4) →
      engineState (restartEngine s k) k = 4 ∧ (engine (restartEngine s k) k).startAsked = true) ∧
    ((engineState s k = 0 ∨ engineState s k = 1 ∨ engineState s k = 5) → engineState (restartEngine s k) k = loadTarget s k) := by
  have hsafe : (stopEngine s k).start.safe = false := by rw [stopEngine_start, h]
  have hstop := engineState_stopEngine s k
  refine ⟨fun hs => ?_, fun hs => ?_⟩
  · by_cases h4 : engineState s k = 4
    · rw [restartEngine, if_pos h4]
      exact ⟨by rw [engineState_startEngine h, if_neg (by omega), h4], startEngine_startAsked h h4⟩
    · rw [if_pos (by omega)] at hstop
      rw [restartEngine, if_neg h4]
      exact ⟨by rw [engineState_startEngine hsafe, if_neg (by omega), hstop], startEngine_startAsked hsafe hstop⟩
  · have hstopped : engineState (stopEngine s k) k = 0 ∨ engineState (stopEngine s k) k = 5 := by
      rw [hstop]
      split_ifs <;> omega
    rw [restartEngine, if_neg (by show ¬engineState s k = 4; omega), engineState_startEngine hsafe, if_pos hstopped, loadTarget_stopEngine s k hs]

theorem restartEngine_other (s : State) {j : Nat} (hj : j ≠ k) : engine (restartEngine s k) j = engine s j := by
  unfold restartEngine
  split
  · exact startEngine_other s hj
  · rw [startEngine_other _ hj, stopEngine_other s k hj]

theorem clearEngineStats_engines (s : State) (k : Nat) : (clearEngineStats s k).engines = s.engines :=
  foldl_keeps State.engines (fun t _ => setNum_engines t _ _) _ s

theorem num_clearEngineStats (s : State) (k : Nat) : ∀ x ∈ [5, 6, 9, 0xA, 0xD], num (clearEngineStats s k) (kEngine k x) = 0 := by
  have h := fun {a b : Nat} (hab : a ≠ b) => kEngine_ne (k := k) hab
  simp [clearEngineStats, num_setNum, h]

end start

/-! ### The commands -/

section commands
variable {s : State} {q : Req}

theorem engine_concluded {u t : State} (h : Concluded u t) (j : Nat) : engine t j = engine u j := by
  rw [engine, h.field State.engines, ← engine]

theorem engineState_concluded {u t : State} (h : Concluded u t) (k : Fin 16) : engineState t k = engineState u k :=
  congrArg Int.toNat (h.num_eq (show @Ne Nat (kEngine k 2) kFrameErrors by unfold kEngine kFrameErrors; omega))

theorem engineControlEntry (k : Fin 16) : ControlEntry (kEngine k 1) (0x8000 + k) := by
  revert k
  unfold ControlEntry
  decide

theorem engineClearEntry (k : Fin 16) : ClearEntry (kEngine k 0xE) (0x8000 + k) 0xE := by
  revert k
  unfold ClearEntry
  decide

theorem runCommand_engine (u : State) (k : Fin 16) (sub : Nat) (v : Val) : runCommand u (0x8000 + k) sub v = commandEngines u (0x8000 + k) sub v.toInt := by
  have hk := k.isLt
  unfold runCommand
  dsimp only
  iterate 11 rw [if_neg (by omega)]
  rw [if_pos (by omega)]

theorem engineCommanded {k : Fin 16} {b : Byte} {u : State} (h : Commanded s q (kEngine k 1) [b])
    (hu : commandEngines (begun s q) (0x8000 + k) 1 (leNat [b] : Nat) = u) : Concluded u (serveCommandOf s q (kEngine k 1) [b]) :=
  controlled (engineControlEntry k) h ((runCommand_engine _ k 1 _).trans hu)

theorem commandEngines_sub (k : Fin 16) (u : State) (v : Int) : commandEngines u (0x8000 + k) 1 v =
    if v = 1 then stopEngine u k else if v = 2 then startEngine u k else restartEngine u k := by
  rw [commandEngines, if_pos rfl, Nat.add_sub_cancel_left]

theorem engineStop_spec {k : Fin 16} (h : Commanded s q (kEngine k 1) [1]) : ∃ t, Goes (.engineStop q k) s t ∧
    engineState t k = (if engineState s k = 2 ∨ engineState s k = 3 then 4 else if engineState s k = 1 then 0 else engineState s k) ∧
    (engineState s k = 4 → (engine t k).startAsked = false) ∧ ∀ j, j ≠ k.val → engine t j = engine s j := by
  have hc := engineCommanded h (commandEngines_sub k _ _)
  refine ⟨_, rfl, ?_, fun h4 => ?_, fun j hj => ?_⟩
  · rw [engineState_concluded hc]
    exact engineState_stopEngine (begun s q) k
  · rw [engine_concluded hc]
    exact stopEngine_startAsked (begun s q) k h4
  · rw [engine_concluded hc]
    exact stopEngine_other (begun s q) k hj

theorem engineStart_spec {k : Fin 16} (h : Commanded s q (kEngine k 1) [2]) : ∃ t, Goes (.engineStart q k) s t ∧
    (s.start.safe = true → engine t k = engine s k ∧ engineState t k = engineState s k) ∧
    (s.start.safe = false →
      engineState t k = (if engineState s k = 0 ∨ engineState s k = 5 then loadTarget s k else engineState s k) ∧
      (engineState s k = 4 → (engine t k).startAsked = true)) ∧ ∀ j, j ≠ k.val → engine t j = engine s j := by
  have hc : Concluded (startEngine (begun s q) k) _ := engineCommanded h (commandEngines_sub k _ _)
  refine ⟨_, rfl, fun hsafe => ?_, fun hsafe => ⟨?_, fun h4 => ?_⟩, fun j hj => ?_⟩
  · rw [startEngine_safe (s := begun s q) hsafe] at hc
    exact ⟨engine_concluded hc k, engineState_concluded hc k⟩
  · rw [engineState_concluded hc]
    exact engineState_startEngine (s := begun s q) hsafe
  · rw [engine_concluded hc]
    exact startEngine_startAsked (s := begun s q) hsafe h4
  · rw [engine_concluded hc]
    exact startEngine_other (begun s q) hj

theorem engineRestart_spec {k : Fin 16} (h : Commanded s q (kEngine k 1) [3]) (hsafe : s.start.safe = false) : ∃ t, Goes (.engineRestart q k) s t ∧
    ((engineState s k = 2 ∨ engineState s k = 3 ∨ engineState s k = 4) → engineState t k = 4 ∧ (engine t k).startAsked = true) ∧
    ((engineState s k = 0 ∨ engineState s k = 1 ∨ engineState s k = 5) → engineState t k = loadTarget s k) ∧
    ∀ j, j ≠ k.val → engine t j = engine s j := by
  have hc : Concluded (restartEngine (begun s q) k) _ := engineCommanded h (commandEngines_sub k _ _)
  obtain ⟨hruns, hrests⟩ := restartEngine_spec (s := begun s q) (k := k) hsafe
  refine ⟨_, rfl, ?_⟩
  rw [engineState_concluded hc, engine_concluded hc]
  exact ⟨hruns, hrests, fun j hj => (engine_concluded hc j).trans (restartEngine_other (begun s q) hj)⟩

theorem engineStatsClear_spec {k : Fin 16} (h : Commanded s q (kEngine k 0xE) [1]) : ∃ t, Goes (.engineStatsClear q k) s t ∧
    (∀ sub ∈ [5, 6, 9, 0xA, 0xD], num t (kEngine k sub) = 0) ∧ t.engines = s.engines := by
  have hrun : ∀ x, runCommand (begun s q) (0x8000 + k) 0xE x = clearEngineStats (begun s q) k := fun x => by
    rw [runCommand_engine, commandEngines, if_neg (by decide), Nat.add_sub_cancel_left]
  have hc := clearCommanded (engineClearEntry k) h hrun
  refine ⟨_, rfl, fun sub hs => ?_, (hc.field State.engines).trans (clearEngineStats_engines _ k)⟩
  have hne : @Ne Nat (kEngine k sub) kFrameErrors := by unfold kEngine kFrameErrors; omega
  rw [hc.num_eq hne]
  exact num_clearEngineStats _ k sub hs

theorem applyWrite_repartition (u : State) (v : Val) : applyWrite u (kProgramCtl 5, v) = repartition u := by
  have hi : isInput (kProgramCtl 5) = true := by decide
  simp only [applyWrite, hi, if_true, applyItem]
  rw [if_neg (by decide), if_neg (by decide), if_neg (by decide)]

theorem repartition_spec (h : Commanded s q (kProgramCtl 5) [1]) :
    ∃ t, Goes (.repartition q) s t ∧ t.engines = { s.engines with newPartition := some (partitionOf (begun s q)) } := by
  have hk : IsKey (kProgramCtl 5) := by unfold IsKey; decide
  have hc := commanded_concludes hk h
  have hkey := itemOf_key s q hk [1]
  generalize itemOf s q (kProgramCtl 5) [1] = i at *
  obtain ⟨k, v⟩ := i
  subst hkey
  rw [applyWrite_repartition] at hc
  exact ⟨_, rfl, hc.field State.engines⟩

end commands

theorem engineControl : EngineControl := fun _ _ _ =>
  ⟨engineStop_spec, engineStart_spec, fun h hsafe => engineRestart_spec h hsafe, engineStatsClear_spec, repartition_spec⟩

/-! ### The overrun and the end of a stop (R175, R183) -/

/-- An engine at the deadline, counted: what is raised. -/
def overrunCounted (s : State) (k : Nat) : State :=
  bump (leaveTick s k { engine s k with overran := true, fenced := false }) (kEngine k 5)

theorem openWindow_cases (s : State) : ∃ w, openWindow s = { s with engines := { s.engines with window := w } } := by
  unfold openWindow
  split
  · exact ⟨_, rfl⟩
  · exact ⟨s.engines.window, rfl⟩

theorem leaveTick_spec (s : State) (k : Nat) (e : Engine) : let t := leaveTick s k e
    engine t k = { e with active := false, stall := none } ∧ t.mem = s.mem ∧ t.mram = s.mram ∧ ∀ j, j ≠ kEngine k 2 → num t j = num s j := by
  unfold leaveTick
  extract_lets s1 t
  have hset : ∀ u : State, (u = s1 ∨ u = setEngineState s1 k esIdle) →
      engine u k = { e with active := false, stall := none } ∧ u.mem = s.mem ∧ u.mram = s.mram ∧ ∀ j, j ≠ kEngine k 2 → num u j = num s j := by
    have h1 : engine s1 k = { e with active := false, stall := none } := by rw [engine_putEngine, if_pos rfl]
    rintro u (rfl | rfl)
    · exact ⟨h1, rfl, rfl, fun _ _ => rfl⟩
    · exact ⟨(engine_setEngineState s1 k 2 k).trans h1, setNum_mem s1 _ _, setNum_mram s1 _ _, fun j hj => (num_setNum s1 _ j _).trans (if_neg hj)⟩
  obtain ⟨w, hw⟩ := openWindow_cases (if engineState s1 k = esRunning then setEngineState s1 k esIdle else s1)
  have ht : t = _ := hw
  rw [ht]
  exact hset (if engineState s1 k = esRunning then setEngineState s1 k esIdle else s1) (by split <;> simp)

/-- Nothing that a raise does beside its reaction touches the engines. -/
theorem raiseClosed_engines (src : Nat) (P : Engines → Prop) : RaiseClosed src fun u => P u.engines where
  emit _ _ h := h
  putKept u f h := (putKept_engines u src f).symm ▸ h
  putFault _ _ h := h
  orderReset u c d h := (orderReset_engines u c d).symm ▸ h
  showPending u h := (showPending_engines u).symm ▸ h
  status u x h := (setNum_engines u _ x).symm ▸ h
  log u code h := (logMessage_engines u code).symm ▸ h

theorem blockReset_engine (s : State) (k : Nat) : blockReset s 11 k = showPending (if nat s (kEngine k 2) = 0 then s
    else setNum (putEngine s k { engine s k with active := false, stall := none, startAsked := false }) (kEngine k 2) 1) := by
  unfold blockReset
  rw [if_neg (by decide), if_pos (.inl rfl)]
  rfl

/-- The reset of an engine that is in no tick abandons its pending start alone. -/
theorem engine_blockReset {s : State} {k : Nat} {e : Engine} {b : Bool} (ha : e.active = false) (hs : e.stall = none)
    (h : { engine s k with startAsked := b } = e) : { engine (blockReset s 11 k) k with startAsked := b } = e := by
  have hp : ∀ u : State, engine (showPending u) k = engine u k := fun u => by rw [engine, showPending_engines, ← engine]
  rw [blockReset_engine, hp]
  split
  · exact h
  · subst h
    dsimp only at ha hs
    rw [engine_setNum, engine_putEngine, if_pos rfl, ← ha, ← hs]

theorem kFault_ne_kEngine {x : Nat} (hx : x < 256) (k y : Nat) : @Ne Nat (kFault 11 x) (kEngine k y) := by unfold kFault kEngine; omega

theorem overrunCounted_spec (s : State) (k : Nat) : let u := overrunCounted s k
    engine u k = { engine s k with active := false, stall := none, overran := true, fenced := false } ∧ u.mem = s.mem ∧ u.mram = s.mram ∧
    num u (kEngine k 5) = (num s (kEngine k 5) + 1) % 2 ^ 32 ∧ num u (kFault 11 8) = num s (kFault 11 8) := by
  obtain ⟨he, hm, hr, hn⟩ := leaveTick_spec s k { engine s k with overran := true, fenced := false }
  unfold overrunCounted
  generalize leaveTick s k { engine s k with overran := true, fenced := false } = t at *
  refine ⟨(engine_bump t _ k).trans he, (bump_mem t _).trans hm, (bump_mram t _).trans hr, ?_, ?_⟩
  · rw [num_bump, if_pos rfl, hn _ (kEngine_ne (by decide))]
  · rw [num_bump, if_neg (kFault_ne_kEngine (by decide) k 5), hn _ (kFault_ne_kEngine (by decide) k 2)]

/-- A raise of source 11 leaves the overruns counted of an engine, whatever its reaction. -/
theorem num_raise_overrun (s : State) (k : Fin 16) : num (raise s 11 0 k k) (kEngine k 5) = num s (kEngine k 5) := by
  have hk := k.isLt
  have hplain : Plain (kEngine k 5) := by unfold Plain kEngine kRestartPending kLogCount kLogLast; omega
  have hcount : reg (countRaise s 11 (faultCode 11 0 k)) (kEngine k 5) = reg s (kEngine k 5) := by
    have hne := fun {x : Nat} (hx : x < 256) => kFault_ne_kEngine hx k 5
    exact (keeps_countRaise (P := (· = kEngine k 5)) (hne (by decide)) (hne (by decide)) (hne (by decide)) s _).2 _ rfl
  refine congrArg Val.toInt ((raiseClosed_reg (by decide) hplain (reg s (kEngine k 5))).raise_block (fun u hu => ?_) hcount)
  rw [blockReset_engine, (keeps_showPending (P := (· = kEngine k 5)) (kEngine_ne_kRestartPending (by decide)).symm _).2 _ rfl]
  split
  · exact hu
  · rw [setNum, reg_setVal, if_neg (kEngine_ne (by decide))]
    exact hu

theorem engine_raise_overrun (s : State) (k : Nat) (ha : (engine s k).active = false) (hs : (engine s k).stall = none) (b : Bool) :
    { engine (raise s 11 0 k k) k with startAsked := b } = { engine s k with startAsked := b } :=
  (raiseClosed_engines 11 fun x => { (tabFind x.list k).getD {} with startAsked := b } = { engine s k with startAsked := b }).raise_block
    (fun _ hu => engine_blockReset (e := { engine s k with startAsked := b }) ha hs hu) (by rw [countRaise_engines]; rfl)

theorem engineOverrun_goes {s : State} {k : Fin 16} (h : (engine s k).active = true) : Goes (.engineOverrun k) s (raise (overrunCounted s k) 11 0 k k) := by
  show execEngineOverrun k s = _
  rw [execEngineOverrun]
  dsimp only
  rw [if_pos h]
  rfl

theorem engineOverrun_goes_of_idle {s : State} {k : Fin 16} (h : (engine s k).active = false) : Goes (.engineOverrun k) s s := by
  show execEngineOverrun k s = _
  rw [execEngineOverrun]
  dsimp only
  rw [if_neg (by simp [h])]

theorem engineOverrun_spec {s : State} {k : Fin 16} (h : (engine s k).active = true) : ∃ t, Goes (.engineOverrun k) s t ∧
    { engine t k with startAsked := (engine s k).startAsked } = { engine s k with active := false, stall := none, overran := true, fenced := false } ∧
    num t (kEngine k 5) = (num s (kEngine k 5) + 1) % 2 ^ 32 ∧ Raised s t 11 := by
  obtain ⟨he, hm, hr, hn, hf⟩ := overrunCounted_spec s k
  refine ⟨_, engineOverrun_goes h, ?_, ?_, raised_of_eq (raised_raise _ (by decide) 0 k k.isLt) hf hm (congrArg Mram.store hr)⟩
  · rw [engine_raise_overrun _ _ (by rw [he]) (by rw [he]), he]
  · rw [num_raise_overrun, hn]

/-- The end of a stop: nothing of the engine's own is outstanding. -/
def StopEnds (s : State) (k : Nat) : Prop :=
  engineState s k = 4 ∧ (engine s k).active = false ∧ hasPosted s k = false ∧ (engine s k).mailbox = none

theorem engineStopComplete_goes {s : State} {k : Fin 16} (h : StopEnds s k) : Goes (.engineStopComplete k) s
    (if (engine s k).startAsked then beginLoad (setEngineState s k 0) k else setEngineState s k 0) := by
  obtain ⟨h4, ha, hp, hm⟩ := h
  show execEngineStopComplete k s = _
  rw [execEngineStopComplete]
  dsimp only
  rw [if_pos ⟨h4, by simp [ha], by simp [hp], hm⟩]

theorem engineStopComplete_goes_of_not {s : State} {k : Fin 16} (h : ¬StopEnds s k) : Goes (.engineStopComplete k) s s := by
  show execEngineStopComplete k s = _
  rw [execEngineStopComplete]
  dsimp only
  rw [if_neg (by simpa [StopEnds] using h)]

theorem engineStopComplete_spec {s : State} {k : Fin 16} (h : StopEnds s k) : ∃ t, Goes (.engineStopComplete k) s t ∧
    engineState t k = (if (engine s k).startAsked then loadTarget s k else 0) ∧ (engine t k).startAsked = false ∧ t.mem = s.mem := by
  refine ⟨_, engineStopComplete_goes h, ?_⟩
  cases ha : (engine s k).startAsked
  · exact ⟨engineState_setEngineState s k 0, by rw [if_neg (by simp), engine_setEngineState, ha], setNum_mem s _ _⟩
  · refine ⟨?_, ?_, ?_⟩
    · rw [if_pos rfl, engineState_beginLoad, loadTarget_setEngineState]
      rfl
    · rw [if_pos rfl, engine_beginLoad, if_pos rfl]
    · rw [if_pos rfl, beginLoad_mem]
      exact setNum_mem s _ _

theorem engineEnds : EngineEnds := by
  refine ⟨fun s k => engineOverrun_spec, fun s k => engineOverrun_goes_of_idle,
    fun s k => ⟨fun h4 ha hp hm => engineStopComplete_spec ⟨h4, ha, hp, hm⟩, fun h => engineStopComplete_goes_of_not ?_⟩⟩
  rintro ⟨h4, ha, hp, hm⟩
  simp [h4, ha, hp, hm] at h

/-- Settles O38: the commands act through the dictionary on the one engine; the overrun is a raise of the engine that has left its tick. -/
theorem engineCommands : Obligations.EngineCommands := ⟨engineControl, engineEnds⟩

/-! ## The control of the lanes (O39) -/

/-! ### What queueing records leaves -/

/-- A lane without the records that it has queued and their numbering. -/
def emptied (l : Lane) : Lane := { l with buffer := [], prio := [], pos := [] }

/-- From `s` to `t` records have been queued, on no lane but those of `P`, and UNKNOWN_DRIVERS may have changed. -/
structure OnlyQueued (P : Nat → Prop) (s t : State) : Prop where
  rest : { t with lanes := s.lanes, regs := s.regs, server := s.server } = s
  regs : ∀ j, j ≠ kScan 6 → reg t j = reg s j
  lane : ∀ m, emptied (lane t m) = emptied (lane s m)
  others : ∀ m, ¬P m → Machine.lane t m = Machine.lane s m

namespace OnlyQueued
variable {P Q : Nat → Prop} {s t u : State}

theorem refl (s : State) : OnlyQueued P s s := ⟨rfl, fun _ _ => rfl, fun _ => rfl, fun _ _ => rfl⟩

theorem trans (h : OnlyQueued P s t) (g : OnlyQueued P t u) : OnlyQueued P s u where
  rest := by rw [← h.rest, ← g.rest]
  regs j hj := (g.regs j hj).trans (h.regs j hj)
  lane m := (g.lane m).trans (h.lane m)
  others m hm := (g.others m hm).trans (h.others m hm)

theorem mono (h : OnlyQueued P s t) (hQ : ∀ m, P m → Q m) : OnlyQueued Q s t :=
  ⟨h.rest, h.regs, h.lane, fun m hm => h.others m (mt (hQ m) hm)⟩

theorem ite {c : Prop} [Decidable c] (ht : OnlyQueued P s t) (hu : OnlyQueued P s u) : OnlyQueued P s (if c then t else u) := by
  split
  · exact ht
  · exact hu

theorem foldl {β : Type} {g : State → β → State} {l : List β} (h : OnlyQueued P s t) (hg : ∀ x ∈ l, ∀ u, OnlyQueued P u (g u x)) :
    OnlyQueued P s (l.foldl g t) := by
  induction l generalizing t with
  | nil => exact h
  | cons x l ih => exact ih (h.trans (hg x (by simp) t)) fun y hy => hg y (by simp [hy])

theorem mem (h : OnlyQueued P s t) : t.mem = s.mem := (congrArg State.mem h.rest :)

theorem field {α : Type} (h : OnlyQueued P s t) (f : Lane → α) (hf : ∀ l, f (emptied l) = f l := by intros; rfl) (m : Nat) :
    f (Machine.lane t m) = f (Machine.lane s m) := by
  rw [← hf, h.lane, hf]

end OnlyQueued

section queue
variable {P : Nat → Prop} {n : Nat} (hn : P n) (s : State)
include hn

theorem onlyQueued_putLane {l : Lane} (h : emptied l = emptied (lane s n)) : OnlyQueued P s (putLane s n l) where
  rest := rfl
  regs _ _ := rfl
  lane m := by
    by_cases hm : m = n
    · rw [hm, lane_putLane_self, h]
    · rw [lane_putLane_other s hm]
  others m hm := lane_putLane_other s (by rintro rfl; exact hm hn) l

theorem onlyQueued_queueState (type dest : Nat) (b : Bytes) : OnlyQueued P s (queueState s n type dest b) := onlyQueued_putLane hn s rfl

theorem onlyQueued_queueControl (p type : Nat) (b : Bytes) : OnlyQueued P s (queueControl s n p type b) :=
  .trans (t := putPos s n p { pos s n p with seq := ((pos s n p).seq + 1) % 65536 }) (onlyQueued_putLane hn s rfl) (onlyQueued_putLane hn _ rfl)

theorem onlyQueued_returnSchedule (p advance : Nat) : OnlyQueued P s (returnSchedule s n p advance) :=
  .ite (.refl s) (onlyQueued_queueControl hn s p _ _)

theorem onlyQueued_inject (type : Nat) (b : Bytes) : OnlyQueued P s (inject s n type b) := .ite (.refl s) (onlyQueued_putLane hn s rfl)

end queue

theorem onlyQueued_dropUnknown {P : Nat → Prop} (s : State) (n : Nat) : OnlyQueued P s (dropUnknown s n) := by
  unfold dropUnknown
  dsimp only
  refine ⟨?_, fun j hj => (reg_setVal s _ j _).trans (if_neg hj), fun m => ?_, fun m _ => ?_⟩
  · unfold setVal
    split <;> rfl
  · rw [lane, setVal_lanes, ← lane]
  · rw [lane, setVal_lanes, ← lane]

theorem onlyQueued_selectScene (s : State) (n scene : Nat) : OnlyQueued (fun _ => True) s (selectScene s n scene) :=
  .foldl (.refl s) fun _ _ u => onlyQueued_queueState trivial u _ _ _

/-! ### A lane starts (R26, R237, R238) -/

/-- The PHASE in force from a START on (Table 9-12). -/
def startPhase (s : State) (n : Nat) : Nat := if nat s (kLane n 8) == 1 then 0 else nat s (kLane n 5)

/-- A lane as its START begins it: what is in force is what its registers say, and its first field is `next`. -/
def startedLane (s : State) (n next : Nat) : Lane :=
  let l := { laneRest (lane s n) with
    next := next
    lock := if nat s (kLane n 8) == 1 then 0xFF else nat s (kLane n 4)
    phase := startPhase s n, stopMode := nat s (kLane n 6), dual := flag s (kLane n 7), version := nat s (kLane n 8), sceneOnly := storedOnly s
    disc := some { wait := 5 } }
  { laneIdle s l with marks := s.lanes.pll }

theorem met_emptied (l : Lane) : (emptied l).met = l.met := rfl

theorem met_startedLane (s : State) (n next : Nat) : (startedLane s n next).met = (laneRest (lane s n)).met := rfl

theorem met_laneRest_laneRest (l : Lane) : (laneRest (laneRest l)).met = (laneRest l).met :=
  List.filter_filter.trans (congrArg (fun f => l.met.filter f) (funext fun _ => Bool.and_self _))

/-- The state in which a lane has begun to start; the numbering of fields may have begun anew (R26). -/
def laneBegun (s : State) (n : Nat) (time : Timing) (next : Nat) : State :=
  setNum (putLane { s with time := time } n (startedLane s n next)) (kLane n 2) 1

/-- What a starting lane sends: the schedules, a discovery, and the scene in force. -/
def queueStart (s : State) (n next : Nat) (sceneOnly : Bool) : State :=
  let s1 := (tablePositions s n).foldl (fun t p => returnSchedule t n p 0) s
  let s2 := dropUnknown (queueState s1 n 0x40 0xFF (List.replicate 12 0)) n
  let s3 := if s2.safety.egress then inject s2 n 0x10 (scenePayload 2 1 next) else s2
  if sceneOnly then selectScene s3 n 1 else s3

theorem startLane_eq (s : State) (n : Nat) : ∃ time next, startLane s n = queueStart (laneBegun s n time next) n next (storedOnly s) := by
  unfold startLane
  extract_lets idle s0
  have h0 : ∃ time, s0 = { s with time := time } := by
    unfold s0
    split
    · exact ⟨_, rfl⟩
    · exact ⟨s.time, rfl⟩
  clear_value s0
  obtain ⟨time, rfl⟩ := h0
  exact ⟨time, fieldFrom { s with time := time } (startPhase s n) 100000, rfl⟩

/-- The records of a START are queued on its lane, in stored-scene-only mode on those of its lock group too (R231). -/
theorem onlyQueued_queueStart (s : State) (n next : Nat) (sceneOnly : Bool) :
    OnlyQueued (fun m => m = n ∨ sceneOnly = true) s (queueStart s n next sceneOnly) := by
  unfold queueStart
  extract_lets s1 s2 s3
  have h1 : OnlyQueued (· = n) s s1 := .foldl (.refl s) fun p _ u => onlyQueued_returnSchedule (P := (· = n)) rfl u p 0
  have h2 : OnlyQueued (· = n) s s2 := (h1.trans (onlyQueued_queueState (P := (· = n)) rfl s1 _ _ _)).trans (onlyQueued_dropUnknown _ n)
  have h3 : OnlyQueued (· = n) s s3 := .ite (h2.trans (onlyQueued_inject (P := (· = n)) rfl s2 _ _)) h2
  clear_value s3
  cases sceneOnly
  · exact h3.mono fun _ => .inl
  · exact (h3.mono fun _ => .inl).trans ((onlyQueued_selectScene s3 n 1).mono fun _ _ => .inr rfl)

theorem startLane_onlyQueued (s : State) (n : Nat) :
    ∃ time next, OnlyQueued (fun m => m = n ∨ storedOnly s = true) (laneBegun s n time next) (startLane s n) := by
  obtain ⟨time, next, h⟩ := startLane_eq s n
  rw [h]
  exact ⟨time, next, onlyQueued_queueStart _ _ _ _⟩

theorem laneState_setNum (s : State) (n st : Nat) : laneState (setNum s (kLane n 2) st) n = st :=
  congrArg Int.toNat ((num_setNum s (kLane n 2) (kLane n 2) st).trans (if_pos rfl))

theorem lane_laneBegun (s : State) (n : Nat) (time : Timing) (next : Nat) (m : Nat) :
    lane (laneBegun s n time next) m = if m = n then startedLane s n next else lane s m := by
  rw [laneBegun, lane, setNum_lanes, ← lane]
  split
  · next h => rw [h, lane_putLane_self]
  · next h => exact lane_putLane_other _ h _

/-- What a START leaves of the lanes, the registers and memory. -/
theorem startLane_spec (s : State) (n : Nat) : ∃ next, let t := startLane s n
    laneState t n = 1 ∧ emptied (lane t n) = emptied (startedLane s n next) ∧ t.mem = s.mem ∧
    (∀ j, j ≠ kScan 6 → j ≠ kLane n 2 → reg t j = reg s j) ∧ (storedOnly s = false → ∀ m, m ≠ n → lane t m = lane s m) := by
  obtain ⟨time, next, h⟩ := startLane_onlyQueued s n
  refine ⟨next, ?_, ?_, h.mem.trans (setNum_mem _ _ _), fun j h6 h2 => ?_, fun hs m hm => ?_⟩
  · have hne : @Ne Nat (kLane n 2) (kScan 6) := by unfold kLane kScan; omega
    exact (congrArg (fun v : Val => v.toInt.toNat) (h.regs (kLane n 2) hne)).trans (laneState_setNum _ n 1)
  · rw [h.lane, lane_laneBegun, if_pos rfl]
  · exact (h.regs j h6).trans ((reg_setVal _ _ j _).trans (if_neg h2))
  · rw [h.others m (by simp [hm, hs]), lane_laneBegun, if_neg hm]

/-! ### Stopping, pending starts (R239, R240) -/

theorem kLane_ne {n a b : Nat} (h : a ≠ b) : @Ne Nat (kLane n a) (kLane n b) := by unfold kLane; omega

theorem kLane_ne_kRestartPending {n a : Nat} (ha : a < 256) : @Ne Nat (kLane n a) kRestartPending := by unfold kLane kRestartPending; omega

section pending
variable (s : State) (n : Nat) (v : Bool)

theorem lane_lanePending (m : Nat) : lane (lanePending s n v) m = if m = n then { lane s n with startAsked := v } else lane s m := by
  rw [lanePending, lane, setBit_lanes, setBit_lanes, ← lane]
  split
  · next h => rw [h, lane_putLane_self]
  · next h => exact lane_putLane_other _ h _

theorem num_lanePending {k : Key} (h1 : k ≠ kLane n 0xA) (h2 : k ≠ kRestartPending) : num (lanePending s n v) k = num s k := by
  rw [lanePending, num_setBit_other _ h2, num_setBit_other _ h1]
  rfl

theorem laneState_lanePending : laneState (lanePending s n v) n = laneState s n :=
  congrArg Int.toNat (num_lanePending s n v (kLane_ne (by decide)) (kLane_ne_kRestartPending (by decide)))

/-- RESTART_PENDING of the lane shows the pending START. -/
theorem bit_lanePending : bit (lanePending s n v) (kLane n 0xA) 5 = v := by
  rw [lanePending, bit, nat, num_setBit_other _ (kLane_ne_kRestartPending (by decide)), ← nat, ← bit, bit_setBit, if_pos rfl]

theorem lanePending_start : (lanePending s n v).start = s.start := by simp [lanePending, putLane]

end pending

section stop
variable {s : State} {n : Nat}

theorem stopLane_stopped (h : laneState s n = 0) : stopLane s n = s := by
  rw [stopLane]
  dsimp only
  rw [if_neg (by omega), if_pos h]

theorem stopLane_stopping (h : laneState s n = 4) : stopLane s n = lanePending s n false := by
  rw [stopLane]
  dsimp only
  rw [if_pos h]

/-- A lane as its STOP leaves it: three STOPs to send behind what it holds, and no more feed. -/
def stoppedLane (l : Lane) : Lane :=
  { l with stops := 3, stopping := false, stopFields := 0, feeding := false, buffer := l.buffer ++ l.due, due := []
           disc := none, pos := l.pos.map fun x => (x.1, { x.2 with stopOk := false }) }

theorem stopLane_running (h0 : laneState s n ≠ 0) (h4 : laneState s n ≠ 4) :
    stopLane s n = setNum (putLane s n (stoppedLane (lane s n))) (kLane n 2) 4 := by
  rw [stopLane]
  dsimp only
  rw [if_neg h4, if_neg h0]
  rfl

theorem laneState_stopLane (s : State) (n : Nat) : laneState (stopLane s n) n = if laneState s n = 0 then 0 else 4 := by
  by_cases h0 : laneState s n = 0
  · rw [stopLane_stopped h0, if_pos h0, h0]
  · rw [if_neg h0]
    by_cases h4 : laneState s n = 4
    · rw [stopLane_stopping h4, laneState_lanePending, h4]
    · rw [stopLane_running h0 h4]
      exact laneState_setNum _ n 4

/-- What a STOP leaves beside its lane. -/
theorem stopLane_frame (s : State) (n : Nat) : (stopLane s n).mem = s.mem ∧ (stopLane s n).start = s.start ∧ ∀ m, m ≠ n → lane (stopLane s n) m = lane s m := by
  by_cases h0 : laneState s n = 0
  · rw [stopLane_stopped h0]
    exact ⟨rfl, rfl, fun _ _ => rfl⟩
  · by_cases h4 : laneState s n = 4
    · rw [stopLane_stopping h4]
      exact ⟨lanePending_mem s n false, lanePending_start s n false, fun m hm => by rw [lane_lanePending, if_neg hm]⟩
    · rw [stopLane_running h0 h4]
      exact ⟨setNum_mem _ _ _, setNum_start _ _ _, fun m hm => by rw [lane, setNum_lanes, ← lane, lane_putLane_other _ hm]⟩

theorem lane_stopLane_running (h0 : laneState s n ≠ 0) (h4 : laneState s n ≠ 4) : lane (stopLane s n) n = stoppedLane (lane s n) := by
  rw [stopLane_running h0 h4, lane, setNum_lanes, ← lane, lane_putLane_self]

theorem laneStart_stopped (h : laneState s n = 0) : laneStart s n = startLane s n := by rw [laneStart, if_pos h]

theorem laneStart_stopping (h : laneState s n = 4) : laneStart s n = lanePending s n true := by
  rw [laneStart, if_neg (by omega), if_pos h]

theorem laneStart_running (h0 : laneState s n ≠ 0) (h4 : laneState s n ≠ 4) : laneStart s n = s := by
  rw [laneStart, if_neg h0, if_neg h4]

end stop

/-! ### The commands -/

section commands
variable {s : State} {q : Req}

theorem lane_concluded {u t : State} (h : Concluded u t) (m : Nat) : lane t m = lane u m := by
  rw [lane, h.field State.lanes, ← lane]

theorem laneState_concluded {u t : State} (h : Concluded u t) (n : Fin 8) : laneState t n = laneState u n :=
  congrArg Int.toNat (h.num_eq (show @Ne Nat (kLane n 2) kFrameErrors by unfold kLane kFrameErrors; omega))

theorem laneControlEntry (n : Fin 8) : ControlEntry (kLane n 1) (0x3000 + n) := by
  revert n
  unfold ControlEntry
  decide

theorem laneClearEntry (n : Fin 8) : ClearEntry (kLane n 0x11) (0x3000 + n) 0x11 := by
  revert n
  unfold ClearEntry
  decide

theorem runCommand_lane (u : State) (n : Fin 8) (sub : Nat) (v : Val) : runCommand u (0x3000 + n) sub v =
    if sub = 1 then (if v.toInt = 1 then stopLane u n else if v.toInt = 2 then laneStart u n else laneRestart u n) else clearLaneStats u n := by
  have hn := n.isLt
  unfold runCommand
  dsimp only
  iterate 5 rw [if_neg (by omega)]
  rw [if_pos (by omega), commandLanes, if_pos (by omega), Nat.add_sub_cancel_left]

theorem laneStop_spec {n : Fin 8} (h : Commanded s q (kLane n 1) [1]) : ∃ t, Goes (.laneStop q n) s t ∧ laneState t n = (if laneState s n = 0 then 0 else 4) ∧
    (laneState s n ≠ 0 → laneState s n ≠ 4 → (lane t n).stops = 3 ∧ (lane t n).feeding = false ∧ (lane t n).buffer = (lane s n).buffer ++ (lane s n).due) ∧
    (laneState s n = 4 → (lane t n).startAsked = false) ∧ t.mem = s.mem ∧ ∀ m, m ≠ n.val → lane t m = lane s m := by
  have hc : Concluded (stopLane (begun s q) n) _ := controlled (laneControlEntry n) h (runCommand_lane _ n 1 _)
  obtain ⟨hmem, -, hothers⟩ := stopLane_frame (begun s q) n
  refine ⟨_, rfl, ?_, fun h0 h4 => ?_, fun h4 => ?_, (hc.field State.mem).trans hmem, fun m hm => (lane_concluded hc m).trans (hothers m hm)⟩
  · rw [laneState_concluded hc]
    exact laneState_stopLane (begun s q) n
  · rw [lane_concluded hc, lane_stopLane_running (s := begun s q) h0 h4]
    exact ⟨rfl, rfl, rfl⟩
  · rw [lane_concluded hc, stopLane_stopping (s := begun s q) h4, lane_lanePending, if_pos rfl]

/-- What is in force for a lane from its START on, as its registers say (R237). -/
def InForce (s : State) (n : Nat) (l : Lane) : Prop :=
  l.sceneOnly = storedOnly s ∧ l.stopMode = nat s (kLane n 6) ∧ l.dual = flag s (kLane n 7) ∧ l.version = nat s (kLane n 8) ∧ l.marks = s.lanes.pll ∧
    (nat s (kLane n 8) = 1 → l.lock = 0xFF ∧ l.phase = 0) ∧ (nat s (kLane n 8) ≠ 1 → l.lock = nat s (kLane n 4) ∧ l.phase = nat s (kLane n 5))

theorem inForce_startedLane (s : State) (n next : Nat) : InForce s n (emptied (startedLane s n next)) := by
  refine ⟨rfl, rfl, rfl, rfl, rfl, fun h1 => ?_, fun h1 => ?_⟩
  · have hv : (nat s (kLane n 8) == 1) = true := by simp [h1]
    exact ⟨if_pos hv, if_pos hv⟩
  · have hv : ¬(nat s (kLane n 8) == 1) = true := by simp [h1]
    exact ⟨if_neg hv, if_neg hv⟩

theorem inForce_startLane (s : State) (n : Nat) : InForce s n (lane (startLane s n) n) := by
  obtain ⟨next, -, hl, -⟩ := startLane_spec s n
  have h := inForce_startedLane s n next
  rw [← hl] at h
  exact h

theorem laneStart_spec {n : Fin 8} (h : Commanded s q (kLane n 1) [2]) : ∃ t, Goes (.laneStart q n) s t ∧
    laneState t n = (if laneState s n = 0 then 1 else laneState s n) ∧ (laneState s n = 0 → InForce s n (lane t n)) ∧
    (laneState s n = 4 → (lane t n).startAsked = true) ∧ t.mem = s.mem ∧ (storedOnly s = false → ∀ m, m ≠ n.val → lane t m = lane s m) := by
  have hc : Concluded (laneStart (begun s q) n) _ := controlled (laneControlEntry n) h (runCommand_lane _ n 1 _)
  refine ⟨_, rfl, ?_⟩
  rw [laneState_concluded hc, lane_concluded hc, hc.field State.mem]
  simp only [lane_concluded hc]
  have hl : ∀ m, lane (begun s q) m = lane s m := fun _ => rfl
  by_cases h0 : laneState s n = 0
  · obtain ⟨next, hstate, -, hmem, -, hothers⟩ := startLane_spec (begun s q) n
    rw [laneStart_stopped (s := begun s q) h0, if_pos h0]
    exact ⟨hstate, fun _ => inForce_startLane (begun s q) n, fun h4 => absurd h4 (by omega), hmem, hothers⟩
  · rw [if_neg h0]
    by_cases h4 : laneState s n = 4
    · rw [laneStart_stopping (s := begun s q) h4]
      refine ⟨laneState_lanePending (begun s q) n true, fun hz => absurd hz h0, fun _ => ?_, lanePending_mem _ _ _, fun _ m hm => ?_⟩
      · rw [lane_lanePending, if_pos rfl]
      · rw [lane_lanePending, if_neg hm, hl]
    · rw [laneStart_running (s := begun s q) h0 h4]
      exact ⟨rfl, fun hz => absurd hz h0, fun hz => absurd hz h4, rfl, fun _ _ _ => rfl⟩

theorem laneRestart_spec {n : Fin 8} (h : Commanded s q (kLane n 1) [3]) : ∃ t, Goes (.laneRestart q n) s t ∧
    laneState t n = (if laneState s n = 0 then 1 else 4) ∧ (laneState s n ≠ 0 → (lane t n).startAsked = true) ∧ t.mem = s.mem ∧
    (storedOnly s = false → ∀ m, m ≠ n.val → lane t m = lane s m) := by
  have hc : Concluded (laneRestart (begun s q) n) _ := controlled (laneControlEntry n) h (runCommand_lane _ n 1 _)
  refine ⟨_, rfl, ?_⟩
  rw [laneState_concluded hc, lane_concluded hc, hc.field State.mem]
  simp only [lane_concluded hc]
  by_cases h0 : laneState s n = 0
  · obtain ⟨next, hstate, -, hmem, -, hothers⟩ := startLane_spec (begun s q) n
    rw [laneRestart, if_pos (show laneState (begun s q) n = 0 from h0), if_pos h0]
    exact ⟨hstate, fun hz => absurd h0 hz, hmem, hothers⟩
  · obtain ⟨hmem, -, hothers⟩ := stopLane_frame (begun s q) n
    have hstate := laneState_stopLane (begun s q) n
    rw [if_neg (show ¬laneState (begun s q) n = 0 from h0)] at hstate
    rw [laneRestart, if_neg (show ¬laneState (begun s q) n = 0 from h0), if_neg h0, laneState_lanePending]
    refine ⟨hstate, fun _ => ?_, (lanePending_mem _ _ _).trans hmem, fun _ m hm => ?_⟩
    · rw [lane_lanePending, if_pos rfl]
    · rw [lane_lanePending, if_neg hm]
      exact hothers m hm

theorem num_clearLaneStats (s : State) (n : Nat) : ∀ x ∈ [0xB, 0xC, 0xD, 0xE, 0xF], num (clearLaneStats s n) (kLane n x) = 0 := by
  have h := fun {a b : Nat} (hab : a ≠ b) => kLane_ne (n := n) hab
  simp [clearLaneStats, num_setNum, h]

theorem laneStatsClear_spec {n : Fin 8} (h : Commanded s q (kLane n 0x11) [1]) :
    ∃ t, Goes (.laneStatsClear q n) s t ∧ (∀ sub ∈ [0xB, 0xC, 0xD, 0xE, 0xF], num t (kLane n sub) = 0) ∧ t.lanes = s.lanes := by
  have hc : Concluded (clearLaneStats (begun s q) n) _ := clearCommanded (laneClearEntry n) h fun x => (runCommand_lane _ n 0x11 x).trans (if_neg (by decide))
  refine ⟨_, rfl, fun sub hs => ?_, (hc.field State.lanes).trans (foldl_keeps State.lanes (fun t _ => setNum_lanes t _ _) _ _)⟩
  have hne : @Ne Nat (kLane n sub) kFrameErrors := by unfold kLane kFrameErrors; omega
  rw [hc.num_eq hne]
  exact num_clearLaneStats _ n sub hs

end commands

/-! ### The end of a start (R238) -/

theorem lane_laneStatusBits (s : State) (n m : Nat) : lane (laneStatusBits s n) m = lane s m := by
  rw [lane, laneStatusBits]
  dsimp only
  rw [setBit_lanes, setBit_lanes, setBit_lanes, setBit_lanes, ← lane]

theorem num_laneStatusBits (s : State) (n : Nat) {k : Key} (h : k ≠ kLane n 0xA) : num (laneStatusBits s n) k = num s k := by
  rw [laneStatusBits]
  dsimp only
  rw [num_setBit_other _ h, num_setBit_other _ h, num_setBit_other _ h, num_setBit_other _ h]

/-- LANE_STATUS keeps its bit 5, the pending START. -/
theorem bit_laneStatusBits (s : State) (n : Nat) : bit (laneStatusBits s n) (kLane n 0xA) 5 = bit s (kLane n 0xA) 5 := by
  rw [laneStatusBits]
  dsimp only
  rw [bit_setBit, if_neg (by decide), bit_setBit, if_neg (by decide), bit_setBit, if_neg (by decide), bit_setBit, if_neg (by decide)]

/-- A condition that is met joins those of the lane. -/
theorem lane_laneMet (s : State) (n kind addr : Nat) : lane (laneMet s n kind addr) n =
    { lane s n with met := (condOf kind addr, true) :: (lane s n).met.filter fun x => x.1 != condOf kind addr } :=
  (lane_laneStatusBits _ n n).trans (lane_putLane_self s n _)

theorem lane_laneMet_other (s : State) {n m : Nat} (h : m ≠ n) (kind addr : Nat) : lane (laneMet s n kind addr) m = lane s m :=
  (lane_laneStatusBits _ n m).trans (lane_putLane_other s h _)

theorem num_laneMet (s : State) (n kind addr : Nat) {k : Key} (h : k ≠ kLane n 0xA) : num (laneMet s n kind addr) k = num s k :=
  num_laneStatusBits _ n h

theorem missing_laneMet (s : State) (n p : Nat) : missing (laneMet s n 1 p) n p = true := by
  simp [missing, lane_laneMet]

/-- A driver that is missing stays so when another is. -/
theorem missing_laneMet_of_missing {s : State} {n p : Nat} (h : missing s n p = true) (kind addr : Nat) : missing (laneMet s n kind addr) n p = true := by
  unfold missing at h ⊢
  rw [lane_laneMet, List.any_eq_true] at *
  obtain ⟨c, hc, hp⟩ := h
  by_cases he : c.1 = condOf kind addr
  · exact ⟨_, List.mem_cons_self, by simpa [← he] using hp⟩
  · exact ⟨c, List.mem_cons_of_mem _ (List.mem_filter.2 ⟨hc, by simpa using he⟩), hp⟩

/-- Every driver of the table of lane `n` has answered. -/
def AllAnswered (s : State) (n : Nat) : Prop := ∀ p, p < 16 → inTable s n p = true → (pos s n p).arrived = true

theorem all_tablePositions (s : State) (n : Nat) : ((tablePositions s n).all fun p => (pos s n p).arrived) = true ↔ AllAnswered s n := by
  simp only [tablePositions, List.all_eq_true, List.mem_filter, List.mem_range, and_imp]
  rfl

/-- Drivers that have not answered are raised as missing. -/
def missingRaised (n : Nat) (t : State) (p : Nat) : State := if (pos t n p).arrived then t else raise (laneMet t n 1 p) n 1 p n

/-- The state that a lane's start comes to. -/
def startDone (s : State) (n : Nat) : State := setNum s (kLane n 2) (if (lane s n).sceneOnly then 3 else 2)

theorem tablePositions_congr {s t : State} (n : Nat) (h : ∀ d, num t (kDriver d 1) = num s (kDriver d 1)) : tablePositions t n = tablePositions s n := by
  unfold tablePositions inTable
  simp only [h]

theorem tablePositions_startDone (s : State) (n : Nat) : tablePositions (startDone s n) n = tablePositions s n :=
  tablePositions_congr n fun d => (num_setNum s _ _ _).trans (if_neg (show @Ne Nat (kDriver d 1) (kLane n 2) by unfold kDriver kLane; omega))

theorem lane_startDone (s : State) (n m : Nat) : lane (startDone s n) m = lane s m := by rw [startDone, lane, setNum_lanes, ← lane]

section start
variable {s : State} {n : Fin 8}

theorem laneStartComplete_goes (h1 : laneState s n = 1) (h : 64 ≤ (lane s n).fields ∨ AllAnswered s n) (hm : (lane s n).met = []) :
    Goes (.laneStartComplete n) s ((tablePositions s n).foldl (missingRaised n) (startDone s n)) := by
  have hraise : (lane (startDone s n) n).met.foldl (fun t c => if c.1 / 256 = 1 then t else raise t n (c.1 / 256) (c.1 % 256) n) (startDone s n) =
      startDone s n := by rw [lane_startDone, hm, List.foldl_nil]
  show execLaneStartComplete n s = _
  rw [execLaneStartComplete, if_pos ⟨h1, by rwa [Bool.or_eq_true, decide_eq_true_eq, all_tablePositions]⟩]
  show Host.Outcome.next (let s2 := (lane (startDone s n) n).met.foldl _ (startDone s n); (tablePositions s2 n).foldl (missingRaised n) s2) = _
  rw [hraise]
  dsimp only
  rw [tablePositions_startDone]

theorem laneStartComplete_goes_of_not (h : laneState s n ≠ 1 ∨ ((lane s n).fields < 64 ∧ ¬AllAnswered s n)) : Goes (.laneStartComplete n) s s := by
  show execLaneStartComplete n s = _
  rw [execLaneStartComplete, if_neg]
  rintro ⟨h1, hd⟩
  obtain h | ⟨hf, ha⟩ := h
  · exact h h1
  · rw [Bool.or_eq_true, all_tablePositions, decide_eq_true_eq] at hd
    exact hd.elim (by omega) ha

theorem foldl_missingRaised_of_arrived (n : Nat) (l : List Nat) {t : State} (h : ∀ p ∈ l, (pos t n p).arrived = true) :
    l.foldl (missingRaised n) t = t := by
  induction l with
  | nil => rfl
  | cons p l ih => rw [List.foldl_cons, missingRaised, if_pos (h p (by simp)), ih fun q hq => h q (by simp [hq])]

/-- Of the drivers only one has not answered: it alone is raised. -/
theorem foldl_missingRaised_one {n p : Nat} {l : List Nat} (hl : l.Nodup) (hp : p ∈ l) {t : State} (ht : (pos t n p).arrived = false)
    (hothers : ∀ j ∈ l, j ≠ p → (pos t n j).arrived = true ∧ (pos (raise (laneMet t n 1 p) n 1 p n) n j).arrived = true) :
    l.foldl (missingRaised n) t = raise (laneMet t n 1 p) n 1 p n := by
  obtain ⟨a, b, rfl⟩ := List.append_of_mem hp
  have hnot : p ∉ a ∧ p ∉ b := by
    have hd := List.nodup_append.1 hl
    exact ⟨fun ha => hd.2.2 p ha p (by simp) rfl, (List.nodup_cons.1 hd.2.1).1⟩
  rw [List.foldl_append, List.foldl_cons, foldl_missingRaised_of_arrived n a fun j hj => (hothers j (by simp [hj]) (by rintro rfl; exact hnot.1 hj)).1,
    missingRaised, if_neg (by simp [ht]),
    foldl_missingRaised_of_arrived n b fun j hj => (hothers j (by simp [hj]) (by rintro rfl; exact hnot.2 hj)).2]

theorem laneStartComplete_spec (s : State) (n : Fin 8) :
    (laneState s n ≠ 1 ∨ ((lane s n).fields < 64 ∧ ¬AllAnswered s n) → Goes (.laneStartComplete n) s s) ∧
    (laneState s n = 1 → AllAnswered s n → (lane s n).met = [] → Goes (.laneStartComplete n) s (setNum s (kLane n 2) (if (lane s n).sceneOnly then 3 else 2))) ∧
    (∀ p, laneState s n = 1 → 64 ≤ (lane s n).fields → (lane s n).met = [] → p < 16 → inTable s n p = true → (pos s n p).arrived = false →
      (∀ j, j < 16 → j ≠ p → inTable s n j = true → (pos s n j).arrived = true) → nat s (kFault n 1) ≠ 3 →
      ∃ t, Goes (.laneStartComplete n) s t ∧ laneState t n = (if (lane s n).sceneOnly then 3 else 2) ∧ Raised s t n ∧ missing t n p = true) := by
  have hn := n.isLt
  refine ⟨laneStartComplete_goes_of_not, fun h1 ha hm => ?_, fun p h1 hf hm hp ht hw hothers hq => ?_⟩
  · have h := laneStartComplete_goes h1 (.inr ha) hm
    rwa [foldl_missingRaised_of_arrived] at h
    intro p hp
    obtain ⟨hp16, hpt⟩ := List.mem_filter.1 hp
    rw [pos, lane_startDone, ← pos]
    exact ha p (List.mem_range.1 hp16) hpt
  · have hpos : ∀ j, pos (startDone s n) n j = pos s n j := fun j => by rw [pos, lane_startDone, ← pos]
    have hreg : ∀ x, x < 256 → num (laneMet (startDone s n) n 1 p) (kFault n x) = num s (kFault n x) := fun x hx => by
      rw [num_laneMet _ _ _ _ (kFault_ne_kLane hn (by decide)), startDone, num_setNum, if_neg (kFault_ne_kLane hn (by decide))]
    have hquiet : Quiet (laneMet (startDone s n) n 1 p) n :=
      ⟨by omega, fun h3 => absurd ((congrArg Int.toNat (hreg 1 (by decide))).symm.trans h3) hq⟩
    have hrep := reports_raise hquiet 1 p n
    have hlanes : ∀ j, pos (raise (laneMet (startDone s n) n 1 p) n 1 p n) n j = pos s n j := fun j => by
      rw [pos, lane, hrep.lanes, ← lane, lane_laneMet, lane_startDone]
      rfl
    have hgoes := laneStartComplete_goes h1 (.inl hf) hm
    rw [foldl_missingRaised_one (l := tablePositions s n) (List.nodup_range.filter _) (List.mem_filter.2 ⟨List.mem_range.2 hp, ht⟩) (by rw [hpos, hw]) fun j hj hne => by
      obtain ⟨hj16, hjt⟩ := List.mem_filter.1 hj
      rw [hpos, hlanes]
      exact ⟨hothers j (List.mem_range.1 hj16) hne hjt, hothers j (List.mem_range.1 hj16) hne hjt⟩] at hgoes
    refine ⟨_, hgoes, ?_, raised_of_eq (raised_raise _ (by omega) 1 p (by omega)) (hreg 8 (by decide)) ?_ ?_, ?_⟩
    · obtain ⟨hplain, -⟩ := plain_kLane hn (show 2 < 256 by decide)
      rw [laneState, nat, num_raise hquiet 1 p n hplain (kFault_ne_kLane hn (by decide)).symm, num_laneMet _ _ _ _ (kLane_ne (by decide)), startDone, num_setNum, if_pos rfl]
      split <;> rfl
    · simp [startDone]
    · simp [startDone, laneMet, laneStatusBits, putLane]
    · rw [missing, lane, hrep.lanes, ← lane, ← missing]
      exact missing_laneMet _ n p

end start

/-! ### The end of a stop (R239) -/

/-- From `s` to `t` lane `n` has at most gained drivers that are missing. -/
structure OnlyMissing (n : Nat) (s t : State) : Prop where
  lane : lane t n = { lane s n with met := (lane t n).met }
  others : ∀ m, m ≠ n → Machine.lane t m = Machine.lane s m
  state : laneState t n = laneState s n
  stored : storedOnly t = storedOnly s
  keeps : ∀ p, missing s n p = true → missing t n p = true

theorem OnlyMissing.refl (n : Nat) (s : State) : OnlyMissing n s s := ⟨rfl, fun _ _ => rfl, rfl, rfl, fun _ h => h⟩

theorem OnlyMissing.trans {n : Nat} {s t u : State} (h : OnlyMissing n s t) (g : OnlyMissing n t u) : OnlyMissing n s u where
  lane := by rw [g.lane, h.lane]
  others m hm := (g.others m hm).trans (h.others m hm)
  state := g.state.trans h.state
  stored := g.stored.trans h.stored
  keeps p hp := g.keeps p (h.keeps p hp)

theorem onlyMissing_laneMet (s : State) (n p : Nat) : OnlyMissing n s (laneMet s n 1 p) where
  lane := by rw [lane_laneMet]
  others m hm := lane_laneMet_other s hm 1 p
  state := congrArg Int.toNat (num_laneMet s n 1 p (kLane_ne (by decide)))
  stored := by
    have h : (laneMet s n 1 p).start = s.start := by simp [laneMet, laneStatusBits, putLane]
    rw [storedOnly, h, ← storedOnly]
  keeps q hq := missing_laneMet_of_missing hq 1 p

theorem onlyMissing_logMessage (s : State) {n : Nat} (hn : n < 8) (code : Nat) : OnlyMissing n s (logMessage s code) := by
  have h := (Reports.refl s).logMessage code
  have hl : ∀ m, lane (logMessage s code) m = lane s m := fun m => by rw [lane, h.lanes, ← lane]
  exact {
    lane := by rw [hl]
    others := fun m _ => hl m
    state := congrArg (fun v : Val => v.toInt.toNat)
      ((raiseClosed_reg (src := 0) (by decide) (plain_kLane hn (show 2 < 256 by decide)).1 (reg s (kLane n 2))).log s code rfl)
    stored := h.field storedOnly
    keeps := fun p hp => by rwa [missing, hl, ← missing] }

/-- A driver that has not reported while its lane stops is missing, and no source is raised (R242). -/
theorem laneFault_stopping {s : State} {n : Nat} (hn : n < 8) (h4 : laneState s n = 4) (p : Nat) :
    OnlyMissing n s (laneFault s n 1 p) ∧ missing (laneFault s n 1 p) n p = true := by
  have h := onlyMissing_laneMet s n p
  have hm := missing_laneMet s n p
  have hlog := onlyMissing_logMessage (laneMet s n 1 p) hn (faultCode n 1 p)
  unfold laneFault
  dsimp only
  rw [if_neg (c := laneRuns s n = true) (by simp [laneRuns, h4])]
  split
  · exact ⟨h, hm⟩
  · exact ⟨h.trans hlog, hlog.keeps p hm⟩

/-- A present driver that has not reported is marked missing. -/
def reportMissed (n : Nat) (t : State) (p : Nat) : State := if (pos t n p).stopOk then t else laneFault t n 1 p

theorem reportMissed_spec {s : State} {n : Nat} (hn : n < 8) (h4 : laneState s n = 4) (p : Nat) :
    OnlyMissing n s (reportMissed n s p) ∧ ((pos s n p).stopOk = false → missing (reportMissed n s p) n p = true) := by
  obtain ⟨h, hm⟩ := laneFault_stopping hn h4 p
  unfold reportMissed
  split
  · next hok => exact ⟨.refl n s, fun hno => by simp [hno] at hok⟩
  · exact ⟨h, fun _ => hm⟩

theorem foldl_reportMissed {n : Nat} (hn : n < 8) (l : List Nat) {s : State} (h4 : laneState s n = 4) :
    OnlyMissing n s (l.foldl (reportMissed n) s) ∧ ∀ p ∈ l, (pos s n p).stopOk = false → missing (l.foldl (reportMissed n) s) n p = true := by
  induction l generalizing s with
  | nil => exact ⟨.refl n s, fun p hp => by simp at hp⟩
  | cons q l ih =>
    obtain ⟨h, hq⟩ := reportMissed_spec hn h4 q
    obtain ⟨ht, hl⟩ := ih (h.state.trans h4)
    refine ⟨h.trans ht, fun p hp hno => ?_⟩
    obtain rfl | hp := List.mem_cons.1 hp
    · exact ht.keeps p (hq hno)
    · refine hl p hp ?_
      rw [pos, h.lane]
      exact hno

theorem foldl_reportMissed_of_ok (n : Nat) (l : List Nat) {s : State} (h : ∀ p ∈ l, (pos s n p).stopOk = true) : l.foldl (reportMissed n) s = s := by
  induction l with
  | nil => rfl
  | cons p l ih => rw [List.foldl_cons, reportMissed, if_pos (h p (by simp)), ih fun q hq => h q (by simp [hq])]

/-- The drivers that have not reported are known, unless only mirrored records leave the lane. -/
def stopReported (s : State) (n : Nat) : State := if mirrorOnly s n then s else (presentPositions s n).foldl (reportMissed n) s

/-- The drivers of a lane are reset with it. -/
def driversReset (s : State) (n : Nat) : State :=
  (List.range 16).foldl (fun t p => if nat t (kDriver (16 * n + p) 0xA) = 0 then t else setNum t (kDriver (16 * n + p) 0xA) 0) s

/-- A lane is left with what outlives its stop, STOPPED and with nothing queued. -/
def laneCleared (s : State) (n : Nat) : State := setNum (setNum (putLane s n (laneRest (lane s n))) (kLane n 2) 0) (kLane n 9) 0

/-- A lane is stopped: nothing but what outlives the stop is left of it. -/
def laneStopped (s : State) (n : Nat) : State :=
  endCondition (laneStatusBits (driversReset (laneCleared (lanePending s n false) n) n) n) n

/-- The lanes, and whether they run in stored-scene-only mode. -/
def lanesPart (s : State) : Lanes × Bool := (s.lanes, storedOnly s)

theorem blind_lanesPart : Blind lanesPart := by intros u regs server out faults keptHeld logHeld fs log o; rfl

/-- The registers that a stopped lane shows, its status apart. -/
def IsStopReg (n j : Nat) : Prop := j = kLane n 2 ∨ j = kLane n 9

/-- The registers of a lane that a stop leaves alone once it is cleared, its status among them. -/
def IsStopStatus (n j : Nat) : Prop := IsStopReg n j ∨ j = kLane n 0xA

theorem stands_driversReset (s : State) {n : Nat} (hn : n < 8) :
    Stands lanesPart (IsStopStatus n) s (driversReset s n) :=
  .foldl (.refl s) fun p hp u => .ite (.refl u) (.setNum (.refl u) blind_lanesPart (by unfold IsStopStatus IsStopReg kLane kDriver; omega) 0)

theorem stands_laneStatusBits (s : State) (n : Nat) : Stands lanesPart (IsStopReg n) s (laneStatusBits s n) := by
  have hset : ∀ w b x, Stands lanesPart (IsStopReg n) w (setBit w (kLane n 0xA) b x) := fun w b x =>
    .setBit (.refl w) blind_lanesPart (by rintro (h | h); exacts [kLane_ne (by decide) h, kLane_ne (by decide) h]) b x
  exact (((hset _ _ _).trans (hset _ _ _)).trans (hset _ _ _)).trans (hset _ _ _)

theorem stands_endCondition_lane (s : State) (n : Nat) :
    Stands lanesPart (IsStopStatus n) s (endCondition s n) :=
  .endCondition (.refl s) blind_lanesPart (by unfold IsStopStatus IsStopReg kLane kFault; omega)

theorem lane_laneCleared (s : State) (n m : Nat) : lane (laneCleared s n) m = if m = n then laneRest (lane s n) else lane s m := by
  rw [laneCleared, lane, setNum_lanes, setNum_lanes, ← lane]
  split
  · next h => rw [h, lane_putLane_self]
  · next h => rw [lane_putLane_other _ h]

theorem storedOnly_laneCleared (s : State) (n : Nat) : storedOnly (laneCleared s n) = storedOnly s := by
  rw [storedOnly, laneCleared, setNum_start, setNum_start]
  rfl

theorem num_laneCleared (s : State) (n : Nat) : num (laneCleared s n) (kLane n 2) = 0 ∧ num (laneCleared s n) (kLane n 9) = 0 ∧
    num (laneCleared s n) (kLane n 0xA) = num s (kLane n 0xA) := by
  have hne := fun {a b : Nat} (hab : a ≠ b) => kLane_ne (n := n) hab
  refine ⟨?_, ?_, ?_⟩ <;> unfold laneCleared
  · rw [num_setNum, if_neg (hne (by decide)), num_setNum, if_pos rfl]
  · rw [num_setNum, if_pos rfl]
  · rw [num_setNum, if_neg (hne (by decide)), num_setNum, if_neg (hne (by decide))]
    rfl

/-- What the drivers' reset and the status of a stopped lane leave of it. -/
theorem stands_laneStopped (s : State) {n : Nat} (hn : n < 8) :
    Stands lanesPart (IsStopReg n) (laneCleared (lanePending s n false) n) (laneStopped s n) :=
  have weaken : ∀ {u v}, Stands lanesPart (IsStopStatus n) u v → Stands lanesPart (IsStopReg n) u v :=
    fun h => ⟨h.same, fun j hj => h.2 j (.inl hj)⟩
  ((weaken (stands_driversReset _ hn)).trans (stands_laneStatusBits _ n)).trans (weaken (stands_endCondition_lane _ n))

theorem bit_laneStopped (s : State) {n : Nat} (hn : n < 8) : bit (laneStopped s n) (kLane n 0xA) 5 = false := by
  rw [laneStopped, bit, (stands_endCondition_lane _ n).nat_eq (.inr rfl), ← bit, bit_laneStatusBits, bit, (stands_driversReset _ hn).nat_eq (.inr rfl),
    nat, (num_laneCleared _ n).2.2, ← nat, ← bit, bit_lanePending]

theorem laneStopped_spec (s : State) {n : Nat} (hn : n < 8) : let t := laneStopped s n
    laneState t n = 0 ∧ num t (kLane n 9) = 0 ∧ bit t (kLane n 0xA) 5 = false ∧ lane t n = laneRest (lane s n) ∧ (∀ m, m ≠ n → lane t m = lane s m) ∧
    storedOnly t = storedOnly s := by
  have h := stands_laneStopped s hn
  obtain ⟨h2, h9, -⟩ := num_laneCleared (lanePending s n false) n
  obtain ⟨hlanes, hstored⟩ := Prod.mk.inj h.same
  have hlane : ∀ m, lane (laneStopped s n) m = if m = n then laneRest (lane s n) else lane s m := fun m => by
    rw [lane, hlanes, ← lane, lane_laneCleared, lane_lanePending, lane_lanePending, if_pos rfl]
    split <;> rfl
  refine ⟨?_, (h.num_eq (.inr rfl)).trans h9, bit_laneStopped s hn, by rw [hlane, if_pos rfl], fun m hm => by rw [hlane, if_neg hm], ?_⟩
  · rw [laneState, h.nat_eq (.inl rfl), nat, h2]
    rfl
  · rw [hstored, storedOnly_laneCleared, storedOnly, lanePending_start, ← storedOnly]

section complete
variable {s : State} {n : Fin 8}

theorem laneStopComplete_goes (h4 : laneState s n = 4) (hd : stopDone s n = true) : Goes (.laneStopComplete n) s
    (if (lane s n).startAsked then startLane (laneStopped (stopReported s n) n) n else laneStopped (stopReported s n) n) := by
  show execLaneStopComplete n s = _
  rw [execLaneStopComplete, if_pos ⟨h4, hd⟩]
  rfl

theorem laneStopComplete_goes_of_not (h : ¬(laneState s n = 4 ∧ stopDone s n = true)) : Goes (.laneStopComplete n) s s := by
  show execLaneStopComplete n s = _
  rw [execLaneStopComplete, if_neg h]

theorem stopReported_spec (h4 : laneState s n = 4) : OnlyMissing n s (stopReported s n) ∧
    ∀ p, p < 16 → mirrorOnly s n = false → present s n p = true → (pos s n p).stopOk = false → missing (stopReported s n) n p = true := by
  obtain ⟨h, hm⟩ := foldl_reportMissed n.isLt (presentPositions s n) h4
  unfold stopReported
  split
  · next hmir => exact ⟨.refl n s, fun p _ hno => by simp [hno] at hmir⟩
  · exact ⟨h, fun p hp _ hpres => hm p (List.mem_filter.2 ⟨List.mem_range.2 hp, hpres⟩)⟩

theorem stopReported_of_ok (h : ∀ p, p < 16 → present s n p = true → (pos s n p).stopOk = true) : stopReported s n = s := by
  unfold stopReported
  split
  · rfl
  · refine foldl_reportMissed_of_ok n _ fun p hp => ?_
    obtain ⟨hp16, hpres⟩ := List.mem_filter.1 hp
    exact h p (List.mem_range.1 hp16) hpres

/-- A driver that is missing stays so over the stop of its lane. -/
theorem missing_laneRest {s t : State} {n p : Nat} (h : missing s n p = true) (ht : (lane t n).met = (laneRest (lane s n)).met) (hp : p < 16) :
    missing t n p = true := by
  unfold missing at h ⊢
  rw [ht]
  rw [List.any_eq_true] at *
  obtain ⟨c, hc, he⟩ := h
  refine ⟨c, List.mem_filter.2 ⟨hc, ?_⟩, he⟩
  rw [beq_iff_eq] at he ⊢
  rw [he, condOf, if_neg (by decide)]
  omega

theorem laneStopComplete_spec (s : State) (n : Fin 8) :
    (¬(laneState s n = 4 ∧ stopDone s n = true) → Goes (.laneStopComplete n) s s) ∧
    (laneState s n = 4 → stopDone s n = true →
      ∃ t, Goes (.laneStopComplete n) s t ∧ laneState t n = (if (lane s n).startAsked then 1 else 0) ∧ num t (kLane n 9) = 0 ∧ bit t (kLane n 0xA) 5 = false ∧
        (∀ p, p < 16 → mirrorOnly s n = false → present s n p = true → (pos s n p).stopOk = false → missing t n p = true) ∧
        ((∀ p, p < 16 → present s n p = true → (pos s n p).stopOk = true) → (lane s n).startAsked = false → lane t n = laneRest (lane s n)) ∧
        (storedOnly s = false ∨ (lane s n).startAsked = false → ∀ m, m ≠ n.val → lane t m = lane s m)) := by
  refine ⟨laneStopComplete_goes_of_not, fun h4 hd => ⟨_, laneStopComplete_goes h4 hd, ?_⟩⟩
  obtain ⟨hmiss, hdrivers⟩ := stopReported_spec h4
  obtain ⟨hstate, h9, hA, hlane, hothers, hstored⟩ := laneStopped_spec (stopReported s n) n.isLt
  have hok := stopReported_of_ok (s := s) (n := n)
  generalize stopReported s n = u at *
  have hall : ∀ m, m ≠ n.val → lane (laneStopped u n) m = lane s m := fun m hm => (hothers m hm).trans (hmiss.others m hm)
  cases ha : (lane s n).startAsked
  · rw [if_neg (by simp), if_neg (by simp)]
    exact ⟨hstate, h9, hA, fun p hp hmir hpres hno => missing_laneRest (hdrivers p hp hmir hpres hno) (congrArg Lane.met hlane) hp,
      fun hp _ => by rw [hlane, hok hp], fun _ => hall⟩
  · obtain ⟨next, hstart, hlaneS, -, hregs, hothersS⟩ := startLane_spec (laneStopped u n) n
    have h6 : ∀ a, a < 256 → @Ne Nat (kLane n a) (kScan 6) := fun a _ => by unfold kLane kScan; omega
    have hmet : (lane (startLane (laneStopped u n) n) n).met = (laneRest (lane u n)).met := by
      rw [← met_emptied, hlaneS, met_emptied, met_startedLane, hlane, met_laneRest_laneRest]
    rw [if_pos rfl, if_pos rfl]
    refine ⟨hstart, ?_, ?_, fun p hp hmir hpres hno => missing_laneRest (hdrivers p hp hmir hpres hno) hmet hp, fun _ hno => by simp at hno, fun hs m hm => ?_⟩
    · rw [num, hregs _ (h6 9 (by decide)) (kLane_ne (by decide)), ← num, h9]
    · rw [bit, nat, num, hregs _ (h6 0xA (by decide)) (kLane_ne (by decide)), ← num, ← nat, ← bit, hA]
    · rw [hothersS (by rw [hstored, hmiss.stored]; simpa using hs) m hm, hall m hm]

theorem stopDone_iff (s : State) (n : Fin 8) : stopDone s n = true ↔ mirrorOnly s n = true ∨ ((lane s n).stops = 0 ∧
    (16 ≤ (lane s n).stopFields ∨ ∀ p, p < 16 → present s n p = true → (pos s n p).stopOk = true)) := by
  simp only [stopDone, presentPositions, Bool.or_eq_true, Bool.and_eq_true, beq_iff_eq, decide_eq_true_eq, List.all_eq_true, List.mem_filter,
    List.mem_range, and_imp]

end complete

/-! ### The lane PLL (R241) -/

/-- A lane once the PLL has locked: a transmitter that is enabled sends IDLE, and FIELD_MARKs from 100 µs on. -/
def lockedLane (s : State) (n : Nat) (l : Lane) : Lane := if laneUp s n && !l.marks then laneIdle s l else l

theorem lockedLane_spec (s : State) (n : Nat) (l : Lane) : (lockedLane s n l).marks = (l.marks || laneUp s n) ∧ (lockedLane s n l).next = l.next ∧
    (l.marks = false → (lockedLane s n l).marks = true → (lockedLane s n l).marksFrom = s.clk + usec 100) := by
  unfold lockedLane
  cases hm : l.marks
  · cases hu : laneUp s n
    · exact ⟨hm, rfl, fun _ h => absurd (hm.symm.trans h) (by decide)⟩
    · exact ⟨rfl, rfl, fun _ _ => rfl⟩
  · rw [Bool.not_true, Bool.and_false]
    exact ⟨hm, rfl, fun h => by simp at h⟩

theorem tabFind_mapKeyed {α β : Type} (f : Nat → α → β) (l : Tab α) (k : Nat) : tabFind (l.map fun x => (x.1, f x.1 x.2)) k = (tabFind l k).map (f k) := by
  induction l with
  | nil => rfl
  | cons x l ih =>
    obtain ⟨a, y⟩ := x
    by_cases h : k = a <;> simp [tabFind, h, ih]

/-- The lanes when their PLL has locked. -/
def lanesLocked (s : State) : State :=
  { s with lanes := { s.lanes with pll := true, list := s.lanes.list.map fun x => (x.1, lockedLane s x.1 x.2) } }

theorem lane_lanesLocked (s : State) (n : Nat) : lane (lanesLocked s) n = ((tabFind s.lanes.list n).map (lockedLane s n)).getD {} :=
  congrArg (fun o : Option Lane => o.getD {}) (tabFind_mapKeyed (lockedLane s) s.lanes.list n)

theorem lanePllLock_goes (s : State) : Goes .lanePllLock s (endCondition (lanesLocked s) 21) := rfl

theorem endCondition_standing (s : State) (src : Nat) : (faultSrc (endCondition s src) src).standing = false := by
  unfold endCondition
  dsimp only
  have h : ∀ x : Int, (faultSrc (setNum (putFault s src { faultSrc s src with standing := false }) (kFault src 7) x) src).standing = false := fun x => by
    rw [faultSrc, setNum_faults, ← faultSrc, faultSrc_putFault, if_pos rfl]
  split
  · split
    · exact h 2
    · rw [faultSrc_putFault, if_pos rfl]
  · next h => simpa using h

theorem lanePllLock_spec (s : State) : ∃ t, Goes .lanePllLock s t ∧ t.lanes.pll = true ∧ (faultSrc t 21).standing = false ∧ t.mem = s.mem ∧
    ∀ n, (lane t n).marks = ((lane s n).marks || (tabFind s.lanes.list n).isSome && laneState s n != 0) ∧ (lane t n).next = (lane s n).next ∧
      ((lane s n).marks = false → (lane t n).marks = true → (lane t n).marksFrom = s.clk + usec 100) := by
  have hlanes : (endCondition (lanesLocked s) 21).lanes = (lanesLocked s).lanes := endCondition_lanes _ _
  refine ⟨_, lanePllLock_goes s, by rw [hlanes]; rfl, endCondition_standing _ _, endCondition_mem _ _, fun n => ?_⟩
  have hl : lane (endCondition (lanesLocked s) 21) n = ((tabFind s.lanes.list n).map (lockedLane s n)).getD {} := by
    rw [lane, hlanes, ← lane, lane_lanesLocked]
  have hs : lane s n = (tabFind s.lanes.list n).getD {} := rfl
  rw [hl, hs]
  cases tabFind s.lanes.list n with
  | none => exact ⟨rfl, rfl, fun _ h => by simp at h⟩
  | some l => exact lockedLane_spec s n l

/-- Settles O39: a START begins its lane and then only queues records; a stop leaves what outlives it, whether or not it starts again. -/
theorem laneControl : Obligations.LaneControl := by
  refine ⟨fun s q n => ⟨laneStop_spec, laneStart_spec, laneRestart_spec, laneStatsClear_spec⟩, fun s n => laneStartComplete_spec s n, fun s n => ?_,
    lanePllLock_spec⟩
  obtain ⟨hnot, hdone⟩ := laneStopComplete_spec s n
  exact ⟨hnot, hdone, stopDone_iff s n⟩

/-! ## The DMA channels (R284) -/

/-- A module that runs, whose host port is open, and whose FAULT_REACTION of a bus error of the DMA engine (source 13) is BLOCK_RESET. Channel C15 is between two
descriptors of a chain that goes on at an address that no range of R276 holds. -/
def strandedChain : State :=
  let chain : Chain := { owner := 16, next := 0x40000000, select := false, n := 2 }
  let s := { State.reset with
    start := { held := false, running := false, loaded := true, next := 16 }
    dma := { chans := [(15, { chain := some chain })] } }
  setNum (setNum (setNum s kModuleState 1) 0x220001 1) (kFault 13 1) 3

/-- A request of the host port. -/
def portRequest : Req := { sid := 0, tid := 5, retry := false }

theorem commanded_strandedChain : Commanded strandedChain portRequest (kDma 15 1) [1] := by
  refine ⟨⟨⟨?_, ?_, ?_, ?_, ?_, ?_, ?_⟩, ⟨?_, ?_, .inl ?_⟩, ?_, ?_⟩, ?_, ?_, .inl ⟨?_, ?_⟩⟩ <;> decide +kernel

theorem controlEntry_channel15 : ControlEntry (kDma 15 1) 0x820F := ⟨by decide, by decide, by decide, by decide, by decide, by decide +kernel⟩

/-- The STOP retires the rest of the chain, whose fetch raises source 13; its reaction resets the channel, which then stands IDLE, not STOPPING. -/
theorem channelState_channelStop_strandedChain : channelState (channelStop (begun strandedChain portRequest) 15) 15 = 0 := by decide +kernel

/-- Refutes O43: while a channel STOPs, the fetch that its chain cannot make raises source 13, and where that source's reaction is BLOCK_RESET (R412) the channel is
reset to IDLE instead of left STOPPING. -/
theorem not_dmaChannels : ¬ Obligations.DmaChannels := by
  rintro ⟨-, -, -, -, -, hcommands⟩
  obtain ⟨hstop, -⟩ := hcommands strandedChain portRequest 15
  obtain ⟨t, hgoes, hstate, -⟩ := hstop commanded_strandedChain
  obtain rfl : serveCommandOf strandedChain portRequest (kDma 15 1) [1] = t := Host.Outcome.next.inj hgoes
  have hc : Concluded (channelStop (begun strandedChain portRequest) 15) (serveCommandOf strandedChain portRequest (kDma 15 1) [1]) :=
    controlled controlEntry_channel15 commanded_strandedChain rfl
  have hstopping : channelState (serveCommandOf strandedChain portRequest (kDma 15 1) [1]) 15 = 2 := hstate.trans (if_neg (by decide +kernel))
  have hidle : channelState (serveCommandOf strandedChain portRequest (kDma 15 1) [1]) 15 = 0 :=
    (congrArg Int.toNat (hc.num_eq (k := kDma 15 2) (by decide))).trans channelState_channelStop_strandedChain
  exact absurd (hstopping.symm.trans hidle) (by decide)

/-! ## The frames of a floor bus (O51)

A frame's start is captured before anything is read, and a capture writes one register that no rule of the bus reads (`…_captured`). What a
REFERENCE then does to the time bases leaves the controllers alone (`Keeps Aloof`); an alarm writes the registers of EMERGENCY_LOOP, and what decides
whether a further zone is acted on stands (`alarmRule`), so the zones of a STATUS are taken one by one. -/

/-! ### The capture of a frame's start (R329) -/

/-- A register that is none of the captures. -/
def NotCapture (j : Nat) : Prop := j / 256 ≠ 0x6320

theorem notCapture_kBus {k sub : Nat} (hk : k < 2) (hs : sub < 256 := by decide) : NotCapture (kBus k sub) := by unfold NotCapture kBus; omega

section capture
variable (s : State) (k : Fin 2)

theorem keeps_captured : Keeps NotCapture s (capture s (2 + k)) := keeps_capture (by unfold NotCapture; omega) s

theorem num_captured_kBus {sub : Nat} (hs : sub < 256 := by decide) : num (capture s (2 + k)) (kBus k sub) = num s (kBus k sub) :=
  (keeps_captured s k).num_eq (notCapture_kBus k.isLt hs)

theorem bus_captured (n : Nat) : bus (capture s (2 + k)) n = bus s n := bus_setVal ..
theorem captured_bus : (capture s (2 + k)).bus = s.bus := setVal_bus ..
theorem captured_mram : (capture s (2 + k)).mram = s.mram := setVal_mram ..
theorem captured_safety : (capture s (2 + k)).safety = s.safety := setVal_safety ..
theorem captured_start : (capture s (2 + k)).start = s.start := setVal_start ..

theorem ownCycle_captured : ownCycle (capture s (2 + k)) = ownCycle s := by
  have h : (capture s (2 + k)).time = s.time := setVal_time ..
  rw [ownCycle, tbNs, base, h]
  rfl

theorem macOk_captured (id n : Nat) (data : Bytes) : macOk (capture s (2 + k)) k id n data = macOk s k id n data := by
  unfold macOk
  rw [bus_captured]

theorem taken_captured (id : Nat) (data : Bytes) : taken (capture s (2 + k)) k id data = taken s k id data := by
  unfold taken authentic mastersBus tbState busState
  simp only [ownCycle_captured, macOk_captured]
  rw [(keeps_captured s k).nat_eq (j := kTb 2 2) (by unfold NotCapture; decide), (keeps_captured s k).nat_eq (notCapture_kBus (k := 0) (by decide)),
    (keeps_captured s k).nat_eq (notCapture_kBus (k := 1) (by decide))]

theorem ownNode_captured (n : Nat) : ownNode (capture s (2 + k)) n = ownNode s n := by
  have hd : domain (capture s (2 + k)) (kMatrix n) = domain s (kMatrix n) := by
    unfold domain storeDegraded bit
    rw [(keeps_captured s k).nat_eq (by unfold NotCapture; decide), captured_mram]
  unfold ownNode matrix serial
  rw [hd, bus_captured, captured_mram]

theorem alarmsAct_captured (z : Nat) : alarmsAct (capture s (2 + k)) k z = alarmsAct s k z := by
  unfold alarmsAct alarmsHeard coreAccept copy
  rw [captured_safety, captured_start]

/-- A frame that is refused is counted and has no other effect on the buses. -/
theorem refused_spec : (bump (capture s (2 + k)) (kBus k 0xF)).bus = s.bus ∧
    num (bump (capture s (2 + k)) (kBus k 0xF)) (kBus k 0xF) = (num s (kBus k 0xF) + 1) % 2 ^ 32 :=
  ⟨(bump_bus _ _).trans (captured_bus s k), by rw [num_bump, if_pos rfl, num_captured_kBus]⟩

end capture

theorem frames_ignored {s : State} {k : Fin 2} (h : busRuns s k = false) (r : Fin 8) (z : Fin 16) (node : Fin 32) (down : Bool) (data : Bytes) :
    Goes (.reference k r data) s s ∧ Goes (.alarmFrame k z data) s s ∧ Goes (.statusFrame k node data) s s ∧ Goes (.dictFrame k down node data) s s := by
  refine ⟨?_, ?_, ?_, ?_⟩
  · show execReference k r data s = _
    rw [execReference, if_pos (.inl (by simp [h]))]
  · show execAlarmFrame k z data s = _
    rw [execAlarmFrame, if_pos (.inl (by simp [h]))]
  · show execStatusFrame k node data s = _
    rw [execStatusFrame, if_pos (by simp [h])]
  · show execDictFrame k down node data s = _
    rw [execDictFrame, if_pos (.inl (by simp [h]))]

/-! ### REFERENCE (R345, R353) -/

section reference
variable {s : State} {k : Fin 2} {r : Fin 8} {data : Bytes}

/-- The controller has heard a REFERENCE of cycle `n` that `u` has followed; `c` and `at_` are its capture and its time. -/
def referenceHeard (u : State) (k : Nat) (data : Bytes) (n c at_ : Nat) : State :=
  let s4 := putBus u k { bus u k with heard := true, tag := some (fieldAt data 8 2), lastSof := some (n, c, at_) }
  let s5 := if busState s4 k = 5 then setNum s4 (kBus k 9) 3 else s4
  endReferenceLoss (joinBus (showBus s5 k) k)

theorem referenceCycle_captured (s : State) (k : Fin 2) (data : Bytes) : referenceCycle (capture s (2 + k)) data = referenceCycle s data := by
  unfold referenceCycle
  rw [ownCycle_captured]

/-- What a REFERENCE of cycle `n` does once its start is captured. -/
def receiveReference (s1 : State) (k r n : Nat) (data : Bytes) : State :=
  if !macOk s1 k (0x10 + r) n data then bump s1 (kBus k 0xF)
  else referenceHeard (referenceServo (noteMaster s1 k r) k n (fieldAt data 0 8)) k data n (tbNs s1 2) s1.clk

theorem execReference_eq (s : State) (k : Fin 2) (r : Fin 8) (data : Bytes) : execReference k r data s =
    .next (if !busRuns s k ∨ (busState s k = 4 ∧ nat s (kBus k 0xC) < r) then s
      else receiveReference (capture s (2 + k)) k r (referenceCycle (capture s (2 + k)) data) data) := rfl

theorem reference_goes (h : busRuns s k = true) (h4 : busState s k ≠ 4 ∨ r.val ≤ nat s (kBus k 0xC)) :
    Goes (.reference k r data) s (receiveReference (capture s (2 + k)) k r (referenceCycle s data) data) := by
  have hnot : ¬((!busRuns s k) = true ∨ busState s k = 4 ∧ nat s (kBus k 0xC) < r.val) := by
    simp only [h, Bool.not_true, Bool.false_eq_true, false_or]
    omega
  exact (execReference_eq s k r data).trans (by rw [if_neg hnot, referenceCycle_captured])

theorem num_noteMaster (s : State) (k : Fin 2) (r : Nat) : num (noteMaster s k r) (kBus k 0xC) = r := by
  have hk := k.isLt
  unfold noteMaster
  extract_lets old wasMaster s1 b s2
  have h1 : num s1 (kBus k 0xC) = r := (num_setNum _ _ _ _).trans (if_pos rfl)
  have h2 : num s2 (kBus k 0xC) = r := by
    unfold s2
    split
    · rw [num_setNum, if_neg (kBus_ne (by decide)), num_putBus, h1]
    · exact h1
  split
  · rw [(keeps_raise (quiet_busLoss s2) 1 (16 * k + r) 0).num_eq (aloof_kBus hk), num_bump, if_neg (kBus_ne_kFault hk), h2]
  · exact h2

theorem keeps_referenceServo (s : State) (k n prev : Nat) : Keeps Aloof s (referenceServo s k n prev) := by
  unfold referenceServo
  split
  · exact .ite (keeps_servoUpdateAt s (by decide) _ _) (.refl s)
  · exact .refl s

theorem bus_joinBus (s : State) (k n : Nat) : bus (joinBus s k) n = bus s n := by
  unfold joinBus
  split
  · rw [bus, setNum_bus, ← bus]
  · rfl

theorem num_joinBus (s : State) (k : Nat) : num (joinBus s k) (kBus k 0xC) = num s (kBus k 0xC) := by
  unfold joinBus
  split
  · rw [num_setNum, if_neg (kBus_ne (by decide))]
  · rfl

theorem bus_endReferenceLoss (s : State) (n : Nat) : bus (endReferenceLoss s) n = bus s n := by
  unfold endReferenceLoss
  split
  · rw [bus, endCondition_bus, ← bus]
  · rfl

theorem keeps_endReferenceLoss (s : State) : Keeps Aloof s (endReferenceLoss s) := .ite (keeps_endCondition not_aloof_kFault_active s) (.refl s)

theorem referenceHeard_spec (u : State) (k : Fin 2) (data : Bytes) (n c at_ : Nat) : let t := referenceHeard u k data n c at_
    (bus t k).heard = true ∧ (bus t k).tag = some (fieldAt data 8 2) ∧ num t (kBus k 0xC) = num u (kBus k 0xC) := by
  have hk := k.isLt
  unfold referenceHeard
  extract_lets b s4 s5
  have hbus : bus s5 k = { bus u k with heard := true, tag := some (fieldAt data 8 2), lastSof := some (n, c, at_) } := by
    have h4 : bus s4 k = _ := (bus_putBus u k k _).trans (if_pos rfl)
    unfold s5
    split
    · rw [bus, setNum_bus, ← bus, h4]
    · exact h4
  have hnum : num s5 (kBus k 0xC) = num u (kBus k 0xC) := by
    unfold s5
    split
    · rw [num_setNum, if_neg (kBus_ne (by decide)), num_putBus]
    · exact num_putBus ..
  refine ⟨?_, ?_, ?_⟩
  · rw [bus_endReferenceLoss, bus_joinBus, bus_showBus, hbus]
  · rw [bus_endReferenceLoss, bus_joinBus, bus_showBus, hbus]
  · rw [(keeps_endReferenceLoss _).num_eq (aloof_kBus hk), num_joinBus, num_showBus _ hk, hnum]

theorem reference_spec (h : busRuns s k = true) (h4 : busState s k ≠ 4 ∨ r.val ≤ nat s (kBus k 0xC)) :
    (macOk s k (0x10 + r) (referenceCycle s data) data = false → ∃ t, Goes (.reference k r data) s t ∧ t.bus = s.bus ∧
      num t (kBus k 0xF) = (num s (kBus k 0xF) + 1) % 2 ^ 32) ∧
    (macOk s k (0x10 + r) (referenceCycle s data) data = true → ∃ t, Goes (.reference k r data) s t ∧ (bus t k).heard = true ∧
      (bus t k).tag = some (fieldAt data 8 2) ∧ num t (kBus k 0xC) = r.val) := by
  have hgoes := reference_goes (data := data) h h4
  unfold receiveReference at hgoes
  rw [macOk_captured] at hgoes
  refine ⟨fun hm => ?_, fun hm => ?_⟩
  · rw [if_pos (by simp [hm])] at hgoes
    exact ⟨_, hgoes, refused_spec s k⟩
  · rw [if_neg (by simp [hm])] at hgoes
    obtain ⟨hheard, htag, hrank⟩ := referenceHeard_spec (referenceServo (noteMaster (capture s (2 + k)) k r) k (referenceCycle s data) (fieldAt data 0 8))
      k data (referenceCycle s data) (tbNs (capture s (2 + k)) 2) (capture s (2 + k)).clk
    refine ⟨_, hgoes, hheard, htag, hrank.trans ?_⟩
    rw [(keeps_referenceServo _ _ _ _).num_eq (aloof_kBus k.isLt), num_noteMaster]

end reference

/-! ### ALARM (R356, R358) -/

/-- What decides whether an alarm is acted on: the safety core and its copies, and how far the start has come. -/
def alarmRule (s : State) : Bool × Tab Bytes × Bool × Nat := (s.safety.enabled, s.safety.copies, s.start.running, s.start.next)

theorem blind_alarmRule : Blind alarmRule := by intros u regs server out faults keptHeld logHeld fs log o; rfl

theorem alarmsAct_of_alarmRule {s t : State} (h : alarmRule t = alarmRule s) (k z : Nat) : alarmsAct t k z = alarmsAct s k z := by
  obtain ⟨he, hc, hr, hn⟩ : _ ∧ _ ∧ _ ∧ _ := by simpa only [alarmRule, Prod.mk.injEq] using h
  unfold alarmsAct alarmsHeard coreAccept copy
  rw [he, hc, hr, hn]

theorem alarmRule_setNum (s : State) (j : Key) (n : Int) : alarmRule (setNum s j n) = alarmRule s :=
  (Stands.setNum (P := fun _ => False) (.refl s) blind_alarmRule id n).same

theorem alarmRule_inject (s : State) (n type : Nat) (b : Bytes) : alarmRule (inject s n type b) = alarmRule s := by
  unfold inject
  dsimp only
  split <;> rfl

theorem alarmRule_beginEgress (s : State) : alarmRule (beginEgress s) = alarmRule s := by
  refine (alarmRule_setNum _ _ _).trans ((foldl_keeps alarmRule (fun u n => ?_) _ _).trans rfl)
  exact alarmRule_inject _ n 0x10 _

theorem alarmRule_putLane (s : State) (n : Nat) (l : Lane) : alarmRule (putLane s n l) = alarmRule s := rfl

theorem alarmRule_endEgress (s : State) : alarmRule (endEgress s) = alarmRule s := by
  refine (alarmRule_setNum _ _ _).trans ((foldl_keeps alarmRule (fun u n => ?_) _ _).trans rfl)
  exact alarmRule_putLane u n _

theorem alarmRule_finishTest (s : State) (result : Nat) : alarmRule (finishTest s result) = alarmRule s := by
  unfold finishTest
  split
  · rfl
  · extract_lets rec16 s1 day s2 s3 s4
    have h1 : alarmRule s1 = alarmRule s := (Stands.setVal (P := fun _ => False) (.refl s) blind_alarmRule id _).same
    have h3 : alarmRule s3 = alarmRule s2 := by
      unfold s3
      split
      · exact alarmRule_setNum s2 _ _
      · rfl
    have h4 : alarmRule s4 = alarmRule s := ((alarmRule_setNum s3 _ _).trans h3).trans h1
    split
    · exact (alarmRule_endEgress s4).trans h4
    · exact (alarmRule_setNum s4 _ _).trans h4

/-- The registers that an alarm sets, and the count of the alarms of controller `k`. -/
def IsAlarmCount (k j : Nat) : Prop := IsAlarmReg j ∨ j = kBus k 0x10

theorem plain_isAlarmCount {k j : Nat} (hk : k < 2) (h : IsAlarmCount k j) : Plain j ∧ j ≠ kFault 34 8 := by
  unfold IsAlarmCount IsAlarmReg kEmg kBus at h
  unfold Plain kRestartPending kLogCount kLogLast kFault
  omega

theorem not_isAlarmCount_of_isTestReg {k : Nat} (hk : k < 2) (j : Key) (h : IsTestReg j) : ¬IsAlarmCount k j := by
  unfold IsTestReg at h
  unfold IsAlarmCount IsAlarmReg kEmg kBus
  omega

theorem blind_mem : Blind State.mem := by intros u regs server out faults keptHeld logHeld fs log o; rfl
theorem blindLanes_mem : BlindLanes State.mem := by intros u lanes safety pads; rfl

/-- The alarm begins: EMG_STATE is ALARM, source 34 is raised, every lane shows EGRESS, and a test ends. -/
def alarmBegun (s : State) (z : Nat) : State := finishTest (beginEgress (raise (bump (setNum s (kEmg 5) 1) (kEmg 0xB)) 34 0 z)) 4

theorem quiet_alarm (s : State) : Quiet s 34 := ⟨by decide, fun _ => by simp [HasBlock]⟩

theorem stands_alarmBegun (s : State) (z : Nat) {k : Nat} (hk : k < 2) : Stands State.mem (IsAlarmCount k) (setNum s (kEmg 5) 1) (alarmBegun s z) := by
  have htest := not_isAlarmCount_of_isTestReg hk
  have hB : ¬IsAlarmCount k (kEmg 0xB) := by unfold IsAlarmCount IsAlarmReg kEmg kBus; omega
  have h : Stands State.mem (IsAlarmCount k) (setNum s (kEmg 5) 1) (raise (bump (setNum s (kEmg 5) 1) (kEmg 0xB)) 34 0 z) :=
    ((Stands.refl _).bump blind_mem hB).raise blind_mem (quiet_alarm _) (fun _ hj => plain_isAlarmCount hk hj) 0 z 0
  exact (h.trans (stands_beginEgress blindLanes_mem _ blind_mem (htest _ (by unfold IsTestReg; decide)))).trans
    (stands_finishTest blind_mem blindLanes_mem htest _ 4)

theorem alarmRule_alarmBegun (s : State) (z : Nat) : alarmRule (alarmBegun s z) = alarmRule s := by
  have h : alarmRule (raise (bump (setNum s (kEmg 5) 1) (kEmg 0xB)) 34 0 z) = alarmRule (bump (setNum s (kEmg 5) 1) (kEmg 0xB)) :=
    (reports_raise (quiet_alarm _) 0 z 0).blind blind_alarmRule
  exact (((alarmRule_finishTest _ 4).trans (alarmRule_beginEgress _)).trans h).trans ((alarmRule_setNum _ _ _).trans (alarmRule_setNum _ _ _))

theorem enterZone_eq (s : State) (z : Nat) : enterZone s z =
    if nat (setBit s (kEmg 6) z true) (kEmg 5) = 1 then setBit s (kEmg 6) z true else alarmBegun (setBit s (kEmg 6) z true) z := rfl

theorem kEmg_ne {a b : Nat} (h : a ≠ b) : @Ne Nat (kEmg a) (kEmg b) := by unfold kEmg; omega

theorem kEmg_ne_kBus {a k sub : Nat} (hk : k < 2) (hs : sub < 256 := by decide) : @Ne Nat (kEmg a) (kBus k sub) := by unfold kEmg kBus; omega

theorem bit_alarmBegun (s : State) (z y : Nat) : bit (alarmBegun s z) (kEmg 6) y = bit s (kEmg 6) y := by
  rw [bit, (stands_alarmBegun s z (k := 0) (by decide)).nat_eq (.inl (.inl rfl)), nat, num_setNum, if_neg (kEmg_ne (by decide)), ← nat, ← bit]

/-- The zone is active, and the others as before. -/
theorem bit_enterZone (s : State) (z y : Nat) : bit (enterZone s z) (kEmg 6) y = if y = z then true else bit s (kEmg 6) y := by
  rw [enterZone_eq]
  split
  · exact bit_setBit ..
  · rw [bit_alarmBegun, bit_setBit]

theorem num_enterZone_state (s : State) (z : Nat) : num (enterZone s z) (kEmg 5) = 1 := by
  rw [enterZone_eq]
  split
  · next h =>
    rw [nat] at h
    omega
  · rw [(stands_alarmBegun _ z (k := 0) (by decide)).num_eq (.inl (.inr rfl)), num_setNum, if_pos rfl]

theorem num_enterZone_count (s : State) (z : Nat) {k : Nat} (hk : k < 2) : num (enterZone s z) (kBus k 0x10) = num s (kBus k 0x10) := by
  have hbit : num (setBit s (kEmg 6) z true) (kBus k 0x10) = num s (kBus k 0x10) := num_setBit_other s (kEmg_ne_kBus hk).symm z true
  rw [enterZone_eq]
  split
  · exact hbit
  · rw [(stands_alarmBegun _ z hk).num_eq (.inr rfl), num_setNum, if_neg (kEmg_ne_kBus hk).symm, hbit]

theorem alarmRule_enterZone (s : State) (z : Nat) : alarmRule (enterZone s z) = alarmRule s := by
  have hbit : alarmRule (setBit s (kEmg 6) z true) = alarmRule s := alarmRule_setNum s _ _
  rw [enterZone_eq]
  split
  · exact hbit
  · exact (alarmRule_alarmBegun _ z).trans hbit

theorem actOnAlarm_of_act {s : State} {k z : Nat} (h : alarmsAct s k z = true) : actOnAlarm s k z = enterZone s z := if_pos h

section alarm
variable {s : State} {k : Fin 2} {z : Fin 16} {data : Bytes}

theorem keeps_queueAlarm {P : Key → Prop} (s : State) {k : Nat} (z : Nat) (hc : ¬P (0x6320 * 256 + (2 + k))) (h : ¬P (kBus k 0x11)) :
    Keeps P s (queueAlarm s k z) := by
  have hput : ∀ b, Keeps P s (putBus s k b) := fun b => (Keeps.refl s).putBus k b
  unfold queueAlarm
  extract_lets b s1
  exact .ite (.refl s) (.ite ((keeps_sendCan hc s z _).putBus _ _)
    (.trans (.ite ((hput _).bump h) (hput _)) (keeps_flushAlarms _ hc)))

/-- A relay sends on the other bus, and counts there. -/
theorem keeps_relayAlarm (s : State) (k : Fin 2) (z : Nat) : Keeps (IsAlarmCount k) s (relayAlarm s k z) := by
  have hk := k.isLt
  have hc : ¬IsAlarmCount k (0x6320 * 256 + (2 + (1 - k.val))) := by unfold IsAlarmCount IsAlarmReg kEmg kBus; omega
  have h11 : ¬IsAlarmCount k (kBus (1 - k.val) 0x11) := by unfold IsAlarmCount IsAlarmReg kEmg kBus; omega
  exact .ite (((Keeps.refl s).putBus _ _).trans (keeps_queueAlarm _ z hc h11)) (.refl s)

/-- The ALARM frame of a zone has been seen, and counted where it is not authentic. -/
def alarmSeen (s : State) (k z : Nat) (data : Bytes) : State :=
  let s2 := if authentic s k z data then s else bump s (kBus k 0xF)
  putBus s2 k { bus s2 k with seen := z :: (bus s2 k).seen }

theorem alarmSeen_spec (s : State) (k : Fin 2) (z : Nat) (data : Bytes) :
    Keeps (IsAlarmCount k) s (alarmSeen s k z data) ∧ alarmRule (alarmSeen s k z data) = alarmRule s := by
  have hF : ¬IsAlarmCount k (kBus k 0xF) := by unfold IsAlarmCount IsAlarmReg kEmg kBus; omega
  unfold alarmSeen
  extract_lets s2 b
  have h2 : Keeps (IsAlarmCount k) s s2 ∧ alarmRule s2 = alarmRule s := by
    unfold s2
    split
    · exact ⟨.refl s, rfl⟩
    · exact ⟨(Keeps.refl s).bump hF, alarmRule_setNum s _ _⟩
  exact ⟨h2.1.putBus _ _, h2.2⟩

theorem execAlarmFrame_eq (k : Fin 2) (z : Fin 16) (data : Bytes) (s : State) : execAlarmFrame k z data s =
    .next (if !busRuns s k ∨ !alarmsHeard s then s
      else if byteAt data 0 ≠ 1 ∨ byteAt data 1 ≠ z then bump (capture s (2 + k)) (kBus k 0xF)
      else
        let s3 := alarmSeen (capture s (2 + k)) k z data
        if alarmsAct s3 k z then relayAlarm (bump (actOnAlarm s3 k z) (kBus k 0x10)) k z else s3) := rfl

theorem alarmFrame_goes_unheard (h : alarmsHeard s = false) : Goes (.alarmFrame k z data) s s :=
  (execAlarmFrame_eq k z data s).trans (congrArg Host.Outcome.next (if_pos (.inr (by simp [h]))))

theorem alarmFrame_goes_refused (hr : busRuns s k = true) (hh : alarmsHeard s = true) (hd : byteAt data 0 ≠ 1 ∨ byteAt data 1 ≠ z.val) :
    Goes (.alarmFrame k z data) s (bump (capture s (2 + k)) (kBus k 0xF)) :=
  (execAlarmFrame_eq k z data s).trans (congrArg Host.Outcome.next ((if_neg (by simp [hr, hh])).trans (if_pos hd)))

theorem alarmFrame_goes (hr : busRuns s k = true) (hh : alarmsHeard s = true) (h0 : byteAt data 0 = 1) (h1 : byteAt data 1 = z.val) :
    Goes (.alarmFrame k z data) s (if alarmsAct s k z then
      relayAlarm (bump (enterZone (alarmSeen (capture s (2 + k)) k z data) z) (kBus k 0x10)) k z else alarmSeen (capture s (2 + k)) k z data) := by
  have hact : alarmsAct (alarmSeen (capture s (2 + k)) k z data) k z = alarmsAct s k z :=
    (alarmsAct_of_alarmRule (alarmSeen_spec _ k z data).2 k z).trans (alarmsAct_captured s k z)
  refine (execAlarmFrame_eq k z data s).trans (congrArg Host.Outcome.next ?_)
  rw [if_neg (by simp [hr, hh]), if_neg (by simp [h0, h1])]
  dsimp only
  rw [hact]
  split
  · next h => rw [actOnAlarm_of_act (hact.trans h)]
  · rfl

theorem keeps_alarmHeard (s : State) (k : Fin 2) (z : Nat) (data : Bytes) : Keeps (IsAlarmCount k) s (alarmSeen (capture s (2 + k)) k z data) :=
  (keeps_capture (by unfold IsAlarmCount IsAlarmReg kEmg kBus; omega) s).trans (alarmSeen_spec _ k z data).1

theorem alarmFrame_spec (hr : busRuns s k = true) :
    (alarmsHeard s = false → Goes (.alarmFrame k z data) s s) ∧
    (alarmsHeard s = true → (byteAt data 0 ≠ 1 ∨ byteAt data 1 ≠ z.val) → ∃ t, Goes (.alarmFrame k z data) s t ∧ t.bus = s.bus ∧
      num t (kBus k 0xF) = (num s (kBus k 0xF) + 1) % 2 ^ 32) ∧
    (alarmsHeard s = true → byteAt data 0 = 1 → byteAt data 1 = z.val → s.safety.enabled = true → (coreAccept s k).testBit z = true →
      ∃ t, Goes (.alarmFrame k z data) s t ∧
        bit t (kEmg 6) z = true ∧ num t (kEmg 5) = 1 ∧ num t (kBus k 0x10) = (num s (kBus k 0x10) + 1) % 2 ^ 32) ∧
    (byteAt data 0 = 1 → byteAt data 1 = z.val → (s.safety.enabled = false ∨ (coreAccept s k).testBit z = false) → ∃ t, Goes (.alarmFrame k z data) s t ∧
      reg t (kEmg 5) = reg s (kEmg 5) ∧ reg t (kEmg 6) = reg s (kEmg 6)) := by
  have hk := k.isLt
  have hseen := keeps_alarmHeard s k z data
  refine ⟨alarmFrame_goes_unheard, fun hh hd => ⟨_, alarmFrame_goes_refused hr hh hd, refused_spec s k⟩, fun hh h0 h1 he ha => ?_, fun h0 h1 hno => ?_⟩
  · have hgoes := alarmFrame_goes hr hh h0 h1
    rw [if_pos (by simp [alarmsAct, he, hh, ha])] at hgoes
    have hrelay := keeps_relayAlarm (bump (enterZone (alarmSeen (capture s (2 + k)) k z data) z) (kBus k 0x10)) k z
    refine ⟨_, hgoes, ?_, ?_, ?_⟩
    · rw [bit, hrelay.nat_eq (.inl (.inl rfl)), nat, num_bump, if_neg (kEmg_ne_kBus hk), ← nat, ← bit, bit_enterZone, if_pos rfl]
    · rw [hrelay.num_eq (.inl (.inr rfl)), num_bump, if_neg (kEmg_ne_kBus hk), num_enterZone_state]
    · rw [hrelay.num_eq (.inr rfl), num_bump, if_pos rfl, num_enterZone_count _ _ hk, hseen.num_eq (.inr rfl)]
  · cases hh : alarmsHeard s
    · exact ⟨s, alarmFrame_goes_unheard hh, rfl, rfl⟩
    · have hgoes := alarmFrame_goes hr hh h0 h1
      rw [if_neg (by obtain h | h := hno <;> simp [alarmsAct, h])] at hgoes
      exact ⟨_, hgoes, hseen.2 _ (.inl (.inr rfl)), hseen.2 _ (.inl (.inl rfl))⟩

end alarm

/-! ### STATUS (R356, R357) -/

/-- The alarm zones of a STATUS are acted on one after the other. -/
def alarmZones (k alarms : Nat) (t : State) (z : Nat) : State := if alarms.testBit z then actOnAlarm t k z else t

theorem alarmZones_spec (k alarms : Nat) (s : State) (z : Nat) : alarmRule (alarmZones k alarms s z) = alarmRule s ∧ (alarmZones k alarms s z).mem = s.mem ∧
    ∀ y, bit (alarmZones k alarms s z) (kEmg 6) y = (bit s (kEmg 6) y || (y == z && alarms.testBit z && alarmsAct s k z)) := by
  unfold alarmZones actOnAlarm
  cases alarms.testBit z
  · exact ⟨rfl, rfl, fun y => by simp⟩
  · cases alarmsAct s k z
    · exact ⟨rfl, rfl, fun y => by simp⟩
    · refine ⟨alarmRule_enterZone s z, enterZone_mem s z, fun y => (bit_enterZone s z y).trans ?_⟩
      by_cases h : y = z <;> simp [h]

theorem foldl_alarmZones (k alarms : Nat) (l : List Nat) (s : State) : (l.foldl (alarmZones k alarms) s).mem = s.mem ∧
    ∀ y, bit (l.foldl (alarmZones k alarms) s) (kEmg 6) y = (bit s (kEmg 6) y || (l.contains y && alarms.testBit y && alarmsAct s k y)) := by
  induction l generalizing s with
  | nil => exact ⟨rfl, fun y => by simp⟩
  | cons z l ih =>
    obtain ⟨hrule, hmem, hbit⟩ := alarmZones_spec k alarms s z
    obtain ⟨ihmem, ihbit⟩ := ih (alarmZones k alarms s z)
    refine ⟨ihmem.trans hmem, fun y => (ihbit y).trans ?_⟩
    rw [hbit, alarmsAct_of_alarmRule hrule]
    by_cases h : y = z
    · subst h
      cases bit s (kEmg 6) y <;> cases alarms.testBit y <;> simp
    · have hz : (y == z) = false := beq_eq_false_iff_ne.2 h
      simp [hz, h]

section status
variable {s : State} {k : Fin 2} {node : Fin 32} {data : Bytes}

theorem execStatusFrame_eq (k : Fin 2) (node : Fin 32) (data : Bytes) (s : State) : execStatusFrame k node data s =
    .next (if !busRuns s k then s
      else
        let s1 := capture s (2 + k)
        if !taken s1 k (0x20 + node) data then bump s1 (kBus k 0xF)
        else if ownNode s1 k = some node.val then
          if fieldAt data 6 4 ≠ serial s1 % 2 ^ 32 then showBus (putBus s1 k { bus s1 k with dupNode := true }) k else s1
        else
          let s2 := (List.range 16).foldl (alarmZones k (fieldAt data 0 2)) s1
          let cancels := fieldAt data 2 2
          if nodeManager (matrix s2 k) node ∧ cancels ≠ 0 then cancelZones s2 (cancels - (cancels &&& fieldAt data 0 2)) else s2) := rfl

theorem statusFrame_goes_refused (hr : busRuns s k = true) (ht : taken s k (0x20 + node) data = false) :
    Goes (.statusFrame k node data) s (bump (capture s (2 + k)) (kBus k 0xF)) := by
  refine (execStatusFrame_eq k node data s).trans (congrArg Host.Outcome.next ?_)
  rw [if_neg (by simp [hr])]
  exact if_pos (by rw [taken_captured, ht]; rfl)

theorem statusFrame_goes_duplicate (hr : busRuns s k = true) (ht : taken s k (0x20 + node) data = true) (hown : ownNode s k = some node.val)
    (hd : fieldAt data 6 4 ≠ serial s % 2 ^ 32) : Goes (.statusFrame k node data) s
      (showBus (putBus (capture s (2 + k)) k { bus (capture s (2 + k)) k with dupNode := true }) k) := by
  have hserial : serial (capture s (2 + k)) = serial s := congrArg Mram.serial (captured_mram s k)
  refine (execStatusFrame_eq k node data s).trans (congrArg Host.Outcome.next ?_)
  rw [if_neg (by simp [hr])]
  dsimp only
  rw [if_neg (by simp [taken_captured, ht]), if_pos ((ownNode_captured s k k).trans hown), if_pos (by rwa [hserial])]

theorem statusFrame_goes_alarms (hr : busRuns s k = true) (ht : taken s k (0x20 + node) data = true) (hown : ownNode s k ≠ some node.val)
    (hc : fieldAt data 2 2 = 0) : Goes (.statusFrame k node data) s ((List.range 16).foldl (alarmZones k (fieldAt data 0 2)) (capture s (2 + k))) := by
  refine (execStatusFrame_eq k node data s).trans (congrArg Host.Outcome.next ?_)
  rw [if_neg (by simp [hr])]
  dsimp only
  rw [if_neg (by simp [taken_captured, ht]), if_neg (by rwa [ownNode_captured]), if_neg (by simp [hc])]

theorem statusFrame_spec (hr : busRuns s k = true) :
    (taken s k (0x20 + node) data = false → ∃ t, Goes (.statusFrame k node data) s t ∧ t.bus = s.bus ∧
      num t (kBus k 0xF) = (num s (kBus k 0xF) + 1) % 2 ^ 32) ∧
    (taken s k (0x20 + node) data = true → ownNode s k ≠ some node.val → fieldAt data 2 2 = 0 → alarmsHeard s = true →
      ∃ t, Goes (.statusFrame k node data) s t ∧ t.mem = s.mem ∧
        ∀ z, z < 16 → (fieldAt data 0 2).testBit z = true → s.safety.enabled = true → (coreAccept s k).testBit z = true → bit t (kEmg 6) z = true) ∧
    (taken s k (0x20 + node) data = true → ownNode s k = some node.val → fieldAt data 6 4 ≠ serial s % 2 ^ 32 →
      ∃ t, Goes (.statusFrame k node data) s t ∧ (bus t k).dupNode = true) := by
  refine ⟨fun ht => ⟨_, statusFrame_goes_refused hr ht, refused_spec s k⟩, fun ht hown hc hh => ⟨_, statusFrame_goes_alarms hr ht hown hc, ?_⟩,
    fun ht hown hd => ⟨_, statusFrame_goes_duplicate hr ht hown hd, ?_⟩⟩
  · obtain ⟨hmem, hbit⟩ := foldl_alarmZones k (fieldAt data 0 2) (List.range 16) (capture s (2 + k))
    refine ⟨hmem.trans (capture_mem _ _ _), fun z hz hz2 he ha => ?_⟩
    have hact : alarmsAct s k z = true := by simp [alarmsAct, he, hh, ha]
    rw [hbit, alarmsAct_captured, hact, hz2]
    simp [hz]
  · rw [bus_showBus, bus_putBus, if_pos rfl]

end status

/-! ### DICT (R118, R362) -/

section dict

theorem server_blind_noteChange {α : Type} {f : Server → α} (hf : ∀ sv notices n, f { sv with notices := notices, discards := n } = f sv) (sv : Server) (k : Key) :
    f (noteChange sv k) = f sv := by
  unfold noteChange
  induction sv.subs.filter (fun b => !b.periodic && b.covers k) generalizing sv with
  | nil => rfl
  | cons b l ih =>
    rw [List.foldl_cons, ih]
    unfold queueNotice addNotice
    split_ifs <;> exact hf _ _ _

/-- A write of a register leaves the sessions and the messages in hand. -/
theorem server_bump {α : Type} {f : Server → α} (hf : ∀ sv notices n, f { sv with notices := notices, discards := n } = f sv) (s : State) (j : Key) :
    f (bump s j).server = f s.server := by
  unfold bump setNum setVal
  split
  · rfl
  · exact server_blind_noteChange hf _ _

/-- The message in hand under a number. -/
def inHand (s : State) (key : Nat) : Option Reassembly := tabFind s.server.reassembly key

theorem inHand_bump (s : State) (j : Key) (key : Nat) : inHand (bump s j) key = inHand s key :=
  server_bump (f := fun sv => tabFind sv.reassembly key) (fun _ _ _ => rfl) s j

theorem sessions_bump (s : State) (j : Key) : (bump s j).server.sessions = s.server.sessions := server_bump (f := Server.sessions) (fun _ _ _ => rfl) s j

theorem tabFind_tabDrop_self {α : Type} (t : Tab α) (k : Nat) : tabFind (tabDrop t k) k = none := by
  induction t with
  | nil => rfl
  | cons x t ih =>
    obtain ⟨a, y⟩ := x
    by_cases h : a = k
    · subst h
      simpa [tabDrop] using ih
    · have hd : tabDrop ((a, y) :: t) k = (a, y) :: tabDrop t k := by simp [tabDrop, h]
      rw [hd, tabFind, if_neg (Ne.symm h), ih]

theorem inHand_putAsm (s : State) (key : Nat) (r : Option Reassembly) : inHand (putAsm s key r) key = r := by
  cases r with
  | none => exact tabFind_tabDrop_self _ _
  | some x => exact tabFind_tabPut_same _ _ _

theorem num_putAsm (s : State) (key : Nat) (r : Option Reassembly) (j : Key) : num (putAsm s key r) j = num s j := rfl

/-- A message is discarded and counted, once. -/
theorem asmFail_spec (s : State) (key : Nat) : (∃ x, inHand (asmFail s key) key = some x ∧ x.bad = true) ∧
    (asmFail s key).server.sessions = s.server.sessions ∧ (∀ j, j ≠ kFrameErrors → num (asmFail s key) j = num s j) ∧
    num (asmFail s key) kFrameErrors = if (inHand s key).any (·.bad) then num s kFrameErrors else (num s kFrameErrors + 1) % 2 ^ 32 := by
  have hcount : ∀ r : Reassembly, r.bad = true → let t := bump (putAsm s key (some r)) kFrameErrors
      (∃ x, inHand t key = some x ∧ x.bad = true) ∧ t.server.sessions = s.server.sessions ∧ (∀ j, j ≠ kFrameErrors → num t j = num s j) ∧
      num t kFrameErrors = (num s kFrameErrors + 1) % 2 ^ 32 := fun r hr =>
    ⟨⟨r, (inHand_bump _ _ key).trans (inHand_putAsm s key _), hr⟩, sessions_bump _ _, fun j hj => (num_bump _ _ j).trans (if_neg hj),
      (num_bump _ _ _).trans (if_pos rfl)⟩
  cases h : inHand s key with
  | none =>
    have hf : asmFail s key = bump (putAsm s key (some { nextSeg := 0, len := 0, got := [], bad := true })) kFrameErrors := by
      rw [asmFail, show tabFind s.server.reassembly key = none from h]
    rw [hf]
    exact hcount _ rfl
  | some r =>
    have hf : asmFail s key = if r.bad then s else bump (putAsm s key (some { r with bad := true })) kFrameErrors := by
      rw [asmFail, show tabFind s.server.reassembly key = some r from h]
    rw [hf]
    cases hb : r.bad
    · simpa [hb] using hcount { r with bad := true } rfl
    · simpa [hb] using ⟨r, h, hb⟩

variable {s : State} {k : Fin 2} {node : Fin 32} {data : Bytes}

theorem dictFrame_goes_refused (hr : busRuns s k = true) (hown : ownNode s k = some node.val) (ht : taken s k (0x40 + node) data = false) :
    Goes (.dictFrame k true node data) s (asmClose (asmFail (bump s (kBus k 0xF)) (asmKey k (managerNode s k) (byteAt data 1)))
      (asmKey k (managerNode s k) (byteAt data 1)) ((byteAt data 0).testBit 6)) := by
  show execDictFrame k true node data s = _
  rw [execDictFrame, if_neg (by simp [hr, hown])]
  dsimp only
  rw [if_pos (by simpa using ht)]
  rfl

/-- A segment that is not authentic is counted, and its message is discarded. -/
theorem dictFrame_refused (hr : busRuns s k = true) (hown : ownNode s k = some node.val) (ht : taken s k (0x40 + node) data = false) :
    ∃ t, Goes (.dictFrame k true node data) s t ∧ num t (kBus k 0xF) = (num s (kBus k 0xF) + 1) % 2 ^ 32 ∧ t.server.sessions = s.server.sessions ∧
      let key := asmKey k (managerNode s k) (byteAt data 1)
      num t kFrameErrors = (if (tabFind s.server.reassembly key).any (·.bad) then num s kFrameErrors else (num s kFrameErrors + 1) % 2 ^ 32) ∧
      ((byteAt data 0).testBit 6 = true → tabFind t.server.reassembly key = none) ∧
      ((byteAt data 0).testBit 6 = false → ∃ x, tabFind t.server.reassembly key = some x ∧ x.bad = true) := by
  have hk := k.isLt
  have hF : @Ne Nat (kBus k 0xF) kFrameErrors := by unfold kBus kFrameErrors; omega
  refine ⟨_, dictFrame_goes_refused hr hown ht, ?_⟩
  generalize asmKey k (managerNode s k) (byteAt data 1) = key
  obtain ⟨hbad, hsessions, hnum, herr⟩ := asmFail_spec (bump s (kBus k 0xF)) key
  rw [inHand_bump, num_bump, if_neg hF.symm] at herr
  have h1 : num (asmFail (bump s (kBus k 0xF)) key) (kBus k 0xF) = (num s (kBus k 0xF) + 1) % 2 ^ 32 := by rw [hnum _ hF, num_bump, if_pos rfl]
  have h2 := hsessions.trans (sessions_bump s _)
  cases (byteAt data 0).testBit 6
  · exact ⟨h1, h2, herr, fun h => by simp at h, fun _ => hbad⟩
  · exact ⟨h1, h2, herr, fun _ => inHand_putAsm _ key none, fun h => by simp at h⟩

theorem byteAt_take (b : Bytes) {i n : Nat} (h : i < n) : byteAt (b.take n) i = byteAt b i := by
  simp [byteAt, List.getD, h]

theorem fieldAt_take (b : Bytes) {off len n : Nat} (h : off + len ≤ n) : fieldAt (b.take n) off len = fieldAt b off len := by
  rw [fieldAt, fieldAt, slice, slice, List.drop_take, List.take_take, Nat.min_eq_left (by omega)]

/-- The message of a TAG begins anew: one in hand is discarded. -/
def restarted (s : State) (key : Nat) : State := putAsm (if (tabFind s.server.reassembly key).isSome then asmFail s key else s) key none

theorem takeSegment_first {s : State} {k node : Nat} {data : Bytes} (h0 : byteAt data 0 = 0x80) (hl : fieldAt data 2 2 ≤ 510) (h6 : 6 < fieldAt data 2 2) :
    takeSegment s k node (data.take 10) = putAsm (restarted s (asmKey k node (byteAt data 1))) (asmKey k node (byteAt data 1))
      (some { nextSeg := 1, len := fieldAt data 2 2, got := slice (data.take 10) 4 6 }) := by
  have hgot : ¬fieldAt data 2 2 ≤ (slice (data.take 10) 4 6).length := by
    have := List.length_take_le 6 ((data.take 10).drop 4)
    rw [slice]
    omega
  unfold takeSegment
  rw [byteAt_take data (by decide), byteAt_take data (by decide), fieldAt_take data (by decide), h0]
  dsimp only
  rw [if_pos (by decide), if_neg (by omega), joinSegment]
  dsimp only
  rw [List.nil_append, if_neg (by decide), if_neg (by omega)]
  rfl

/-- A FIRST segment that is not the LAST one begins its message anew (R118). -/
theorem dictFrame_first (hr : busRuns s k = true) (hm : isManagerOn s k = true) (ht : taken s k (0x60 + node) data = true) (h0 : byteAt data 0 = 0x80)
    (hl : fieldAt data 2 2 ≤ 510) (h6 : 6 < fieldAt data 2 2) : ∃ t, Goes (.dictFrame k false node data) s t ∧
      tabFind t.server.reassembly (asmKey k node (byteAt data 1)) = some { nextSeg := 1, len := fieldAt data 2 2, got := slice (data.take 10) 4 6 } := by
  refine ⟨putAsm (restarted s (asmKey k node (byteAt data 1))) (asmKey k node (byteAt data 1)) _, ?_, inHand_putAsm _ _ _⟩
  show execDictFrame k false node data s = _
  rw [execDictFrame, if_neg (by simp [hr, hm])]
  dsimp only
  rw [if_neg (by simpa using ht), takeSegment_first h0 hl h6]
  rfl

theorem floorSegmentTimeout_spec (tag : Byte) :
    (tabFind s.server.reassembly (asmKey k node tag.toNat) = none → Goes (.floorSegmentTimeout k node tag) s s) ∧
    (∀ x, tabFind s.server.reassembly (asmKey k node tag.toNat) = some x → ∃ t, Goes (.floorSegmentTimeout k node tag) s t ∧
      tabFind t.server.reassembly (asmKey k node tag.toNat) = none ∧
      num t kFrameErrors = if x.bad then num s kFrameErrors else (num s kFrameErrors + 1) % 2 ^ 32) := by
  refine ⟨fun h => ?_, fun x h => ?_⟩
  · show execFloorSegmentTimeout k node tag s = _
    rw [execFloorSegmentTimeout, if_neg (by simp [h])]
  · refine ⟨putAsm (asmFail s (asmKey k node tag.toNat)) (asmKey k node tag.toNat) none, ?_, inHand_putAsm _ _ none, ?_⟩
    · show execFloorSegmentTimeout k node tag s = _
      rw [execFloorSegmentTimeout, if_pos (by simp [h])]
    · obtain ⟨-, -, -, herr⟩ := asmFail_spec s (asmKey k node tag.toNat)
      rw [num_putAsm, herr, inHand, h]
      rfl

end dict

/-- Settles O51: each frame is one equation of the state it leaves, in which a refused frame is counted, and an alarm's zones are entered one by one. -/
theorem busFrames : Obligations.BusFrames :=
  ⟨fun _ _ r z node down data h => frames_ignored h r z node down data, fun _ _ _ _ h h4 => reference_spec h h4, fun _ _ _ _ h => alarmFrame_spec h,
    fun _ _ _ _ h => statusFrame_spec h, fun _ _ _ tag _ => ⟨dictFrame_refused, dictFrame_first, floorSegmentTimeout_spec tag⟩⟩

end Sys2Proof.Machine
end

section
open Sys2Proof Sys2Proof.Claim
set_option Elab.async false
namespace Sys2Proof.Machine

/-! ## One step (O1) -/

theorem stepRunsFront : StepRunsFront := fun _ _ _ => rfl

theorem stepIdle : StepIdle := by
  intro s h
  refine ⟨elapse s 1, ?_, rfl, rfl, rfl, rfl⟩
  rw [step, h]

/-- Settles O1: both parts are the two branches of `step`. -/
theorem stepOfTheQueue : Obligations.StepOfTheQueue := ⟨stepRunsFront, stepIdle⟩

/-! ## A change of a register (O16) -/

/-- A notification of a subscription for a sub-index is queued. -/
def Noticed (sv : Server) (num : Nat) (k : Key) : Prop := ∃ n ∈ sv.notices, n.num = num ∧ n.key = k

/-- The notifications a session has queued. -/
def queuedOf (sv : Server) (sid : Nat) : Nat := (sv.notices.filter fun n => n.sid == sid).length

/-- Counting up the change of a notification in its place takes no place of the queue. -/
theorem queuedOf_map (sv : Server) (sid : Nat) {f : Notice → Notice} (hf : ∀ n, (f n).sid = n.sid) :
    queuedOf { sv with notices := sv.notices.map f } sid = queuedOf sv sid := by
  simp only [queuedOf, List.filter_map, List.length_map]
  congr 2
  funext n
  simp [hf]

theorem queuedOf_queueNotice_le (sv : Server) (b : Sub) (k : Key) (sid : Nat) : queuedOf (queueNotice sv b k) sid ≤ queuedOf sv sid + 1 := by
  unfold queueNotice addNotice
  split
  · rw [queuedOf_map sv sid fun n => by split <;> rfl]
    exact Nat.le_succ _
  · split
    · simp only [queuedOf, List.filter_append, List.length_append]
      have := List.length_filter_le (fun n : Notice => n.sid == sid) [{ num := b.num, sid := b.sid, key := k, count := 1 }]
      simpa using this
    · exact Nat.le_succ _

theorem Noticed.queueNotice {sv : Server} {num : Nat} {j : Key} (h : Noticed sv num j) (b : Sub) (k : Key) : Noticed (queueNotice sv b k) num j := by
  obtain ⟨n, hn, hnum, hkey⟩ := h
  unfold Machine.queueNotice addNotice
  split
  · exact ⟨_, List.mem_map.2 ⟨n, hn, rfl⟩, by split <;> exact hnum, by split <;> exact hkey⟩
  · split
    · exact ⟨n, List.mem_append_left _ hn, hnum, hkey⟩
    · exact ⟨n, hn, hnum, hkey⟩

/-- While its session's queue has a place, a subscription has its notification queued (R100). -/
theorem noticed_queueNotice {sv : Server} {b : Sub} (h : queuedOf sv b.sid < 32) (k : Key) : Noticed (queueNotice sv b k) b.num k := by
  by_cases ha : sv.notices.any (fun n => n.num == b.num && n.key == k) = true
  · obtain ⟨n, hn, hp⟩ := List.any_eq_true.1 ha
    simp only [Bool.and_eq_true, beq_iff_eq] at hp
    exact Noticed.queueNotice ⟨n, hn, hp⟩ b k
  · unfold queuedOf at h
    rw [queueNotice, if_neg ha, addNotice, if_pos h]
    exact ⟨_, List.mem_append_right _ (List.mem_singleton_self _), rfl, rfl⟩

theorem noticed_foldl_queueNotice {l : List Sub} {k : Key} {b : Sub} (hb : b ∈ l) {sv : Server} (hroom : queuedOf sv b.sid + l.length ≤ 32) :
    Noticed (l.foldl (fun v b => queueNotice v b k) sv) b.num k := by
  have hkeep : ∀ (l : List Sub) (sv : Server), Noticed sv b.num k → Noticed (l.foldl (fun v b => queueNotice v b k) sv) b.num k := by
    intro l
    induction l with
    | nil => exact fun _ h => h
    | cons c l ih => exact fun sv h => ih _ (h.queueNotice c k)
  induction l generalizing sv with
  | nil => exact absurd hb (by simp)
  | cons c l ih =>
    rw [List.length_cons] at hroom
    obtain rfl | hb := List.mem_cons.1 hb
    · exact hkeep l _ (noticed_queueNotice (by omega) k)
    · have := queuedOf_queueNotice_le sv c k b.sid
      exact ih hb (Nat.le_trans (Nat.add_le_add_right this _) (by omega))

/-- R99: a change reaches each ON_CHANGE subscription to it, as long as its session's queue cannot be full. -/
theorem noticed_noteChange {sv : Server} {b : Sub} {k : Key} (hb : b ∈ sv.subs) (hp : b.periodic = false) (hc : b.covers k = true)
    (hroom : queuedOf sv b.sid + sv.subs.length ≤ 32) : Noticed (noteChange sv k) b.num k :=
  noticed_foldl_queueNotice (List.mem_filter.2 ⟨hb, by simp [hp, hc]⟩) (Nat.le_trans (Nat.add_le_add_left (List.length_filter_le _ _) _) hroom)

/-- Settles O16: a change gives each ON_CHANGE subscription a notification, one after another, and each takes one place of its session's queue at most. -/
theorem registerWritten : Obligations.RegisterWritten := by
  intro s k v
  refine ⟨fun h => if_pos h, fun h => ⟨fun j => reg_setVal s k j v, ?_, fun b hb hp hc hroom => ?_⟩⟩
  · rw [setVal, if_neg h]
  · rw [setVal, if_neg h]
    exact noticed_noteChange hb hp hc hroom

/-! ## A request that is taken, and its answer

What `serve_of_taken` leaves of a request is the state its operation leaves and the answer: `serve_answers`. `answered_answer` says where the answer
stands, and `OnlyServer` what an answer can change. -/

/-! ### Notifications queued -/

theorem queueNotice_shape (sv : Server) (b : Sub) (k : Key) : ∃ ns d, queueNotice sv b k = { sv with notices := ns, discards := d } := by
  unfold queueNotice addNotice
  split_ifs
  · exact ⟨_, _, rfl⟩
  · exact ⟨_, _, rfl⟩
  · exact ⟨_, _, rfl⟩

theorem foldl_queueNotice_shape {β : Type} (f : β → Sub) (g : β → Key) (l : List β) (sv : Server) :
    ∃ ns d, l.foldl (fun v x => queueNotice v (f x) (g x)) sv = { sv with notices := ns, discards := d } := by
  induction l generalizing sv with
  | nil => exact ⟨_, _, rfl⟩
  | cons x l ih =>
    obtain ⟨ns, d, h⟩ := queueNotice_shape sv (f x) (g x)
    obtain ⟨ns', d', h'⟩ := ih (queueNotice sv (f x) (g x))
    exact ⟨ns', d', by rw [List.foldl_cons, h', h]⟩

/-- A change of a register adds notifications, and nothing else of the server changes. -/
theorem noteChange_shape (sv : Server) (k : Key) : ∃ ns d, noteChange sv k = { sv with notices := ns, discards := d } :=
  foldl_queueNotice_shape id (fun _ => k) _ sv

theorem setVal_shape (s : State) (k : Key) (v : Val) : ∃ rs ns d, setVal s k v = { s with regs := rs, server := { s.server with notices := ns, discards := d } } := by
  unfold setVal
  split
  · exact ⟨_, _, _, rfl⟩
  · obtain ⟨ns, d, h⟩ := noteChange_shape s.server k
    exact ⟨_, ns, d, by rw [h]⟩

section setVal
variable (s : State) (k : Key) (v : Val) (n : Int)

@[simp] theorem setVal_sessions : (setVal s k v).server.sessions = s.server.sessions := by
  obtain ⟨_, _, _, h⟩ := setVal_shape s k v
  rw [h]

@[simp] theorem setVal_transfers : (setVal s k v).server.transfers = s.server.transfers := by
  obtain ⟨_, _, _, h⟩ := setVal_shape s k v
  rw [h]

@[simp] theorem setVal_subs : (setVal s k v).server.subs = s.server.subs := by
  obtain ⟨_, _, _, h⟩ := setVal_shape s k v
  rw [h]

@[simp] theorem setNum_sessions : (setNum s k n).server.sessions = s.server.sessions := setVal_sessions s k _
@[simp] theorem setNum_transfers : (setNum s k n).server.transfers = s.server.transfers := setVal_transfers s k _
@[simp] theorem setNum_subs : (setNum s k n).server.subs = s.server.subs := setVal_subs s k _
@[simp] theorem bump_sessions : (bump s k).server.sessions = s.server.sessions := setVal_sessions s k _
@[simp] theorem bump_transfers : (bump s k).server.transfers = s.server.transfers := setVal_transfers s k _
@[simp] theorem bump_subs : (bump s k).server.subs = s.server.subs := setVal_subs s k _

end setVal

theorem session_congr {s t : State} (h : t.server.sessions = s.server.sessions) (sid : Nat) : session t sid = session s sid := by
  rw [session, session, h]

theorem sessionOpen_congr {s t : State} (h : t.server.sessions = s.server.sessions) (sid : Nat) : sessionOpen t sid = sessionOpen s sid := by
  rw [sessionOpen, sessionOpen, h]

/-! ### What an answer changes -/

theorem onlyServer_trans {s t u : State} (h : OnlyServer s t) (g : OnlyServer t u) : OnlyServer s u := by
  obtain ⟨h1, h2⟩ := h
  obtain ⟨g1, g2⟩ := g
  refine ⟨?_, fun k hk => (g2 k hk).trans (h2 k hk)⟩
  rw [← h1, ← g1]

theorem onlyServer_server (s : State) (v : Server) : OnlyServer s { s with server := v } := ⟨rfl, fun _ _ => rfl⟩

theorem Concluded.onlyServer {s t : State} (h : Concluded s t) (hp : t.pair = s.pair) : OnlyServer s t := by
  obtain ⟨h1, h2, -⟩ := h
  rw [← hp] at h1
  exact ⟨h1, h2⟩

theorem onlyServer_answer (s : State) (sid : Nat) (tid : Half) (op status : Byte) (body : Bytes) : OnlyServer s (answer s sid tid op status body) :=
  (concluded_answer s sid tid op status body).onlyServer (answer_pair ..)

/-- A message to a session touches its queue of messages alone, of all sessions' records. -/
theorem session_sendTo (s : State) (sid : Nat) (m : Bytes) (j : Nat) : ∃ l, session (sendTo s sid m) j = { session s j with txQueue := l } := by
  unfold sendTo
  split
  · exact ⟨_, rfl⟩
  · dsimp only
    split
    · rw [session_putSession]
      split
      · next h => exact ⟨_, by rw [h]⟩
      · exact ⟨_, rfl⟩
    · exact ⟨_, session_congr (bump_sessions ..) j⟩
  · exact ⟨_, rfl⟩
  · exact ⟨_, rfl⟩

/-- The record of a session that has been answered: the response is kept (R108), and the limit of the request in hand is over (R83). -/
theorem session_answer (s : State) (sid : Nat) (tid : Half) (op status : Byte) (body : Bytes) : ∃ l, session (answer s sid tid op status body) sid =
    { session s sid with
      kept := ({ tid := tid, op := op, status := status, body := body, at_ := s.clk } :: (session s sid).kept).take 16
      busy := (session s sid).busy.filter fun t => t != tid
      usedAt := s.clk, limit := none, txQueue := l } := by
  obtain ⟨l, h⟩ := session_sendTo (putSession s sid { session s sid with
    kept := ({ tid := tid, op := op, status := status, body := body, at_ := s.clk } :: (session s sid).kept).take 16
    busy := (session s sid).busy.filter fun t => t != tid, usedAt := s.clk, limit := none }) sid (responseMsg op tid status body) sid
  rw [session_putSession, if_pos rfl] at h
  exact ⟨l, h⟩

@[simp] theorem sendTo_transfers (s : State) (sid : Nat) (m : Bytes) : (sendTo s sid m).server.transfers = s.server.transfers := by
  unfold sendTo
  split <;> (try dsimp only) <;> (try split_ifs) <;> simp

@[simp] theorem sendTo_subs (s : State) (sid : Nat) (m : Bytes) : (sendTo s sid m).server.subs = s.server.subs := by
  unfold sendTo
  split <;> (try dsimp only) <;> (try split_ifs) <;> simp

@[simp] theorem answer_transfers (s : State) (sid : Nat) (tid : Half) (op status : Byte) (body : Bytes) :
    (answer s sid tid op status body).server.transfers = s.server.transfers := sendTo_transfers _ _ _

@[simp] theorem answer_subs (s : State) (sid : Nat) (tid : Half) (op status : Byte) (body : Bytes) :
    (answer s sid tid op status body).server.subs = s.server.subs := sendTo_subs _ _ _

theorem answered_answer {s u : State} {q : Req} (hclk : u.clk = s.clk) (op status : Byte) (body : Bytes) :
    Answered s (answer u q.sid q.tid op status body) q op status body := by
  obtain ⟨l, h⟩ := session_answer u q.sid q.tid op status body
  refine ⟨by rw [h, ← hclk]; rfl, fun h0 => ?_⟩
  rw [answer, h0]
  exact List.getLast?_concat

/-! ### The request carried out -/

theorem sessionOpen_begun (s : State) (q : Req) : sessionOpen (begun s q) q.sid = true := by
  simp [sessionOpen, begun]

theorem onlyServer_begun (s : State) (q : Req) : OnlyServer s (begun s q) := onlyServer_server s _

/-- A request that its session's open transport answers, but for CLOSE. -/
theorem conclude_of_open {u : State} {sid : Nat} (h1 : sid ≠ 1) (hopen : sessionOpen u sid = true) {o : MdpOp} (ho : o ≠ .close) (tid : Half) (x : Byte × Bytes) :
    conclude u sid tid o (some x) = answer u sid tid (opCode o) x.1 x.2 := by
  unfold conclude
  simp only [if_neg h1, if_pos hopen]

/-- A request that is taken and not left waiting is answered in the state its operation leaves. -/
theorem serve_answers {s u : State} {q : Req} {o : MdpOp} {x : Byte × Bytes} (h : Taken s q o) (hop : opCode o ≠ 0x21) (hclose : o ≠ .close)
    (hp : perform (begun s q) q.sid q.tid o none = (some x, u)) (hopen : sessionOpen u q.sid = true) :
    serve s q o = answer u q.sid q.tid (opCode o) x.1 x.2 := by
  rw [serve_of_taken h hop, hp]
  exact conclude_of_open h.1.1 hopen hclose q.tid x

/-- An operation that leaves the state alone is answered, and nothing else happens. -/
theorem served_still {s : State} {q : Req} {o : MdpOp} {x : Byte × Bytes} (h : Taken s q o) (hop : opCode o ≠ 0x21) (hclose : o ≠ .close)
    (hp : perform (begun s q) q.sid q.tid o none = (some x, begun s q)) :
    OnlyServer s (serve s q o) ∧ Answered s (serve s q o) q (opCode o) x.1 x.2 := by
  rw [serve_answers h hop hclose hp (sessionOpen_begun s q)]
  exact ⟨onlyServer_trans (onlyServer_begun s q) (onlyServer_answer ..), answered_answer rfl ..⟩

theorem fits_of_le {s : State} {sid : Nat} {body : Bytes} (h : body.length ≤ lenLimit sid) : fits s sid body = (some (0, body), s) :=
  if_neg (Nat.not_lt.2 h)

/-! ## READ and READ_MULTI (O17) -/

theorem serveRead_passed {s : State} {sid : Nat} {ref : Ref} (hc : checkRead s sid ref = 0) (hfit : 3 + (readItem s ref).2.length ≤ lenLimit sid) :
    serveRead s sid ref =
      (some (0, BitVec.ofNat 8 (readItem s ref).1 :: leBytes 2 (readItem s ref).2.length ++ (readItem s ref).2), s) := by
  rw [serveRead, hc]
  exact fits_of_le (body := BitVec.ofNat 8 (readItem s ref).1 :: valueBytes (readItem s ref).2) (by simp [valueBytes, leBytes]; omega)

theorem serveReadMulti_fits {s : State} {sid : Nat} {refs : List Ref} (h0 : refs ≠ []) (h32 : refs.length ≤ 32) {body : Bytes}
    (hb : body = refs.flatMap fun r =>
      if checkRead s sid r = 0 then 0 :: BitVec.ofNat 8 (readItem s r).1 :: leBytes 2 (readItem s r).2.length ++ (readItem s r).2
      else [checkRead s sid r, 0, 0, 0]) (hfit : body.length ≤ lenLimit sid) : serveReadMulti s sid refs = (some (0, body), s) := by
  subst hb
  rw [serveReadMulti, if_neg h0, if_neg (by omega), ← fits_of_le hfit]
  simp only [ne_eq, ite_not]
  rfl

/-- Settles O17: a read leaves the state in which its request is carried out, and the answer. -/
theorem reads : Obligations.Reads := by
  refine ⟨fun s q ref ht hc hfit => ⟨_, rfl, ?_⟩, fun s q refs ht h0 h32 hfit => ⟨_, rfl, ?_⟩, fun s ref d hd h0 ho hl => ?_⟩
  · exact served_still ht (by simp [opCode]) (by simp) (serveRead_passed hc hfit)
  · have hp : perform (begun s q) q.sid q.tid (.readMulti refs) none = serveReadMulti (begun s q) q.sid refs := by simp [perform, bodyOk, h0]
    exact served_still ht (by simp [opCode]) (by simp) (hp.trans (serveReadMulti_fits h0 h32 rfl hfit))
  · have h0 : ref.sub.toNat ≠ 0 := fun h => h0 (BitVec.eq_of_toNat_eq h)
    rw [readItem, hd]
    simp [readVal, h0, hl, ho]

/-! ## The rows of one register (O18, O21)

Each row is the COMMAND or the WRITE of one register: `commandRows_goes`, `writeRows_goes`. What is said of such a request then holds of every row. -/

theorem goes_command {i : Instr} {s : State} {q : Req} {k j : Nat} {v : Bytes} (h : exec i s = .next (serveCommandOf s q j v)) (hk : k = j) :
    Goes i s (serveCommandOf s q k v) := hk ▸ h

theorem goes_write {i : Instr} {s : State} {q : Req} {k j : Nat} {v : Bytes} (h : exec i s = .next (serveWriteOf s q j v)) (hk : k = j) :
    Goes i s (serveWriteOf s q k v) := hk ▸ h

section rows
variable {q : Req} {v : Bytes} {lum sh : Byte} {k c : Fin 16} {n pin : Fin 8} {b : Fin 4} {a : Fin 2} {src : Fin 64} {zone : Fin 16384} {ref : Ref}

theorem commandRows_goes (s : State) : ForCommandRows q v lum sh k c n b a src fun i key w => Goes i s (serveCommandOf s q key w) := by
  simp only [ForCommandRows, List.forall_mem_cons, List.not_mem_nil, false_implies, implies_true, and_true]
  repeat' apply And.intro
  all_goals refine goes_command rfl ?_
  all_goals simp -failIfUnchanged only [kFade, kEngine, kProgramCtl, kLane, kDma, kMeter, kTb, kRtc, kAlarm, kBus, kAir, kFault, kRed, kKeys, kAttest,
    kUpdate, kWave, kRec]
  all_goals omega

theorem forCommandRows_mono {P Q : Instr → Key → Bytes → Prop} (h : ForCommandRows q v lum sh k c n b a src P) (hpq : ∀ i key w, P i key w → Q i key w) :
    ForCommandRows q v lum sh k c n b a src Q := by
  obtain ⟨h1, h2, h3⟩ := h
  exact ⟨fun f hf => hpq _ _ _ (h1 f hf), fun f hf => hpq _ _ _ (h2 f hf), fun f hf => hpq _ _ _ (h3 f hf)⟩

theorem refOf_of_ref (r : Ref) : refOf (r.index.toNat * 256 + r.sub.toNat) = r := by
  have hi := r.index.isLt
  have hs := r.sub.isLt
  have h1 : BitVec.ofNat 16 ((r.index.toNat * 256 + r.sub.toNat) / 256) = r.index := by
    apply BitVec.eq_of_toNat_eq
    rw [BitVec.toNat_ofNat]
    omega
  have h2 : BitVec.ofNat 8 (r.index.toNat * 256 + r.sub.toNat) = r.sub := by
    apply BitVec.eq_of_toNat_eq
    rw [BitVec.toNat_ofNat]
    omega
  rw [refOf, h1, h2]

theorem writeRows_goes (s : State) : ForWriteRows q v ref pin zone c fun i key => Goes i s (serveWriteOf s q key v) := by
  simp only [ForWriteRows, List.forall_mem_cons, List.not_mem_nil, false_implies, implies_true, and_true]
  refine ⟨?_, goes_write rfl (by omega), goes_write rfl rfl, goes_write rfl (by omega), goes_write rfl (by unfold kTo; omega), goes_write rfl rfl,
    goes_write rfl rfl, goes_write rfl rfl⟩
  rw [serveWriteOf, refOf_of_ref]
  rfl

end rows

/-! ### What the checks say of the item -/

theorem storedItem_fst (s : State) (r : Ref) (v : Bytes) : (storedItem s r v).1 = r.index.toNat * 256 + r.sub.toNat := by
  unfold storedItem
  cases declOf s r.index.toNat r.sub.toNat <;> rfl

/-- An item that passes its checks is a command's exactly if it was commanded. -/
theorem isCommand_storedItem {s t : State} {sid : Nat} {isCmd : Bool} {r : Ref} {v : Bytes} (h : checkWrite s t sid isCmd r v = 0) :
    isCommand s (storedItem s r v).1 = isCmd := by
  have hlt := r.sub.isLt
  have hi : (r.index.toNat * 256 + r.sub.toNat) / 256 = r.index.toNat := by omega
  have hs : (r.index.toNat * 256 + r.sub.toNat) % 256 = r.sub.toNat := by omega
  obtain ⟨d, hd, hcmd, -⟩ := checkWrite_eq_zero h
  rw [storedItem_fst, isCommand, hi, hs, hd, hcmd]
  rfl

theorem makeDurable_of_not_rwp {s : State} {items : List (Key × Val)} (h : ∀ i ∈ items, isRwp s i.1 = false) : makeDurable s items = s := by
  have hnil : items.filter (fun i => isRwp s i.1) = [] := by simpa using h
  rw [makeDurable, hnil]
  rfl

/-- A command is not durable: there is nothing to store (R78). -/
theorem makeDurable_command {s t : State} {sid : Nat} {r : Ref} {v : Bytes} (h : checkWrite s t sid true r v = 0) :
    makeDurable s [storedItem s r v] = s :=
  makeDurable_of_not_rwp fun i hi => by
    rw [List.mem_singleton.1 hi]
    exact isRwp_of_isCommand (isCommand_storedItem h)

/-! ### A change that waits (R177) -/

theorem session_begun (s : State) (q : Req) :
    session (begun s q) q.sid = { session s q.sid with usedAt := s.clk, limit := q.origin.map fun n => roleOfNat n } := by
  rw [begun, session_putSession, if_pos rfl]

/-- An engine input while engines read the inputs, or a change that comes while another waits, waits for an input window. -/
theorem acceptItems_waits {s : State} {i : Key × Val} (hkey : i.1 ≠ kRec 2) (hdur : makeDurable s [i] = s)
    (hw : (isInput i.1 = true ∧ noReaders s = false) ∨ s.server.waiting ≠ []) (sid : Nat) (tid : Half) (op : Byte) (inner : Option (Byte × Half)) :
    acceptItems s sid tid op [i] inner = (none, { s with server := { s.server with
      waiting := s.server.waiting ++ [{ sid := sid, tid := tid, op := op, items := [i], domain := none, inner := inner }] } }) := by
  have hitems : (if closing s then [i].filter fun j => j.1 != kRec 2 else [i]) = [i] := by
    have : [i].filter (fun j => j.1 != kRec 2) = [i] := by simp [hkey]
    rw [this, ite_self]
  have hc : (s.server.waiting != [] || ([i].any (fun j => isInput j.1 || j.1 == kRec 2) && !noReaders s)) = true := by
    obtain ⟨h1, h2⟩ | h := hw
    · simp [h1, h2]
    · simp [h]
  unfold acceptItems
  simp only [hitems, hdur, hc, if_true]

section request
variable {s : State} {q : Req} {k : Nat} {v : Bytes}

theorem perform_command (hc : checkWrite (begun s q) (begun s q) q.sid true (refOf k) v = 0) :
    perform (begun s q) q.sid q.tid (.command (refOf k) v) none = acceptItems (begun s q) q.sid q.tid 0x30 [itemOf s q k v] none := by
  simp only [perform, bodyOk, serveWrite, if_true, hc]
  rfl

theorem perform_write (hc : checkWrite (begun s q) (withItem (begun s q) (itemOf s q k v)) q.sid false (refOf k) v = 0) :
    perform (begun s q) q.sid q.tid (.write (refOf k) v) none = acceptItems (begun s q) q.sid q.tid 2 [itemOf s q k v] none := by
  have hc : checkWrite (begun s q) (withItem (begun s q) (storedItem (begun s q) (refOf k) v)) q.sid false (refOf k) v = 0 := hc
  simp only [perform, bodyOk, serveWrite, Bool.false_eq_true, if_false, hc]
  rfl

theorem command_waits (ht : Taken s q (.command (refOf k) v)) (hc : checkWrite (begun s q) (begun s q) q.sid true (refOf k) v = 0)
    (hw : (isInput (itemOf s q k v).1 = true ∧ noReaders s = false) ∨ s.server.waiting ≠ []) (hkey : (itemOf s q k v).1 ≠ kRec 2) :
    let t := serveCommandOf s q k v
    { t with server := s.server } = s ∧
      t.server.waiting = s.server.waiting ++ [{ sid := q.sid, tid := q.tid, op := 0x30, items := [itemOf s q k v], domain := none, inner := none }] ∧
      (session t q.sid).busy = (session s q.sid).busy ++ [q.tid] := by
  have hp := (perform_command hc).trans (acceptItems_waits hkey (makeDurable_command hc) hw q.sid q.tid 0x30 none)
  rw [serveCommandOf, serve_of_taken ht (by simp [opCode]), hp, conclude]
  dsimp only
  rw [if_neg ht.1.1]
  refine ⟨rfl, rfl, ?_⟩
  rw [session_putSession, if_pos rfl]
  have hbusy : (session (begun s q) q.sid).busy = (session s q.sid).busy := by rw [session_begun]
  exact congrArg (fun l => l ++ [q.tid]) hbusy

/-! ### A change that is applied at once -/

theorem commanded_served (h : Commanded s q k v) : serveCommandOf s q k v = served s q (.command (refOf k) v) [itemOf s q k v] := by
  obtain ⟨ht, hc, hat⟩ := h
  rw [serveCommandOf, serve_of_taken ht (by simp [opCode]), perform_command hc, acceptItems_of_atOnce hat]
  rfl

theorem written_served (h : Written s q k v) : serveWriteOf s q k v = served s q (.write (refOf k) v) [itemOf s q k v] := by
  obtain ⟨ht, hc, hat⟩ := h
  rw [serveWriteOf, serve_of_taken ht (by simp [opCode]), perform_write hc, acceptItems_of_atOnce hat]
  rfl

end request

/-! ### INPUT_CHANGE_APPLIED -/

theorem inputChangeApplied_goes {s : State} {w : Waiting} {rest : List Waiting} (h : s.server.waiting = w :: rest) :
    Goes .inputChangeApplied s (if mayApply s then
      (let t := finishChange { s with server := { s.server with waiting := rest } } w
       drainHeld t.server.held t) else s) := by
  show execInputChangeApplied s = _
  rw [execInputChangeApplied, h]

theorem finishChange_items {s : State} {w : Waiting} (hd : w.domain = none) (ht : w.task = none) :
    finishChange s w = respond (applyItems s w.items) w.sid w.tid w.op 0 [] w.inner := by
  rw [finishChange, ht, hd]

theorem finishChange_task {s : State} {w : Waiting} {x : Task} (h : w.task = some x) : finishChange s w = runTask s x := by
  rw [finishChange, h]

/-- Settles O18: every command row is the COMMAND of its register, and such a request waits; what waits is applied by `finishChange`. -/
theorem inputChangesWait : Obligations.InputChangesWait := by
  refine ⟨fun s _ _ _ _ _ _ _ _ _ _ => forCommandRows_mono (commandRows_goes s) fun _ _ _ hgoes ht hc hw hkey =>
    ⟨_, hgoes, command_waits ht hc hw hkey⟩, fun s w rest h => ⟨fun hm => ?_, fun hm hd ht => ?_, fun x hm ht => ?_⟩⟩
  · simpa [hm] using inputChangeApplied_goes h
  · simpa [hm, finishChange_items hd ht] using inputChangeApplied_goes h
  · simpa [hm, finishChange_task ht] using inputChangeApplied_goes h

/-! ## Commands and writes served (O21) -/

/-- Items of which none is an engine input or CLOSE_NOW are in force at once where no change waits (R86, R87). -/
theorem acceptItems_at_once {s : State} {items : List (Key × Val)} (hw : s.server.waiting = []) (hi : ∀ i ∈ items, isInput i.1 = false ∧ i.1 ≠ kRec 2)
    (sid : Nat) (tid : Half) (op : Byte) (inner : Option (Byte × Half)) :
    acceptItems s sid tid op items inner = (some (0, []), applyItems (makeDurable s items) items) := by
  have hclosing : closing s = false := by rw [closing, hw]; rfl
  have hany : items.any (fun i => isInput i.1 || i.1 == kRec 2) = false := by simpa using hi
  have hwait : (makeDurable s items).server.waiting = [] := (makeDurable_waiting _ _).trans hw
  unfold acceptItems
  simp only [hclosing, hwait, hany, Bool.false_eq_true, if_false, bne_self_eq_false, Bool.false_and, Bool.or_false]

theorem findIdx?_eq_none_of_forall {α : Type} {l : List α} {p : α → Bool} (h : ∀ x ∈ l, p x = false) : l.findIdx? p = none := by
  simpa [List.findIdx?_eq_none_iff] using h

/-- CLOSE_NOW, where there is a declaration of it, is a command. -/
theorem isCommand_closeNow {s : State} {d : Decl} (h : declOf s 0x9000 2 = some d) : isCommand s (kRec 2) = true := by
  have hdecl : ∀ s' : State, declOf s' 0x9000 2 = none ∨ ((declOf s' 0x9000 2).map (·.acc)) = some .cmd := by
    intro s'
    unfold declOf
    split
    · exact .inl rfl
    · exact .inr rfl
  obtain h' | h' := hdecl s
  · simp [h] at h'
  · rw [isCommand]
    show ((declOf s 0x9000 2).map (·.acc) == some .cmd) = true
    rw [h']
    rfl

theorem serveWriteMulti_passed {s : State} {sid : Nat} {is : List Item} (h0 : is ≠ []) (h32 : is.length ≤ 32)
    (hc : ∀ i ∈ is, checkWrite s ((is.map fun i => storedItem s i.ref i.value).foldl withItem s) sid false i.ref i.value = 0)
    (hcmd : ∀ i ∈ is.map fun i => storedItem s i.ref i.value, isCommand s i.1 = false)
    (hlen : (∀ i ∈ is.map fun i => storedItem s i.ref i.value, isRwp s i.1 = false) ∨ (is.map fun i => i.value.length).sum ≤ 256)
    (tid : Half) (op : Byte) (inner : Option (Byte × Half)) :
    serveWriteMulti s sid tid op is inner = acceptItems s sid tid op (is.map fun i => storedItem s i.ref i.value) inner := by
  have hcodes : (is.map fun i => checkWrite s ((is.map fun i => storedItem s i.ref i.value).foldl withItem s) sid false i.ref i.value).findIdx?
      (fun c => c != 0) = none := findIdx?_eq_none_of_forall fun x hx => by
    obtain ⟨i, hi, rfl⟩ := List.mem_map.1 hx
    simp [hc i hi]
  have hfits : ¬((is.map fun i => storedItem s i.ref i.value).any (fun i => isRwp s i.1) = true ∧ 256 < (is.map fun i => i.value.length).foldl (· + ·) 0) := by
    rintro ⟨h1, h2⟩
    obtain h | h := hlen
    · obtain ⟨i, hi, hr⟩ := List.any_eq_true.1 h1
      exact absurd hr (by rw [h i hi]; decide)
    · rw [← List.sum_eq_foldl] at h2
      omega
  unfold serveWriteMulti
  dsimp only
  rw [if_neg h0, if_neg (by omega), findIdx?_eq_none_of_forall hcmd, hcodes]
  exact if_neg hfits

theorem writeMulti_served {s : State} {q : Req} {is : List Item} (ht : Taken s q (.writeMulti is)) (h0 : is ≠ []) (h32 : is.length ≤ 32)
    (hc : ∀ i ∈ is, checkWrite (begun s q) ((is.map fun i => storedItem (begun s q) i.ref i.value).foldl withItem (begun s q)) q.sid false i.ref i.value = 0)
    (hi : ∀ i ∈ is.map fun i => storedItem (begun s q) i.ref i.value, isInput i.1 = false ∧ isCommand (begun s q) i.1 = false)
    (hw : s.server.waiting = [])
    (hlen : (∀ i ∈ is.map fun i => storedItem (begun s q) i.ref i.value, isRwp (begun s q) i.1 = false) ∨ (is.map fun i => i.value.length).sum ≤ 256) :
    serve s q (.writeMulti is) = served s q (.writeMulti is) (is.map fun i => storedItem (begun s q) i.ref i.value) := by
  have hclose : ∀ i ∈ is.map fun i => storedItem (begun s q) i.ref i.value, isInput i.1 = false ∧ i.1 ≠ kRec 2 := by
    intro i hmem
    obtain ⟨hin, hcmd⟩ := hi i hmem
    refine ⟨hin, fun hk => ?_⟩
    obtain ⟨x, hx, rfl⟩ := List.mem_map.1 hmem
    obtain ⟨d, hd, -⟩ := checkWrite_eq_zero (hc x hx)
    rw [storedItem_fst] at hk
    have hlt := x.ref.sub.isLt
    have hk : x.ref.index.toNat * 256 + x.ref.sub.toNat = 0x900002 := hk
    rw [show x.ref.index.toNat = 0x9000 by omega, show x.ref.sub.toNat = 2 by omega] at hd
    rw [storedItem_fst, hk] at hcmd
    exact absurd (isCommand_closeNow hd) (by rw [show kRec 2 = 0x900002 from rfl, hcmd]; decide)
  have hp : perform (begun s q) q.sid q.tid (.writeMulti is) none = serveWriteMulti (begun s q) q.sid q.tid 4 is none := by
    simp [perform, bodyOk, h0, outerOp, opCode]
  rw [serve_of_taken ht (by simp [opCode]), hp, serveWriteMulti_passed h0 h32 hc (fun i h => (hi i h).2) hlen, acceptItems_at_once (s := begun s q) hw hclose]
  rfl

/-- Settles O21: every row is the COMMAND or the WRITE of its register, whose accepted item is applied at once, and answered. -/
theorem requestsServed : Obligations.RequestsServed :=
  ⟨fun s _ _ _ _ _ _ _ _ _ _ => forCommandRows_mono (commandRows_goes s) fun _ _ _ hgoes h => commanded_served h ▸ hgoes,
    fun s _ _ _ _ _ _ f hf h => written_served h ▸ writeRows_goes s f hf,
    fun _ _ _ ht h0 h32 hc hi hw hlen => congrArg Host.Outcome.next (writeMulti_served ht h0 h32 hc hi hw hlen)⟩

/-! ## The end of sessions and transfers (O23) -/

@[simp] theorem setQuire_transfers (s : State) (st : Nat) : (setQuire s st).server.transfers = s.server.transfers := setNum_transfers ..
@[simp] theorem setQuire_subs (s : State) (st : Nat) : (setQuire s st).server.subs = s.server.subs := setNum_subs ..
@[simp] theorem setQuire_sessions (s : State) (st : Nat) : (setQuire s st).server.sessions = s.server.sessions := setNum_sessions ..

theorem dropTransfer_transfers (s : State) (x : Transfer) :
    (dropTransfer s x).server.transfers = s.server.transfers.filter fun y => !(y.sid == x.sid && y.handle == x.handle) := by
  unfold dropTransfer
  dsimp only
  split
  · exact setQuire_transfers ..
  · rfl

@[simp] theorem dropTransfer_subs (s : State) (x : Transfer) : (dropTransfer s x).server.subs = s.server.subs := by
  unfold dropTransfer
  dsimp only
  split
  · exact setQuire_subs ..
  · rfl

@[simp] theorem dropTransfer_sessions (s : State) (x : Transfer) : (dropTransfer s x).server.sessions = s.server.sessions := by
  unfold dropTransfer
  dsimp only
  split
  · exact setQuire_sessions ..
  · rfl

/-- Transfers dropped one after another are gone, and every other stays. -/
theorem mem_foldl_dropTransfer {l : List Transfer} {s : State} {y : Transfer} :
    y ∈ (l.foldl dropTransfer s).server.transfers ↔ y ∈ s.server.transfers ∧ ∀ x ∈ l, ¬(y.sid = x.sid ∧ y.handle = x.handle) := by
  induction l generalizing s with
  | nil => simp
  | cons x l ih =>
    rw [List.foldl_cons, ih, dropTransfer_transfers, List.mem_filter, List.forall_mem_cons, and_assoc]
    exact and_congr_right' (and_congr_left' (by simp [imp_iff_not_or]))

theorem mem_dropOpen_transfers {s : State} {sid : Nat} {y : Transfer} :
    y ∈ (dropOpen s sid).server.transfers ↔ y ∈ s.server.transfers ∧ y.sid ≠ sid := by
  show y ∈ ((s.server.transfers.filter fun t => t.sid == sid).foldl dropTransfer s).server.transfers ↔ _
  rw [mem_foldl_dropTransfer]
  refine and_congr_right fun hy => ⟨fun h hs => h y (List.mem_filter.2 ⟨hy, by simp [hs]⟩) ⟨rfl, rfl⟩, fun hs x hx h => hs ?_⟩
  obtain ⟨-, hx⟩ := List.mem_filter.1 hx
  rw [h.1, beq_iff_eq.1 hx]

theorem dropOpen_subs (s : State) (sid : Nat) : (dropOpen s sid).server.subs = s.server.subs.filter fun b => b.sid != sid :=
  congrArg (List.filter fun b : Sub => b.sid != sid) (foldl_keeps (fun t => t.server.subs) (fun t x => dropTransfer_subs t x) _ s)

theorem dropOpen_sessions (s : State) (sid : Nat) : (dropOpen s sid).server.sessions = s.server.sessions :=
  foldl_keeps (fun t => t.server.sessions) (fun t x => dropTransfer_sessions t x) _ s

theorem tabFind_tabDrop {α : Type} (t : Tab α) (k : Nat) : tabFind (tabDrop t k) k = none :=
  tabFind_filter_drop t (fun j => j != k) k (by simp)

/-- A session that has ended has left nothing, and no other session has lost anything (R97, R111). -/
theorem endSession_spec (s : State) (sid : Nat) :
    let t := endSession s sid
    tabFind t.server.sessions sid = none ∧ (∀ b ∈ t.server.subs, b.sid ≠ sid) ∧ (∀ n ∈ t.server.notices, n.sid ≠ sid) ∧
      (∀ x ∈ t.server.transfers, x.sid ≠ sid) ∧
      (∀ b ∈ s.server.subs, b.sid ≠ sid → b ∈ t.server.subs) ∧ ∀ x ∈ s.server.transfers, x.sid ≠ sid → x ∈ t.server.transfers := by
  have hsubs : ∀ b, b ∈ (dropOpen s sid).server.subs ↔ b ∈ s.server.subs ∧ b.sid ≠ sid := fun b => by
    rw [dropOpen_subs]
    simp
  refine ⟨tabFind_tabDrop _ _, fun b hb => ((hsubs b).1 hb).2, fun n hn => ?_, fun x hx => (mem_dropOpen_transfers.1 hx).2,
    fun b hb hs => (hsubs b).2 ⟨hb, hs⟩, fun x hx hs => mem_dropOpen_transfers.2 ⟨hx, hs⟩⟩
  exact bne_iff_ne.1 (List.mem_filter.1 hn).2

/-- CLOSE is answered, and then its session ends (R111). -/
theorem close_served {s : State} {q : Req} (h : Taken s q .close) : serve s q .close = endSession (answer (begun s q) q.sid q.tid 0x52 0 []) q.sid := by
  rw [serve_of_taken h (by simp [opCode])]
  simp only [conclude, perform, bodyOk]
  simp [h.1.1, sessionOpen_begun, opCode]

theorem transferTimeout_spec (s : State) (sid : Nat) (h : Byte) : ∃ t, Goes (.transferTimeout sid h) s t ∧ transferOf t sid h = none ∧
    ∀ x ∈ s.server.transfers, (x.sid ≠ sid ∨ x.handle ≠ h.toNat) → x ∈ t.server.transfers := by
  cases hx : transferOf s sid h with
  | none =>
    refine ⟨s, ?_, hx, fun x hx _ => hx⟩
    show execTransferTimeout sid h s = _
    rw [execTransferTimeout, hx]
  | some t =>
    have ht := List.find?_some hx
    simp only [Bool.and_eq_true, beq_iff_eq] at ht
    refine ⟨dropTransfer s t, ?_, ?_, fun y hy hne => ?_⟩
    · show execTransferTimeout sid h s = _
      rw [execTransferTimeout, hx]
    · rw [transferOf, dropTransfer_transfers, List.find?_eq_none]
      intro y hy
      simpa [ht, imp_iff_not_or] using (List.mem_filter.1 hy).2
    · rw [dropTransfer_transfers, List.mem_filter]
      exact ⟨hy, by rw [ht.1, ht.2]; simpa [imp_iff_not_or] using hne⟩

/-- Settles O23: both ways a session ends are `endSession`, after the answer where it is CLOSE. -/
theorem sessionEnds : Obligations.SessionEnds := by
  refine ⟨fun s t sid q h => ?_, fun s sid => ⟨_, rfl⟩, fun s q => ⟨_, rfl⟩, fun s sid h => transferTimeout_spec s sid h⟩
  obtain ⟨hgoes, heth⟩ | ⟨ht, rfl, hgoes⟩ := h
  · have he : Goes (.sessionTimeout sid) s (endSession s sid) := by
      show execSessionTimeout sid s = _
      rw [execSessionTimeout, if_pos heth]
    obtain rfl : endSession s sid = t := Host.Outcome.next.inj (he.symm.trans hgoes)
    exact endSession_spec s sid
  · have he : Goes (.close q) s (serve s q .close) := rfl
    obtain rfl : serve s q .close = t := Host.Outcome.next.inj (he.symm.trans hgoes)
    rw [close_served ht]
    have hspec := endSession_spec (answer (begun s q) q.sid q.tid 0x52 0 []) q.sid
    rw [answer_subs, answer_transfers] at hspec
    exact hspec

/-! ## BLOCK_BEGIN and BLOCK_DATA (O19) -/

/-- The transfer that a BLOCK_BEGIN opens under a handle (R94 to R96). -/
def openedTransfer (s : State) (sid : Nat) (r : Ref) (write : Bool) (size crc h : Nat) : Transfer :=
  let k := r.index.toNat * 256 + r.sub.toNat
  let content := if write ∨ isRecDomain k then [] else readDomain s r.index.toNat r.sub.toNat
  let max := ((declOf s r.index.toNat r.sub.toNat).map fun d => domainMax d.rng).getD 0
  { handle := h, sid := sid, key := k, write := write
    size := if write then size else if isRecDomain k then max else content.length
    crc := if write then crc else if isRecDomain k then 0 else crc32 content
    content := content, buffer := activeBuffer s k, usedAt := s.clk }

/-- A transfer has begun; a package's empties the quire (R449). -/
def withTransfer (s : State) (x : Transfer) : State :=
  let s1 := { s with server := { s.server with transfers := s.server.transfers ++ [x] } }
  if x.write ∧ x.key = kPackage then setQuire (putFolios s1 { s1.mram.folios with quire := [] }) 1 else s1

theorem withTransfer_spec (s : State) (x : Transfer) : (withTransfer s x).server.transfers = s.server.transfers ++ [x] ∧
    (withTransfer s x).server.sessions = s.server.sessions ∧ (withTransfer s x).clk = s.clk := by
  unfold withTransfer
  dsimp only
  split
  · exact ⟨setQuire_transfers .., setQuire_sessions .., setNum_clk ..⟩
  · exact ⟨rfl, rfl, rfl⟩

theorem transferOf_append_of_none {s t : State} {sid : Nat} {h : Byte} {x : Transfer} (hnone : transferOf s sid h = none)
    (ht : t.server.transfers = s.server.transfers ++ [x]) (hs : x.sid = sid) (hh : x.handle = h.toNat) : transferOf t sid h = some x := by
  unfold transferOf at hnone ⊢
  rw [ht, List.find?_append, hnone]
  simp [hs, hh]

theorem transferOf_congr {s t : State} (h : t.server.transfers = s.server.transfers) (sid : Nat) (n : Byte) : transferOf t sid n = transferOf s sid n := by
  rw [transferOf, transferOf, h]

/-- A BLOCK_BEGIN that passes its checks opens its transfer under a handle that was free (R94, R96). -/
theorem serveBegin_opens {s : State} {sid : Nat} {r : Ref} {write : Bool} {size : Nat} (hc : beginCheck s sid r write size = 0)
    (hfree : ∃ h : Byte, transferOf s sid h = none) (crc : Nat) : ∃ h : Byte,
      let x := openedTransfer s sid r write size crc h.toNat
      transferOf s sid h = none ∧ serveBegin s sid r write size crc =
        (some (0, [h] ++ leBytes 4 x.size ++ leBytes 4 x.crc ++ leBytes 2 (lenLimit sid - 13)), withTransfer s x) := by
  cases hf : (List.range 256).find? fun h => (transferOf s sid (BitVec.ofNat 8 h)).isNone with
  | none =>
    obtain ⟨h, hh⟩ := hfree
    have := List.find?_eq_none.1 hf h.toNat (List.mem_range.2 h.isLt)
    simp [hh] at this
  | some n =>
    have hn : n < 256 := List.mem_range.1 (List.mem_of_find?_eq_some hf)
    have hh : (BitVec.ofNat 8 n).toNat = n := by rw [BitVec.toNat_ofNat]; omega
    have hnone : (transferOf s sid (BitVec.ofNat 8 n)).isNone = true := List.find?_some (p := fun h => (transferOf s sid (BitVec.ofNat 8 h)).isNone) hf
    refine ⟨BitVec.ofNat 8 n, Option.isNone_iff_eq_none.1 hnone, ?_⟩
    unfold serveBegin
    simp only [hc, hf, hh, ne_eq, not_true_eq_false, if_false]
    rfl

/-! ### The transfer's record -/

theorem transferOf_spec {s : State} {sid : Nat} {h : Byte} {x : Transfer} (hx : transferOf s sid h = some x) : x.sid = sid ∧ x.handle = h.toNat := by
  simpa using List.find?_some hx

theorem transferOf_putTransfer {s : State} {sid : Nat} {h : Byte} {x t : Transfer} (hx : transferOf s sid h = some x) (hs : t.sid = sid)
    (hh : t.handle = h.toNat) : transferOf (putTransfer s t) sid h = some t := by
  have hp : ((fun y : Transfer => y.sid == sid && y.handle == h.toNat) ∘ fun y => if y.sid == t.sid && y.handle == t.handle then t else y) =
      fun y => y.sid == sid && y.handle == h.toNat := by
    funext y
    by_cases hy : y.sid = sid ∧ y.handle = h.toNat
    · simp [hs, hh, hy]
    · simp [hs, hh, hy]
  unfold transferOf at hx ⊢
  rw [putTransfer, List.find?_map, hp, hx, Option.map_some, if_pos (by simpa [hs, hh] using List.find?_some hx)]

section data
variable {s : State} {q : Req} {h : Byte} {off : Word} {x : Transfer}

/-- A chunk in sequence that the transfer and the transport hold is appended (R95, R107). -/
theorem serveData_write {sid off : Nat} {v : Bytes} (hx : transferOf s sid h = some x) (hw : x.write = true) (hoff : off = x.content.length)
    (hlen : v.length + 13 ≤ lenLimit sid) (hsize : x.content.length + v.length ≤ x.size) (hp : s.power.warning = true → writesStore s x.key = false) :
    serveData s sid h off (.write v) =
      (some (0, []), putTransfer (touchTransfer s x) { x with content := x.content ++ v, usedAt := s.clk }) := by
  unfold serveData
  simp only [hx, hw, if_true]
  rw [if_neg (not_not.2 hoff), if_neg (by omega), if_neg (by rintro ⟨h1, h2⟩; rw [hp h1] at h2; cases h2)]

/-- A read inside the content is answered with the piece (R96). -/
theorem serveData_read {sid off : Nat} {n : Half} (hx : transferOf s sid h = some x) (hw : x.write = false) (hrec : isRecDomain x.key = false)
    (hlen : n.toNat + 13 ≤ lenLimit sid) (hsize : off + n.toNat ≤ x.size) :
    serveData s sid h off (.read n) = (some (0, valueBytes (slice x.content off n.toNat)), touchTransfer s x) := by
  unfold serveData
  simp only [hx, hw, hrec, Bool.false_eq_true, if_false]
  rw [if_neg (by omega), if_neg (by omega)]

/-- An operation that only notes something of its session's transfers is answered, and nothing else happens. -/
theorem served_server {s : State} {q : Req} {o : MdpOp} {x : Byte × Bytes} {v : Server} (h : Taken s q o) (hop : opCode o ≠ 0x21) (hclose : o ≠ .close)
    (hp : perform (begun s q) q.sid q.tid o none = (some x, { begun s q with server := v })) (hv : v.sessions = (begun s q).server.sessions) :
    OnlyServer s (serve s q o) ∧ Answered s (serve s q o) q (opCode o) x.1 x.2 ∧ (serve s q o).server.transfers = v.transfers := by
  rw [serve_answers h hop hclose hp ((sessionOpen_congr hv q.sid).trans (sessionOpen_begun s q))]
  exact ⟨onlyServer_trans (onlyServer_begun s q) (onlyServer_trans (onlyServer_server _ v) (onlyServer_answer ..)), answered_answer rfl ..,
    answer_transfers ..⟩

end data

/-- Settles O19: the handle found is free, so the transfer appended is the one the handle names; a chunk replaces its transfer's record in place. -/
theorem transfers : Obligations.Transfers := by
  refine ⟨fun s q ref size crc write ht hzero hc hfree => ?_, fun s q h off v x ht hx hw hoff hlen hsize hp => ⟨_, rfl, ?_⟩,
    fun s q h off n x ht hx hw hrec hlen hsize => ⟨_, rfl, ?_⟩⟩
  · obtain ⟨h, hnone, hserve⟩ := serveBegin_opens hc hfree crc.toNat
    obtain ⟨htr, hses, hclk⟩ := withTransfer_spec (begun s q) (openedTransfer (begun s q) q.sid ref write size.toNat crc.toNat h.toNat)
    have hbody : bodyOk (.blockBegin ref write size crc) = true := by
      cases write with
      | true => rfl
      | false =>
        obtain ⟨rfl, rfl⟩ := hzero rfl
        rfl
    have hp : perform (begun s q) q.sid q.tid (.blockBegin ref write size crc) none = serveBegin (begun s q) q.sid ref write size.toNat crc.toNat := by
      simp [perform, hbody]
    have hs := serve_answers ht (by simp [opCode]) (by simp) (hp.trans hserve) ((sessionOpen_congr hses q.sid).trans (sessionOpen_begun s q))
    refine ⟨serve s q (.blockBegin ref write size crc), h, openedTransfer (begun s q) q.sid ref write size.toNat crc.toNat h.toNat, ?_, hnone, ?_, rfl, rfl,
      fun hw => ?_, fun hw hrec => ?_, hs ▸ answered_answer hclk ..⟩
    · cases write with
      | true => rfl
      | false =>
        obtain ⟨rfl, rfl⟩ := hzero rfl
        rfl
    · exact transferOf_append_of_none hnone (by rw [hs, answer_transfers, htr]) rfl rfl
    · subst hw
      exact ⟨rfl, rfl, rfl⟩
    · subst hw
      have hrec : isRecDomain (ref.index.toNat * 256 + ref.sub.toNat) = false := hrec
      simp [openedTransfer, hrec]
  · have hspec := transferOf_spec hx
    obtain ⟨honly, hans, htr⟩ := served_server ht (by simp [opCode]) (by simp) (serveData_write hx hw hoff hlen hsize hp) rfl
    have htouch : transferOf (touchTransfer (begun s q) x) q.sid h = some { x with usedAt := s.clk } := transferOf_putTransfer hx hspec.1 hspec.2
    exact ⟨honly, (transferOf_congr (s := putTransfer (touchTransfer (begun s q) x) { x with content := x.content ++ v, usedAt := s.clk }) htr q.sid h).trans
      (transferOf_putTransfer htouch hspec.1 hspec.2), hans⟩
  · obtain ⟨honly, hans, -⟩ := served_server ht (by simp [opCode]) (by simp) (serveData_read hx hw hrec hlen hsize) rfl
    exact ⟨honly, hans⟩

/-! ## What MRAM holds (O22) -/

/-! ### A value and its encoding (R76) -/

theorem leNat_lt (b : Bytes) : leNat b < 2 ^ (8 * b.length) := by
  induction b with
  | nil => simp [leNat]
  | cons x b ih =>
    have hx := x.isLt
    have hpow : 2 ^ (8 * (b.length + 1)) = 256 * 2 ^ (8 * b.length) := by rw [Nat.mul_succ, Nat.pow_add, Nat.mul_comm]
    rw [leNat, List.length_cons, hpow]
    omega

/-- A value that a type's encoding holds: a number in the range of a numeric type, else bytes. -/
def Fits (ty : Ty) (v : Val) : Prop :=
  match ty.size with
  | some n => ∃ x : Int, v = .num x ∧ if ty.isSigned then -2 ^ (8 * n - 1) ≤ x ∧ x < 2 ^ (8 * n - 1) else 0 ≤ x ∧ x < 2 ^ (8 * n)
  | none => ∃ b, v = .bytes b

theorem two_pow_bits {n : Nat} (h : n ≠ 0) : (2 : Int) ^ (8 * n) = 2 * 2 ^ (8 * n - 1) := by
  rw [← pow_succ', show 8 * n - 1 + 1 = 8 * n by omega]

theorem Ty.size_ne_zero {ty : Ty} {n : Nat} (h : ty.size = some n) : n ≠ 0 := by
  cases ty <;> simp [Ty.size] at h <;> omega

theorem signed_range {n x : Nat} (hn : n ≠ 0) (hx : x < 2 ^ (8 * n)) : -2 ^ (8 * n - 1) ≤ signed n x ∧ signed n x < 2 ^ (8 * n - 1) := by
  have hpow := two_pow_bits hn
  have hx : (x : Int) < 2 ^ (8 * n) := by exact_mod_cast hx
  unfold signed
  split
  · next h =>
    have h : (x : Int) < 2 ^ (8 * n - 1) := by exact_mod_cast h
    omega
  · next h =>
    have h : (2 : Int) ^ (8 * n - 1) ≤ x := by exact_mod_cast Nat.not_lt.1 h
    omega

/-- A number in the range of a signed type, read back from its two's complement. -/
theorem signed_emod {n : Nat} {x : Int} (hn : n ≠ 0) (h : -2 ^ (8 * n - 1) ≤ x ∧ x < 2 ^ (8 * n - 1)) : signed n (x % 2 ^ (8 * n)).toNat = x := by
  have hpow := two_pow_bits hn
  have hcast : (((2 : Nat) ^ (8 * n - 1) : Nat) : Int) = 2 ^ (8 * n - 1) := by push_cast; rfl
  unfold signed
  obtain h0 | h0 := Int.lt_or_le x 0
  · have hmod : x % 2 ^ (8 * n) = x + 2 ^ (8 * n) := by
      rw [← Int.add_emod_right, Int.emod_eq_of_lt] <;> omega
    rw [hmod, if_neg (by omega)]
    omega
  · have hmod : x % 2 ^ (8 * n) = x := Int.emod_eq_of_lt h0 (by omega)
    rw [hmod, if_pos (by omega)]
    omega

theorem fits_decodeVal {ty : Ty} {b : Bytes} (h : ∀ n, ty.size = some n → b.length = n) : Fits ty (decodeVal ty b) := by
  unfold Fits decodeVal
  cases hs : ty.size with
  | none => exact ⟨b, rfl⟩
  | some n =>
    have hlt := h n hs ▸ leNat_lt b
    refine ⟨_, rfl, ?_⟩
    cases hsign : ty.isSigned with
    | true => exact signed_range (Ty.size_ne_zero hs) hlt
    | false => exact ⟨Int.natCast_nonneg (leNat b), show (leNat b : Int) < 2 ^ (8 * n) by exact_mod_cast hlt⟩

/-- Reserved bits cleared leave a number in its type's range (R9). -/
theorem Fits.maskVal {ty : Ty} {v : Val} (h : Fits ty v) (r : Rng) : Fits ty (maskVal r v) := by
  unfold Machine.maskVal
  split
  · next m x =>
    unfold Fits at h ⊢
    split at h
    · next n hs =>
      obtain ⟨y, hy, hr⟩ := h
      obtain rfl : x = y := Val.num.inj hy
      have hle := Nat.and_le_left (n := x.toNat) (m := m)
      refine ⟨_, rfl, ?_⟩
      split at hr
      · have hpos : (0 : Int) < 2 ^ (8 * n - 1) := by positivity
        rw [if_pos ‹_›]
        omega
      · rw [if_neg ‹_›]
        omega
    · obtain ⟨b, hb⟩ := h
      cases hb
  · exact h

theorem decodeVal_valBytes {ty : Ty} {v : Val} (h : Fits ty v) : decodeVal ty (valBytes ty v) = v := by
  unfold Fits at h
  unfold decodeVal valBytes
  cases hs : ty.size with
  | none =>
    simp only [hs] at h ⊢
    obtain ⟨b, rfl⟩ := h
    rfl
  | some n =>
    simp only [hs] at h ⊢
    obtain ⟨x, rfl, hx⟩ := h
    have hlt : (x % 2 ^ (8 * n)).toNat < 2 ^ (8 * n) := by
      have hpos : (0 : Int) < 2 ^ (8 * n) := by positivity
      have hmod := Int.emod_lt_of_pos x hpos
      have hnn := Int.emod_nonneg x (ne_of_gt hpos)
      zify
      rw [Int.toNat_of_nonneg hnn]
      exact hmod
    show Val.num (if ty.isSigned then signed n (leNat (leBytes n (x % 2 ^ (8 * n)).toNat)) else (leNat (leBytes n (x % 2 ^ (8 * n)).toNat) : Int)) = .num x
    rw [leNat_leBytes, Nat.mod_eq_of_lt hlt]
    congr 1
    split at hx
    · rw [if_pos ‹_›]
      exact signed_emod (Ty.size_ne_zero hs) hx
    · rw [if_neg ‹_›, Int.emod_eq_of_lt hx.1 hx.2]
      omega

theorem tyOf_code (ty : Ty) : tyOf ty.code = some ty := by cases ty <;> rfl

/-- The home record of a value that its type's encoding holds gives the value back. -/
theorem homeOf_val {k : Key} {ty : Ty} {v : Val} (hty : ty ≠ .domain) (h : Fits ty v) : (homeOf k ty v).val = v := by
  have hval : (homeOf k ty v).val = decodeVal ty (storeBytes ty v) := by
    rw [HomeRec.val, homeOf, tyOf_code]
    cases ty with
    | domain => exact absurd rfl hty
    | _ => rfl
  rw [hval, storeBytes, if_neg hty, decodeVal_valBytes h]

/-! ### A transaction -/

section transact
variable {s : State} (items : List (Key × Val))

theorem transact_store (h : storeDegraded s = false) :
    (transact s items).mram.store = s.mram.store.transact (items.map fun i => (i.1, typeOf s i.1, i.2)) := by
  rw [transact, if_neg (by simp [h])]
  simp

theorem reg_transact {j : Key} (hj : j ≠ kTxnCount) : reg (transact s items) j = reg s j :=
  (keeps_transact (P := (· = j)) (Ne.symm hj) s items).2 j rfl

theorem num_transact (h : storeDegraded s = false) : num (transact s items) kTxnCount = num s kTxnCount + 1 := by
  rw [transact, if_neg (by simp [h])]
  exact (num_setNum _ _ _ _).trans (if_pos rfl)

theorem storeDegraded_transact : storeDegraded (transact s items) = storeDegraded s := by
  rw [storeDegraded, storeDegraded, bit, bit, nat, nat, num, num, reg_transact items (by decide)]

end transact

/-- What writing home records leaves alone in the store. -/
theorem store_transact_field {α : Type} (f : Store → α)
    (hf : ∀ t b0 b1 slots ns nq, f { t with bank0 := b0, bank1 := b1, slots := slots, nextSlot := ns, nextSeq := nq } = f t)
    (t : Store) (items : List (Key × Ty × Val)) : f (t.transact items) = f t := by
  have hfold : ∀ (l : List (Key × Ty × Val)) (u : Store), f (l.foldl (fun u i => u.apply i.1 (homeOf i.1 i.2.1 i.2.2)) u) = f u := by
    have happly : ∀ (u : Store) k r, f (u.apply k r) = f u := fun u k r => by
      unfold Store.apply Store.putOther Store.putHome
      dsimp only
      split_ifs
      all_goals exact hf u _ _ u.slots u.nextSlot u.nextSeq
    intro l
    induction l with
    | nil => exact fun _ => rfl
    | cons i l ih => exact fun u => (ih _).trans (happly u _ _)
  exact (hfold items _).trans (hf t t.bank0 t.bank1 _ _ _)

/-! ### A stored content -/

/-- Content stored for an entry stands in the other of its two buffers, and one transaction is counted (R94). -/
theorem contentStored : ContentStored := by
  intro s k b hdeg
  have hput : storeDegraded (putDomain s k b) = false := hdeg
  have hm := transact_store [(k, .num ((tabFind (putDomain s k b).mram.store.buffers k).getD 0 : Nat))] hput
  have hstored : storeDegraded (storeContent s k b) = false := (storeDegraded_transact _).trans hput
  have hdomain : ∀ j, domain (storeContent s k b) j = if j = k then b else domain s j := fun j => by
    have hs := store_transact_field Store.domains (fun _ _ _ _ _ _ => rfl) (putDomain s k b).mram.store
    rw [domain, hstored, domain, hdeg, storeContent, hm, hs]
    show (tabFind (tabPut s.mram.store.domains k b) j).getD [] = _
    rw [tabFind_tabPut]
    split <;> rfl
  refine ⟨(hdomain k).trans (if_pos rfl), fun j hj => (hdomain j).trans (if_neg hj), num_transact _ hput, ?_, transact_mem _ _⟩
  have hs := store_transact_field Store.buffers (fun _ _ _ _ _ _ => rfl) (putDomain s k b).mram.store
  rw [storeContent, hm, hs]
  exact tabFind_tabPut_same _ _ _

/-! ### A durable write -/

/-- The registers to which their entries add nothing of their own. -/
def IsPlain (k : Nat) : Prop := (0x1050 ≤ k / 256 ∧ k / 256 < 0x1100) ∨ (0x2200 ≤ k / 256 ∧ k / 256 < 0x2400) ∨ (0x3000 ≤ k / 256 ∧ k / 256 < 0x4000) ∨
  (0x8000 ≤ k / 256 ∧ k / 256 < 0xC000)

namespace IsPlain
variable {k : Nat}

theorem isKey (h : IsPlain k) : IsKey k := by unfold IsPlain at h; unfold IsKey; omega

theorem isOem (h : IsPlain k) : isOem (k / 256) = false := by
  unfold IsPlain at h
  simp only [Machine.isOem, Bool.and_eq_false_iff, decide_eq_false_iff_not]
  omega

theorem afterWrite (h : IsPlain k) (s : State) (old : Val) : afterWrite s (k / 256) (k % 256) old = s := by
  unfold IsPlain at h
  unfold Machine.afterWrite
  iterate 9 rw [if_neg (by omega)]

end IsPlain

theorem setAny_of_not_oem {k : Key} (h : isOem (k / 256) = false) (s : State) (v : Val) : setAny s k v = setVal s k v := by
  rw [setAny, h]
  rfl

/-- What a sub-index outside the OEM area is depends on where the start stopped. -/
theorem declOf_congr {s t : State} {idx : Nat} (ho : isOem idx = false) (hs : t.start.stoppedAt = s.start.stoppedAt) (sub : Nat) :
    declOf t idx sub = declOf s idx sub := by
  simp only [declOf, inRecovery, highestOf, ho, hs]
  rfl

/-- The declaration of an RWP register outside the OEM area is its row of the tables. -/
theorem entryOf_of_rwp {s : State} {idx sub : Nat} {d : Decl} (ho : isOem idx = false) (hd : declOf s idx sub = some d) (hr : d.acc = .rwp) :
    ∃ e, entryOf idx sub = some e ∧ e.ty = d.ty := by
  rw [declOf, ho] at hd
  split at hd
  · cases hd
  · split at hd
    · cases hh : highestOf s idx with
      | none => rw [hh] at hd; cases hd
      | some n =>
        rw [hh] at hd
        obtain rfl := Option.some.inj hd
        cases hr
    · cases he : entryOf idx sub with
      | none => rw [he] at hd; cases hd
      | some e =>
        rw [he] at hd
        exact ⟨e, rfl, congrArg Decl.ty (Option.some.inj hd)⟩

section write
variable {s : State} {q : Req} {k : Nat} {v : Bytes}

/-- The item of an accepted write of a plain RWP register: no DOMAIN, and a value its type's encoding holds. -/
theorem itemOf_fits (hk : IsPlain k) (h : Written s q k v) (hr : isRwp (begun s q) k = true) :
    typeOf (begun s q) k ≠ .domain ∧ Fits (typeOf (begun s q) k) (itemOf s q k v).2 := by
  obtain ⟨-, hc, -⟩ := h
  obtain ⟨d, hd, -, hlen, -⟩ := checkWrite_eq_zero hc
  have hty : d.ty ≠ .domain := by
    rw [checkWrite, hd] at hc
    exact (passed hc fun _ => by decide).1
  have hitem : (itemOf s q k v).2 = maskVal d.rng (decodeVal d.ty v) := by rw [itemOf, storedItem, hd]
  rw [refOf_index hk.isKey, refOf_sub] at hd
  have hacc : d.acc = .rwp := by
    rw [isRwp, hd] at hr
    simpa using hr
  obtain ⟨e, he, hety⟩ := entryOf_of_rwp hk.isOem hd hacc
  have htype : typeOf (begun s q) k = d.ty := by
    rw [typeOf, hk.isOem, he, ← hety]
    rfl
  rw [htype, hitem]
  refine ⟨hty, (fits_decodeVal fun n hn => ?_).maskVal d.rng⟩
  rw [lengthError, hn] at hlen
  by_contra hne
  simp [hne, eType] at hlen

theorem write_durable (hk : IsPlain k) (h : Written s q k v) (hr : isRwp (begun s q) k = true) (hi : isInput k = false) (hdeg : storeDegraded s = false) :
    let t := serveWriteOf s q k v
    reg t k = (itemOf s q k v).2 ∧ homeVal t k = some (itemOf s q k v).2 ∧ ∀ j, j ≠ k → j ≠ kTxnCount → j ≠ kFrameErrors → reg t j = reg s j := by
  have hkey : (itemOf s q k v).1 = k := itemOf_key s q hk.isKey v
  have hcon := written_concludes h
  have hcmd : isCommand (begun s q) k = false := isCommand_of_checkWrite hk.isKey h.2.1
  obtain ⟨hty, hfits⟩ := itemOf_fits hk h hr
  have hm := transact_store (s := begun s q) [itemOf s q k v] hdeg
  have hdur : makeDurable (begun s q) [itemOf s q k v] = transact (begun s q) [itemOf s q k v] := by simp [makeDurable, hkey, hr]
  have happly : applyWrite (makeDurable (begun s q) [itemOf s q k v]) (itemOf s q k v) = setVal (transact (begun s q) [itemOf s q k v]) k (itemOf s q k v).2 := by
    have hcmd : isCommand (transact (begun s q) [itemOf s q k v]) k = false := by
      rw [← hcmd, isCommand, isCommand, declOf_congr hk.isOem (congrArg Start.stoppedAt (transact_start _ _))]
    simp only [applyWrite, hdur, hkey, hi, hcmd, Bool.false_eq_true, if_false]
    rw [hk.afterWrite, setAny_of_not_oem hk.isOem]
  rw [happly] at hcon
  refine ⟨?_, ?_, fun j hj hn hf => ?_⟩
  · rw [hcon.2.1 k (by unfold IsPlain at hk; rintro rfl; revert hk; decide), reg_setVal, if_pos rfl]
  · have hmram := hcon.field State.mram (by intros; rfl)
    have hhome := home_transact s.mram.store [(k, typeOf (begun s q) k, (itemOf s q k v).2)] (k := k)
      (ty := typeOf (begun s q) k) (v := (itemOf s q k v).2) (by simp) (by simp)
    rw [homeVal, hmram, setVal_mram, hm]
    simp only [List.map_cons, List.map_nil, hkey]
    exact (congrArg (Option.map HomeRec.val) hhome).trans (congrArg some (homeOf_val hty hfits))
  · rw [hcon.2.1 j hf, reg_setVal, if_neg hj, reg_transact _ hn]
    rfl

end write

theorem writeIsDurable : WriteIsDurable := by
  intro s q k v h hr hi hdeg hk
  exact ⟨_, congrArg Host.Outcome.next rfl, write_durable hk h hr hi hdeg⟩

/-- Settles O22: what a write leaves is `write_durable`, what a content leaves `contentStored`. -/
theorem durability : Obligations.Durability := ⟨writeIsDurable, contentStored⟩

/-! ## A cancelled subscription whose response finds its queue full (O25) -/

/-- The subscription of partner 0's session to 0x1050.08 (R98). -/
def partnerSub : Sub := { num := 7, sid := 0x1000, index := 0x1050, sub := 8, periodic := false, interval := 0 }

/-- The ON_CHANGE subscription of the host session to FRAME_ERRORS. -/
def frameErrorsSub : Sub := { num := 9, sid := 0, index := 0x2100, sub := 7, periodic := false, interval := 0 }

/-- A commissioned module with partner 0 associated, whose session holds two messages not sent yet, all that its queue takes (R120). -/
def partnerQueueFull : State :=
  let s := Tests.withRegs Tests.awake [(kAddrActive, 1), (kAir 2, 2)]
  { s with
    air := { s.air with partners := [(0, { st := 2 })] }
    server := { s.server with sessions := [(0x1000, { txQueue := [[], []] })], subs := [partnerSub, frameErrorsSub] } }

/-- Partner 0 cancels its subscription. -/
def partnerReq : Req := { sid := 0x1000, tid := 5, retry := false }

theorem partnerReq_taken : Taken partnerQueueFull partnerReq (.subscribe (refOf 0x105008) 0 0) := Tests.taken_of (by decide +kernel)

/-- The response that finds the queue full counts at FRAME_ERRORS, and the change of FRAME_ERRORS is a notification of the host session. -/
theorem cancel_leaves_notice : (serve partnerQueueFull partnerReq (.subscribe (refOf 0x105008) 0 0)).server.notices =
    [{ num := 9, sid := 0, key := 0x210007, count := 1 }] := by decide +kernel

/-- Refutes O25: a cancellation's response may itself queue a notification, so the queued notifications are not the old ones without the subscription's:
in `partnerQueueFull` there was none, and `cancel_leaves_notice` shows the one there is then. -/
theorem not_subscriptionsAndNotifications : ¬ Obligations.SubscriptionsAndNotifications := by
  rintro ⟨⟨-, hcancel⟩, -⟩
  obtain ⟨t, hgoes, -, -, -, hnotices⟩ := hcancel partnerQueueFull partnerReq (refOf 0x105008) partnerSub partnerReq_taken (by decide)
  obtain rfl : serve partnerQueueFull partnerReq (.subscribe (refOf 0x105008) 0 0) = t := Host.Outcome.next.inj hgoes
  rw [cancel_leaves_notice] at hnotices
  exact absurd hnotices (by decide)

/-! ## The use of a shell (R440, R441, R445)

A check that allows a use changes nothing: `mayUse_state`. The use itself draws a nonce, counts, and may close sessions, whose records stay: `UsesShell`. -/

/-! ### A check -/

theorem setQuire_keys (s : State) (st : Nat) : (setQuire s st).mram.keys = s.mram.keys := by
  rw [setQuire, setNum_mram]
  rfl

theorem dropTransfer_keys (s : State) (x : Transfer) : (dropTransfer s x).mram.keys = s.mram.keys := by
  unfold dropTransfer
  dsimp only
  split
  · exact setQuire_keys _ 0
  · rfl

theorem closeSession_keys (s : State) (sid : Nat) : (closeSession s sid).mram.keys = s.mram.keys :=
  foldl_keeps (fun t => t.mram.keys) (fun t x => dropTransfer_keys t x) _ s

theorem closeShellSessions_keys (s : State) (n gen : Nat) : (closeShellSessions s n gen).mram.keys = s.mram.keys :=
  foldl_keeps (fun t => t.mram.keys) (fun t (p : Nat × Session) => closeSession_keys t p.1) _ s

theorem shell_keyChange (s : State) (a : KeyArea) (n : Nat) : shell (keyChange s a) n = (tabFind a.shells n).getD {} := by
  unfold shell keyChange
  dsimp only
  split <;> rfl

theorem isValid_of_orphaned {s : State} {n : Nat} (h : (shell s n).orphaned = true) : isValid s n = false := by
  simp [isValid, validShell, h]

/-- A shell that is valid after its check was found so, and nothing changed (R440). -/
theorem checkShell_of_valid {s : State} {n : Nat} (h : isValid (checkShell s n) n = true) : checkShell s n = s := by
  unfold checkShell at h ⊢
  dsimp only at h ⊢
  split
  · rfl
  · next hc =>
    rw [if_neg hc, isValid_of_orphaned] at h
    · cases h
    · rw [shell, closeShellSessions_keys, ← shell, shell_keyChange, putShell, tabFind_tabPut_same]
      rfl

/-- A shell that may be used was found so, and nothing changed (R445). -/
theorem mayUse_state {s : State} {n bit : Nat} {types : List Nat} (h : (mayUse s n bit types).1 = true) : (mayUse s n bit types).2 = s := by
  unfold mayUse at h ⊢
  dsimp only at h ⊢
  split at h
  · cases h
  · next hv =>
    rw [if_neg hv]
    split at h
    · next hu =>
      rw [if_pos hu]
      exact checkShell_of_valid (by simpa using hv)
    · cases h

/-! ### A use -/

/-- What no use of a shell changes: the supply, the step a start has stopped at, the OEM declarations, the time. -/
def apartFromKeys (s : State) : Power × Option Nat × Tab OemDecl × Nat := (s.power, s.start.stoppedAt, s.mram.oem, s.clk)

theorem blind_apartFromKeys : Blind apartFromKeys := by intros u regs server out faults keptHeld logHeld fs log o; rfl
theorem blindKeys_apartFromKeys : BlindKeys apartFromKeys := by intros u server folios keys fresh; rfl

/-- What any number of uses of shells leave: `apartFromKeys`, and the sessions' records. -/
def UsesShell (s t : State) : Prop := apartFromKeys t = apartFromKeys s ∧ ∀ sid, sessionOpen s sid = true → sessionOpen t sid = true

namespace UsesShell
variable {s t u : State}

theorem refl (s : State) : UsesShell s s := ⟨rfl, fun _ h => h⟩

theorem trans (h : UsesShell s t) (g : UsesShell t u) : UsesShell s u := ⟨g.1.trans h.1, fun sid hs => g.2 sid (h.2 sid hs)⟩

theorem clk (h : UsesShell s t) : t.clk = s.clk := congrArg (fun y => y.2.2.2) h.1

end UsesShell

theorem sessionOpen_putSession {s : State} {sid : Nat} (h : sessionOpen s sid = true) (j : Nat) (x : Session) : sessionOpen (putSession s j x) sid = true := by
  simp only [sessionOpen, Bool.or_eq_true, decide_eq_true_eq] at h ⊢
  refine h.imp_right fun h => ?_
  show (tabFind (tabPut s.server.sessions j x) sid).isSome = true
  rw [tabFind_tabPut]
  split
  · rfl
  · exact h

theorem sessionOpen_closeShellSessions {s : State} {sid : Nat} (h : sessionOpen s sid = true) (n gen : Nat) :
    sessionOpen (closeShellSessions s n gen) sid = true := by
  unfold closeShellSessions
  generalize s.server.sessions.filter _ = l
  induction l generalizing s with
  | nil => exact h
  | cons p l ih => exact ih (sessionOpen_putSession ((sessionOpen_congr (dropOpen_sessions s p.1) sid).trans h) _ _)

theorem drbg_server (s : State) (n : Nat) : (drbg s n).2.server = s.server := by
  induction n generalizing s with
  | zero => rfl
  | succ n ih => exact ih _

theorem keyChange_server (s : State) (a : KeyArea) : (keyChange s a).server = s.server := drbg_server s 16

theorem usesShell_useShell (s : State) (n : Nat) : UsesShell s (useShell s n) := by
  refine ⟨(stands_useShell (P := fun _ => False) blind_apartFromKeys blindKeys_apartFromKeys id s n).same, fun sid h => ?_⟩
  have hkey : ∀ (t : State) a, sessionOpen (keyChange t a) sid = sessionOpen t sid := fun t a =>
    sessionOpen_congr (congrArg Server.sessions (keyChange_server t a)) sid
  unfold useShell
  dsimp only
  split
  · exact sessionOpen_closeShellSessions (by rw [hkey, hkey, h]) _ _
  · rw [hkey, h]

theorem usesShell_blockSigned (s : State) (p : Bytes) (blk keyOff bit : Nat) : UsesShell s (blockSigned s p blk keyOff bit).2 := by
  unfold blockSigned
  cases verifier s p blk keyOff bit with
  | none => exact .refl s
  | some n => exact usesShell_useShell s n

theorem usesShell_oemOk (s : State) (p : Bytes) : UsesShell s (oemOk s p).2 := by
  unfold oemOk
  split
  · exact .refl s
  · split
    · exact .refl s
    · exact usesShell_blockSigned s p _ _ _

theorem usesShell_packageCheck (s : State) (p : Bytes) : UsesShell s (packageCheck s p).2 := by
  unfold packageCheck
  dsimp only
  split
  · exact .refl s
  · split
    · exact usesShell_blockSigned s p _ _ _
    · exact (usesShell_blockSigned s p _ _ _).trans (usesShell_oemOk _ p)

/-! ## The ends of transfers (O20) -/

/-! ### What a content's check leaves -/

theorem signedBy_state {s : State} {n bit : Nat} {content sig : Bytes} (h : (signedBy s n bit content sig).1 = true) :
    (signedBy s n bit content sig).2 = useShell s n := by
  unfold signedBy at h ⊢
  dsimp only at h ⊢
  split
  · next hm => rw [mayUse_state hm]
  · next hm =>
    rw [if_neg hm] at h
    cases h

theorem programSetCheck_state {s : State} {b : Bytes} (h : (programSetCheck s b).1 = true) : (programSetCheck s b).2 = useShell s (byteAt b 32) := by
  have hset : (setSigned s b).1 = true → (setSigned s b).2 = useShell s (byteAt b 32) := fun h => by
    unfold setSigned at h ⊢
    dsimp only at h ⊢
    split
    · next hc => exact signedBy_state (Bool.and_eq_true_iff.1 hc).1
    · next hc =>
      rw [if_neg hc] at h
      cases h
  unfold programSetCheck at h ⊢
  dsimp only at h ⊢
  rw [if_pos h]
  simp only [Bool.and_eq_true] at h
  exact hset h.1.1.1

/-- The check of a content but a program set's changes nothing. -/
theorem checkContent_state {k : Key} (h : k ≠ kProgramSet) (s : State) (b : Bytes) : (checkContent s k b).2 = s := by
  simp only [checkContent, apply_ite Prod.snd, if_neg h, ite_self]

/-- A content that passes its entry's rules changes nothing but for the use of the shell that signed it. -/
theorem usesShell_checkContent {s : State} {k : Key} {b : Bytes} (h : (checkContent s k b).1 = true) : UsesShell s (checkContent s k b).2 := by
  by_cases hk : k = kProgramSet
  · have hset : checkContent s k b = programSetCheck s b := by
      rw [hk]
      rfl
    rw [hset] at h ⊢
    exact programSetCheck_state h ▸ usesShell_useShell s _
  · rw [checkContent_state hk]
    exact .refl s

theorem writesStore_congr {s t : State} (hs : t.start.stoppedAt = s.start.stoppedAt) (ho : t.mram.oem = s.mram.oem) (k : Key) :
    writesStore t k = writesStore s k := by
  have hdecl : ∀ idx sub, declOf t idx sub = declOf s idx sub := fun idx sub => by
    simp only [declOf, inRecovery, highestOf, hs, ho]
    rfl
  simp only [writesStore, isRwp, hdecl]

theorem UsesShell.writesStore {s t : State} (h : UsesShell s t) (k : Key) : writesStore t k = writesStore s k :=
  writesStore_congr (congrArg (fun y => y.2.1) h.1) (congrArg (fun y => y.2.2.1) h.1) k

theorem UsesShell.power {s t : State} (h : UsesShell s t) : t.power = s.power := congrArg Prod.fst h.1

/-! ### A whole content -/

section serveEnd
variable {s : State} {sid : Nat} {h : Byte} {x : Transfer} (tid : Half) (inner : Option (Byte × Half))

/-- BLOCK_END of a write transfer whose bytes are all there (R95). -/
theorem serveEnd_whole (hx : transferOf s sid h = some x) (hw : x.write = true) (hl : x.content.length = x.size) (hc : crc32 x.content = x.crc) :
    serveEnd s sid tid h inner =
      if x.key = kImage then endImage s x sid tid inner else if x.key = kPackage then endPackage s x else endContent s x sid tid inner := by
  simp [serveEnd, hx, hw, hl, hc]

theorem serveEnd_read (hx : transferOf s sid h = some x) (hw : x.write = false) : serveEnd s sid tid h inner = (some (0, []), closedTransfer s x) := by
  simp [serveEnd, hx, hw]

variable (sid)

/-- A content in force at once, where no change waits and nothing reads the inputs it changes (R94, R177). -/
theorem acceptContent_at_once {k : Key} (hw : s.server.waiting = []) (hin : isInputDomain k = false ∨ noReaders s = true) (b : Bytes) :
    acceptContent s sid tid k b inner = (some (0, []), applyContent (storeContent s k b) k (domain s k)) := by
  have hwait : (storeContent s k b).server.waiting = [] := (transact_waiting _ _).trans hw
  have hreaders : noReaders (storeContent s k b) = noReaders s := noReaders_congr fun j hj =>
    (keeps_transact (P := (· = kEngine j 2)) (show @Ne Nat kTxnCount (kEngine j 2) by unfold kEngine kTxnCount; omega) (putDomain s k b) _).nat_eq rfl
  rw [acceptContent, hwait, hreaders]
  obtain hin | hin := hin <;> simp [hin]

/-- A content that passes its rules, with a store and a supply for it, is taken. -/
theorem endContent_passed (hok : (checkContent s x.key x.content).1 = true) (hdeg : storeDegraded (checkContent s x.key x.content).2 = false)
    (hp : s.power.warning = true → writesStore s x.key = false) :
    endContent s x sid tid inner = acceptContent (closedTransfer (checkContent s x.key x.content).2 x) sid tid x.key x.content inner := by
  have huse := usesShell_checkContent hok
  have hp : ¬((checkContent s x.key x.content).2.power.warning = true ∧ writesStore (checkContent s x.key x.content).2 x.key = true) := by
    rintro ⟨h1, h2⟩
    rw [huse.power] at h1
    rw [huse.writesStore, hp h1] at h2
    cases h2
  unfold endContent
  simp only [hok, hdeg, hp, Bool.not_true, Bool.false_eq_true, if_false]

theorem endImage_passed (hok : (imageOk s sid x.content).1 = true)
    (hdeg : storeDegraded (imageOk s sid x.content).2 = false ∨ (imageFull x.content = true ∧ imageLive x.content = false))
    (hp : (imageOk s sid x.content).2.power.warning = false) :
    endImage s x sid tid inner = acceptImage (closedTransfer (imageOk s sid x.content).2 x) sid tid x.content inner := by
  have hdeg : ¬(storeDegraded (imageOk s sid x.content).2 = true ∧ (!(imageFull x.content ∧ !imageLive x.content)) = true) := by
    obtain h | ⟨h1, h2⟩ := hdeg
    · simp [h]
    · simp [h1, h2]
  unfold endImage
  simp only [hok, hp, Bool.not_true, Bool.false_eq_true, if_false]
  exact if_neg hdeg

theorem acceptImage_at_once {b : Bytes} (hw : (takeImage s b).2.server.waiting = []) (hin : ∀ i ∈ (takeImage s b).1, isInput i.1 = false) :
    acceptImage s sid tid b inner = (some (0, []), applyItems (takeImage s b).2 (takeImage s b).1) := by
  have hany : ((takeImage s b).1.any fun i => isInput i.1) = false := by simpa using hin
  unfold acceptImage
  simp only [hw, hany, bne_self_eq_false, Bool.false_and, Bool.or_false, Bool.false_eq_true, if_false]

end serveEnd

/-! ### A package -/

/-- The state with a package staged in the quire (R450). -/
def stagedState (s : State) (p : Bytes) : State := setNum (setQuire (putFolios s { s.mram.folios with quire := p }) 2) (kUpdate 8) (pkgVersion p)

theorem stagePackage_staged {s : State} {p : Bytes} (h : (stagePackage s p).1 = true) : (stagePackage s p).2 = stagedState (packageCheck s p).2 p := by
  unfold stagePackage at h ⊢
  dsimp only at h ⊢
  generalize (if (packageCheck s p).1 = 0 then _ else _) = c at h ⊢
  by_cases hc : c = 0
  · rw [if_pos hc]
    rfl
  · rw [if_neg hc] at h
    cases h

theorem stagedState_spec (s : State) (p : Bytes) : nat (stagedState s p) (kUpdate 7) = 2 ∧ (stagedState s p).mram.folios.quire = p ∧
    num (stagedState s p) (kUpdate 8) = pkgVersion p := by
  have hne : @Ne Nat (kUpdate 7) (kUpdate 8) := by decide
  refine ⟨?_, ?_, ?_⟩
  · rw [stagedState, nat, num_setNum, if_neg hne, setQuire, num_setNum, if_pos rfl]
    rfl
  · rw [stagedState, setNum_mram, setQuire, setNum_mram]
    rfl
  · rw [stagedState, num_setNum, if_pos rfl]

theorem stagedState_clk (s : State) (p : Bytes) : (stagedState s p).clk = s.clk := by
  rw [stagedState, setNum_clk, setQuire, setNum_clk]
  rfl

theorem stagedState_sessions (s : State) (p : Bytes) : (stagedState s p).server.sessions = s.server.sessions := by
  rw [stagedState, setNum_sessions, setQuire_sessions]
  rfl

section request
variable {s : State} {q : Req} {h : Byte} {x : Transfer}

/-- BLOCK_END concludes what `serveEnd` answers. -/
theorem serve_blockEnd {y : Option (Byte × Bytes)} {u : State} (ht : Taken s q (.blockEnd h)) (he : serveEnd (begun s q) q.sid q.tid h none = (y, u)) :
    serve s q (.blockEnd h) = conclude u q.sid q.tid (.blockEnd h) y := by
  rw [serve_of_taken ht (by simp [opCode])]
  have hp : perform (begun s q) q.sid q.tid (.blockEnd h) none = (y, u) := by simpa [perform, bodyOk] using he
  rw [hp]

theorem serveEnd_of_whole (hx : Whole s q h x) : serveEnd (begun s q) q.sid q.tid h none =
    if x.key = kImage then endImage (begun s q) x q.sid q.tid none else if x.key = kPackage then endPackage (begun s q) x
    else endContent (begun s q) x q.sid q.tid none := by
  obtain ⟨-, hfind, hw, hl, hc, -⟩ := hx
  exact serveEnd_whole q.tid none hfind hw hl hc

theorem read_ends (ht : Taken s q (.blockEnd h)) (hx : transferOf (begun s q) q.sid h = some x) (hw : x.write = false) :
    serve s q (.blockEnd h) = conclude (closedTransfer (begun s q) x) q.sid q.tid (.blockEnd h) (some (0, [])) :=
  serve_blockEnd ht (serveEnd_read q.tid none hx hw)

/-- A whole content that passes its rules is durable and in force, where no change waits and nothing reads the inputs it changes. -/
theorem content_ends (hx : Whole s q h x) (hi : x.key ≠ kImage) (hp : x.key ≠ kPackage) (hok : (checkContent (begun s q) x.key x.content).1 = true) :
    let u := closedTransfer (checkContent (begun s q) x.key x.content).2 x
    storeDegraded u = false → u.server.waiting = [] → (isInputDomain x.key = false ∨ noReaders u = true) →
      serve s q (.blockEnd h) = conclude (applyContent (storeContent u x.key x.content) x.key (domain u x.key)) q.sid q.tid (.blockEnd h) (some (0, [])) := by
  intro u hdeg hw hin
  refine serve_blockEnd hx.1 ?_
  have hend := serveEnd_of_whole hx
  obtain ⟨-, -, -, -, -, hpower⟩ := hx
  rw [hend, if_neg hi, if_neg hp, endContent_passed q.sid q.tid none hok hdeg hpower]
  exact acceptContent_at_once q.sid q.tid none hw hin x.content

theorem image_ends (hx : Whole s q h x) (hi : x.key = kImage) (hok : (imageOk (begun s q) q.sid x.content).1 = true) :
    let u := closedTransfer (imageOk (begun s q) q.sid x.content).2 x
    let r := takeImage u x.content
    storeDegraded u = false ∨ (imageFull x.content = true ∧ imageLive x.content = false) → u.power.warning = false → r.2.server.waiting = [] →
      (∀ i ∈ r.1, isInput i.1 = false) → serve s q (.blockEnd h) = conclude (applyItems r.2 r.1) q.sid q.tid (.blockEnd h) (some (0, [])) := by
  intro u r hdeg hpower hw hin
  refine serve_blockEnd hx.1 ?_
  rw [serveEnd_of_whole hx, if_pos hi, endImage_passed q.sid q.tid none hok hdeg hpower]
  exact acceptImage_at_once q.sid q.tid none hw hin

/-- A package that passes its checks is staged (R450). -/
theorem package_ends (hx : Whole s q h x) (hp : x.key = kPackage) (hok : (stagePackage (closedTransfer (begun s q) x) x.content).1 = true) :
    let t := serve s q (.blockEnd h)
    nat t (kUpdate 7) = 2 ∧ t.mram.folios.quire = x.content ∧ num t (kUpdate 8) = pkgVersion x.content ∧ Answered s t q 0x12 0 [] := by
  have ht : Taken s q (.blockEnd h) := hx.1
  have hpower : s.power.warning = false := by
    obtain ⟨-, -, -, -, -, hpower⟩ := hx
    by_contra hwarn
    have hstore := hpower (by simpa using hwarn)
    simp [writesStore, hp] at hstore
  have huse : UsesShell (begun s q) (packageCheck (closedTransfer (begun s q) x) x.content).2 := usesShell_packageCheck _ _
  obtain ⟨h7, hquire, h8⟩ := stagedState_spec (packageCheck (closedTransfer (begun s q) x) x.content).2 x.content
  have hserve : serve s q (.blockEnd h) = answer (stagedState (packageCheck (closedTransfer (begun s q) x) x.content).2 x.content) q.sid q.tid 0x12 0 [] := by
    have hne : x.key ≠ kImage := by rw [hp]; decide
    have hend : serveEnd (begun s q) q.sid q.tid h none = (some (0, []), stagedState (packageCheck (closedTransfer (begun s q) x) x.content).2 x.content) := by
      have hpower : (begun s q).power.warning = false := hpower
      rw [serveEnd_of_whole hx, if_neg hne, if_pos hp, ← stagePackage_staged hok]
      unfold endPackage
      simp only [hok, hpower, Bool.not_true, Bool.false_eq_true, if_false]
    rw [serve_blockEnd ht hend]
    exact conclude_of_open ht.1.1 ((sessionOpen_congr (stagedState_sessions _ _) q.sid).trans (huse.2 _ (sessionOpen_begun s q))) (by simp) q.tid _
  have honly := onlyServer_answer (stagedState (packageCheck (closedTransfer (begun s q) x) x.content).2 x.content) q.sid q.tid 0x12 0 []
  have hclk := (stagedState_clk (packageCheck (closedTransfer (begun s q) x) x.content).2 x.content).trans huse.clk
  rw [hserve]
  generalize stagedState (packageCheck (closedTransfer (begun s q) x) x.content).2 x.content = u at *
  obtain ⟨hstate, hregs⟩ := honly
  refine ⟨?_, ?_, ?_, answered_answer hclk ..⟩
  · rw [nat, num, hregs _ (by decide), ← num, ← nat, h7]
  · rw [← hquire]
    exact congrArg (fun t => t.mram.folios.quire) hstate
  · rw [num, hregs _ (by decide), ← num, h8]

end request

/-- Settles O20: every row is the BLOCK_END of its transfer, and each kind of content has its own lemma. -/
theorem transferEnds : Obligations.TransferEnds := by
  intro s q h k c hc
  have hgoes : Goes c s (serve s q (.blockEnd h)) := by
    simp only [List.mem_cons, List.not_mem_nil, or_false] at hc
    obtain rfl | rfl | rfl | rfl | rfl | rfl | rfl | rfl := hc <;> rfl
  refine ⟨fun x ht hx hw => read_ends ht hx hw ▸ hgoes, fun x hx hi hp hin _ hok hdeg hw => content_ends hx hi hp hok hdeg hw (.inl hin) ▸ hgoes,
    fun x hx hkey hreaders hw hok hdeg => ?_, fun x hx hi hok hdeg hpower hw hin => image_ends hx hi hok hdeg hpower hw hin ▸ hgoes,
    fun x hx hp hok => ⟨_, hgoes, package_ends hx hp hok⟩⟩
  have hstate : (checkContent (begun s q) x.key x.content).2 = begun s q := by obtain h | h | h := hkey <;> rw [h] <;> rfl
  have hne : x.key ≠ kImage ∧ x.key ≠ kPackage := by obtain h | h | h := hkey <;> rw [h] <;> decide
  have hend := content_ends hx hne.1 hne.2 hok
  rw [hstate] at hend
  rw [hend hdeg hw (.inr hreaders)] at hgoes
  exact hgoes

/-! ## Authentication and handshakes (O26) -/

/-! ### Free values and the use of a shell -/

theorem drbg_state (s : State) (n : Nat) : (drbg s n).2 = { s with fresh := s.fresh + n } := by
  induction n generalizing s with
  | zero => rfl
  | succ n ih =>
    have hstep : (drbg s (n + 1)).2 = (drbg { s with fresh := s.fresh + 1 } n).2 := rfl
    rw [hstep, ih]
    simp only [Nat.add_comm n 1, Nat.add_assoc]

theorem drbg_length (s : State) (n : Nat) : (drbg s n).1.length = n := by
  induction n generalizing s with
  | zero => rfl
  | succ n ih => exact congrArg (· + 1) (ih _)

/-- A shell with more than one use left, used once more. -/
def usedOnce (s : State) (n : Nat) : State :=
  keyChange s (putShell s.mram.keys n { shell s n with uses := ((shell s n).uses + 1) % 2 ^ 32, usesLeft := (shell s n).usesLeft - 1 })

/-- A use that is not the last one destroys no shell (R441). -/
theorem useShell_of_more {s : State} {n : Nat} (h : (shell s n).usesLeft ≠ 1) : useShell s n = usedOnce s n := if_neg h

theorem usedOnce_server (s : State) (n : Nat) : (usedOnce s n).server = s.server := keyChange_server _ _

theorem generation_usedOnce (s : State) (n : Nat) : (shell (usedOnce s n) n).generation = (shell s n).generation := by
  rw [usedOnce, shell_keyChange, putShell, tabFind_tabPut_same]
  rfl

/-! ### AUTH_BEGIN and AUTH_PROVE (R110) -/

/-- The state in which a session has been given a fresh nonce for a shell. -/
def nonceGiven (s : State) (sid n : Nat) : State :=
  putSession { s with fresh := s.fresh + 16 } sid { session s sid with nonce := some ((drbg s 16).1, n, s.clk) }

theorem serveAuthBegin_allowed {s : State} {sid n : Nat} (hl : ((tabFind s.server.lockouts (transportNo (transportOf sid))).getD {}).locked = false)
    (hu : (mayUse s n 0 [5, 6, 7]).1 = true) : serveAuthBegin s sid n = (some (0, (drbg s 16).1), nonceGiven s sid n) := by
  unfold serveAuthBegin
  simp only [hl, hu, mayUse_state hu, drbg_state, Bool.not_true, Bool.false_eq_true, if_false]
  rfl

/-- The session's record under the role of a shell. -/
def authenticated (s : State) (sid n : Nat) : State :=
  putSession s sid { session s sid with role := shellGrant s n, shell := some (n, (shell s n).generation) }

/-- The nonce standing is taken by the proof, whatever its tag. -/
def nonceTaken (s : State) (sid : Nat) : State := putSession s sid { session s sid with nonce := none }

theorem serveAuthProve_right {s : State} {sid n at_ : Nat} {tid : Half} {tag nonce : Bytes} (hn : (session s sid).nonce = some (nonce, n, at_))
    (ht : s.clk < at_ + secs 10) (hu : (mayUse (nonceTaken s sid) n 0 [5, 6, 7]).1 = true)
    (htag : tag = (hmac (shell (nonceTaken s sid) n).key (nonce ++ leBytes 8 (serial (nonceTaken s sid)) ++ leBytes 2 tid.toNat)).take 16) :
    ∃ body, serveAuthProve s sid tid tag = (some (0, body), useShell (authenticated (nonceTaken s sid) sid n) n) := by
  have hstate := mayUse_state hu
  have hlate : ¬at_ + secs 10 ≤ s.clk := Nat.not_le.2 ht
  unfold nonceTaken at hu hstate htag ⊢
  unfold serveAuthProve
  simp only [hn, hlate, hu, hstate, ← htag, Bool.not_true, Bool.false_eq_true, if_false, ne_eq, not_true_eq_false]
  exact ⟨_, rfl⟩

theorem serveAuthProve_none {s : State} {sid : Nat} (hn : (session s sid).nonce = none) (tid : Half) (tag : Bytes) :
    serveAuthProve s sid tid tag = (some (eAuth, []), authFailed s sid) := by
  simp [serveAuthProve, hn, refuse]

theorem authFailed_sessions (s : State) (sid : Nat) : (authFailed s sid).server.sessions = s.server.sessions := bump_sessions _ _

theorem num_authFailed (s : State) (sid : Nat) : num (authFailed s sid) 0x210005 = (num s 0x210005 + 1) % 2 ^ 32 :=
  (num_bump _ _ _).trans (if_pos rfl)

section request
variable {s : State} {q : Req}

/-- AUTH_BEGIN for a shell that may be used gives the session a fresh nonce. -/
theorem authBegin_served {n : Byte} (ht : Taken s q (.authBegin n))
    (hl : ((tabFind s.server.lockouts (transportNo (transportOf q.sid))).getD {}).locked = false)
    (hu : (mayUse (begun s q) n.toNat 0 [5, 6, 7]).1 = true) :
    let t := serve s q (.authBegin n)
    (session t q.sid).nonce = some ((drbg (begun s q) 16).1, n.toNat, s.clk) ∧ t.fresh = s.fresh + 16 ∧
      Answered s t q 0x50 0 (drbg (begun s q) 16).1 := by
  have hp := serveAuthBegin_allowed (s := begun s q) hl hu
  have hopen : sessionOpen { begun s q with fresh := (begun s q).fresh + 16 } q.sid = true := sessionOpen_begun s q
  rw [serve_answers ht (by simp [opCode]) (by simp) hp (sessionOpen_putSession hopen _ _)]
  refine ⟨?_, ?_, answered_answer rfl ..⟩
  · obtain ⟨l, hsession⟩ := session_answer (nonceGiven (begun s q) q.sid n.toNat) q.sid q.tid 0x50 0 (drbg (begun s q) 16).1
    have hnonce : (session (nonceGiven (begun s q) q.sid n.toNat) q.sid).nonce = some ((drbg (begun s q) 16).1, n.toNat, s.clk) := by
      rw [nonceGiven, session_putSession, if_pos rfl]
      rfl
    exact (congrArg Session.nonce hsession).trans hnonce
  · exact congrArg State.fresh (onlyServer_answer (nonceGiven (begun s q) q.sid n.toNat) q.sid q.tid 0x50 0 (drbg (begun s q) 16).1).1

/-- AUTH_PROVE with the right tag gives the session the shell's role, and its nonce is taken. -/
theorem authProve_served {tag nonce : Bytes} {n at_ : Nat} (ht : Taken s q (.authProve tag)) (hn : (session s q.sid).nonce = some (nonce, n, at_))
    (htime : s.clk < at_ + secs 10) (hlen : tag.length = 16) (hu : (mayUse (nonceTaken (begun s q) q.sid) n 0 [5, 6, 7]).1 = true)
    (hmore : (shell (nonceTaken (begun s q) q.sid) n).usesLeft ≠ 1)
    (htag : tag = (hmac (shell (nonceTaken (begun s q) q.sid) n).key
      (nonce ++ leBytes 8 (serial (nonceTaken (begun s q) q.sid)) ++ leBytes 2 q.tid.toNat)).take 16) :
    let t := serve s q (.authProve tag)
    (session t q.sid).role = shellGrant (nonceTaken (begun s q) q.sid) n ∧ (session t q.sid).nonce = none ∧
      (session t q.sid).shell = some (n, (shell (nonceTaken (begun s q) q.sid) n).generation) := by
  have hn : (session (begun s q) q.sid).nonce = some (nonce, n, at_) := by rw [session_begun, ← hn]
  obtain ⟨body, hprove⟩ := serveAuthProve_right hn htime hu htag
  rw [useShell_of_more (s := authenticated (nonceTaken (begun s q) q.sid) q.sid n) hmore] at hprove
  have hserver := usedOnce_server (authenticated (nonceTaken (begun s q) q.sid) q.sid n) n
  have hopen : sessionOpen (authenticated (nonceTaken (begun s q) q.sid) q.sid n) q.sid = true :=
    sessionOpen_putSession (sessionOpen_putSession (sessionOpen_begun s q) _ _) _ _
  have hp : perform (begun s q) q.sid q.tid (.authProve tag) none = serveAuthProve (begun s q) q.sid q.tid tag := by simp [perform, bodyOk, hlen]
  rw [serve_answers ht (by simp [opCode]) (by simp) (hp.trans hprove) ((sessionOpen_congr (congrArg Server.sessions hserver) _).trans hopen)]
  obtain ⟨l, hsession⟩ := session_answer (usedOnce (authenticated (nonceTaken (begun s q) q.sid) q.sid n) n) q.sid q.tid 0x51 0 body
  rw [session_congr (congrArg Server.sessions hserver), authenticated, session_putSession, if_pos rfl] at hsession
  have hnonce : (session (nonceTaken (begun s q) q.sid) q.sid).nonce = none := by rw [nonceTaken, session_putSession, if_pos rfl]
  exact ⟨congrArg Session.role hsession, (congrArg Session.nonce hsession).trans hnonce, congrArg Session.shell hsession⟩

/-- AUTH_PROVE with no nonce standing is a counted failure. -/
theorem authProve_failed {tag : Bytes} (ht : Taken s q (.authProve tag)) (hlen : tag.length = 16) (hn : (session s q.sid).nonce = none) :
    let t := serve s q (.authProve tag)
    num t 0x210005 = (num s 0x210005 + 1) % 2 ^ 32 ∧ (session t q.sid).role = (session s q.sid).role := by
  have hn : (session (begun s q) q.sid).nonce = none := by rw [session_begun, ← hn]
  have hp : perform (begun s q) q.sid q.tid (.authProve tag) none = serveAuthProve (begun s q) q.sid q.tid tag := by simp [perform, bodyOk, hlen]
  have hsess := authFailed_sessions (begun s q) q.sid
  rw [serve_answers ht (by simp [opCode]) (by simp) (hp.trans (serveAuthProve_none hn q.tid tag))
    ((sessionOpen_congr hsess q.sid).trans (sessionOpen_begun s q))]
  constructor
  · rw [num, (onlyServer_answer ..).2 _ (by decide), ← num, num_authFailed]
    rfl
  · obtain ⟨l, hsession⟩ := session_answer (authFailed (begun s q) q.sid) q.sid q.tid 0x51 eAuth []
    have hrole : (session (authFailed (begun s q) q.sid) q.sid).role = (session s q.sid).role := by rw [session_congr hsess, session_begun]
    exact (congrArg Session.role hsession).trans hrole

end request

theorem authentication : Authentication := by
  refine ⟨fun s q n ht _ hl hu => ⟨_, _, drbg_length _ 16, rfl, authBegin_served ht hl hu⟩,
    fun s q tag nonce n at_ ht _ hn htime hlen hu hmore htag => ⟨_, rfl, ?_⟩, fun s q tag ht hlen hn => ⟨_, rfl, authProve_failed ht hlen hn⟩,
    fun s tr l hl => ⟨{ s with server := { s.server with lockouts := tabPut s.server.lockouts (transportNo tr) { l with locked := false } } }, ?_,
      tabFind_tabPut_same _ _ _, rfl⟩⟩
  · have hstate := mayUse_state hu
    rw [hstate] at hmore htag ⊢
    exact authProve_served ht hn htime hlen hu hmore htag
  · show execAuthLockoutEnd tr s = _
    rw [execAuthLockoutEnd, hl]

/-! ### Handshakes (R116, R117) -/

theorem handshake_goes {s : State} {hs : Handshake} (ho : ethOpen s = true) (he : transportOf hs.sid = .ethernet) :
    Goes (.dtlsHandshake (.handshake hs)) s (takeHandshake s hs) := by
  show execDtlsHandshake (.handshake hs) s = _
  simp [execDtlsHandshake, ho, he]

theorem record_failed {s : State} {sid : Nat} (ho : ethOpen s = true) (he : transportOf sid = .ethernet) :
    Goes (.dtlsHandshake (.record sid none)) s (bump s kFrameErrors) := by
  show execDtlsHandshake (.record sid none) s = _
  simp [execDtlsHandshake, ho, he]

theorem record_taken {s : State} {sid : Nat} (ho : ethOpen s = true) (he : transportOf sid = .ethernet)
    (hsome : (tabFind s.server.sessions sid).isSome = true) (m : Bytes) :
    Goes (.dtlsHandshake (.record sid (some m))) s (takeMessage (putSession s sid { session s sid with usedAt := s.clk }) sid m) := by
  show execDtlsHandshake (.record sid (some m)) s = _
  have hnone : (tabFind s.server.sessions sid).isNone = false := by rw [← Option.not_isSome, hsome]; rfl
  simp only [execDtlsHandshake, ho, he, hnone, Bool.not_true, Bool.false_eq_true, ne_eq, not_true_eq_false, or_self, if_false]

theorem refuseHandshake_spec (s : State) (sid alert : Nat) : (refuseHandshake s sid alert).out = .alert sid alert :: s.out ∧
    num (refuseHandshake s sid alert) 0x210005 = (num s 0x210005 + 1) % 2 ^ 32 ∧ (refuseHandshake s sid alert).server.sessions = s.server.sessions :=
  ⟨setVal_out .., (num_bump _ _ _).trans (if_pos rfl), bump_sessions _ _⟩

/-- A handshake that proves the PSK of a shell that may be used opens its session, in the state after one use of the shell. -/
theorem takeHandshake_proved {s : State} {hs : Handshake} {n : Byte} (ho : hs.offers = true)
    (hroom : (s.server.sessions.filter fun x => transportOf x.1 == .ethernet && x.1 != hs.sid && !x.2.closed).length < 16)
    (hid : hs.identity = n :: leBytes 8 (serial s)) (hu : (mayUse s n.toNat 0 [5, 6, 7]).1 = true) (hmore : (shell s n.toNat).usesLeft ≠ 1)
    (hproof : hs.proof = kdf (shell s n.toNat).key (ascii "MDP-DTLS") (shell s n.toNat).context 256) :
    takeHandshake s hs = putSession (endSession (usedOnce s n.toNat) hs.sid) hs.sid
      { role := shellGrant s n.toNat, shell := some (n.toNat, (shell s n.toNat).generation), usedAt := s.clk } := by
  have hn : byteAt hs.identity 0 = n.toNat := by rw [hid]; rfl
  have hnamed : (hs.identity.drop 1 == leBytes 8 (serial s)) = true := by rw [hid]; simp
  unfold takeHandshake
  simp only [ho, hn, hnamed, hu, mayUse_state hu, deriveKey, ← hproof, useShell_of_more hmore, generation_usedOnce, Bool.not_true, Bool.false_eq_true,
    if_false, if_true, ne_eq, not_true_eq_false]
  exact if_neg (Nat.not_le.2 hroom)

theorem handshakes : Handshakes := by
  refine ⟨fun s hs ho he hoffers => ⟨_, handshake_goes ho he, ?_⟩, fun s sid m ho he => ⟨record_failed ho he, fun hsome => record_taken ho he hsome m⟩,
    fun s hs n ho he hoffers hroom hid hu => ?_⟩
  · obtain ⟨hout, hcount, hsess⟩ := refuseHandshake_spec s hs.sid 40
    have htake : takeHandshake s hs = refuseHandshake s hs.sid 40 := by simp [takeHandshake, hoffers]
    rw [htake]
    exact ⟨hout, hcount, by rw [hsess]⟩
  · rw [mayUse_state hu]
    intro u hmore hproof
    refine ⟨_, handshake_goes ho he, ?_⟩
    rw [takeHandshake_proved hoffers hroom hid hu hmore hproof, session_putSession, if_pos rfl]

/-- Settles O26: a shell that may be used is found unchanged (`mayUse_state`), and a use that is not its last leaves the session's record. -/
theorem authenticationAndHandshakes : Obligations.AuthenticationAndHandshakes := ⟨authentication, handshakes⟩

end Sys2Proof.Machine
end
